-- ==== Sys2Proof/Word.lean ====
section
/-!
DEFINITION. The word types of the VLN4120 (00_scope.md, section 7): bytes, 7-bit link addresses, 16-bit numbers and
values of the 32-bit millisecond timebase.
-/

namespace Sys2Proof

/-- One byte on the link, in a table image or in the settings memory. -/
abbrev Byte := BitVec 8

/-- A 7-bit link address (00_scope.md, section 7, "Link addresses"). -/
abbrev Addr := BitVec 7

/-- A 16-bit number that wraps: sequence numbers and generations. -/
abbrev Half := BitVec 16

/-- A value of the 32-bit millisecond timebase (00_scope.md, section 7, "Time"). -/
abbrev Time := BitVec 32

/-- The age of a timestamp: the current time minus the timestamp, modulo 2^32 (00_scope.md, section 7). -/
def age (now t : Time) : Nat := (now - t).toNat

end Sys2Proof
end

