-- ==== Sys2Proof/Syntax.lean ====
section
/-!
DEFINITION. The commands of the VLN4120: one constructor for each row of spec/opcode_table.json, with the operands the
row's rule names (log entry 5 lists them). The operands that stand for what a device, a line or the settings memory does
are inputs from the sender.
-/

namespace Sys2Proof

/-- A battery bay (Table 5-1). -/
inductive Bay | a | b
deriving DecidableEq, Repr

/-- A downstream segment and its port (Table 4-1 of 00_scope.md). -/
inductive Seg | sp1 | sp2 | sp3 | sp4
deriving DecidableEq, Repr

/-- A power source (Table 4-2). -/
inductive Src | dc | a | b | br
deriving DecidableEq, Repr

/-- The two lines of a bay (Table 5-1). -/
inductive BayLine | latch | presence
deriving DecidableEq, Repr

/-- What the device on a segment does in a transaction the port has started (R35): it does not acknowledge one of the
bytes the port drives, counted from 0 in the order of Table 2-3, or all bytes are exchanged. For a read the device then
drives `data` (the port takes as many as its read length) and, on a checked entry, `trailer`. -/
inductive DeviceAnswer
  | notAcknowledged (byte : Nat)
  | exchanged (data : List Byte) (trailer : Byte)
deriving DecidableEq, Repr

/-- The commands, in the order of spec/opcode_table.json. -/
inductive Instr
  /-- POWER_ON_RESET (R193). -/
  | powerOnReset
  /-- SETTINGS_LOAD_END (R191); `answered` says whether the settings memory answered to the end of the read. -/
  | settingsLoadEnd (answered : Bool)
  /-- FIRST_ADDRESS_BYTE (R2); `read` is the read/write bit. -/
  | firstAddressByte (addr : Addr) (read : Bool)
  /-- COMMAND_BYTE (R15). -/
  | commandByte (byte : Byte)
  /-- WRITE_DATA_BYTE (R4). -/
  | writeDataByte (byte : Byte)
  /-- HELD_BYTE_RELEASE (R4). -/
  | heldByteRelease
  /-- DATA_HOLD_STRETCH_LIMIT (R4). -/
  | dataHoldStretchLimit
  /-- STOP_CONDITION (R3). -/
  | stopCondition
  /-- REPEATED_START (R5). -/
  | repeatedStart (addr : Addr) (read : Bool)
  /-- HELD_READ_LANE_HANDIN (R5). -/
  | heldReadLaneHandin
  /-- HELD_READ_STRETCH_LIMIT (R5). -/
  | heldReadStretchLimit
  /-- READOUT_BYTE (R6). -/
  | readoutByte
  /-- HOST_STALL_LIMIT (R7). -/
  | hostStallLimit
  /-- RESPONSE_READ (R175): the whole READ form with command 0xF0. -/
  | responseRead
  /-- WAITING_RESPONSE_READ (R175): the whole READ form with command 0xF1. -/
  | waitingResponseRead
  /-- WAITING_READ_LIMIT (R175). -/
  | waitingReadLimit
  /-- UNKNOWN_REQUEST (R174): the whole service write of a code that names no request. -/
  | unknownRequest (code tag : Byte) (payload : List Byte)
  /-- IDENTIFY (R183). Each request command is the whole service write: its tag and payload bytes (R173). -/
  | identify (tag : Byte) (payload : List Byte)
  /-- STAGE_WRITE (R178). -/
  | stageWrite (tag : Byte) (payload : List Byte)
  /-- STAGE_READ (R178). -/
  | stageRead (tag : Byte) (payload : List Byte)
  /-- TABLE_READ (R178). -/
  | tableRead (tag : Byte) (payload : List Byte)
  /-- DISCARD (R178). -/
  | discard (tag : Byte) (payload : List Byte)
  /-- COMMIT (R179). -/
  | commit (tag : Byte) (payload : List Byte)
  /-- COMMIT_VALIDATION_END (R180). -/
  | commitValidationEnd
  /-- COMMIT_SWITCH (R181). -/
  | commitSwitch
  /-- COMMIT_LIMIT_EXPIRY (R182). -/
  | commitLimitExpiry
  /-- SAVE_SETTINGS (R194). -/
  | saveSettings (tag : Byte) (payload : List Byte)
  /-- SAVE_PAGE_DONE (R194): whether the memory acknowledged, and what the page holds when it is read back. -/
  | savePageDone (acknowledged : Bool) (held : List Byte)
  /-- SETTINGS_READ (R195); `answered` says whether the settings memory answers. -/
  | settingsRead (tag : Byte) (payload : List Byte) (answered : Bool)
  /-- SETTINGS_WRITE (R195). -/
  | settingsWrite (tag : Byte) (payload : List Byte)
  /-- RAW_WRITE_PAGE_DONE (R195). -/
  | rawWritePageDone
  /-- FETCH_NOTICES (R189). -/
  | fetchNotices (tag : Byte) (payload : List Byte)
  /-- SET_ALERT_LEVEL (R190). -/
  | setAlertLevel (tag : Byte) (payload : List Byte)
  /-- READ_TELEMETRY (R66). -/
  | readTelemetry (tag : Byte) (payload : List Byte)
  /-- READ_BAY (R92). -/
  | readBay (tag : Byte) (payload : List Byte)
  /-- READ_POWER (R91). -/
  | readPower (tag : Byte) (payload : List Byte)
  /-- READ_BRIGHTNESS (R147). -/
  | readBrightness (tag : Byte) (payload : List Byte)
  /-- SET_BRIGHTNESS (R131). -/
  | setBrightness (tag : Byte) (payload : List Byte)
  /-- REQUEST_SWAP (R113). -/
  | requestSwap (tag : Byte) (payload : List Byte)
  /-- RETRY_BAY (R114). -/
  | retryBay (tag : Byte) (payload : List Byte)
  /-- READ_DROP (R170). -/
  | readDrop (tag : Byte) (payload : List Byte)
  /-- CLEAR_DROP (R170). -/
  | clearDrop (tag : Byte) (payload : List Byte)
  /-- READ_MOTION (R171). -/
  | readMotion (tag : Byte) (payload : List Byte)
  /-- READ_POLL_STATUS (R47). -/
  | readPollStatus (tag : Byte) (payload : List Byte)
  /-- READ_LINK_STATUS (R24). -/
  | readLinkStatus (tag : Byte) (payload : List Byte)
  /-- CLEAR_INDICATORS (R183). -/
  | clearIndicators (tag : Byte) (payload : List Byte)
  /-- SOFT_RESET (R184). -/
  | softReset (tag : Byte) (payload : List Byte)
  /-- PORT_TRANSACTION_COMPLETE (R35). -/
  | portTransactionComplete (seg : Seg) (answer : DeviceAnswer)
  /-- TRANSACTION_TIME_LIMIT (R36). -/
  | transactionTimeLimit (seg : Seg)
  /-- RECOVERY_END (R37). -/
  | recoveryEnd (seg : Seg)
  /-- SUSPENSION_EXPIRY (R39). -/
  | suspensionExpiry (seg : Seg)
  /-- PERIODIC_DUE (R50). -/
  | periodicDue (place : Fin 24)
  /-- SETUP_RUN_DUE (R52). -/
  | setupRunDue (place : Fin 24)
  /-- ADMIT_RUN_DUE (R54). -/
  | admitRunDue (place : Fin 24)
  /-- SLOT_STALE (R64). -/
  | slotStale (slot : Fin 32)
  /-- LINE_LEVEL_CHANGE (R93); `active` is closed for a latch line and present for a presence line. -/
  | lineLevelChange (bay : Bay) (line : BayLine) (active : Bool)
  /-- LATCH_CHANGE (R105). -/
  | latchChange (bay : Bay)
  /-- PRESENCE_RISE (R96). -/
  | presenceRise (bay : Bay)
  /-- PRESENCE_FALL (R111). -/
  | presenceFall (bay : Bay)
  /-- SEAT_TIMER_EXPIRY (R97). -/
  | seatTimerExpiry (bay : Bay)
  /-- IDENTIFY_TIMER_EXPIRY (R101). -/
  | identifyTimerExpiry (bay : Bay)
  /-- DCIN_OK_CHANGE (R68). -/
  | dcinOkChange (high : Bool)
  /-- FEEDBACK_CONDUCTING (R79); `conducting` is the level the feedback line of `src` takes. -/
  | feedbackConducting (src : Src) (conducting : Bool)
  /-- CONFIRM_TIMER_EXPIRY (R80). -/
  | confirmTimerExpiry
  /-- STARTUP_LIMIT_EXPIRY (R70). -/
  | startupLimitExpiry
  /-- DWELL_TIMER_EXPIRY (R75). -/
  | dwellTimerExpiry
  /-- BRIDGE_TIMER_EXPIRY (R88). -/
  | bridgeTimerExpiry
  /-- STEP_TIMER_EXPIRY (R133). -/
  | stepTimerExpiry
  /-- ACC_WM_CHANGE (R152). -/
  | accWmChange (asserted : Bool)
  /-- MOTION_RETRY_TIMER (R152). -/
  | motionRetryTimer
  /-- SAMPLE_LOSS_EXPIRY (R154). -/
  | sampleLossExpiry
  /-- FALL_LIMIT_EXPIRY (R157). -/
  | fallLimitExpiry
  /-- SETTLE_LIMIT_EXPIRY (R159). -/
  | settleLimitExpiry
  /-- PARK_HOLD_EXPIRY (R162). -/
  | parkHoldExpiry
  /-- SHOCK_HOLD_EXPIRY (R163). -/
  | shockHoldExpiry
deriving DecidableEq, Repr

end Sys2Proof
end

