-- ==== Sys2Proof/Config.lean ====
section
/-!
DEFINITION. The free values: what the specification leaves open although the part goes on. Each is a constant without a
body, so that no proof can lean on what it is.
-/

namespace Sys2Proof.Config

/-- Which defined code an undefined code of a loaded table image acts as. A loaded image is not checked against the
conditions of validation (R191), so a host's raw write can put a code there that Chapter 12 does not define; the
specification states no result. Log entry 11. -/
opaque undefinedCode : Nat → Nat

/-- The level or ceiling read from a curve whose point count lies outside the range of R124 or R148 (a loaded image is
not checked, R191); the argument is the value looked up. Log entry 11. -/
opaque strayCurve : Nat → Nat

/-- The index byte that names a failing field, or a failing window of ROUTES, in an INVALID_TABLE end: R180 says
"the index of its first failing place, rule, point or field" and numbers no fields and no windows. The arguments are the
table number and the ordinal of the field in Table 12-3. Log entry 12. -/
opaque fieldIndex : Nat → Nat → Nat

/-- The revision byte of IDENTIFY (R183): Table 12-1 gives it one byte and the specification no value. Log entry 38. -/
opaque revision : Byte

end Sys2Proof.Config
end

