-- ==== Sys2Proof/Machine/Builtin.lean ====
section
/-!
DEFINITION. The built-in settings (R192): the eight table images in the layouts of Tables 12-3 and 12-4, with the
defaults of Tables 3-4, 3-5, 4-6, 5-4, 6-5, 6-6, 7-6, 7-8, 8-6, 11-1 and 11-2. Bytes that no field names and bytes
that no block reads are zero (DESIGN CHOICE, log entry 9).
-/

namespace Sys2Proof.Machine.Builtin

/-- The low byte of a number. -/
def b0 (n : Nat) : Byte := BitVec.ofNat 8 n

/-- A 2-byte little-endian field. -/
def le2 (n : Nat) : List Byte := [b0 n, b0 (n / 256)]

/-- A 4-byte little-endian field. -/
def le4 (n : Nat) : List Byte := le2 n ++ le2 (n / 65536)

/-- A signed 2-byte field, two's complement. -/
def sle2 (n : Int) : List Byte := le2 (n % 65536).toNat

/-- A signed 4-byte field, two's complement. -/
def sle4 (n : Int) : List Byte := le4 (n % 4294967296).toNat

/-- Zero bytes. -/
def zeros (n : Nat) : List Byte := List.replicate n 0

/-- A field descriptor (Table 12-4). -/
def descriptor (position length : Nat) (signExtend : Bool) (multiplier offset : Int) (slot : Nat) (low high : Int) :
    List Byte :=
  [b0 position, b0 length, if signExtend then 1 else 0, 0] ++ sle2 multiplier ++ sle4 offset ++ [b0 slot] ++
    sle4 low ++ sle4 high

/-- A descriptor list padded to four places. -/
def descriptors (ds : List (List Byte)) : List Byte := ds.flatten ++ zeros (76 - 19 * ds.length)

/-- A route entry place without guard list and stand-in reply unless `flags` says so. -/
def route (key segment down flags first count : Nat) : List Byte :=
  [b0 key, b0 segment, b0 down, b0 flags, b0 first, b0 count] ++ zeros 6

/-- ROUTES (Table 11-1 and the two windows of R192). -/
def routes : List Byte :=
  route 0x0B 1 0x0B 0x0C 0 0 ++ route 0x0C 2 0x0B 0x14 0 0 ++ route 0x2C 3 0x2C 0x20 1 2 ++
  route 0x29 3 0x29 0 0 0 ++ route 0x49 3 0x49 0 0 0 ++ route 0x19 4 0x19 0x01 0 0 ++ route 0x45 4 0x45 0x02 0 0 ++
  zeros (25 * 12) ++ [0x50, 0x0F, 4, 0] ++ [0, 0, 0, 0]

/-- A guard rule: direction BOTH, mask 0xFF, fill bytes 0. -/
def guardRule (low high action : Nat) : List Byte := [b0 low, b0 high, 2, b0 action, 0xFF] ++ zeros 8

/-- GUARDS (R192): rule 1 CAPTURE_LEVEL and rule 2 SYNTH_LEVEL on command 0x10, every other rule PASS. -/
def guards : List Byte :=
  guardRule 0 0 0 ++ guardRule 0x10 0x10 3 ++ guardRule 0x10 0x10 4 ++
    (List.replicate 61 (guardRule 0 0 0)).flatten

/-- A poll list place. -/
def poll (kind key direction command length cls period phase : Nat) (write : List Byte) (ds : List (List Byte)) :
    List Byte :=
  [b0 kind, b0 key, b0 direction, b0 command, b0 length, b0 cls] ++ le2 period ++ le2 phase ++ [b0 ds.length] ++
    write ++ zeros (8 - write.length) ++ descriptors ds

/-- The four descriptors of a gauge main block whose first slot is `slot` (Table 3-5). -/
def mainBlock (slot : Nat) : List (List Byte) :=
  [descriptor 0 16 false 1 0 slot 0 20000, descriptor 16 16 true (-1) 0 (slot + 1) (-20000) 20000,
   descriptor 32 16 false 1 (-2731) (slot + 3) (-400) 1000, descriptor 48 16 false 1 0 (slot + 4) 0 65535]

/-- The descriptor of a gauge energy read whose first slot is `slot` (Table 3-5). -/
def energy (slot : Nat) : List (List Byte) := [descriptor 0 16 false 10 0 (slot + 2) 0 200000]

/-- One 16-bit unsigned value at bit 0, 0 to 65535. -/
def whole (slot : Nat) : List (List Byte) := [descriptor 0 16 false 1 0 slot 0 65535]

/-- POLLS (Table 3-4 with the commands and write data of Table 11-2). -/
def polls : List Byte :=
  poll 2 0x19 0 0x20 2 0 0 0 [0x47, 0x38] [] ++
  poll 2 0x19 0 0x2E 2 0 0 2 [0x04, 0x01] [] ++
  poll 2 0x29 0 0x01 1 0 0 0 [0x12] [] ++
  poll 2 0x49 0 0x01 1 0 0 0 [0x12] [] ++
  poll 1 0x29 1 0x04 2 1 100 10 [] (whole 10) ++
  poll 1 0x49 1 0x04 2 1 100 60 [] (whole 11) ++
  poll 1 0x45 1 0x02 6 0 50 5 []
    [descriptor 0 16 false 1 0 12 0 30000, descriptor 16 16 false 1 0 13 0 30000,
     descriptor 32 16 false 1 0 14 0 30000] ++
  poll 1 0x2C 1 0x01 2 1 1000 500 [] (whole 15) ++
  poll 1 0x0B 1 0x60 8 1 1000 200 [] (mainBlock 0) ++
  poll 1 0x0B 1 0x61 2 1 5000 300 [] (energy 0) ++
  poll 3 0x0B 1 0x60 8 0 0 20 [] (mainBlock 0) ++
  poll 3 0x0B 1 0x61 2 0 0 40 [] (energy 0) ++
  poll 1 0x0C 1 0x60 8 1 1000 700 [] (mainBlock 5) ++
  poll 1 0x0C 1 0x61 2 1 5000 800 [] (energy 5) ++
  poll 4 0x0C 1 0x60 8 0 0 20 [] (mainBlock 5) ++
  poll 4 0x0C 1 0x61 2 0 0 40 [] (energy 5) ++
  zeros (8 * 95)

/-- A snoop binding place with one descriptor. -/
def snoop (key command slot : Nat) : List Byte :=
  [b0 key, b0 command, 1] ++ descriptors [descriptor 0 16 false 1 0 slot 0 20000]

/-- SNOOPS (section 3.10 and R192). -/
def snoops : List Byte := snoop 0x0B 0x09 0 ++ snoop 0x0C 0x09 5 ++ zeros (14 * 79)

/-- SLOTS: the freshness limits of section 3.10. -/
def slots : List Byte :=
  ([3000, 3000, 15000, 3000, 3000, 3000, 3000, 15000, 3000, 3000, 500, 500, 200, 200, 200, 3000] ++
    List.replicate 16 0).flatMap le2

/-- A list of curve points. -/
def points (ps : List (Nat × Nat)) : List Byte := ps.flatMap fun p => le2 p.1 ++ le2 p.2

/-- LIGHT (Table 7-8, Table 7-6, Table 6-6; driver key 0x2C and level command 0x10 by R192). -/
def light : List Byte :=
  le2 512 ++ le2 512 ++ [128, 0xFF, 0xFF] ++ le2 0 ++ le2 0 ++ le2 64 ++ le2 8 ++ le2 100 ++ le2 5 ++ le2 1500 ++
  le2 60 ++ le2 40 ++ le2 4 ++ le2 150 ++ [0x2C, 0x10] ++
  [6] ++ points [(0, 5), (96, 60), (160, 250), (208, 600), (240, 1100), (272, 1500)] ++ zeros 40 ++
  [5] ++ points [(0, 900), (300, 2000), (700, 3600), (1000, 5000), (1500, 7800)] ++ zeros 12

/-- SUPPLY (Tables 4-6, 5-4 and 6-5). -/
def supply : List Byte :=
  [0, 0] ++ le4 2000 ++ le4 3000 ++ le2 60 ++ le2 1500 ++ le2 9600 ++ le2 600 ++ le2 9000 ++ le2 45 ++ [8] ++
  le2 250 ++ le2 1000 ++ le2 0xF000 ++ le4 20000 ++ le4 6000 ++ le4 1000 ++
  le2 9000 ++ le2 6000 ++ le2 3600 ++ le2 2000 ++ le2 1200

/-- MOTION (Table 8-6; accelerometer key 0x19 and sample command 0x28 by R192). -/
def motion : List Byte :=
  [0x19, 0x28] ++ le2 38 ++ [24] ++ le2 512 ++ [40] ++ le2 96 ++ le2 160 ++ le2 80 ++ le2 2000 ++ le2 2000 ++
  le2 500 ++ le2 400

end Sys2Proof.Machine.Builtin
end

