-- ==== Sys2Proof/Machine/State.lean ====
section
/-!
DEFINITION. The state of the VLN4120 as plain data: the direct lines, the record of every block, the queue of waiting
commands, and the machine right after power-on reset.
-/

namespace Sys2Proof.Machine

/-! ## Families of like things -/

/-- One thing for each battery bay. -/
structure PerBay (α : Type) where
  a : α
  b : α
deriving DecidableEq, Repr

/-- One thing for each segment port. -/
structure PerSeg (α : Type) where
  p1 : α
  p2 : α
  p3 : α
  p4 : α
deriving DecidableEq, Repr

/-- One thing for each power source. -/
structure PerSrc (α : Type) where
  dc : α
  a : α
  b : α
  br : α
deriving DecidableEq, Repr

/-- A running timer: when it started and how many milliseconds it runs. A stopped timer is the absence of one. -/
structure Timer where
  start : Time
  dur : Nat
deriving DecidableEq, Repr

/-! ## Tables -/

/-- The bytes of one table image (Table 12-3). -/
abbrev Image := List Byte

/-- The eight table images, in table-number order (Table 9-2). -/
structure Tables where
  routes : Image
  guards : Image
  polls : Image
  snoops : Image
  slots : Image
  light : Image
  supply : Image
  motion : Image
deriving DecidableEq, Repr

/-- The direction a guard rule covers (Table 1-6). -/
inductive GuardDir | write | read | both
deriving DecidableEq, Repr

/-- The action of a guard rule (Table 1-6). -/
inductive GuardAction | pass | refuse | mask | captureLevel | synthLevel
deriving DecidableEq, Repr

/-- A guard rule (Table 1-6). -/
structure GuardRule where
  low : Byte
  high : Byte
  dir : GuardDir
  action : GuardAction
  mask : Byte
  fill : List Byte
deriving DecidableEq, Repr

/-- What a lookup found (R8): a route entry with its guard rules and stand-in reply, or a pass window (`key` absent). -/
structure RouteSnap where
  key : Option Byte
  seg : Seg
  down : Byte
  engineOnly : Bool
  writeProtect : Bool
  checked : Bool
  gate : Option Bay
  rules : List GuardRule
  standIn : Option (List Byte)
deriving DecidableEq, Repr

/-- A field descriptor (Table 3-2). -/
structure Descriptor where
  position : Nat
  length : Nat
  signExtend : Bool
  shift : Nat
  multiplier : Int
  offset : Int
  slot : Fin 32
  low : Int
  high : Int
deriving DecidableEq, Repr

/-! ## Names of Table 12-2 -/

/-- The outcome of a transaction (Table 1-7). -/
inductive TxOutcome
  | done | nackTarget | nackData | timeout | lost | crcBad | noRoute | gated | refused | captured | synthesized
  | standIn | busy | abandoned | absent
deriving DecidableEq, Repr

/-- The direction of a transaction (R24). -/
inductive Dir | write | read | none
deriving DecidableEq, Repr

/-- The state of a segment port (Table 2-1). -/
inductive PortState | idle | busy | recovering | suspended | isolated
deriving DecidableEq, Repr

/-- The commit-hold mark of a port (R28). -/
inductive HoldMark | none | held | ready
deriving DecidableEq, Repr

/-- The class of an engine transaction (Table 2-2). -/
inductive TxnClass | motion | control | poll
deriving DecidableEq, Repr

/-- The bay state (Table 5-2). -/
inductive BayState
  | empty | seated | identifying | ready | active | suspect | releasing | released | releaseBlocked | faulted
deriving DecidableEq, Repr

/-- The cause of a release (Table 5-2). -/
inductive Origin | latch | request
deriving DecidableEq, Repr

/-- Why a bay entered FAULTED (Table 5-2). -/
inductive FaultReason | attempts | limit | status
deriving DecidableEq, Repr

/-- The commanded state of a power switch (Table 4-1). -/
inductive Switch | off | standby | on
deriving DecidableEq, Repr

/-- The reason in a handover record (R81). -/
inductive MoveReason | policy | release | dcArrival | fault
deriving DecidableEq, Repr

/-- The result in a handover record (R81). -/
inductive MoveResult | confirmed | confirmTimeout | aborted | fromLost | takeover
deriving DecidableEq, Repr

/-- The supply class (Table 6-1). -/
inductive SupplyClass | unknown | mains | packHigh | packLow | packCritical | bridge
deriving DecidableEq, Repr

/-- The pack level (Table 6-1). -/
inductive PackLevel | high | low | critical
deriving DecidableEq, Repr

/-- The brightness mode (Table 7-2). -/
inductive BrightMode | auto | hold | manual | off
deriving DecidableEq, Repr

/-- The motion state (Table 8-1). -/
inductive MotionState | normal | falling | impact | settling | sensorLost
deriving DecidableEq, Repr

/-- The kind of a drop record (Table 8-4). -/
inductive DropKind | drop | caught | longFall | knock
deriving DecidableEq, Repr

/-- The peak axis and sign (Table 8-4). -/
inductive PeakAxis | plusX | minusX | plusY | minusY | plusZ | minusZ
deriving DecidableEq, Repr

/-- The state of a telemetry slot (R62). -/
inductive SlotState | never | fresh | stale
deriving DecidableEq, Repr

/-- The source of a slot's value (R62); `admission` is ADMIT. -/
inductive SlotSource | poll | snoop | admission
deriving DecidableEq, Repr

/-- The severity of a notice (00_scope.md, section 7). -/
inductive Severity | info | warn | urgent
deriving DecidableEq, Repr

/-- The notice kinds, in the order of Table 10-1. -/
inductive NoticeKind
  | passWriteFailed | segmentSuspended | segmentResumed | telemetryImplausible | sourceChanged | handoverFailed
  | startupNoSource | sourceFaultNoAlternate | bridgeExhausting | bayAdmitted | bayFault | releaseBlocked | bayReleased
  | bayAbruptLoss | bayRemoved | supplyClassChanged | modeChanged | alsLost | ceilingLimiting | backlightWriteFailed
  | sensorLost | freeFall | impact | dropRecorded | dropNotLogged | commitDone | commitFailed | settingsDefaulted
deriving DecidableEq, Repr

/-- The status of a service request (R174). -/
inductive Status
  | ok | accepted | done | failed | busy | unknownRequest | badLength | badTable | badOffset | badAlign | invalidTable
  | notApplicable
deriving DecidableEq, Repr

/-! ## Upstream link (Chapter 1) -/

/-- The phases of Table 1-2. -/
inductive Phase | starting | idle | address | command | writeData | held | readout | drain
deriving DecidableEq, Repr

/-- What the part last drove on the upstream link: an acknowledge, a NACK, a held clock, a data byte, or nothing. -/
inductive LinkReply | released | ack | nack | clockHeld | data (byte : Byte)
deriving DecidableEq, Repr

/-- The open upstream transaction: a service transaction (`snap` absent) or a pass-through one with its snapshot. -/
structure UpTxn where
  addr : Addr
  snap : Option RouteSnap
  cmd : Option Byte
  data : List Byte
  inLane : Bool
deriving DecidableEq, Repr

/-- An outcome record (R24). -/
structure OutcomeRec where
  seq : Half
  time : Time
  addr : Addr
  cmd : Option Byte
  dir : Dir
  outcome : TxOutcome
deriving DecidableEq, Repr

/-- The Upstream Link Interface. `byteHold` is a first data byte held for the pass lane with the start of the hold (R4);
`heldSince` is the start of the hold of a read (R5, R175); `lastActivity` starts the 35 ms clock of R7. -/
structure Uli where
  phase : Phase
  txn : Option UpTxn
  byteHold : Option (Byte × Time)
  heldSince : Option Time
  answer : List Byte
  answerPos : Nat
  lastActivity : Time
  reply : LinkReply
  ring : List OutcomeRec
  seq : Half
deriving DecidableEq, Repr

/-! ## Segment ports (Chapter 2) -/

/-- A pass-lane transaction (section 2.2): the host transaction with its snapshot, the data as forwarded and the
recomputed trailer. `recorded` is set when its outcome has been recorded already (a read answered BUSY, R5). -/
structure LaneTxn where
  snap : RouteSnap
  addr : Addr
  cmd : Byte
  write : Bool
  data : List Byte
  trailer : Option Byte
  recorded : Bool
deriving DecidableEq, Repr

/-- What the Poll Engine keeps with a transaction it placed (R48): the entry's place, the source its kind gives (R58)
and its descriptors as they stood; `orphan` when it belongs to no entry any more (R45). -/
structure PollTag where
  place : Fin 24
  source : SlotSource
  descs : List Descriptor
  orphan : Bool
deriving DecidableEq, Repr

/-- The issuer of an engine transaction. -/
inductive Issuer
  | ple (tag : PollTag)
  | brc
  | mtu
deriving DecidableEq, Repr

/-- An engine transaction (Table 2-2). -/
structure EngTxn where
  issuer : Issuer
  cls : TxnClass
  arrival : Nat
  passedOver : Nat
  gate : Option Bay
  write : Bool
  down : Byte
  cmd : Byte
  data : List Byte
  readLen : Nat
  checked : Bool
deriving DecidableEq, Repr

/-- The transaction a port executes: the one in its pass lane, or an engine transaction. -/
inductive Running
  | lane
  | engine (t : EngTxn)
deriving DecidableEq, Repr

/-- A condition a segment port puts on its segment (Table 2-3, R37): a start, a byte it drives or takes with whether it
was acknowledged (by the device, or by the port), a repeated start, a stop, or one clock pulse with the data line
released. -/
inductive BusItem
  | start
  | sent (byte : Byte) (acked : Bool)
  | restart
  | taken (byte : Byte) (acked : Bool)
  | stop
  | clock
deriving DecidableEq, Repr

/-- Why a placement ended ABSENT at a full queue (R30, R31). -/
inductive AbsentReason | full | evicted
deriving DecidableEq, Repr

/-- A segment port (R28). `running` carries the start time of the executing transaction (R36); `clearCount` makes the
timeout count 0 at the completion of a transaction that was executing at a SOFT_RESET (R44); `isoClosed` is the
isolation switch of a bay segment (R40; unused on SP3 and SP4); `wire` is what the port put on its segment in its latest
transaction that reached a stop, or in its latest recovery (log entry 39). -/
structure Port where
  state : PortState
  lane : Option LaneTxn
  queue : List EngTxn
  running : Option (Running × Time)
  timeouts : Nat
  mark : HoldMark
  arrival : Nat
  recovery : Option Timer
  suspension : Option Timer
  clearCount : Bool
  isoClosed : Bool
  wire : List BusItem
deriving DecidableEq, Repr

/-! ## Poll Engine and Telemetry Store (Chapter 3) -/

/-- The state of a poll entry (R47). -/
inductive PollState | idle | queued | inFlight
deriving DecidableEq, Repr

/-- The status of a poll entry (R47), with the Poll Engine's runs: `gateWait`, a SETUP run waiting for its bay gate
(R53); `runAfter`, a run to be placed at the completion of the transaction already placed (R52, R54, R55); `dueTaken`, a
pending SETUP run that has fallen due, whose due time is held until the run ends (R52; log entry 25);
`admitDue`, the due time of an admission run (R54). -/
structure PollStatus where
  state : PollState
  nextDue : Option Time
  lastOutcome : Option TxOutcome
  failures : Nat
  lastCompletion : Option Time
  skipped : Bool
  late : Bool
  gateWait : Bool
  runAfter : Bool
  dueTaken : Bool
  admitDue : Option Time
deriving DecidableEq, Repr

/-- A telemetry slot (R62); its freshness limit is read from the committed SLOTS table. -/
structure Slot where
  state : SlotState
  value : Int
  time : Option Time
  source : Option SlotSource
  implausible : Nat
deriving DecidableEq, Repr

/-- The result of a field descriptor (R58). -/
inductive DescResult | written | outOfFrame | saturated | implausible | noPack
deriving DecidableEq, Repr

/-! ## Power path and classifier (Chapters 4 and 6) -/

/-- A source record (R67). -/
structure SourceRec where
  sw : Switch
  eligible : Bool
  heldOff : Bool
  onSince : Option Time
deriving DecidableEq, Repr

/-- The handover record (R81). -/
structure MoveRec where
  origin : Option Src
  target : Src
  reason : MoveReason
  start : Time
  finish : Option Time
  result : Option MoveResult
deriving DecidableEq, Repr

/-- What a walk of candidates, and the attempt it makes, is for: a start-up selection (R69), the bridge attempt (R70), a
policy reselection (R76) or a release selection (R83). -/
inductive WalkKind
  | startup
  | bridge
  | policy
  | release (bay : Bay) (origin : Origin)
deriving DecidableEq, Repr

/-- A handover or attempt whose confirm is awaited (R69, R70, R79), with the candidates its selection has not reached. -/
structure Attempt where
  kind : WalkKind
  target : Src
  old : Option Src
  reason : MoveReason
  confirm : Timer
  rest : List Src
deriving DecidableEq, Repr

/-- The controller record of the Power Path Controller (R67) with its sources. `managed` is the path mode MANAGED;
`moving` is set while the effects of a move that has just ended are still being told, which is part of its end (R79, R80,
R85; log entry 4); `waitRelease` and `waitCheck` are the release requests and the checks of R84 waiting for an attempt's
end or for the shock-hold flag (R83); `bridgeDue` is a bridge attempt that waits (R70); `supplyDue` is a SUPPLY reload
that waits (R90); `switching` is set from the moment a SUPPLY table takes force until the controller has been told of it,
all within one handling (R90, R181; log entry 53). -/
structure Ppc where
  sources : PerSrc SourceRec
  managed : Bool
  onSrc : Option Src
  record : Option MoveRec
  pending : Bool
  dwell : Option Timer
  bridge : Option Timer
  startup : Option Timer
  startupExpired : Bool
  causeBridge : Bool
  causeNoAlternate : Bool
  shdnReq : Bool
  attempt : Option Attempt
  moving : Bool
  waitRelease : PerBay (Option Origin)
  waitCheck : PerBay Bool
  bridgeDue : Bool
  supplyDue : Bool
  switching : Bool
deriving DecidableEq, Repr

/-- The classifier record (R116). -/
structure Classifier where
  energy : Int
  level : PackLevel
  cls : SupplyClass
  allowance : Nat
deriving DecidableEq, Repr

/-! ## Bays (Chapter 5) -/

/-- One debounce filter (R93): the line's level, the filter's output, and since when the line has differed from it. The
level is true for a closed latch and for a present pack. -/
structure LineFilter where
  line : Bool
  out : Bool
  since : Option Time
deriving DecidableEq, Repr

/-- An item of the admission list (Table 5-2). -/
structure AdmissionItem where
  place : Fin 24
  attempts : Nat
  succeeded : Bool
deriving DecidableEq, Repr

/-- A bay record (Table 5-2) with the filters of its two lines. `wordFault` tells whether the latest write of the bay's
status word was a status fault under the pack fault mask then in force (R103, R115; log entry 52). -/
structure BayRec where
  state : BayState
  latchClosed : Bool
  present : Bool
  entry : Time
  wasActive : Bool
  origin : Option Origin
  faultPending : Bool
  faultReason : Option FaultReason
  wordFault : Bool
  seat : Option Timer
  identify : Option Timer
  admission : List AdmissionItem
  latchFilter : LineFilter
  presenceFilter : LineFilter
deriving DecidableEq, Repr

/-! ## Brightness (Chapter 7) -/

/-- The write record of the Brightness Controller (R144). -/
inductive WriteRec
  | none
  | queued (code : Nat)
  | executing (code : Nat)
deriving DecidableEq, Repr

/-- The Brightness Controller record (Table 7-1). -/
structure Brc where
  mode : BrightMode
  bias : Int
  manual : Option Nat
  hold : Option Nat
  ambient : Option Nat
  code : Nat
  smooth : Nat
  curve : Nat
  target : Nat
  level : Option Nat
  computed : Nat
  written : Nat
  noneWritten : Bool
  ceiling : Option Nat
  write : WriteRec
  owed : Bool
  failures : Nat
  awaitingLight : Bool
  limited : Bool
  lightLost : Bool
  step : Option Timer
deriving DecidableEq, Repr

/-! ## Motion (Chapter 8) -/

/-- The snapshots of a drop record (R164). -/
structure DropSnap where
  onSrc : Option Src
  cls : SupplyClass
  bayA : BayState
  bayB : BayState
deriving DecidableEq, Repr

/-- A drop record (Table 8-4). `peak` is the squared magnitude of the peak; the trace is held as its three parts. -/
structure DropRec where
  seq : Half
  kind : DropKind
  followed : Bool
  start : Time
  freeFall : Nat
  parkToImpact : Option Nat
  peak : Nat
  peakCode : Nat
  axis : PeakAxis
  impacts : Nat
  settle : Nat
  snap : Option DropSnap
  before : List Nat
  peakTrace : Nat
  after : List Nat
  read : Bool
deriving DecidableEq, Repr

/-- The Motion Unit record (Table 8-1). `failTime` is the time of the latest failed read, `retryArmed` whether its retry
is still to come (R152), `lastRead` the outcome of the latest motion read (R154), `lossSince` the start of the
sample-loss time; `motionDue` is a MOTION reload that waits for the open record (R172). -/
structure Mtu where
  state : MotionState
  entry : Time
  fallRun : Nat
  fallStart : Time
  settleRun : Nat
  window : Nat
  placed : Bool
  failTime : Option Time
  retryArmed : Bool
  lastRead : Option TxOutcome
  lossSince : Option Time
  starved : Bool
  history : List Nat
  park : Bool
  parkTime : Option Time
  parkHold : Option Timer
  shockHold : Bool
  shockTimer : Option Timer
  openRec : Option DropRec
  seq : Half
  log : Vector (Option DropRec) 4
  order : List (Fin 4)
  samples : BitVec 32
  readsFailed : Nat
  motionDue : Bool
deriving DecidableEq, Repr

/-! ## Service requests, notices and settings (Chapters 9 to 11) -/

/-- The response record (R174). -/
structure Response where
  code : Byte
  tag : Byte
  status : Status
  payload : List Byte
  current : Bool
deriving DecidableEq, Repr

/-- A commit under way (R176): `waiting` is the phase WAITING, `limit` the 50 ms commit limit timer. -/
structure CommitRec where
  gen : Half
  mask : Byte
  waiting : Bool
  held : PerSeg Bool
  limit : Timer
deriving DecidableEq, Repr

/-- The background operation record (R176). -/
inductive Background
  | none
  | commit (c : CommitRec)
  | save
  | swap (bay : Bay)
deriving DecidableEq, Repr

/-- The read-out snapshot (R177). -/
structure ReadSnap where
  code : Byte
  subject : Option Byte
  time : Time
  image : List Byte
deriving DecidableEq, Repr

/-- The Service Request Unit. `supplyForce` and `motionForce` are the SUPPLY and MOTION images in force, which stay
behind the committed ones while a SOFT_RESET's reload waits (R90, R172); `resetPending` is a SOFT_RESET that has not
acted yet, `gaveUp` whether it gave up a commit (R184). -/
structure Sru where
  response : Option Response
  background : Background
  snapshot : Option ReadSnap
  committed : Tables
  staging : Tables
  supplyForce : Image
  motionForce : Image
  generation : Half
  resetPending : Bool
  gaveUp : Bool
deriving DecidableEq, Repr

/-- A notice record (R185). -/
structure Notice where
  seq : Half
  time : Time
  kind : NoticeKind
  severity : Severity
  subject : Nat
  repeats : Nat
  arg1 : Int
  arg2 : Int
deriving DecidableEq, Repr

/-- A post to the Notice Queue (R185). -/
structure Post where
  kind : NoticeKind
  severity : Severity
  subject : Nat
  arg1 : Int
  arg2 : Int
deriving DecidableEq, Repr

/-- The Notice Queue (R185 to R190); `alertLow` is the ALERT_N line driven low. -/
structure Ntq where
  queue : List Notice
  overflow : Bool
  alertLevel : Severity
  seq : Half
  alertLow : Bool
deriving DecidableEq, Repr

/-- A settings save under way (R194): the whole image with its header, how many pages are written, and when the page
under way started. -/
structure SaveRec where
  image : List Byte
  gen : Half
  done : Nat
  start : Time
deriving DecidableEq, Repr

/-- A raw write under way (R195): the pages still to write, first the one under way, and when it started. -/
structure RawRec where
  pages : List (Nat × List Byte)
  start : Time
deriving DecidableEq, Repr

/-- The activity of the Settings Memory Interface (R191). -/
inductive SmiActivity
  | idle
  | loading (start : Time)
  | saving (r : SaveRec)
  | rawWriting (r : RawRec)
deriving DecidableEq, Repr

/-- The result of the latest load (R191). -/
inductive LoadResult | valid | defaulted
deriving DecidableEq, Repr

/-- The Settings Memory Interface with the private memory: its bytes in canonical form (addresses rising, no byte equal
to what an unlisted address reads as), and whether it answers on its bus. -/
structure Smi where
  activity : SmiActivity
  result : Option LoadResult
  memory : List Host.Cell
  answers : Bool
deriving DecidableEq, Repr

/-- The input lines of Table 5-1 of 00_scope.md that no filter holds: the ADDRSEL strap, DCIN_OK, the four switch
feedbacks and ACC_WM. -/
structure Lines where
  addrSelHigh : Bool
  dcinOk : Bool
  feedback : PerSrc Bool
  accWm : Bool
deriving DecidableEq, Repr

/-! ## The agenda -/

/-- What one block tells another inside the handling of a command. A handling is a stack of these, worked off first
to last, each putting what it starts in front of the rest (log entry 4). -/
inductive Task
  /-- Post a notice in its turn. -/
  | post (p : Post)
  /-- A host transaction opens at this first address byte (R1, R3). -/
  | openTxn (addr : Addr) (read : Bool)
  /-- The ULI hands a transaction into its pass lane (R4, R5). -/
  | handIn (t : LaneTxn)
  /-- A pass-lane transaction completes to the ULI (R24). -/
  | laneDone (t : LaneTxn) (outcome : TxOutcome) (data : List Byte) (trailer : Byte)
  /-- A decoded service request (R173, R174). -/
  | request (code tag : Byte) (payload : List Byte)
  /-- A service write without a tag, or with a 33rd data byte, is decoded (R173). -/
  | malformed (code tag : Byte)
  /-- An issuer places an engine transaction (R29). -/
  | place (seg : Seg) (t : EngTxn)
  /-- A transaction boundary of a port (R32). -/
  | boundary (seg : Seg)
  /-- A port returns to IDLE after its completion has been delivered (R35). -/
  | portIdle (seg : Seg)
  /-- An engine transaction completes to its issuer, with the reason of an ABSENT that has one (R30, R31). -/
  | engineDone (seg : Seg) (t : EngTxn) (outcome : TxOutcome) (reason : Option AbsentReason) (data : List Byte)
  /-- A bay port opens its isolation switch (R40, R41). -/
  | isolate (seg : Seg)
  /-- A bay port closes its isolation switch (R40). -/
  | connect (seg : Seg)
  /-- A commit hold ends on a port (R42, R43). -/
  | unhold (seg : Seg)
  /-- SOFT_RESET reaches a port (R44). -/
  | resetPort (seg : Seg)
  /-- The Poll Engine runs an entry (R48). -/
  | pollRun (place : Fin 24)
  /-- An entry's due time is taken, if it has been reached (R48, R50, R52, R54). -/
  | fallsDue (place : Fin 24)
  /-- A run that waited for a completion is placed (R52, R54, R55). -/
  | pollAgain (place : Fin 24)
  /-- The rule of its kind takes a completion (R50, R53, R54). -/
  | pollKind (place : Fin 24) (outcome : TxOutcome) (results : List (Fin 32 × DescResult))
  /-- An event of R52 reaches the SETUP entries of a segment. -/
  | setupSegment (seg : Seg)
  /-- The Poll Engine is told a bay's state change (R94). -/
  | pollBay (bay : Bay) (old new : BayState)
  /-- The Poll Engine begins an admission (R54). -/
  | admissionBegin (bay : Bay)
  /-- The bay controller asks for an ADMIT entry to be run again (R55). -/
  | admissionAgain (place : Fin 24)
  /-- A field descriptor runs on a response (R56 to R58). -/
  | descriptor (source : SlotSource) (place : Nat) (d : Descriptor) (data : List Byte)
  /-- The readers are told that a slot was written; `old` is what it held before (R66). -/
  | slotWritten (slot : Fin 32) (old : Slot)
  /-- The readers are told that a slot became STALE or NEVER (R66). -/
  | slotLapsed (slot : Fin 32)
  /-- A bay's slots become NEVER (R65). -/
  | slotsNever (bay : Bay)
  /-- A reselection trigger (R76). -/
  | trigger
  /-- The Power Path Controller is told a bay's state change (R68, R94). -/
  | powerBay (bay : Bay) (old new : BayState)
  /-- A selection walks its candidates (R69, R73, R83). -/
  | walk (kind : WalkKind) (candidates : List Src)
  /-- A selection whose attempt failed goes on with its next candidate, unless a takeover has moved the load (R80). -/
  | goOn (kind : WalkKind) (candidates : List Src)
  /-- The effects of a move have been told (R79, R85). -/
  | moved
  /-- The awaited feedback confirms (R79). -/
  | confirm
  /-- The work that waited for an attempt's end, or for the flag, or for the ON bay (R77, R83). -/
  | settled
  /-- A release request reaches the Power Path Controller (R83). -/
  | releaseRequest (bay : Bay) (origin : Origin)
  /-- A policy trigger asks for a selection, which starts or sets the pending mark (R76, R77). -/
  | reselect
  /-- The checks of R84. -/
  | alternates
  /-- A takeover is repeated for a faulted ON source while the cause NO_ALTERNATE stands (R86). -/
  | takeover (lost : Src)
  /-- BR has become ON while slot 12 may be low (R88). -/
  | bridgeCheck
  /-- The bay controller is told that the release is DONE (R83). -/
  | releaseDone (bay : Bay)
  /-- The bay controller is told that the release is BLOCKED (R83). -/
  | releaseBlocked (bay : Bay)
  /-- The bay controller is told that an alternate is available (R84). -/
  | alternate (bay : Bay)
  /-- An attempt of an admission is reported (R54, R99). -/
  | admissionReport (bay : Bay) (place : Fin 24) (outcome : TxOutcome) (results : List (Fin 32 × DescResult))
  /-- The bay controller checks for admission (R100). -/
  | admissionCheck (bay : Bay)
  /-- The bay controller is told a write of its status word (R103). -/
  | statusWord (bay : Bay) (value : Int)
  /-- The presence of a bay is taken as PRESENT (R96). -/
  | seat (bay : Bay)
  /-- The seat timer of a bay expires (R97). -/
  | seatExpiry (bay : Bay)
  /-- The identify timer of a bay expires (R101). -/
  | identifyExpiry (bay : Bay)
  /-- A debounced latch level is taken (R105). -/
  | latchTaken (bay : Bay)
  /-- A debounced presence level is taken (R96, R111). -/
  | presenceTaken (bay : Bay)
  /-- A bay controller restarts an admission (R102). -/
  | admissionRestart (bay : Bay)
  /-- A bay controller reports the end of a swap to the Service Request Unit (R113). -/
  | swapEnd (bay : Bay)
  /-- The energy sum is recomputed (R117). -/
  | energy
  /-- The supply class is evaluated (R119). -/
  | classify
  /-- The ceiling is recomputed (R126). -/
  | ceiling
  /-- A brightness step runs (R133). -/
  | brightStep
  /-- A motion read is placed (R152). -/
  | motionRead
  /-- A sample is taken (R155). -/
  | sample (x y z : Int) (time : Time)
  /-- The shock-hold flag changed, and the bays and the Power Path Controller are told (R163). -/
  | flagChanged (set : Bool)
  /-- The Power Path Controller is told of the flag (R77). -/
  | flagPower (set : Bool)
  /-- The bay controller is told that the flag cleared (R106). -/
  | flagBay (bay : Bay)
  /-- A reload of MOTION takes force if no record is open (R172). -/
  | motionSwitch
  /-- The Telemetry Store takes new freshness limits (R64). -/
  | limitsSwitch
  /-- The Poll Engine takes a new poll list (R45); the old list's image. -/
  | pollsSwitch (old : Image)
  /-- The Poll Engine starts every entry afresh at the opening or at SOFT_RESET (R45, R51, R52). -/
  | pollsStart
  /-- A SUPPLY table takes force for the bays, the Power Path Controller and the classifier (R90, R115, R123). -/
  | supplySwitch
  /-- The bay controllers' part of a SUPPLY switch (R115). -/
  | supplyBay (bay : Bay)
  /-- The Power Path Controller's part of a SUPPLY switch (R90). -/
  | supplyPower
  /-- The supply classifier's part of a SUPPLY switch (R123). -/
  | supplyClass
  /-- The Brightness Controller acts on SOFT_RESET (R150). -/
  | brightReset
  /-- The bay controller takes its lines when traffic opens (R193). -/
  | openBay (bay : Bay)
  /-- The Power Path Controller's start-up selection at the opening (R69). -/
  | openPower
  /-- The Brightness Controller begins work (R129). -/
  | openBright
  /-- The Motion Unit starts work (R151). -/
  | openMotion
  /-- A background operation ends with this status and payload (R176). -/
  | backgroundEnd (status : Status) (payload : List Byte)
  /-- SOFT_RESET has acted (R184). -/
  | resetDone
deriving DecidableEq, Repr

/-! ## The state -/

/-- The reasons the machine stops with a fault. There is none: the part answers every event by an acknowledge, a NACK, a
status, an outcome or a notice, and no address outside its one memory can be formed. -/
inductive Fault
deriving DecidableEq, Repr

/-- The reasons a command is refused. -/
inductive Refusal
  /-- Raised by `exec` alone, for a command that has no meaning yet (no arm does so now). Safe: the run stops. -/
  | notModelled (mnemonic : String)
deriving DecidableEq, Repr

/-- The state of the part. `pending` is the queue of commands that wait, first in, first out; `agenda` is the model's own
field, the part of a handling that did not fit into one step (log entry 4). -/
structure State where
  pending : List Instr
  agenda : List Task
  now : Time
  lines : Lines
  uli : Uli
  ports : PerSeg Port
  polls : Vector PollStatus 24
  slots : Vector Slot 32
  ppc : Ppc
  classifier : Classifier
  bays : PerBay BayRec
  brc : Brc
  mtu : Mtu
  sru : Sru
  ntq : Ntq
  smi : Smi
deriving DecidableEq, Repr

/-! ## Power-on reset -/

/-- The built-in table images (R192). -/
def builtinTables : Tables where
  routes := Builtin.routes
  guards := Builtin.guards
  polls := Builtin.polls
  snoops := Builtin.snoops
  slots := Builtin.slots
  light := Builtin.light
  supply := Builtin.supply
  motion := Builtin.motion

/-- The ULI after power-on reset (R1): STARTING, empty ring, sequence counter 0. -/
def Uli.reset : Uli where
  phase := .starting
  txn := none
  byteHold := none
  heldSince := none
  answer := []
  answerPos := 0
  lastActivity := 0
  reply := .released
  ring := []
  seq := 0

/-- A port after power-on reset (R28), in the state given. -/
def Port.reset (state : PortState) : Port where
  state := state
  lane := none
  queue := []
  running := none
  timeouts := 0
  mark := .none
  arrival := 0
  recovery := none
  suspension := none
  clearCount := false
  isoClosed := false
  wire := []

/-- A poll entry's status after power-on reset (R47). -/
def PollStatus.reset : PollStatus where
  state := .idle
  nextDue := none
  lastOutcome := none
  failures := 0
  lastCompletion := none
  skipped := false
  late := false
  gateWait := false
  runAfter := false
  dueTaken := false
  admitDue := none

/-- A slot after power-on reset (R62). -/
def Slot.reset : Slot where
  state := .never
  value := 0
  time := none
  source := none
  implausible := 0

/-- A source record after power-on reset (R67). -/
def SourceRec.reset (sw : Switch) (eligible : Bool) : SourceRec where
  sw := sw
  eligible := eligible
  heldOff := false
  onSince := none

/-- The Power Path Controller after power-on reset (R67), for the level of DCIN_OK; eligibilities by R72. -/
def Ppc.reset (dcinOk : Bool) : Ppc where
  sources :=
    { dc := SourceRec.reset (if dcinOk then .standby else .off) dcinOk
      a := SourceRec.reset .off false
      b := SourceRec.reset .off false
      br := SourceRec.reset .standby true }
  managed := false
  onSrc := none
  record := none
  pending := false
  dwell := none
  bridge := none
  startup := some { start := 0, dur := 2000 }
  startupExpired := false
  causeBridge := false
  causeNoAlternate := false
  shdnReq := false
  attempt := none
  moving := false
  waitRelease := { a := none, b := none }
  waitCheck := { a := false, b := false }
  bridgeDue := false
  supplyDue := false
  switching := false

/-- The classifier after power-on reset (R116): the built-in BRIDGE allowance of 1,200 mW. -/
def Classifier.reset : Classifier where
  energy := 0
  level := .critical
  cls := .unknown
  allowance := 1200

/-- A filter at the end of power-on reset (R93): it times a line that is not at the record's level. -/
def LineFilter.reset (line : Bool) : LineFilter where
  line := line
  out := false
  since := if line then some 0 else none

/-- A bay record after power-on reset (R92), for the levels of its lines. -/
def BayRec.reset (latchLine presenceLine : Bool) : BayRec where
  state := .empty
  latchClosed := false
  present := false
  entry := 0
  wasActive := false
  origin := none
  faultPending := false
  faultReason := none
  wordFault := false
  seat := none
  identify := none
  admission := []
  latchFilter := LineFilter.reset latchLine
  presenceFilter := LineFilter.reset presenceLine

/-- The Brightness Controller after power-on reset (R128). -/
def Brc.reset : Brc where
  mode := .auto
  bias := 0
  manual := none
  hold := none
  ambient := none
  code := 0
  smooth := 0
  curve := 0
  target := 0
  level := none
  computed := 0
  written := 0
  noneWritten := true
  ceiling := none
  write := .none
  owed := false
  failures := 0
  awaitingLight := true
  limited := false
  lightLost := false
  step := none

/-- The Motion Unit after power-on reset (R151). -/
def Mtu.reset : Mtu where
  state := .normal
  entry := 0
  fallRun := 0
  fallStart := 0
  settleRun := 0
  window := 0
  placed := false
  failTime := none
  retryArmed := false
  lastRead := none
  lossSince := none
  starved := false
  history := []
  park := false
  parkTime := none
  parkHold := none
  shockHold := false
  shockTimer := none
  openRec := none
  seq := 0
  log := Vector.replicate 4 none
  order := []
  samples := 0
  readsFailed := 0
  motionDue := false

/-- The Service Request Unit after power-on reset (R174, R176, R177): everything empty. The images are the built-in ones
until the load ends (log entry 10). -/
def Sru.reset : Sru where
  response := none
  background := .none
  snapshot := none
  committed := builtinTables
  staging := builtinTables
  supplyForce := Builtin.supply
  motionForce := Builtin.motion
  generation := 0
  resetPending := false
  gaveUp := false

/-- The Notice Queue after power-on reset (R185, R186, R188, R190). -/
def Ntq.reset : Ntq where
  queue := []
  overflow := false
  alertLevel := .warn
  seq := 0
  alertLow := false

/-- The whole part after power-on reset, for the levels of the input lines and the private memory. -/
def State.afterReset (pending : List Instr) (lines : Lines) (latchLines presenceLines : PerBay Bool)
    (memory : List Host.Cell) (answers : Bool) : State where
  pending := pending
  agenda := []
  now := 0
  lines := lines
  uli := Uli.reset
  ports :=
    { p1 := Port.reset .isolated, p2 := Port.reset .isolated, p3 := Port.reset .idle, p4 := Port.reset .idle }
  polls := Vector.replicate 24 PollStatus.reset
  slots := Vector.replicate 32 Slot.reset
  ppc := Ppc.reset lines.dcinOk
  classifier := Classifier.reset
  bays := { a := BayRec.reset latchLines.a presenceLines.a, b := BayRec.reset latchLines.b presenceLines.b }
  brc := Brc.reset
  mtu := Mtu.reset
  sru := Sru.reset
  ntq := Ntq.reset
  smi := { activity := .loading 0, result := none, memory := memory, answers := answers }

/-- The input lines at reset: all low, open, absent and not conducting (DESIGN CHOICE, log entry 7). -/
def Lines.reset : Lines where
  addrSelHigh := false
  dcinOk := false
  feedback := { dc := false, a := false, b := false, br := false }
  accWm := false

/-- The machine right after power-on reset: no command waits, nothing is listed in the settings memory, and the load of
the settings image has begun (R191, R193). -/
def State.reset : State :=
  State.afterReset [] Lines.reset { a := false, b := false } { a := false, b := false } [] true

end Sys2Proof.Machine
end

