-- ==== Sys2Proof/Machine/Ops.lean ====
section
/-!
DEFINITION. The named operations over the state that every block shares: reading and writing one of a family of like
things, the bay resources of Table 5-1, timers, gates, and the private settings memory.
-/

namespace Sys2Proof.Machine

/-- What one handling step answers: the state, and the tasks it puts in front of the agenda. -/
abbrev Act := State × List Task

/-- Tasks that are started only on a condition. -/
def tasksIf (c : Bool) (tasks : List Task) : List Task := if c then tasks else []

/-! ## Families -/

/-- The one of a bay. -/
def PerBay.get {α : Type} (p : PerBay α) : Bay → α
  | .a => p.a
  | .b => p.b

/-- The family with the one of a bay replaced. -/
def PerBay.set {α : Type} (p : PerBay α) (i : Bay) (x : α) : PerBay α :=
  match i with
  | .a => { p with a := x }
  | .b => { p with b := x }

/-- The one of a segment. -/
def PerSeg.get {α : Type} (p : PerSeg α) : Seg → α
  | .sp1 => p.p1
  | .sp2 => p.p2
  | .sp3 => p.p3
  | .sp4 => p.p4

/-- The family with the one of a segment replaced. -/
def PerSeg.set {α : Type} (p : PerSeg α) (i : Seg) (x : α) : PerSeg α :=
  match i with
  | .sp1 => { p with p1 := x }
  | .sp2 => { p with p2 := x }
  | .sp3 => { p with p3 := x }
  | .sp4 => { p with p4 := x }

/-- The one of a source. -/
def PerSrc.get {α : Type} (p : PerSrc α) : Src → α
  | .dc => p.dc
  | .a => p.a
  | .b => p.b
  | .br => p.br

/-- The family with the one of a source replaced. -/
def PerSrc.set {α : Type} (p : PerSrc α) (i : Src) (x : α) : PerSrc α :=
  match i with
  | .dc => { p with dc := x }
  | .a => { p with a := x }
  | .b => { p with b := x }
  | .br => { p with br := x }

/-- The four segments in rising order. -/
def allSegs : List Seg := [.sp1, .sp2, .sp3, .sp4]

/-- The segment number of a port, 1 to 4 (Table 4-1 of 00_scope.md). -/
def segNumber : Seg → Nat
  | .sp1 => 1
  | .sp2 => 2
  | .sp3 => 3
  | .sp4 => 4

/-- The source number (Table 4-2). -/
def srcNumber : Src → Nat
  | .dc => 0
  | .a => 1
  | .b => 2
  | .br => 3

/-- The source code with 0xFF for no source (Table 12-2). -/
def srcCode : Option Src → Nat
  | some x => srcNumber x
  | none => 0xFF

/-! ## Bay resources (Table 5-1) -/

/-- The segment port of a bay. -/
def baySeg : Bay → Seg
  | .a => .sp1
  | .b => .sp2

/-- The bay of a segment, if it is a bay segment. -/
def segBay : Seg → Option Bay
  | .sp1 => some .a
  | .sp2 => some .b
  | .sp3 => none
  | .sp4 => none

/-- The source of a bay. -/
def baySrc : Bay → Src
  | .a => .a
  | .b => .b

/-- The bay of a source, if it is a pack. -/
def srcBay : Src → Option Bay
  | .dc => none
  | .a => some .a
  | .b => some .b
  | .br => none

/-- The other bay. -/
def otherBay : Bay → Bay
  | .a => .b
  | .b => .a

/-- The notice subject of a bay: 1 or 2. -/
def bayNumber : Bay → Nat
  | .a => 1
  | .b => 2

/-- The pack voltage slot of a bay. -/
def voltageSlot : Bay → Fin 32
  | .a => 0
  | .b => 5

/-- The pack energy slot of a bay. -/
def energySlot : Bay → Fin 32
  | .a => 2
  | .b => 7

/-- The pack temperature slot of a bay. -/
def temperatureSlot : Bay → Fin 32
  | .a => 3
  | .b => 8

/-- The status word slot of a bay. -/
def statusSlot : Bay → Fin 32
  | .a => 4
  | .b => 9

/-- The five slots bound to a bay (R62). -/
def baySlots : Bay → List (Fin 32)
  | .a => [0, 1, 2, 3, 4]
  | .b => [5, 6, 7, 8, 9]

/-- The bay a slot is bound to (R62). -/
def slotBay (slot : Fin 32) : Option Bay :=
  if slot.val < 5 then some .a else if slot.val < 10 then some .b else none

/-! ## Reading and writing the records -/

/-- A bay record. -/
def State.bay (s : State) (i : Bay) : BayRec := s.bays.get i

/-- The state with a bay record replaced. -/
def State.setBay (s : State) (i : Bay) (r : BayRec) : State := { s with bays := s.bays.set i r }

/-- A port. -/
def State.port (s : State) (i : Seg) : Port := s.ports.get i

/-- The state with a port replaced. -/
def State.setPort (s : State) (i : Seg) (p : Port) : State := { s with ports := s.ports.set i p }

/-- A source record. -/
def State.source (s : State) (i : Src) : SourceRec := s.ppc.sources.get i

/-- The state with a source record replaced. -/
def State.setSource (s : State) (i : Src) (r : SourceRec) : State :=
  { s with ppc := { s.ppc with sources := s.ppc.sources.set i r } }

/-- The state with a source's commanded switch state replaced; the drive line carries it (R67). -/
def State.setSwitch (s : State) (i : Src) (sw : Switch) : State := s.setSource i { s.source i with sw := sw }

/-- A telemetry slot. -/
def State.slot (s : State) (i : Fin 32) : Slot := s.slots[i]

/-- The state with a telemetry slot replaced. -/
def State.setSlot (s : State) (i : Fin 32) (r : Slot) : State := { s with slots := s.slots.set i r }

/-- A poll entry's status. -/
def State.poll (s : State) (i : Fin 24) : PollStatus := s.polls[i]

/-- The state with a poll entry's status replaced. -/
def State.setPoll (s : State) (i : Fin 24) (r : PollStatus) : State := { s with polls := s.polls.set i r }

/-- Traffic is open: the ULI has left STARTING (R193). -/
def State.opened (s : State) : Bool := s.uli.phase != .starting

/-- The places 0 to 23 of the poll list. -/
def allPlaces : List (Fin 24) := List.finRange 24

/-! ## Timers and times -/

/-- A timer that starts now. -/
def timerNow (s : State) (dur : Nat) : Timer := { start := s.now, dur := dur }

/-- A timer has run its time. -/
def Timer.due (now : Time) (t : Timer) : Bool := t.dur ≤ age now t.start

/-- A timer that may be stopped has run its time. -/
def timerDue (now : Time) : Option Timer → Bool
  | some t => t.due now
  | none => false

/-- The time left of a timer. -/
def Timer.left (now : Time) (t : Timer) : Nat := t.dur - age now t.start

/-- A running timer with a new time, applied from its start (R90, R115, R172). -/
def retime (t : Option Timer) (dur : Nat) : Option Timer := t.map fun t => { t with dur := dur }

/-- A timebase value has been reached, compared as modular values (R50). -/
def reached (now due : Time) : Bool := (now - due).toNat < 2 ^ 31

/-- A due time has been set and reached. -/
def dueReached (now : Time) : Option Time → Bool
  | some d => reached now d
  | none => false

/-- A time plus a number of milliseconds. -/
def later (t : Time) (ms : Nat) : Time := t + BitVec.ofNat 32 ms

/-- Counting up to an end. -/
def satAdd (n limit : Nat) : Nat := min (n + 1) limit

/-! ## Gates (section 1.3) -/

/-- The gate of a bay state is open (Table 1-5). -/
def gateOpen : BayState → Bool
  | .identifying => true
  | .ready => true
  | .active => true
  | .suspect => true
  | .faulted => true
  | .empty => false
  | .seated => false
  | .releasing => false
  | .released => false
  | .releaseBlocked => false

/-- An entry's gate is closed at this moment (R12). -/
def State.gateClosed (s : State) : Option Bay → Bool
  | some i => !gateOpen (s.bay i).state
  | none => false

/-! ## The private settings memory (Chapter 11) -/

/-- CRC-16 with polynomial 0x1021, one bit of a step. -/
def crc16Shift (c : BitVec 16) : BitVec 16 := if c.msb then (c <<< 1) ^^^ 0x1021#16 else c <<< 1

/-- CRC-16 over one byte, most significant bit first (R191). -/
def crc16Byte (c : BitVec 16) (b : Byte) : BitVec 16 :=
  crc16Shift (crc16Shift (crc16Shift (crc16Shift (crc16Shift (crc16Shift (crc16Shift (crc16Shift
    (c ^^^ (b.setWidth 16 <<< 8)))))))))

/-- CRC-16 of a run of bytes: initial value 0xFFFF, no final inversion (R191). -/
def crc16 (bytes : List Byte) : BitVec 16 := bytes.foldl crc16Byte 0xFFFF#16

/-- The eight table images in table-number order, as the settings image holds them (section 12.3). -/
def imageBytes (t : Tables) : List Byte :=
  t.routes ++ t.guards ++ t.polls ++ t.snoops ++ t.slots ++ t.light ++ t.supply ++ t.motion

/-- The length of the table images at format version 1 (section 12.3). -/
def imageLength : Nat := 5034

/-- The size of the private memory: 8 KiB (R195). -/
def memorySize : Nat := 8192

/-- The header of a settings image (section 12.3): version 1, length, generation, CRC. -/
def headerBytes (gen : Half) (image : List Byte) : List Byte :=
  Builtin.le2 1 ++ Builtin.le2 imageLength ++ Builtin.le2 gen.toNat ++ Builtin.le2 (crc16 image).toNat

/-- The shipped default image with its header (R192). -/
def shippedBytes : List Byte := headerBytes 0 (imageBytes builtinTables) ++ imageBytes builtinTables

/-- What an unlisted byte of the private memory reads as: the shipped default image at its offsets (R192), and 0xFF in
the free space beyond it (DESIGN CHOICE, log entry 8). -/
def memoryDefault (addr : Nat) : Byte := shippedBytes.getD addr 0xFF

/-- A byte of the private memory. -/
def readCell (memory : List Host.Cell) (addr : Nat) : Byte :=
  match memory.lookup addr with
  | some b => b
  | none => memoryDefault addr

/-- The cells with an address taken out. -/
def eraseCell (memory : List Host.Cell) (addr : Nat) : List Host.Cell := memory.filter fun c => c.1 != addr

/-- The cells with one cell put at its place in the rising order. -/
def insertCell (cell : Host.Cell) : List Host.Cell → List Host.Cell
  | [] => [cell]
  | c :: cs => if cell.1 < c.1 then cell :: c :: cs else c :: insertCell cell cs

/-- The private memory with a byte written; a byte that an unlisted address reads as is not listed. -/
def writeCell (memory : List Host.Cell) (addr : Nat) (b : Byte) : List Host.Cell :=
  if b = memoryDefault addr then eraseCell memory addr else insertCell (addr, b) (eraseCell memory addr)

/-- The private memory with a run of bytes written from an offset; a byte beyond offset 8,191 has no place (R195). -/
def writeRun (memory : List Host.Cell) (addr : Nat) : List Byte → List Host.Cell
  | [] => memory
  | b :: bs => writeRun (if addr < memorySize then writeCell memory addr b else memory) (addr + 1) bs

/-- A run of bytes of the private memory. -/
def readRun (memory : List Host.Cell) (addr count : Nat) : List Byte :=
  (List.range count).map fun i => readCell memory (addr + i)

/-- The addresses of a list of cells rise strictly. -/
def cellsRise : List Host.Cell → Bool
  | [] => true
  | [_] => true
  | c :: d :: cs => c.1 < d.1 && cellsRise (d :: cs)

/-- The canonical form of the private memory: addresses rise strictly and lie in the memory, and no listed byte equals
what its address reads as unlisted. -/
def memoryWf (memory : List Host.Cell) : Bool :=
  cellsRise memory && memory.all fun c => c.1 < memorySize && c.2 != memoryDefault c.1

end Sys2Proof.Machine
end

