-- ==== Sys2Proof/Machine/Flags.lean ====
section
/-!
DEFINITION. The codes of Table 12-2 and 12-1, the CRC-8 trailer of a checked entry (R21), and the compact magnitude codes
of R166.
-/

namespace Sys2Proof.Machine

/-! ## Codes of Table 12-2 -/

/-- The outcome code. -/
def outcomeCode : TxOutcome → Nat
  | .done => 0
  | .nackTarget => 1
  | .nackData => 2
  | .timeout => 3
  | .lost => 4
  | .crcBad => 5
  | .noRoute => 6
  | .gated => 7
  | .refused => 8
  | .captured => 9
  | .synthesized => 10
  | .standIn => 11
  | .busy => 12
  | .abandoned => 13
  | .absent => 14

/-- The outcome code with 0xFF for NONE. -/
def outcomeCodeOpt : Option TxOutcome → Nat
  | some o => outcomeCode o
  | none => 0xFF

/-- The direction code. -/
def dirCode : Dir → Nat
  | .write => 0
  | .read => 1
  | .none => 2

/-- The port state code. -/
def portStateCode : PortState → Nat
  | .idle => 0
  | .busy => 1
  | .recovering => 2
  | .suspended => 3
  | .isolated => 4

/-- The bay state code. -/
def bayStateCode : BayState → Nat
  | .empty => 0
  | .seated => 1
  | .identifying => 2
  | .ready => 3
  | .active => 4
  | .suspect => 5
  | .releasing => 6
  | .released => 7
  | .releaseBlocked => 8
  | .faulted => 9

/-- The release origin code. -/
def originCode : Origin → Nat
  | .latch => 0
  | .request => 1

/-- The fault reason code. -/
def faultReasonCode : FaultReason → Nat
  | .attempts => 0
  | .limit => 1
  | .status => 2

/-- The switch state code. -/
def switchCode : Switch → Nat
  | .off => 0
  | .standby => 1
  | .on => 2

/-- The handover reason code. -/
def reasonCode : MoveReason → Nat
  | .policy => 0
  | .release => 1
  | .dcArrival => 2
  | .fault => 3

/-- The handover result code. -/
def resultCode : MoveResult → Nat
  | .confirmed => 0
  | .confirmTimeout => 1
  | .aborted => 2
  | .fromLost => 3
  | .takeover => 4

/-- The supply class code. -/
def classCode : SupplyClass → Nat
  | .unknown => 0
  | .mains => 1
  | .packHigh => 2
  | .packLow => 3
  | .packCritical => 4
  | .bridge => 5

/-- The pack level code. -/
def levelCode : PackLevel → Nat
  | .high => 0
  | .low => 1
  | .critical => 2

/-- The brightness mode code. -/
def modeCode : BrightMode → Nat
  | .auto => 0
  | .hold => 1
  | .manual => 2
  | .off => 3

/-- The motion state code. -/
def motionCode : MotionState → Nat
  | .normal => 0
  | .falling => 1
  | .impact => 2
  | .settling => 3
  | .sensorLost => 4

/-- The drop kind code. -/
def dropCode : DropKind → Nat
  | .drop => 0
  | .caught => 1
  | .longFall => 2
  | .knock => 3

/-- The peak axis code. -/
def axisCode : PeakAxis → Nat
  | .plusX => 0
  | .minusX => 1
  | .plusY => 2
  | .minusY => 3
  | .plusZ => 4
  | .minusZ => 5

/-- The slot state code. -/
def slotStateCode : SlotState → Nat
  | .never => 0
  | .fresh => 1
  | .stale => 2

/-- The slot source code. -/
def slotSourceCode : SlotSource → Nat
  | .poll => 0
  | .snoop => 1
  | .admission => 2

/-- The severity code; severities rise with it. -/
def severityCode : Severity → Nat
  | .info => 0
  | .warn => 1
  | .urgent => 2

/-- The notice kind code: from 1, in the order of Table 10-1. -/
def kindCode : NoticeKind → Nat
  | .passWriteFailed => 1
  | .segmentSuspended => 2
  | .segmentResumed => 3
  | .telemetryImplausible => 4
  | .sourceChanged => 5
  | .handoverFailed => 6
  | .startupNoSource => 7
  | .sourceFaultNoAlternate => 8
  | .bridgeExhausting => 9
  | .bayAdmitted => 10
  | .bayFault => 11
  | .releaseBlocked => 12
  | .bayReleased => 13
  | .bayAbruptLoss => 14
  | .bayRemoved => 15
  | .supplyClassChanged => 16
  | .modeChanged => 17
  | .alsLost => 18
  | .ceilingLimiting => 19
  | .backlightWriteFailed => 20
  | .sensorLost => 21
  | .freeFall => 22
  | .impact => 23
  | .dropRecorded => 24
  | .dropNotLogged => 25
  | .commitDone => 26
  | .commitFailed => 27
  | .settingsDefaulted => 28

/-- The status code (R196). -/
def statusCode : Status → Nat
  | .ok => 0
  | .accepted => 1
  | .done => 2
  | .failed => 3
  | .busy => 4
  | .unknownRequest => 5
  | .badLength => 6
  | .badTable => 7
  | .badOffset => 8
  | .badAlign => 9
  | .invalidTable => 10
  | .notApplicable => 11

/-- The poll state code (Table 12-5). -/
def pollStateCode : PollState → Nat
  | .idle => 0
  | .queued => 1
  | .inFlight => 2

/-! ## Flag bytes -/

/-- A flag bit at a place. -/
def flagBit (set : Bool) (place : Nat) : Nat := if set then 2 ^ place else 0

/-- The brightness mode a code names (R131). -/
def modeOfCode : Nat → Option BrightMode
  | 0 => some .auto
  | 1 => some .hold
  | 2 => some .manual
  | 3 => some .off
  | _ => none

/-- The severity a code names (R190). -/
def severityOfCode : Nat → Option Severity
  | 0 => some .info
  | 1 => some .warn
  | 2 => some .urgent
  | _ => none

/-- The bay a bay byte names: 0 for A and 1 for B (section 12.1). -/
def bayOfByte (b : Byte) : Option Bay := if b = 0 then some .a else if b = 1 then some .b else none

/-! ## CRC-8 trailers (R21) -/

/-- CRC-8 with polynomial x^8+x^2+x+1, one bit of a step. -/
def crc8Shift (c : Byte) : Byte := if c.msb then (c <<< 1) ^^^ 0x07#8 else c <<< 1

/-- CRC-8 over one byte, most significant bit first. -/
def crc8Byte (c b : Byte) : Byte :=
  crc8Shift (crc8Shift (crc8Shift (crc8Shift (crc8Shift (crc8Shift (crc8Shift (crc8Shift (c ^^^ b))))))))

/-- CRC-8 of a run of bytes: initial value 0, no final inversion. -/
def crc8 (bytes : List Byte) : Byte := bytes.foldl crc8Byte 0

/-- An address byte on a link: the address with its read/write bit. -/
def addressByte (addr : Byte) (read : Bool) : Byte := (addr <<< 1) ||| (if read then 1 else 0)

/-- The trailer of a write (R21): address byte, command, data. -/
def writeTrailer (addr cmd : Byte) (data : List Byte) : Byte := crc8 (addressByte addr false :: cmd :: data)

/-- The trailer of a read (R21): address byte, command, repeated-start address byte, data. -/
def readTrailer (addr cmd : Byte) (data : List Byte) : Byte :=
  crc8 (addressByte addr false :: cmd :: addressByte addr true :: data)

/-- An upstream address as a byte. -/
def addrByte (a : Addr) : Byte := a.setWidth 8

/-! ## Compact magnitude codes (R166) -/

/-- The compact magnitude code of a value, with `m` mantissa bits. -/
def compact (m v : Nat) : Nat :=
  if v < 2 ^ (m + 1) then v else (Nat.log2 v - m) * 2 ^ m + v / 2 ^ (Nat.log2 v - m)

/-- The value a compact magnitude code stands for. -/
def expand (m c : Nat) : Nat :=
  if c < 2 ^ (m + 1) then c else (c - (c / 2 ^ m - 1) * 2 ^ m) * 2 ^ (c / 2 ^ m - 1)

/-- A code as twelve bits, most significant first (R167). -/
def codeBits (c : Nat) : List Bool := (List.range 12).map fun i => c.testBit (11 - i)

/-- Eight bits as a byte, most significant first. -/
def bitsByte (bits : List Bool) : Byte := BitVec.ofNat 8 (bits.foldl (fun n b => 2 * n + (if b then 1 else 0)) 0)

/-- A trace packed into 36 bytes (R167): bits beyond its codes are 0. -/
def packTrace (codes : List Nat) : List Byte :=
  (List.range 36).map fun i =>
    bitsByte ((List.range 8).map fun j => (codes.flatMap codeBits).getD (8 * i + j) false)

end Sys2Proof.Machine
end

