-- ==== Sys2Proof/Machine/Operands.lean ====
section
/-!
DEFINITION. Reading the fields of the table images (Tables 12-3 and 12-4) and of request payloads (Table 12-1). A field of
a loaded image whose code Chapter 12 does not define acts as a defined one that the specification does not name: a free
value (Config.undefinedCode, log entry 11).
-/

namespace Sys2Proof.Machine

/-! ## Bytes and numbers -/

/-- A byte of an image. -/
def byteAt (img : List Byte) (i : Nat) : Byte := img.getD i 0

/-- A 1-byte field. -/
def u8 (img : List Byte) (i : Nat) : Nat := (byteAt img i).toNat

/-- A 2-byte little-endian field. -/
def u16 (img : List Byte) (i : Nat) : Nat := u8 img i + 256 * u8 img (i + 1)

/-- A 4-byte little-endian field. -/
def u32 (img : List Byte) (i : Nat) : Nat := u16 img i + 65536 * u16 img (i + 2)

/-- A number read as two's complement in a width. -/
def signed (width n : Nat) : Int := if n < 2 ^ (width - 1) then n else (n : Int) - 2 ^ width

/-- A signed 2-byte field. -/
def i16 (img : List Byte) (i : Nat) : Int := signed 16 (u16 img i)

/-- A signed 4-byte field. -/
def i32 (img : List Byte) (i : Nat) : Int := signed 32 (u32 img i)

/-- A run of bytes of an image. -/
def slice (img : List Byte) (i n : Nat) : List Byte := (img.drop i).take n

/-- An image with a run of bytes put at an offset. -/
def putRun (img : List Byte) (i : Nat) (bytes : List Byte) : List Byte :=
  img.take i ++ bytes ++ img.drop (i + bytes.length)

/-- A code below `n`, or the free one that an undefined code acts as. -/
def codeBelow (n c : Nat) : Nat := if c < n then c else Config.undefinedCode c % n

/-- A bit of a byte. -/
def bitAt (b : Byte) (i : Nat) : Bool := b.getLsbD i

/-! ## ROUTES (table 0) -/

/-- The segment of a zero-based port index. -/
def segOfIndex : Nat → Seg
  | 0 => .sp1
  | 1 => .sp2
  | 2 => .sp3
  | _ => .sp4

/-- A segment number: 1 to 4 are defined (Table 1-4). -/
def segOfNumber (n : Nat) : Seg :=
  if 1 ≤ n ∧ n ≤ 4 then segOfIndex (n - 1) else segOfIndex (Config.undefinedCode n % 4)

/-- The bay gate of an entry's flags (bits 3 and 4). -/
def gateOfFlags (flags : Byte) : Option Bay :=
  match codeBelow 3 ((flags.toNat / 8) % 4) with
  | 1 => some .a
  | 2 => some .b
  | _ => none

/-- A guard rule's direction code. -/
def guardDirOf (c : Nat) : GuardDir :=
  match codeBelow 3 c with
  | 0 => .write
  | 1 => .read
  | _ => .both

/-- A guard rule's action code. -/
def guardActionOf (c : Nat) : GuardAction :=
  match codeBelow 5 c with
  | 0 => .pass
  | 1 => .refuse
  | 2 => .mask
  | 3 => .captureLevel
  | _ => .synthLevel

/-- The guard rule at an index (Table 12-3, table 1). -/
def guardRuleAt (guards : Image) (i : Nat) : GuardRule where
  low := byteAt guards (13 * i)
  high := byteAt guards (13 * i + 1)
  dir := guardDirOf (u8 guards (13 * i + 2))
  action := guardActionOf (u8 guards (13 * i + 3))
  mask := byteAt guards (13 * i + 4)
  fill := slice guards (13 * i + 5) 8

/-- The guard rules a list names: a run of consecutive rules in rising index order (R15). -/
def guardRun (guards : Image) (first count : Nat) : List GuardRule :=
  ((List.range count).filter fun k => first + k < 64).map fun k => guardRuleAt guards (first + k)

/-- The route entry of a place, if the place is not empty (R198). -/
def routeAt (t : Tables) (place : Nat) : Option RouteSnap :=
  let o := 12 * place
  let flags := byteAt t.routes (o + 3)
  if byteAt t.routes o = 0 then none
  else some
    { key := some (byteAt t.routes o)
      seg := segOfNumber (u8 t.routes (o + 1))
      down := byteAt t.routes (o + 2)
      engineOnly := bitAt flags 0
      writeProtect := bitAt flags 1
      checked := bitAt flags 2
      gate := gateOfFlags flags
      rules := if bitAt flags 5 then guardRun t.guards (u8 t.routes (o + 4)) (u8 t.routes (o + 5)) else []
      standIn := if bitAt flags 6 then some (slice t.routes (o + 7) (min 4 (u8 t.routes (o + 6)))) else none }

/-- The place of the entry with a key. Where a loaded or staged image holds the key twice, which R180 lets no commit do, it
is the lowest (DESIGN CHOICE, log entry 54). -/
def routePlace (routes : Image) (key : Byte) : Option Nat :=
  (List.range 32).find? fun p => byteAt routes (12 * p) != 0 && byteAt routes (12 * p) == key

/-- The route entry with a key (R8, R10). -/
def routeOf (t : Tables) (key : Byte) : Option RouteSnap := (routePlace t.routes key).bind (routeAt t)

/-- Pass window `w` matches an address (R9): its segment is not 0, and address and base agree where the mask has a 0. -/
def windowMatches (routes : Image) (w : Nat) (addr : Addr) : Bool :=
  let o := 384 + 4 * w
  byteAt routes (o + 2) != 0 &&
    (addrByte addr &&& ~~~byteAt routes (o + 1)) == (byteAt routes o &&& ~~~byteAt routes (o + 1))

/-- What a transaction that matched a pass window carries (R9). -/
def windowSnap (routes : Image) (w : Nat) (addr : Addr) : RouteSnap where
  key := none
  seg := segOfNumber (u8 routes (384 + 4 * w + 2))
  down := addrByte addr
  engineOnly := false
  writeProtect := codeBelow 2 (u8 routes (384 + 4 * w + 3)) == 1
  checked := false
  gate := none
  rules := []
  standIn := none

/-- The lookup of R8: the route table, then pass window 0, then pass window 1. -/
def lookupRoute (t : Tables) (addr : Addr) : Option RouteSnap :=
  match routeOf t (addrByte addr) with
  | some e => some e
  | none =>
    if windowMatches t.routes 0 addr then some (windowSnap t.routes 0 addr)
    else if windowMatches t.routes 1 addr then some (windowSnap t.routes 1 addr)
    else none

/-- The service address in force (R1, R173). -/
def serviceAddr (addrSelHigh : Bool) : Addr := if addrSelHigh then 0x2E else 0x2A

/-- A reserved upstream address: 0x00 to 0x07 and 0x78 to 0x7F (R1). -/
def reservedAddr (a : Addr) : Bool := a.toNat < 8 || 0x78 ≤ a.toNat

/-! ### Indicators (R23): bits 0 and 1 of byte 11 of an entry place -/

/-- ROUTES with a change made to the indicator byte of a place. -/
def mapIndicator (routes : Image) (place : Nat) (f : Byte → Byte) : Image :=
  putRun routes (12 * place + 11) [f (byteAt routes (12 * place + 11))]

/-- ROUTES with both indicators of every place clear. -/
def clearIndicatorBits (routes : Image) : Image :=
  (List.range 32).foldl (fun r p => mapIndicator r p fun b => b &&& 0xFC) routes

/-- ROUTES at a commit (R23, R181): an entry whose key, segment and downstream address are unchanged keeps its
indicators; every other place starts with both clear. -/
def carryIndicators (old new : Image) : Image :=
  (List.range 32).foldl (fun r p =>
    let key := byteAt new (12 * p)
    let kept := if key = 0 then 0 else
      match routePlace old key with
      | some q => if slice old (12 * q) 3 = slice new (12 * p) 3 then byteAt old (12 * q + 11) &&& 3 else 0
      | none => 0
    mapIndicator r p fun b => (b &&& 0xFC) ||| kept) new

/-! ## POLLS and SNOOPS (tables 2 and 3) -/

/-- The kind of a poll entry (Table 3-1); `admission` is ADMIT_A or ADMIT_B. -/
inductive PollKind | periodic | setup | admission (bay : Bay)
deriving DecidableEq, Repr

/-- A poll entry (Table 3-1). -/
structure PollEntry where
  kind : PollKind
  target : Byte
  write : Bool
  cmd : Byte
  length : Nat
  cls : TxnClass
  period : Nat
  phase : Nat
  data : List Byte
  descs : List Descriptor
deriving DecidableEq, Repr

/-- The field descriptor at an offset (Table 12-4). -/
def descriptorAt (img : Image) (o : Nat) : Descriptor where
  position := u8 img o
  length := u8 img (o + 1)
  signExtend := bitAt (byteAt img (o + 2)) 0
  shift := u8 img (o + 3)
  multiplier := i16 img (o + 4)
  offset := i32 img (o + 6)
  slot := Fin.ofNat 32 (codeBelow 32 (u8 img (o + 10)))
  low := i32 img (o + 11)
  high := i32 img (o + 15)

/-- A descriptor list; descriptors beyond the count are not read. -/
def descriptorList (img : Image) (o count : Nat) : List Descriptor :=
  (List.range (codeBelow 5 count)).map fun k => descriptorAt img (o + 19 * k)

/-- The kind a kind code names; 1 to 4 are defined. -/
def pollKindOf (c : Nat) : PollKind :=
  match codeBelow 4 (c - 1) with
  | 0 => .periodic
  | 1 => .setup
  | 2 => .admission .a
  | _ => .admission .b

/-- The poll entry of a place, if the place is not empty (R198). -/
def pollAt (polls : Image) (place : Nat) : Option PollEntry :=
  let o := 95 * place
  if byteAt polls o = 0 then none
  else some
    { kind := pollKindOf (u8 polls o)
      target := byteAt polls (o + 1)
      write := codeBelow 2 (u8 polls (o + 2)) == 0
      cmd := byteAt polls (o + 3)
      length := u8 polls (o + 4)
      cls := if codeBelow 2 (u8 polls (o + 5)) = 0 then .control else .poll
      period := u16 polls (o + 6)
      phase := u16 polls (o + 8)
      data := slice polls (o + 11) (min 8 (u8 polls (o + 4)))
      descs := descriptorList polls (o + 19) (u8 polls (o + 10)) }

/-- The poll entry of a place of the committed list. -/
def State.pollEntry (s : State) (place : Fin 24) : Option PollEntry := pollAt s.sru.committed.polls place.val

/-- A snoop binding: key, command and descriptors, if the place is not empty (R60, R198). -/
def snoopAt (snoops : Image) (place : Nat) : Option (Byte × Byte × List Descriptor) :=
  let o := 79 * place
  if byteAt snoops o = 0 then none
  else some (byteAt snoops o, byteAt snoops (o + 1), descriptorList snoops (o + 3) (u8 snoops (o + 2)))

/-- The places of the admission list of a bay (R98). -/
def admissionPlaces (polls : Image) (bay : Bay) : List (Fin 24) :=
  allPlaces.filter fun p => (pollAt polls p.val).any fun e => e.kind == .admission bay

/-- The segment a route key resolves to (R10). -/
def State.keySeg (s : State) (key : Byte) : Option Seg := (routeOf s.sru.committed key).map (·.seg)

/-! ## SLOTS (table 4) -/

/-- The freshness limit of a slot (R62). -/
def freshnessLimit (slots : Image) (i : Fin 32) : Nat := u16 slots (2 * i.val)

/-! ## LIGHT (table 5) -/

/-- The brightness parameters (Table 7-8) with the two curves. -/
structure Light where
  frontK : Nat
  rearK : Nat
  weight : Nat
  frontStatus : Nat
  rearStatus : Nat
  frontMask : Nat
  rearMask : Nat
  alphaUp : Nat
  alphaDown : Nat
  period : Nat
  nMin : Nat
  nMax : Nat
  rUp : Nat
  rDown : Nat
  hysteresis : Nat
  start : Nat
  driverKey : Byte
  command : Byte
  curveCount : Nat
  curve : List (Nat × Nat)
  powerCount : Nat
  power : List (Nat × Nat)
deriving DecidableEq, Repr

/-- The points of a curve. -/
def curvePoints (img : Image) (o count : Nat) : List (Nat × Nat) :=
  (List.range count).map fun k => (u16 img (o + 4 * k), u16 img (o + 4 * k + 2))

/-- LIGHT by its fields (Table 12-3, table 5). -/
def lightOf (img : Image) : Light where
  frontK := u16 img 0
  rearK := u16 img 2
  weight := u8 img 4
  frontStatus := u8 img 5
  rearStatus := u8 img 6
  frontMask := u16 img 7
  rearMask := u16 img 9
  alphaUp := u16 img 11
  alphaDown := u16 img 13
  period := u16 img 15
  nMin := u16 img 17
  nMax := u16 img 19
  rUp := u16 img 21
  rDown := u16 img 23
  hysteresis := u16 img 25
  start := u16 img 27
  driverKey := byteAt img 29
  command := byteAt img 30
  curveCount := u8 img 31
  curve := curvePoints img 32 (min 16 (u8 img 31))
  powerCount := u8 img 96
  power := curvePoints img 97 (min 8 (u8 img 96))

/-- The brightness parameters in force. -/
def State.light (s : State) : Light := lightOf s.sru.committed.light

/-! ## SUPPLY (table 6) -/

/-- The power, bay and classifier parameters (Tables 4-6, 5-4 and 6-5). -/
structure Supply where
  balance : Bool
  first : Bay
  reserve : Nat
  margin : Nat
  dwell : Nat
  window : Nat
  cutoff : Nat
  temperature : Nat
  bridgeLow : Nat
  bridgeTime : Nat
  debounce : Nat
  seat : Nat
  identify : Nat
  faultMask : Nat
  high : Nat
  crit : Nat
  hyst : Nat
  mains : Nat
  packHigh : Nat
  packLow : Nat
  packCritical : Nat
  bridge : Nat
deriving DecidableEq, Repr

/-- SUPPLY by its fields (Table 12-3, table 6). -/
def supplyOf (img : Image) : Supply where
  balance := codeBelow 2 (u8 img 0) == 1
  first := if codeBelow 2 (u8 img 1) = 0 then .a else .b
  reserve := u32 img 2
  margin := u32 img 6
  dwell := u16 img 10
  window := u16 img 12
  cutoff := u16 img 14
  temperature := u16 img 16
  bridgeLow := u16 img 18
  bridgeTime := u16 img 20
  debounce := u8 img 22
  seat := u16 img 23
  identify := u16 img 25
  faultMask := u16 img 27
  high := u32 img 29
  crit := u32 img 33
  hyst := u32 img 37
  mains := u16 img 41
  packHigh := u16 img 43
  packLow := u16 img 45
  packCritical := u16 img 47
  bridge := u16 img 49

/-- The supply parameters in force (R90). -/
def State.supply (s : State) : Supply := supplyOf s.sru.supplyForce

/-! ## MOTION (table 7) -/

/-- The motion parameters (Table 8-6). -/
structure MotionParams where
  key : Byte
  command : Byte
  fall : Nat
  fallCount : Nat
  impact : Nat
  window : Nat
  low : Nat
  high : Nat
  settleCount : Nat
  fallLimit : Nat
  settleLimit : Nat
  parkHold : Nat
  shockHold : Nat
deriving DecidableEq, Repr

/-- MOTION by its fields (Table 12-3, table 7). -/
def motionOf (img : Image) : MotionParams where
  key := byteAt img 0
  command := byteAt img 1
  fall := u16 img 2
  fallCount := u8 img 4
  impact := u16 img 5
  window := u8 img 7
  low := u16 img 8
  high := u16 img 10
  settleCount := u16 img 12
  fallLimit := u16 img 14
  settleLimit := u16 img 16
  parkHold := u16 img 18
  shockHold := u16 img 20

/-- The motion parameters in force (R172). -/
def State.motionParams (s : State) : MotionParams := motionOf s.sru.motionForce

/-! ## The tables by number (Table 9-2) -/

/-- A table image by its number. -/
def tableImage (t : Tables) : Nat → Image
  | 0 => t.routes
  | 1 => t.guards
  | 2 => t.polls
  | 3 => t.snoops
  | 4 => t.slots
  | 5 => t.light
  | 6 => t.supply
  | _ => t.motion

/-- The tables with one image replaced. -/
def setTable (t : Tables) (n : Nat) (img : Image) : Tables :=
  match n with
  | 0 => { t with routes := img }
  | 1 => { t with guards := img }
  | 2 => { t with polls := img }
  | 3 => { t with snoops := img }
  | 4 => { t with slots := img }
  | 5 => { t with light := img }
  | 6 => { t with supply := img }
  | _ => { t with motion := img }

/-- The fixed size of a table image (Table 12-3). -/
def tableSize : Nat → Nat
  | 0 => 392
  | 1 => 832
  | 2 => 2280
  | 3 => 1264
  | 4 => 64
  | 5 => 129
  | 6 => 51
  | _ => 22

/-- Each of the eight tables taken from `new` where the mask names it, and from `old` elsewhere. -/
def maskTables (mask : Byte) (old new : Tables) : Tables where
  routes := if bitAt mask 0 then new.routes else old.routes
  guards := if bitAt mask 1 then new.guards else old.guards
  polls := if bitAt mask 2 then new.polls else old.polls
  snoops := if bitAt mask 3 then new.snoops else old.snoops
  slots := if bitAt mask 4 then new.slots else old.slots
  light := if bitAt mask 5 then new.light else old.light
  supply := if bitAt mask 6 then new.supply else old.supply
  motion := if bitAt mask 7 then new.motion else old.motion

/-- The tables cut from a run of image bytes (section 12.3). -/
def tablesOf (bytes : List Byte) : Tables where
  routes := slice bytes 0 392
  guards := slice bytes 392 832
  polls := slice bytes 1224 2280
  snoops := slice bytes 3504 1264
  slots := slice bytes 4768 64
  light := slice bytes 4832 129
  supply := slice bytes 4961 51
  motion := slice bytes 5012 22

end Sys2Proof.Machine
end

