-- ==== Sys2Proof/Machine/Notices.lean ====
section
/-!
DEFINITION. The Notice Queue: posting, merging and overflow (R185 to R188), and the ALERT_N line (R190).
-/

namespace Sys2Proof.Machine

/-- The most notice records the queue holds (R186). -/
def noticeLimit : Nat := 16

/-- A severity is at or above a level. -/
def atOrAbove (level x : Severity) : Bool := severityCode level ≤ severityCode x

/-- The higher of two severities. -/
def maxSeverity (x y : Severity) : Severity := if severityCode x ≤ severityCode y then y else x

/-- ALERT_N is driven low while the queue holds a record at or above the alert level (R190). -/
def Ntq.alert (q : Ntq) : Ntq := { q with alertLow := q.queue.any fun n => atOrAbove q.alertLevel n.severity }

/-- The record a post becomes (R185). -/
def noticeOf (seq : Half) (now : Time) (p : Post) : Notice where
  seq := seq
  time := now
  kind := p.kind
  severity := p.severity
  subject := p.subject
  repeats := 1
  arg1 := p.arg1
  arg2 := p.arg2

/-- A record is of the post's kind and subject. -/
def sameNotice (p : Post) (n : Notice) : Bool := n.kind == p.kind && n.subject == p.subject

/-- The post merged into a record of its kind and subject (R187, step 1). -/
def mergeInto (now : Time) (p : Post) (n : Notice) : Notice :=
  { n with
    repeats := satAdd n.repeats 255
    time := now
    severity := maxSeverity n.severity p.severity
    arg1 := p.arg1
    arg2 := p.arg2 }

/-- A change made to the first record that meets a test. -/
def changeFirst (test : Notice → Bool) (f : Notice → Notice) : List Notice → List Notice
  | [] => []
  | n :: ns => if test n then f n :: ns else n :: changeFirst test f ns

/-- A change made to the newest record that meets a test. -/
def changeNewest (test : Notice → Bool) (f : Notice → Notice) (queue : List Notice) : List Notice :=
  (changeFirst test f queue.reverse).reverse

/-- The oldest record that meets a test, taken out. -/
def dropOldest (test : Notice → Bool) (queue : List Notice) : List Notice := queue.eraseP test

/-- The queue and the overflow mark after a post reaches a full queue (R187). -/
def postFull (now : Time) (seq : Half) (p : Post) (queue : List Notice) (overflow : Bool) : List Notice × Bool :=
  if queue.any (sameNotice p) then (changeNewest (sameNotice p) (mergeInto now p) queue, overflow)
  else if queue.any fun n => n.severity == .info then
    (dropOldest (fun n => n.severity == .info) queue ++ [noticeOf seq now p], true)
  else if p.severity == .info then (queue, true)
  else if queue.any fun n => n.severity == .warn then
    (dropOldest (fun n => n.severity == .warn) queue ++ [noticeOf seq now p], true)
  else if p.severity == .warn then (queue, true)
  else (changeNewest (fun _ => true) (fun n => { n with repeats := satAdd n.repeats 255, time := now }) queue, true)

/-- A post reaches the queue: it takes the next sequence number (R185), joins a queue of fewer than 16 records (R186),
or is handled by R187. -/
def Ntq.post (q : Ntq) (now : Time) (p : Post) : Ntq :=
  let r := if q.queue.length < noticeLimit then (q.queue ++ [noticeOf q.seq now p], q.overflow)
    else postFull now q.seq p q.queue q.overflow
  Ntq.alert { q with queue := r.1, overflow := r.2, seq := q.seq + 1 }

/-- A block raises a notice. -/
def State.notify (s : State) (p : Post) : State := { s with ntq := s.ntq.post s.now p }

/-- The queue emptied and the overflow mark cleared at a SOFT_RESET (R184, R186, R188). -/
def Ntq.emptied (q : Ntq) : Ntq := Ntq.alert { q with queue := [], overflow := false }

/-- The records a fetch takes (R189). -/
def Ntq.taken (q : Ntq) (count : Nat) : List Notice := q.queue.take count

/-- The queue after a fetch (R189): nothing changes under the peek flag. -/
def Ntq.fetched (q : Ntq) (count : Nat) (peek : Bool) : Ntq :=
  if peek then q else Ntq.alert { q with queue := q.queue.drop count, overflow := false }

/-- A new alert level, which ALERT_N follows at once (R190). -/
def Ntq.withLevel (q : Ntq) (level : Severity) : Ntq := Ntq.alert { q with alertLevel := level }

end Sys2Proof.Machine
end

