-- ==== Sys2Proof/Machine/Telemetry.lean ====
section
/-!
DEFINITION. Field descriptors (R56 to R58), the telemetry slots (R62 to R65), the implausible counts (R59) and the snoop
hand-off (R60).
-/

namespace Sys2Proof.Machine

/-! ## Descriptor arithmetic (R56, R57) -/

/-- The response bit string as a number: bit 0 is the least significant bit of the first byte (R56). -/
def bitString (data : List Byte) : Nat := data.foldr (fun b n => b.toNat + 256 * n) 0

/-- The extracted field F, or none for OUT_OF_FRAME (R56). -/
def extractField (d : Descriptor) (data : List Byte) : Option Int :=
  if 8 * data.length < d.position + d.length then none
  else
    let n := bitString data / 2 ^ d.position % 2 ^ d.length
    some (if d.signExtend then signed d.length n else n)

/-- The sum of stage 3 before it saturates (R57): scaled, shifted toward minus infinity, offset. -/
def scaleField (d : Descriptor) (f : Int) : Int := (f * d.multiplier) / (2 ^ d.shift : Nat) + d.offset

/-- A number lies in the range of a slot value. -/
def inSlotRange (v : Int) : Bool := -2147483648 ≤ v && v ≤ 2147483647

/-- What the descriptor's arithmetic gives: its result, taken as WRITTEN when the value is plausible, and the value. -/
def descriptorValue (d : Descriptor) (data : List Byte) : DescResult × Int :=
  match extractField d data with
  | none => (.outOfFrame, 0)
  | some f =>
    let v := scaleField d f
    if !inSlotRange v then (.saturated, v)
    else if v < d.low ∨ d.high < v then (.implausible, v)
    else (.written, v)

/-- Writes to a slot are refused: it is bound to a bay that is EMPTY or SEATED (R63). -/
def State.noPack (s : State) (slot : Fin 32) : Bool :=
  match slotBay slot with
  | some i => (s.bay i).state == .empty || (s.bay i).state == .seated
  | none => false

/-- The one result a descriptor ends with (R58). -/
def State.descriptorResult (s : State) (d : Descriptor) (data : List Byte) : DescResult :=
  match (descriptorValue d data).1 with
  | .written => if s.noPack d.slot then .noPack else .written
  | r => r

/-- The slot after a write (R63). -/
def writtenSlot (v : Int) (now : Time) (source : SlotSource) : Slot where
  state := .fresh
  value := v
  time := some now
  source := some source
  implausible := 0

/-- An IMPLAUSIBLE result advances the slot's count; the third raises the notice (R59). -/
def countImplausible (source : SlotSource) (place : Nat) (slot : Fin 32) (v : Int) (s : State) : State :=
  let r := s.slot slot
  let counted := s.setSlot slot { r with implausible := satAdd r.implausible 3 }
  if r.implausible = 2 then
    counted.notify
      { kind := .telemetryImplausible, severity := .warn, subject := slot.val
        arg1 := slotSourceCode source * 256 + place, arg2 := v }
  else counted

/-- A field descriptor runs on a response (R57, R58). -/
def runDescriptor (source : SlotSource) (place : Nat) (d : Descriptor) (data : List Byte) (s : State) : Act :=
  match s.descriptorResult d data with
  | .written =>
    (s.setSlot d.slot (writtenSlot (descriptorValue d data).2 s.now source), [.slotWritten d.slot (s.slot d.slot)])
  | .implausible => (countImplausible source place d.slot (descriptorValue d data).2 s, [])
  | .outOfFrame => (s, [])
  | .saturated => (s, [])
  | .noPack => (s, [])

/-- The descriptor runs of one response, in list order (R58). -/
def descriptorTasks (source : SlotSource) (place : Nat) (ds : List Descriptor) (data : List Byte) : List Task :=
  ds.map fun d => .descriptor source place d data

/-- The snoop bindings a hand-off matches run in rising place order (R60). -/
def snoopTasks (s : State) (key cmd : Byte) (data : List Byte) : List Task :=
  (List.range 16).flatMap fun p =>
    match snoopAt s.sru.committed.snoops p with
    | some (k, c, ds) => if k = key ∧ c = cmd then descriptorTasks .snoop p ds data else []
    | none => []

/-! ## Freshness (R64, R65) -/

/-- A FRESH slot's age exceeds its freshness limit. -/
def State.expired (s : State) (slot : Fin 32) : Bool :=
  let limit := freshnessLimit s.sru.committed.slots slot
  let r := s.slot slot
  r.state == .fresh && limit != 0 && (match r.time with | some t => limit < age s.now t | none => false)

/-- A slot becomes STALE and keeps its value, time and source (R64). -/
def makeStale (slot : Fin 32) (s : State) : Act :=
  (s.setSlot slot { s.slot slot with state := .stale }, [.slotLapsed slot])

/-- The freshness limits switch: every FRESH slot older than its new limit becomes STALE (R64). Then the readers are told,
in rising slot order (DESIGN CHOICE, log entry 56). -/
def switchLimits (s : State) : Act :=
  let lapsed := (List.finRange 32).filter fun i => s.expired i
  (lapsed.foldl (fun s i => (makeStale i s).1) s, lapsed.map Task.slotLapsed)

/-- A bay's five slots become NEVER (R65); the readers are told of those that change. -/
def clearBaySlots (bay : Bay) (s : State) : Act :=
  ((baySlots bay).foldl (fun s i => s.setSlot i Slot.reset) s,
    ((baySlots bay).filter fun i => (s.slot i).state != .never).map Task.slotLapsed)

/-- A slot is FRESH. -/
def State.fresh (s : State) (slot : Fin 32) : Bool := (s.slot slot).state == .fresh

end Sys2Proof.Machine
end

