-- ==== Sys2Proof/Machine/Ports.lean ====
section
/-!
DEFINITION. The segment ports (Chapter 2): placement, the arbiter, execution, recovery, suspension, isolation, the commit
hold and SOFT_RESET.
-/

namespace Sys2Proof.Machine

/-- The most engine transactions a port holds (R28). -/
def queueLimit : Nat := 8

/-- The transaction time limit in ms (R36). -/
def txnLimit : Nat := 25

/-- The recovery time in ms (R37). -/
def recoveryTime : Nat := 1

/-- The suspension time in ms (R39). -/
def suspensionTime : Nat := 1000

/-! ## Placement (R29 to R31) -/

/-- The port's arbiter may be asked at once after a placement or a hand-in. -/
def boundaryIfIdle (p : Port) (seg : Seg) : List Task := if p.state = .idle then [.boundary seg] else []

/-- A transaction joins the queue with the next arrival number (R29). -/
def Port.join (p : Port) (t : EngTxn) : Port :=
  { p with queue := p.queue ++ [{ t with arrival := p.arrival, passedOver := 0 }], arrival := p.arrival + 1 }

/-- The queued transaction that makes room for a MOTION transaction (R31): the oldest POLL, else the oldest CONTROL. -/
def evictee (queue : List EngTxn) : Option EngTxn :=
  match queue.find? fun t => t.cls == .poll with
  | some t => some t
  | none => queue.find? fun t => t.cls == .control

/-- The queue without the transaction of an arrival number. -/
def withoutArrival (queue : List EngTxn) (n : Nat) : List EngTxn := queue.eraseP fun t => t.arrival == n

/-- A transaction completes ABSENT to its issuer, with a reason where R30 or R31 gives one. -/
def absentTask (seg : Seg) (reason : Option AbsentReason) (t : EngTxn) : Task := .engineDone seg t .absent reason []

/-- The transactions of a queue complete ABSENT to their issuers, in arrival order. -/
def absentTasks (seg : Seg) (queue : List EngTxn) : List Task := queue.map (absentTask seg none)

/-- A waiting pass-lane transaction completes ABSENT. -/
def absentLane (lane : Option LaneTxn) : List Task :=
  match lane with
  | some t => [.laneDone t .absent [] 0]
  | none => []

/-- An issuer places an engine transaction (R29 to R31). At a full queue a MOTION transaction removes a victim, which
completes ABSENT with reason EVICTED, and then joins; any other is refused with reason FULL. What the completion starts may
fill the place again: the placement is then made again, and may remove a second one (DESIGN CHOICE, log entry 55). -/
def placeEngine (seg : Seg) (t : EngTxn) (s : State) : Act :=
  let p := s.port seg
  if p.state = .suspended ∨ p.state = .isolated then (s, [absentTask seg none t])
  else if p.queue.length < queueLimit then (s.setPort seg (p.join t), boundaryIfIdle p seg)
  else if t.cls = .motion then
    match evictee p.queue with
    | some v =>
      (s.setPort seg { p with queue := withoutArrival p.queue v.arrival },
        [absentTask seg (some .evicted) v, .place seg t])
    | none => (s, [absentTask seg (some .full) t])
  else (s, [absentTask seg (some .full) t])

/-- The ULI hands a transaction into its pass lane; at a SUSPENDED or ISOLATED port it completes ABSENT at once
(R39, R40). -/
def handIntoLane (t : LaneTxn) (s : State) : Act :=
  let seg := t.snap.seg
  let p := s.port seg
  if p.state = .suspended ∨ p.state = .isolated then (s, [.laneDone t .absent [] 0])
  else (s.setPort seg { p with lane := some t }, boundaryIfIdle p seg)

/-! ## The arbiter (R32 to R34) -/

/-- What the arbiter has selected. -/
inductive Selection
  | lane (t : LaneTxn)
  | engine (t : EngTxn)
deriving DecidableEq, Repr

/-- The first queued transaction of a class; the queue stands in arrival order. -/
def firstOf (cls : TxnClass) (queue : List EngTxn) : Option EngTxn := queue.find? fun t => t.cls == cls

/-- The arbiter's choice (R32): MOTION, then the pass lane, then CONTROL, then POLL; under a commit hold MOTION alone. -/
def Port.select (p : Port) : Option Selection :=
  match firstOf .motion p.queue with
  | some t => some (.engine t)
  | none =>
    if p.mark != .none then none
    else match p.lane with
      | some t => some (.lane t)
      | none =>
        match firstOf .control p.queue with
        | some t => some (.engine t)
        | none => (firstOf .poll p.queue).map .engine

/-- A waiting POLL transaction is passed over; the fourth time it becomes CONTROL (R33). -/
def passOver (t : EngTxn) : EngTxn :=
  if t.cls = .poll then
    { t with passedOver := t.passedOver + 1, cls := if t.passedOver + 1 < 4 then .poll else .control }
  else t

/-- A held port at which no MOTION transaction waits becomes READY (R42). -/
def Port.readyMark (p : Port) : HoldMark :=
  if p.mark = .held ∧ (firstOf .motion p.queue).isNone then .ready else p.mark

/-- The issuer is told that its transaction starts (R47, R144). -/
def tellStart (t : EngTxn) (s : State) : State :=
  match t.issuer with
  | .ple tag => if tag.orphan then s else s.setPoll tag.place { s.poll tag.place with state := .inFlight }
  | .brc =>
    match s.brc.write with
    | .queued c => { s with brc := { s.brc with write := .executing c } }
    | .none => s
    | .executing _ => s
  | .mtu => s

/-- The written indicator of the entry a host write is dispatched on (R23): the committed entry that still has the
snapshot's key, segment and downstream address (log entry 21). -/
def markWritten (t : LaneTxn) (s : State) : State :=
  match t.snap.key with
  | none => s
  | some key =>
    match routePlace s.sru.committed.routes key, routeOf s.sru.committed key with
    | some p, some e =>
      if t.write ∧ e.seg = t.snap.seg ∧ e.down = t.snap.down then
        { s with sru := { s.sru with committed := { s.sru.committed with
          routes := mapIndicator s.sru.committed.routes p fun b => b ||| 2 } } }
      else s
    | _, _ => s

/-- A transaction boundary (R32): the port may become READY, and the arbiter selects; a selected transaction whose bay
gate is closed completes ABSENT without starting and the port goes on to the next boundary (R34). -/
def atBoundary (seg : Seg) (s : State) : Act :=
  let p := s.port seg
  if p.state != .idle then (s, [])
  else
    let p := { p with mark := p.readyMark }
    match p.select with
    | none => (s.setPort seg p, [])
    | some (.engine t) =>
      let q := (withoutArrival p.queue t.arrival).map passOver
      if s.gateClosed t.gate then
        (s.setPort seg { p with queue := q }, [absentTask seg none t, .boundary seg])
      else
        (tellStart t (s.setPort seg { p with queue := q, state := .busy, running := some (.engine t, s.now) }), [])
    | some (.lane t) =>
      let q := p.queue.map passOver
      if s.gateClosed t.snap.gate then
        (s.setPort seg { p with queue := q, lane := none }, [.laneDone t .absent [] 0, .boundary seg])
      else
        (markWritten t (s.setPort seg { p with queue := q, state := .busy, running := some (.lane, s.now) }), [])

/-! ## Execution (R35, R36) -/

/-- The bytes a port reads: as many as the read length; a byte the device does not drive reads 0xFF. -/
def received (n : Nat) (data : List Byte) : List Byte := (List.range n).map fun i => data.getD i 0xFF

/-- A started transaction as Table 2-3 drives it: `sentTrailer` is the trailer of a checked write. -/
structure WireTxn where
  write : Bool
  down : Byte
  cmd : Byte
  data : List Byte
  sentTrailer : Option Byte
  readLen : Nat
  checked : Bool
deriving DecidableEq, Repr

/-- An engine transaction on the segment; the port computes the trailer of a checked write (R35). -/
def EngTxn.form (t : EngTxn) : WireTxn where
  write := t.write
  down := t.down
  cmd := t.cmd
  data := t.data
  sentTrailer := if t.checked then some (writeTrailer t.down t.cmd t.data) else none
  readLen := t.readLen
  checked := t.checked

/-- A pass-lane transaction on the segment; the RGU computed the trailer of a checked write (R21), and a held read reads
32 data bytes (R6). -/
def LaneTxn.form (t : LaneTxn) : WireTxn where
  write := t.write
  down := t.snap.down
  cmd := t.cmd
  data := t.data
  sentTrailer := t.trailer
  readLen := 32
  checked := t.snap.checked

/-- The bytes the port drives, in order (Table 2-3). -/
def WireTxn.driven (f : WireTxn) : List Byte :=
  if f.write then [addressByte f.down false, f.cmd] ++ f.data ++ f.sentTrailer.toList
  else [addressByte f.down false, f.cmd, addressByte f.down true]

/-- The first `n` driven bytes on the segment, after their start; a read's second address byte follows a repeated start.
The device acknowledges those below `acked`. -/
def WireTxn.opening (f : WireTxn) (n acked : Nat) : List BusItem :=
  .start :: (List.range n).flatMap fun i =>
    (if !f.write && i == 2 then [.restart] else []) ++ [.sent (f.driven.getD i 0) (decide (i < acked))]

/-- The bytes the device drives in a read: the port acknowledges each byte but the last (Table 2-3). -/
def takenItems (bytes : List Byte) : List BusItem :=
  (List.range bytes.length).map fun i => .taken (bytes.getD i 0) (decide (i + 1 < bytes.length))

/-- A whole exchange on the segment (Table 2-3). -/
def WireTxn.exchange (f : WireTxn) (bytes : List Byte) (trailer : Byte) : List BusItem :=
  f.opening f.driven.length f.driven.length ++
    (if f.write then [] else takenItems (bytes ++ (if f.checked then [trailer] else []))) ++ [.stop]

/-- The outcome of an exchange (R35): a checked read whose trailer does not match is CRC_BAD. -/
def exchangeOutcome (write checked : Bool) (down cmd : Byte) (data : List Byte) (trailer : Byte) : TxOutcome :=
  if !write && checked && trailer != readTrailer down cmd data then .crcBad else .done

/-- The outcome of a driven byte that is not acknowledged (R35): NACK_TARGET for an address byte, else NACK_DATA. -/
def WireTxn.nackOutcome (f : WireTxn) (byte : Nat) : TxOutcome :=
  if byte = 0 ∨ (f.write = false ∧ byte = 2) then .nackTarget else .nackData

/-- What a transaction that reaches its stop ends with: its outcome, the bytes of a read with the trailer received, and
what the port put on the segment. -/
structure WireEnd where
  outcome : TxOutcome
  data : List Byte
  trailer : Byte
  wire : List BusItem
deriving DecidableEq, Repr

/-- The end of a transaction (R35): at a byte that is not acknowledged the port issues a stop at once; a byte the port
does not drive cannot be refused. -/
def WireTxn.finish (f : WireTxn) : DeviceAnswer → Option WireEnd
  | .notAcknowledged byte =>
    if byte < f.driven.length then
      some { outcome := f.nackOutcome byte, data := [], trailer := 0, wire := f.opening (byte + 1) byte ++ [.stop] }
    else none
  | .exchanged data trailer =>
    let bytes := if f.write then [] else received f.readLen data
    some
      { outcome := exchangeOutcome f.write f.checked f.down f.cmd bytes trailer
        data := bytes
        trailer := trailer
        wire := f.exchange bytes trailer }

/-- The port after the executing transaction has reached its stop (R35, R38): the lane is free and the count 0; it is
IDLE when the completion has been delivered. -/
def Port.ended (p : Port) (wire : List BusItem) : Port :=
  { p with
    running := none
    wire := wire
    lane := if p.running.any (fun r => r.1 == .lane) then none else p.lane
    timeouts := 0
    clearCount := false }

/-- The executing transaction reaches its stop (R35). -/
def completeRunning (seg : Seg) (answer : DeviceAnswer) (s : State) : Act :=
  let p := s.port seg
  match p.running, p.lane with
  | some (.engine t, _), _ =>
    match t.form.finish answer with
    | some e => (s.setPort seg (p.ended e.wire), [.engineDone seg t e.outcome none e.data, .portIdle seg])
    | none => (s, [])
  | some (.lane, _), some t =>
    match t.form.finish answer with
    | some e => (s.setPort seg (p.ended e.wire), [.laneDone t e.outcome e.data e.trailer, .portIdle seg])
    | none => (s, [])
  | _, _ => (s, [])

/-- The port returns to IDLE, which is a boundary (R35). -/
def returnToIdle (seg : Seg) (s : State) : Act :=
  let p := s.port seg
  if p.state = .busy ∧ p.running.isNone then (s.setPort seg { p with state := .idle }, [.boundary seg]) else (s, [])

/-- The port after a TIMEOUT (R36, R38): RECOVERING for 1 ms, the count advanced to at most 3. -/
def Port.timedOut (p : Port) (now : Time) : Port :=
  { p with
    state := .recovering
    running := none
    lane := if p.running.any (fun r => r.1 == .lane) then none else p.lane
    timeouts := if p.clearCount then 0 else satAdd p.timeouts 3
    clearCount := false
    recovery := some { start := now, dur := recoveryTime } }

/-- The executing transaction's time limit has passed (R36). -/
def limitPassed (p : Port) (now : Time) : Bool :=
  match p.running with
  | some (_, t) => txnLimit ≤ age now t
  | none => false

/-- The time limit expires: TIMEOUT, no bytes, RECOVERING (R36). -/
def timeOutRunning (seg : Seg) (s : State) : Act :=
  let p := s.port seg
  if !limitPassed p s.now then (s, [])
  else match p.running, p.lane with
    | some (.engine t, _), _ => (s.setPort seg (p.timedOut s.now), [.engineDone seg t .timeout none []])
    | some (.lane, _), some t => (s.setPort seg (p.timedOut s.now), [.laneDone t .timeout [] 0])
    | _, _ => (s, [])

/-! ## Recovery and suspension (R37 to R39) -/

/-- What a recovery puts on the segment (R37): nine clock pulses with the data line released, then a stop. -/
def recoveryItems : List BusItem := List.replicate 9 .clock ++ [.stop]

/-- A held port that leaves traffic behind is READY (R43). -/
def readyIfHeld (m : HoldMark) : HoldMark := if m = .held then .ready else m

/-- The port after entering SUSPENDED (R39). -/
def Port.suspended (p : Port) (now : Time) : Port :=
  { p with
    state := .suspended
    queue := []
    lane := none
    recovery := none
    suspension := some { start := now, dur := suspensionTime }
    wire := recoveryItems
    mark := readyIfHeld p.mark }

/-- Recovery ends (R37): IDLE below three timeouts, SUSPENDED at three. -/
def endRecovery (seg : Seg) (s : State) : Act :=
  let p := s.port seg
  if p.state != .recovering || !timerDue s.now p.recovery then (s, [])
  else if p.timeouts < 3 then (s.setPort seg { p with state := .idle, recovery := none, wire := recoveryItems }, [.boundary seg])
  else
    (s.setPort seg (p.suspended s.now),
      absentTasks seg p.queue ++ absentLane p.lane ++
        [.post { kind := .segmentSuspended, severity := .warn, subject := segNumber seg
                 arg1 := p.queue.length, arg2 := 0 }])

/-- The suspension ends (R39). -/
def endSuspension (seg : Seg) (s : State) : Act :=
  let p := s.port seg
  if p.state != .suspended || !timerDue s.now p.suspension then (s, [])
  else
    ((s.setPort seg { p with state := .idle, suspension := none, timeouts := 0 }).notify
        { kind := .segmentResumed, severity := .info, subject := segNumber seg, arg1 := 0, arg2 := 0 },
      [.setupSegment seg, .boundary seg])

/-! ## Isolation (R40, R41) -/

/-- The port after entering ISOLATED. -/
def Port.isolated (p : Port) : Port :=
  { p with
    state := .isolated
    queue := []
    lane := none
    running := none
    timeouts := 0
    recovery := none
    suspension := none
    clearCount := false
    isoClosed := false
    mark := readyIfHeld p.mark }

/-- The executing transaction ends LOST (R41). -/
def lostTasks (seg : Seg) (p : Port) : List Task :=
  match p.running, p.lane with
  | some (.engine t, _), _ => [.engineDone seg t .lost none []]
  | some (.lane, _), some t => [.laneDone t .lost [] 0]
  | _, _ => []

/-- A pass-lane transaction that waits and does not execute. -/
def Port.waitingLane (p : Port) : Option LaneTxn := if p.running.any (fun r => r.1 == .lane) then none else p.lane

/-- A bay port opens its isolation switch: LOST for the executing transaction, ABSENT for the others (R40, R41). -/
def isolatePort (seg : Seg) (s : State) : Act :=
  let p := s.port seg
  (s.setPort seg p.isolated, lostTasks seg p ++ absentTasks seg p.queue ++ absentLane p.waitingLane)

/-- A bay port closes its isolation switch and recovers (R40). -/
def connectPort (seg : Seg) (s : State) : Act :=
  let p := s.port seg
  (s.setPort seg { p with state := .recovering, isoClosed := true, recovery := some (timerNow s recoveryTime) },
    [.setupSegment seg])

/-! ## Commit hold and SOFT_RESET (R42 to R44) -/

/-- A port is placed in commit hold (R42): READY at once in IDLE, SUSPENDED and ISOLATED. -/
def Port.hold (p : Port) : Port :=
  { p with mark :=
      if p.state = .suspended ∨ p.state = .isolated ∨ (p.state = .idle ∧ (firstOf .motion p.queue).isNone) then .ready
      else .held }

/-- The commit hold ends; an IDLE port reaches a boundary (R42). -/
def unholdPort (seg : Seg) (s : State) : Act :=
  let p := s.port seg
  (s.setPort seg { p with mark := .none }, boundaryIfIdle p seg)

/-- The port after SOFT_RESET (R44): the queue emptied, SUSPENDED cleared, the count 0, or 0 at the completion of the
executing transaction. -/
def Port.softReset (p : Port) : Port :=
  { p with
    queue := []
    state := if p.state = .suspended then .idle else p.state
    suspension := none
    clearCount := p.clearCount || p.state == .busy
    timeouts := if p.state = .busy then p.timeouts else 0 }

/-- SOFT_RESET reaches a port (R44). -/
def resetPort (seg : Seg) (s : State) : Act :=
  let p := s.port seg
  (s.setPort seg p.softReset, absentTasks seg p.queue ++ boundaryIfIdle p.softReset seg)

end Sys2Proof.Machine
end

