-- ==== Sys2Proof/Machine/Polls.lean ====
section
/-!
DEFINITION. The Poll Engine (Chapter 3): running and placing entries, completions, the PERIODIC, SETUP and ADMIT rules, and
a change of the poll list.
-/

namespace Sys2Proof.Machine

/-- The source a poll entry's kind gives its writes (R58). -/
def kindSource : PollKind → SlotSource
  | .periodic => .poll
  | .setup => .poll
  | .admission _ => .admission

/-- The delay before a failed SETUP run falls due again, in ms (R53). -/
def setupRetry : Nat := 100

/-! ## Placing (R48) -/

/-- The engine transaction of an entry on a resolved route entry (Table 2-2); the port gives the arrival number. A read
length outside 1 to 32, which a loaded image may hold (R191), is taken as it stands (DESIGN CHOICE, log entry 40). -/
def pollTxn (place : Fin 24) (e : PollEntry) (r : RouteSnap) : EngTxn where
  issuer := .ple { place := place, source := kindSource e.kind, descs := e.descs, orphan := false }
  cls := e.cls
  arrival := 0
  passedOver := 0
  gate := r.gate
  write := e.write
  down := r.down
  cmd := e.cmd
  data := if e.write then e.data else []
  readLen := if e.write then 0 else e.length
  checked := r.checked

/-- A placement fails for want of a route (R48, step 1). -/
def PollStatus.noRoute (p : PollStatus) : PollStatus :=
  { p with lastOutcome := some .noRoute, failures := satAdd p.failures 255 }

/-- A SETUP run stays pending after a failure and falls due again in 100 ms (R53). -/
def PollStatus.retrySetup (p : PollStatus) (now : Time) : PollStatus :=
  { p with nextDue := some (later now setupRetry), dueTaken := false }

/-- A SETUP run ends: the entry holds no next-due time (R52, R53). -/
def PollStatus.endSetup (p : PollStatus) : PollStatus := { p with nextDue := none, dueTaken := false }

/-- A SETUP run waits for its bay gate: pending, without a due time (R53). -/
def PollStatus.waitForGate (p : PollStatus) : PollStatus := { p.endSetup with gateWait := true }

/-- A run that meets its entry QUEUED or IN_FLIGHT (R50, R52, R54, R55): a PERIODIC due is missed and a SETUP run waits,
both marked LATE; an ADMIT run waits. -/
def PollStatus.meetsPlaced (p : PollStatus) : PollKind → PollStatus
  | .periodic => { p with late := true }
  | .setup => { p with late := true, runAfter := true }
  | .admission _ => { p with runAfter := true }

/-- A change that concerns SETUP entries alone. -/
def PollStatus.ifSetup (p : PollStatus) (kind : PollKind) (f : PollStatus → PollStatus) : PollStatus :=
  if kind = .setup then f p else p

/-- A run that cannot be placed is reported to an admission (R54). -/
def refusedReport (place : Fin 24) (outcome : TxOutcome) : PollKind → List Task
  | .periodic => []
  | .setup => []
  | .admission bay => [.admissionReport bay place outcome []]

/-- The Poll Engine runs an entry (R48): resolve, gate, port, place. An entry has at most one transaction placed (R47),
so a run that meets one waits or is missed. -/
def runPoll (place : Fin 24) (s : State) : Act :=
  let p := s.poll place
  match s.pollEntry place with
  | none => (s, [])
  | some e =>
    if p.state ≠ .idle then (s.setPoll place (p.meetsPlaced e.kind), [])
    else match routeOf s.sru.committed e.target with
    | none =>
      (s.setPoll place (p.noRoute.ifSetup e.kind fun q => q.retrySetup s.now), refusedReport place .noRoute e.kind)
    | some r =>
      let skipped := { p with skipped := true }
      if s.gateClosed r.gate then
        (s.setPoll place (skipped.ifSetup e.kind PollStatus.waitForGate), refusedReport place .absent e.kind)
      else if (s.port r.seg).state = .suspended ∨ (s.port r.seg).state = .isolated then
        (s.setPoll place (skipped.ifSetup e.kind PollStatus.endSetup), refusedReport place .absent e.kind)
      else
        (s.setPoll place { p with state := .queued }, [.place r.seg (pollTxn place e r)])

/-! ## Completing (R49) -/

/-- The outcomes that are failures of the device (R49). -/
def isFailure : TxOutcome → Bool
  | .nackTarget => true
  | .nackData => true
  | .timeout => true
  | .crcBad => true
  | .noRoute => true
  | .done => false
  | .lost => false
  | .gated => false
  | .refused => false
  | .captured => false
  | .synthesized => false
  | .standIn => false
  | .busy => false
  | .abandoned => false
  | .absent => false

/-- The status after a completion (R49). -/
def PollStatus.completed (p : PollStatus) (now : Time) (outcome : TxOutcome) : PollStatus :=
  { p with
    state := .idle
    lastOutcome := some outcome
    lastCompletion := some now
    failures := if outcome = .done then 0 else if isFailure outcome then satAdd p.failures 255 else p.failures
    skipped := p.skipped || outcome == .absent || outcome == .lost }

/-- The descriptor results of a completion, for the ADMIT report (R54, R58). -/
def completionResults (tag : PollTag) (data : List Byte) (s : State) : List (Fin 32 × DescResult) :=
  tag.descs.map fun d => (d.slot, s.descriptorResult d data)

/-- A transaction the Poll Engine placed completes (R49); an orphan changes no status. -/
def pollDone (tag : PollTag) (t : EngTxn) (outcome : TxOutcome) (data : List Byte) (s : State) : Act :=
  let reads := outcome == .done && !t.write
  let runs := if reads then descriptorTasks tag.source tag.place.val tag.descs data else []
  if tag.orphan then (s, runs)
  else
    (s.setPoll tag.place ((s.poll tag.place).completed s.now outcome),
      runs ++ [.pollKind tag.place outcome (if reads then completionResults tag data s else [])])

/-- A completion of a SETUP entry (R53): the run that had fallen due ends, or after a failure stays pending. A
transaction that another run waits behind is not that run's (log entry 25). -/
def PollStatus.setupDone (p : PollStatus) (now : Time) (outcome : TxOutcome) : PollStatus :=
  if !p.dueTaken || p.runAfter then p else if isFailure outcome then p.retrySetup now else p.endSetup

/-- The rule of its kind takes a completion: R50 for PERIODIC, R53 for SETUP, R54 and R55 for ADMIT. A run that waited for
the completion of an ADMIT entry is placed after its report, so a report that ends the admission drops that run (DESIGN
CHOICE, log entry 70). -/
def pollKindRule (place : Fin 24) (outcome : TxOutcome) (results : List (Fin 32 × DescResult)) (s : State) : Act :=
  match (s.pollEntry place).map PollEntry.kind with
  | none => (s, [])
  | some PollKind.periodic => (s, [])
  | some PollKind.setup => (s.setPoll place ((s.poll place).setupDone s.now outcome), [.pollAgain place])
  | some (.admission bay) =>
    (s, tasksIf ((s.bay bay).state == .identifying) [.admissionReport bay place outcome results] ++
      ([.pollAgain place] : List Task))

/-- A run that waited for a completion is placed (R52, R54, R55). -/
def runPollAgain (place : Fin 24) (s : State) : Act :=
  let p := s.poll place
  if p.runAfter then (s.setPoll place { p with runAfter := false }, [.pollRun place]) else (s, [])

/-! ## Due times (R50, R52, R54, R55) -/

/-- An entry is of a kind. -/
def State.kindIs (s : State) (place : Fin 24) (test : PollKind → Bool) : Bool :=
  (s.pollEntry place).any fun e => test e.kind

/-- An ADMIT entry, of either bay. -/
def isAdmission : PollKind → Bool
  | .admission _ => true
  | .periodic => false
  | .setup => false

/-- The due time that an entry waits for: the next-due time of a PERIODIC entry (R50), that of a SETUP run which has not
fallen due yet (R52), or the due time of an admission run (R54). -/
def PollStatus.waitsFor (p : PollStatus) : PollKind → Option Time
  | .periodic => p.nextDue
  | .setup => if p.dueTaken then none else p.nextDue
  | .admission _ => p.admitDue

/-- The due time of a place. -/
def State.dueTime (s : State) (place : Fin 24) : Option Time :=
  (s.pollEntry place).bind fun e => (s.poll place).waitsFor e.kind

/-- The status of an entry whose due time is taken: a PERIODIC entry's next-due time advances by one period (R50), a SETUP
run keeps its due time while it is pending (R52), and an admission run has none any more (R54). -/
def PollStatus.fallen (p : PollStatus) (e : PollEntry) : PollStatus :=
  match e.kind with
  | .periodic => { p with nextDue := p.nextDue.map fun d => later d e.period }
  | .setup => { p with dueTaken := true }
  | .admission _ => { p with admitDue := none }

/-- An entry falls due (R50, R52, R54): its run is placed, or meets the transaction already placed. -/
def entryFallsDue (place : Fin 24) (s : State) : Act :=
  match s.pollEntry place with
  | some e =>
    if s.opened && dueReached s.now ((s.poll place).waitsFor e.kind) then
      (s.setPoll place ((s.poll place).fallen e), [.pollRun place])
    else (s, [])
  | none => (s, [])

/-- An entry of a kind is due. -/
def State.isDue (s : State) (place : Fin 24) (test : PollKind → Bool) : Bool :=
  s.opened && s.kindIs place test && dueReached s.now (s.dueTime place)

/-- The places that fall due with a place: those up to it with the same due time, in rising order (R48). -/
def State.dueWith (s : State) (place : Fin 24) : List (Fin 24) :=
  allPlaces.filter fun q => decide (q ≤ place) && s.dueTime q == s.dueTime place

/-- A due time is taken for an entry of a kind: the entries of lower places that fall due at the same instant go first
(R48; DEDUCED, log entry 50). -/
def fallsDue (place : Fin 24) (test : PollKind → Bool) (s : State) : Act :=
  (s, tasksIf (s.isDue place test) ((s.dueWith place).map Task.fallsDue))

/-- A PERIODIC entry falls due (R50). -/
def periodicFallsDue (place : Fin 24) (s : State) : Act := fallsDue place (· == .periodic) s

/-- A SETUP run falls due (R52). -/
def setupFallsDue (place : Fin 24) (s : State) : Act := fallsDue place (· == .setup) s

/-- An admission run falls due (R54). -/
def admissionFallsDue (place : Fin 24) (s : State) : Act := fallsDue place isAdmission s

/-! ## Events of SETUP and ADMIT entries -/

/-- The status of a SETUP entry given a pending run (R52). -/
def PollStatus.pendSetup (p : PollStatus) (now : Time) (phase : Nat) : PollStatus :=
  { p with nextDue := some (later now phase), dueTaken := false, gateWait := false, runAfter := false }

/-- A change made to the status of every place. -/
def State.mapPolls (s : State) (f : Fin 24 → PollStatus → PollStatus) : State :=
  { s with polls := Vector.ofFn fun i => f i s.polls[i] }

/-- An event of R52 gives the SETUP entries of a segment a pending run. -/
def setupEvent (seg : Seg) (s : State) : Act :=
  (s.mapPolls fun i p =>
    match s.pollEntry i with
    | some e => if e.kind = .setup ∧ s.keySeg e.target = some seg then p.pendSetup s.now e.phase else p
    | none => p, [])

/-- The places whose SETUP run waits for the gate of a bay (R53): the gate of the entry the target resolves to now, since
R53 does not say which gate the run waits for after its entry's route has changed (DESIGN CHOICE, log entry 41). -/
def gateWaiters (bay : Bay) (s : State) : List (Fin 24) :=
  allPlaces.filter fun i => (s.poll i).gateWait &&
    (s.pollEntry i).any fun e => (routeOf s.sru.committed e.target).any fun r => r.gate == some bay

/-- A SETUP run falls due at once as its gate opens (R53). -/
def PollStatus.gateOpens (p : PollStatus) (now : Time) : PollStatus :=
  { p with nextDue := some now, dueTaken := true, gateWait := false }

/-- The Poll Engine is told a bay's state change (R53 to R55): a gate that opens releases the SETUP runs that wait for it,
leaving IDENTIFYING drops the runs not yet placed, and entering it begins an admission. -/
def pollOnBay (bay : Bay) (old new : BayState) (s : State) : Act :=
  let freed := if !gateOpen old && gateOpen new then gateWaiters bay s else []
  let dropped := if old = .identifying ∧ new ≠ .identifying then admissionPlaces s.sru.committed.polls bay else []
  (s.mapPolls fun i p =>
      let p := if freed.contains i then p.gateOpens s.now else p
      if dropped.contains i then { p with admitDue := none, runAfter := false } else p,
    freed.map Task.pollRun ++ tasksIf (new == .identifying) [.admissionBegin bay])

/-- An admission begins (R54): each ADMIT entry of the bay gets one run. -/
def beginAdmission (bay : Bay) (s : State) : Act :=
  (s.mapPolls fun i p =>
    match s.pollEntry i with
    | some e =>
      if e.kind = .admission bay then
        if p.state = .idle then { p with admitDue := some (later s.now e.phase), runAfter := false }
        else { p with admitDue := none, runAfter := true }
      else p
    | none => p, [])

/-- The bay controller asks for an ADMIT entry to be run again (R55). -/
def runAdmissionAgain (place : Fin 24) (s : State) : Act :=
  match (s.pollEntry place).map PollEntry.kind with
  | some (.admission bay) => (s, tasksIf ((s.bay bay).state == .identifying) [.pollRun place])
  | some .periodic => (s, [])
  | some .setup => (s, [])
  | none => (s, [])

/-! ## A change of the poll list (R45) -/

/-- An entry of the new list is kept: its place held an entry of the same kind, target, command and period. -/
def keptPoll (old new : Image) (place : Fin 24) : Bool :=
  match pollAt old place.val, pollAt new place.val with
  | some a, some b => a.kind == b.kind && a.target == b.target && a.cmd == b.cmd && a.period == b.period
  | _, _ => false

/-- The status an entry starts with (R47): the next-due time of R51 or R52. -/
def startedPoll (now : Time) (e : Option PollEntry) : PollStatus :=
  match e with
  | none => PollStatus.reset
  | some e =>
    match e.kind with
    | .periodic => { PollStatus.reset with nextDue := some (later now e.phase) }
    | .setup => { PollStatus.reset with nextDue := some (later now e.phase) }
    | .admission _ => PollStatus.reset

/-- An engine transaction that belongs to no entry any more, when the test names its place. -/
def EngTxn.orphaned (test : Fin 24 → Bool) (t : EngTxn) : EngTxn :=
  match t.issuer with
  | .ple tag => if test tag.place then { t with issuer := .ple { tag with orphan := true } } else t
  | .brc => t
  | .mtu => t

/-- A port whose transactions of some places are orphans. -/
def Port.orphaned (test : Fin 24 → Bool) (p : Port) : Port :=
  { p with
    queue := p.queue.map (EngTxn.orphaned test)
    running := p.running.map fun r =>
      match r.1 with
      | .engine t => (.engine (t.orphaned test), r.2)
      | .lane => r }

/-- The ports with the transactions of some places made orphans. -/
def State.orphanPolls (s : State) (test : Fin 24 → Bool) : State :=
  { s with ports :=
      { p1 := s.ports.p1.orphaned test
        p2 := s.ports.p2.orphaned test
        p3 := s.ports.p3.orphaned test
        p4 := s.ports.p4.orphaned test } }

/-- The poll list switches at a commit (R45, R51, R52): kept entries keep their status; every other entry starts afresh. -/
def switchPolls (old : Image) (s : State) : Act :=
  let kept := keptPoll old s.sru.committed.polls
  ((s.orphanPolls fun i => !kept i).mapPolls fun i p =>
    if kept i then p else startedPoll s.now (s.pollEntry i), [])

/-- Every entry starts afresh at the opening of traffic or at SOFT_RESET (R45, R51, R52). -/
def startPolls (s : State) : Act :=
  ((s.orphanPolls fun _ => true).mapPolls fun i _ => startedPoll s.now (s.pollEntry i), [])

end Sys2Proof.Machine
end

