-- ==== Sys2Proof/Machine/BayStates.lean ====
section
/-!
DEFINITION. The changes of a bay's state (R94): what a bay controller tells its neighbours, and its reading of the Power
Path Controller's switch commands (R104, R106).
-/

namespace Sys2Proof.Machine

/-! ## State changes (R94) -/

/-- A bay that counts for the supply classifier (R94, R117). -/
def counted : BayState → Bool
  | .ready => true
  | .active => true
  | .suspect => true
  | .empty => false
  | .seated => false
  | .identifying => false
  | .releasing => false
  | .released => false
  | .releaseBlocked => false
  | .faulted => false

/-- The states in which a release has come to its end for a swap (R113). -/
def endsSwap : BayState → Bool
  | .released => true
  | .empty => true
  | .releaseBlocked => true
  | .seated => false
  | .identifying => false
  | .ready => false
  | .active => false
  | .suspect => false
  | .releasing => false
  | .faulted => false

/-- What a bay controller tells its neighbours at a state change, in the order of R94. -/
def bayNews (bay : Bay) (old new : BayState) (notices : List Task) : List Task :=
  tasksIf (new == .empty) [.isolate (baySeg bay), .slotsNever bay] ++
    tasksIf (old == .seated && new == .identifying) [.connect (baySeg bay)] ++
    ([.pollBay bay old new, .powerBay bay old new] : List Task) ++ tasksIf (counted old || counted new) [.energy] ++
    notices ++ tasksIf (endsSwap new) [.swapEnd bay]

/-- A bay enters a state with the record given (R94). -/
def bayGoto (bay : Bay) (new : BayState) (r : BayRec) (notices : List Task) (s : State) : Act :=
  (s.setBay bay { r with state := new, entry := s.now }, bayNews bay (s.bay bay).state new notices)

/-- A notice of a bay. -/
def bayNotice (bay : Bay) (kind : NoticeKind) (severity : Severity) (arg1 arg2 : Int) : Task :=
  .post { kind := kind, severity := severity, subject := bayNumber bay, arg1 := arg1, arg2 := arg2 }

/-- The bay enters FAULTED (R101, R103). -/
def toFaulted (bay : Bay) (reason : FaultReason) (r : BayRec) (notices : List Task) (s : State) : Act :=
  bayGoto bay .faulted
    { r with faultReason := some reason, faultPending := false, identify := none, admission := [], wasActive := false }
    notices s

/-- The bay enters READY, or FAULTED in its place with fault-pending set (R103). -/
def toReady (bay : Bay) (r : BayRec) (s : State) : Act :=
  if r.faultPending then toFaulted bay .status r [] s else bayGoto bay .ready { r with wasActive := false } [] s

/-! ## The switch commands (R95, R104, R106) -/

/-- The states in which a bay's switch may be ON (R95): ACTIVE, SUSPECT with was-active yes, RELEASING and
RELEASE_BLOCKED. -/
def BayRec.carries (r : BayRec) : Bool :=
  match r.state with
  | .active => true
  | .suspect => r.wasActive
  | .releasing => true
  | .releaseBlocked => true
  | .empty => false
  | .seated => false
  | .identifying => false
  | .ready => false
  | .released => false
  | .faulted => false

/-- The states in which a bay's switch is OFF (Table 4-3, R95). -/
def offState : BayState → Bool
  | .empty => true
  | .seated => true
  | .identifying => true
  | .released => true
  | .faulted => true
  | .ready => false
  | .active => false
  | .suspect => false
  | .releasing => false
  | .releaseBlocked => false

/-- The bay's switch is commanded ON (R104). -/
def onSwitchOn (bay : Bay) (s : State) : Act :=
  let r := s.bay bay
  if r.state = .ready then bayGoto bay .active r [] s
  else if r.state = .suspect then (s.setBay bay { r with wasActive := true }, [])
  else (s, [])

/-- The bay's switch leaves ON (R104, R106). -/
def onSwitchOff (bay : Bay) (s : State) : Act :=
  let r := s.bay bay
  if r.state = .active then toReady bay r s
  else if r.state = .suspect then (s.setBay bay { r with wasActive := false }, [])
  else (s, [])

end Sys2Proof.Machine
end

