-- ==== Sys2Proof/Machine/Power.lean ====
section
/-!
DEFINITION. The Power Path Controller (Chapter 4): eligibility, selection, handover, release, emergency takeover, the
bridge store and SHDN_REQ.
-/

namespace Sys2Proof.Machine

/-- The confirm time in ms (R69, R79). -/
def confirmTime : Nat := 5

/-- The rail voltage slot. -/
def railSlot : Fin 32 := 14

/-- The bridge voltage slot. -/
def bridgeSlot : Fin 32 := 12

/-- The voltage slot of a source (Table 4-2). -/
def sourceSlot : Src → Fin 32
  | .dc => 13
  | .a => 0
  | .b => 5
  | .br => 12

/-! ## Eligibility (R72) -/

/-- A FRESH slot's value, if the slot is FRESH. -/
def State.freshValue (s : State) (slot : Fin 32) : Option Int := if s.fresh slot then some (s.slot slot).value else none

/-- The slot conditions of a pack (R72): in a READY bay both slots FRESH and within their limits, in an ACTIVE bay a FRESH
slot within its limit. -/
def State.packSlots (s : State) (bay : Bay) (active : Bool) : Bool :=
  (match s.freshValue (voltageSlot bay) with | some v => (s.supply.cutoff : Int) ≤ v | none => active) &&
    (match s.freshValue (temperatureSlot bay) with | some v => v ≤ (s.supply.temperature : Int) | none => active)

/-- A source is eligible under Table 4-4. -/
def State.eligibleNow (s : State) (x : Src) : Bool :=
  match srcBay x with
  | some bay =>
    ((s.bay bay).state == .ready || (s.bay bay).state == .active) && !(s.source x).heldOff &&
      s.packSlots bay ((s.bay bay).state == .active)
  | none =>
    if x = .dc then s.lines.dcinOk
    else match s.freshValue bridgeSlot with
      | some v => (s.supply.bridgeLow : Int) ≤ v
      | none => true

/-- A source record brought up to date. -/
def State.refreshed (s : State) (x : Src) : SourceRec := { s.source x with eligible := s.eligibleNow x }

/-- Every eligibility brought up to date with its inputs (R72). -/
def State.refresh (s : State) : State :=
  { s with ppc := { s.ppc with sources :=
      { dc := s.refreshed .dc, a := s.refreshed .a, b := s.refreshed .b, br := s.refreshed .br } } }

/-- Some eligibility is not up to date. -/
def State.eligibilityChanges (s : State) : Bool :=
  s.eligibleNow .dc != s.ppc.sources.dc.eligible || s.eligibleNow .a != s.ppc.sources.a.eligible ||
    s.eligibleNow .b != s.ppc.sources.b.eligible || s.eligibleNow .br != s.ppc.sources.br.eligible

/-- Eligibility is recomputed; the event is a trigger when it is one itself or when an eligibility changes (R72, R76). -/
def afterInput (trigger : Bool) (s : State) : Act :=
  (s.refresh, if trigger || s.eligibilityChanges then [.trigger] else [])

/-! ## Switch states (R68) -/

/-- The state of a bay switch that is not ON in an admitted bay. -/
def standbyOrOff (heldOff : Bool) : Switch := if heldOff then .off else .standby

/-- The state a source takes when it leaves ON without being lost (R68, R79, R106): a departing or held-off pack OFF, an
admitted one STANDBY. -/
def State.restState (s : State) (x : Src) : Switch :=
  match srcBay x with
  | some bay =>
    match (s.bay bay).state with
    | .ready => standbyOrOff (s.source x).heldOff
    | .active => standbyOrOff (s.source x).heldOff
    | .suspect => standbyOrOff (s.source x).heldOff
    | .empty => .off
    | .seated => .off
    | .identifying => .off
    | .releasing => .off
    | .released => .off
    | .releaseBlocked => .off
    | .faulted => .off
  | none => if x = .dc then (if s.lines.dcinOk then .standby else .off) else .standby

/-- A source leaves ON for a switch state, without its on-since time. -/
def State.leaveOn (s : State) (x : Src) (sw : Switch) : State :=
  s.setSource x { s.source x with sw := sw, onSince := none }

/-- What the bay controller of a source does with a switch command (R104, R106); nothing for a source that is no pack. -/
def tellBay (x : Src) (f : Bay → State → Act) (s : State) : Act :=
  match srcBay x with
  | some bay => f bay s
  | none => (s, [])

/-- A source's switch is commanded ON and its bay controller is told (R68, R104). -/
def commandOn (x : Src) (s : State) : Act := tellBay x onSwitchOn (s.setSwitch x .on)

/-- A source's switch leaves ON for a switch state and its bay controller is told (R68, R104, R106). -/
def commandOff (x : Src) (sw : Switch) (s : State) : Act := tellBay x onSwitchOff (s.leaveOn x sw)

/-- A source that may be absent leaves ON for the state R68 gives it. -/
def restSource (x : Option Src) (s : State) : Act :=
  match x with
  | some x => commandOff x (s.restState x) s
  | none => (s, [])

/-- SHDN_REQ follows the set of shutdown causes (R89). -/
def Ppc.request (p : Ppc) : Ppc := { p with shdnReq := p.causeBridge || p.causeNoAlternate }

/-! ## The candidate list (R73 to R75) -/

/-- The pack energy of a bay (R73): a STALE slot's held value, and 0 for a NEVER slot. -/
def State.packEnergy (s : State) (bay : Bay) : Int := (s.slot (energySlot bay)).value

/-- The order of the packs under ORDERED (R74). -/
def State.orderedPacks (s : State) : List Bay :=
  let f := s.supply.first
  if (s.supply.reserve : Int) ≤ s.packEnergy f then [f, otherBay f] else [otherBay f, f]

/-- The order of the packs under BALANCE (R75). -/
def State.balancedPacks (s : State) : List Bay :=
  match s.ppc.onSrc.bind srcBay with
  | some x =>
    let y := otherBay x
    let carried := match (s.source (baySrc x)).onSince with | some t => age s.now t | none => 0
    if s.packEnergy x + s.supply.margin ≤ s.packEnergy y ∧ 1000 * s.supply.dwell ≤ carried then [y, x] else [x, y]
  | none =>
    let f := s.supply.first
    if s.packEnergy f < s.packEnergy (otherBay f) then [otherBay f, f] else [f, otherBay f]

/-- A pack's bay is READY or ACTIVE, the states in which its switch may be commanded ON (R95, R104). -/
def State.admitted (s : State) (x : Src) : Bool :=
  match srcBay x with
  | some bay => (s.bay bay).state == .ready || (s.bay bay).state == .active
  | none => true

/-- A source may be chosen: it is eligible (R72), and its switch may be commanded ON (R95). -/
def State.choosable (s : State) (x : Src) : Bool := (s.source x).eligible && s.admitted x

/-- The candidate list of R73, with a source excluded (R85). -/
def State.candidates (s : State) (excluded : Option Src) : List Src :=
  let packs := (if s.supply.balance then s.balancedPacks else s.orderedPacks).map baySrc
  let can := fun x => s.choosable x && excluded != some x
  let primary := (Src.dc :: packs).filter can
  if primary.isEmpty then [Src.br].filter can else primary

/-- The window check of a target against the rail (R78). -/
def State.windowPasses (s : State) (x : Src) : Bool :=
  match s.freshValue (sourceSlot x), s.freshValue railSlot with
  | some v, some r => (v - r).natAbs ≤ s.supply.window
  | _, _ => false

/-! ## Attempts (R69, R79, R81) -/

/-- The reason a walk's attempt carries (R69, R76, R83). -/
def attemptReason (kind : WalkKind) (target : Src) : MoveReason :=
  match kind with
  | .release _ _ => .release
  | .startup => if target = .dc then .dcArrival else .policy
  | .policy => if target = .dc then .dcArrival else .policy
  | .bridge => .policy

/-- The handover record at a turn-on command (R81). -/
def startedRecord (old : Option Src) (target : Src) (reason : MoveReason) (now : Time) : MoveRec where
  origin := old
  target := target
  reason := reason
  start := now
  finish := none
  result := none

/-- The bridge timer starts at a command that makes BR ON (R88). -/
def State.bridgeStart (s : State) (target : Src) : Option Timer :=
  if target = .br then some (timerNow s (1000 * s.supply.bridgeTime)) else s.ppc.bridge

/-- A turn-on command (R69, R70, R79): the target is commanded ON and its bay controller is told, the confirm timer
starts and the record is written; a feedback line that already conducts confirms at once. -/
def beginAttempt (kind : WalkKind) (target : Src) (rest : List Src) (s : State) : Act :=
  let reason := attemptReason kind target
  let a := commandOn target s
  ({ a.1 with ppc := { a.1.ppc with
      bridge := s.bridgeStart target
      record := some (startedRecord s.ppc.onSrc target reason s.now)
      attempt := some { kind := kind, target := target, old := s.ppc.onSrc, reason := reason
                        confirm := timerNow s confirmTime, rest := rest } } },
    a.2 ++ tasksIf (target == .br) [.bridgeCheck] ++ tasksIf (s.lines.feedback.get target) [.confirm])

/-- A release of origin REQUEST, which the shock-hold flag does not stop (R77, R83). -/
def WalkKind.explicit : WalkKind → Bool
  | .release _ .request => true
  | .release _ .latch => false
  | .startup => false
  | .bridge => false
  | .policy => false

/-- A selection that the shock-hold flag stops waits for it (R77): the pending mark is set, a release of origin LATCH and
a bridge attempt are taken again when the flag clears. -/
def State.heldBack (s : State) (kind : WalkKind) : State :=
  { s with ppc := { s.ppc with
    pending := true
    bridgeDue := s.ppc.bridgeDue || kind == .bridge
    waitRelease := match kind with
      | .release bay o => s.ppc.waitRelease.set bay (some o)
      | .startup => s.ppc.waitRelease
      | .bridge => s.ppc.waitRelease
      | .policy => s.ppc.waitRelease } }

/-- A selection that has no candidate left ends (R69, R73, R83). -/
def endWalk (kind : WalkKind) (s : State) : Act :=
  match kind with
  | .release bay _ => (s, tasksIf ((s.bay bay).state == .releasing) [.releaseBlocked bay] ++ [.settled])
  | .startup => (s, [.settled])
  | .bridge => (s, [.settled])
  | .policy => (s, [.settled])

/-- A selection walks its candidates (R69, R73): the ON source ends it without a change, a candidate that fails its
window check is passed over, and one that passes is the target of an attempt. Only one handover runs at a time
(section 4.5), and none that the shock-hold flag stops starts under it (R77). A candidate that lost its eligibility while
an earlier one's confirm was awaited is passed over (DEDUCED from R72 and R95, log entry 42). -/
def walkOn (kind : WalkKind) (candidates : List Src) (s : State) : Act :=
  if s.ppc.attempt.isSome then (s, [])
  else if s.mtu.shockHold && !kind.explicit then (s.heldBack kind, [.settled])
  else match candidates with
    | [] => endWalk kind s
    | c :: rest =>
      if s.ppc.onSrc = some c then endWalk kind s
      else if s.choosable c && (kind == .startup || s.windowPasses c) then beginAttempt kind c rest s
      else (s, [.walk kind rest])

/-- The record with its end time and result. -/
def MoveRec.ended (r : MoveRec) (now : Time) (result : MoveResult) : MoveRec :=
  { r with finish := some now, result := some result }

/-- The attempt is over: its record has its result, and no confirm is awaited; the move ends when its effects have been
told. -/
def State.closeAttempt (s : State) (result : MoveResult) : State :=
  { s with ppc := { s.ppc with
    attempt := none, moving := true, record := s.ppc.record.map fun r => r.ended s.now result } }

/-- The effects of a move have been told. -/
def State.moveTold (s : State) : State := { s with ppc := { s.ppc with moving := false } }

/-- An attempt is awaited, or a move is being told: what waits for the end of a handover waits (R77, R83, R84). It waits
also from the moment a SUPPLY table takes force until the controller has been told of it, so that none is awaited there
(R90; DEDUCED, log entry 53). -/
def Ppc.engaged (p : Ppc) : Bool := p.attempt.isSome || p.moving || p.switching

/-- The controller record when a source becomes the ON source (R79, R85): the causes and the bridge timer that end with
it, and the dwell timer. -/
def Ppc.nowOn (p : Ppc) (target : Src) (dwell : Option Timer) : Ppc :=
  Ppc.request { p with
    managed := true
    onSrc := some target
    dwell := dwell
    bridge := if target = .br then p.bridge else none
    causeBridge := p.causeBridge && target == .br
    causeNoAlternate := false }

/-- The dwell timer of a pack that becomes the ON source (R75). -/
def State.dwellStart (s : State) (target : Src) : Option Timer :=
  if s.supply.balance && (srcBay target).isSome then some (timerNow s (1000 * s.supply.dwell)) else none

/-- The notice SOURCE_CHANGED (R79). -/
def sourceChanged (severity : Severity) (target : Src) (old : Option Src) (reason : MoveReason) : Post where
  kind := .sourceChanged
  severity := severity
  subject := srcNumber target
  arg1 := srcCode old
  arg2 := reasonCode reason

/-- A release handover that completes reports its release DONE (R83). -/
def doneTasks : WalkKind → List Task
  | .release bay _ => [.releaseDone bay]
  | .startup => []
  | .bridge => []
  | .policy => []

/-- A source's on-since time starts now. -/
def State.carriesFrom (s : State) (x : Src) : State := s.setSource x { s.source x with onSince := some s.now }

/-- The old source of a completing handover leaves ON (R79): for OFF when it was lost (R82), else for the state R68 gives
it. -/
def leaveOld (old : Option Src) (lost : Bool) (s : State) : Act :=
  match old with
  | some x => commandOff x (if lost then .off else s.restState x) s
  | none => (s, [])

/-- An awaited handover or start-up attempt completes (R69, R79, R82): `lost` when its from source was lost. A policy
handover off a RELEASE_BLOCKED bay, of which Table 4-3 and R85 do not speak, puts the switch OFF and reports no release
DONE (DESIGN CHOICE, log entry 43). A release's DONE (R83) comes after the bay controllers and the classifier have been
told (DESIGN CHOICE, log entry 64). -/
def completeAttempt (result : MoveResult) (severity : Severity) (lost : Bool) (s : State) : Act :=
  match s.ppc.attempt with
  | none => (s, [])
  | some a =>
    let b := leaveOld a.old lost s
    let s2 := (b.1.carriesFrom a.target).closeAttempt result
    let s3 : State := { s2 with ppc := s2.ppc.nowOn a.target (s.dwellStart a.target) }
    (s3.notify (sourceChanged severity a.target a.old a.reason),
      b.2 ++ ([.classify] : List Task) ++ doneTasks a.kind ++ ([.moved, .settled] : List Task))

/-- The awaited feedback confirms (R79), while its line reads conducting. -/
def confirmAttempt (s : State) : Act :=
  if s.ppc.attempt.any fun a => s.lines.feedback.get a.target then completeAttempt .confirmed .info false s else (s, [])

/-- The bridge timer stops when an attempt to BR ends without success (R88). -/
def State.bridgeStopFor (s : State) (target : Src) : State :=
  if target = .br then { s with ppc := { s.ppc with bridge := none } } else s

/-- An awaited attempt ends without success: its target takes a switch state (R80, R82, R77). -/
def failAttempt (a : Attempt) (sw : Switch) (result : MoveResult) (s : State) : Act :=
  let b := commandOff a.target sw s
  ((b.1.closeAttempt result).bridgeStopFor a.target, b.2)

/-- A SUPPLY reload that waits for an attempt's end is taken there (R90). -/
def State.dueSupply (s : State) : List Task := tasksIf s.ppc.supplyDue [.supplySwitch]

/-- No SUPPLY reload waits any more. -/
def State.takeDueSupply (s : State) : State := { s with ppc := { s.ppc with supplyDue := false } }

/-- What follows an attempt that ended without success: its effects are told, a SUPPLY reload that waited is taken (R90),
and the selection goes on (R69, R80). -/
def resumeWalk (a : Attempt) (told : List Task) (s : State) : Act :=
  (s.takeDueSupply, told ++ s.dueSupply ++ ([.goOn a.kind a.rest] : List Task))

/-- A selection goes on with its next candidate (R69, R80); it has ended when a takeover has moved the load meanwhile. -/
def goOn (kind : WalkKind) (rest : List Src) (s : State) : Act :=
  if s.ppc.moving then (s.moveTold, [.walk kind rest]) else (s, [.settled])

/-- The notice of an expired confirm (R70, R80). -/
def failedNotice (a : Attempt) : Post :=
  match a.kind with
  | .bridge => { kind := .startupNoSource, severity := .urgent, subject := 0, arg1 := 0, arg2 := 0 }
  | .startup =>
    { kind := .handoverFailed, severity := .warn, subject := srcNumber a.target, arg1 := srcCode a.old
      arg2 := reasonCode a.reason }
  | .policy =>
    { kind := .handoverFailed, severity := .warn, subject := srcNumber a.target, arg1 := srcCode a.old
      arg2 := reasonCode a.reason }
  | .release _ _ =>
    { kind := .handoverFailed, severity := .warn, subject := srcNumber a.target, arg1 := srcCode a.old
      arg2 := reasonCode a.reason }

/-- The confirm timer expires (R70, R80): the target returns to the state R68 gives it, and the selection goes on with its
next candidate. The notice is posted before the target's bay controller is told (DESIGN CHOICE, log entry 65). -/
def expireConfirm (s : State) : Act :=
  match s.ppc.attempt with
  | none => (s, [])
  | some a =>
    if !a.confirm.due s.now then (s, [])
    else
      let b := failAttempt a (s.restState a.target) .confirmTimeout s
      resumeWalk a b.2 (b.1.notify (failedNotice a))

/-! ## Triggers (R76, R77) -/

/-- The ON source is a bay in SUSPECT (R77). -/
def State.onSuspect (s : State) : Bool :=
  match s.ppc.onSrc.bind srcBay with
  | some bay => (s.bay bay).state == .suspect
  | none => false

/-- A policy reselection must wait (R77). -/
def State.reselectionWaits (s : State) : Bool := s.ppc.engaged || s.mtu.shockHold || s.onSuspect

/-- A selection starts and the pending mark clears (R73, R77): in DIODE_OR it is a start-up selection (R69). -/
def startSelection (s : State) : Act :=
  ({ s with ppc := { s.ppc with pending := false } },
    [.walk (if s.ppc.managed then .policy else .startup) (s.candidates none)])

/-- A policy trigger asks for a selection (R77). -/
def reselect (s : State) : Act :=
  if s.reselectionWaits then ({ s with ppc := { s.ppc with pending := true } }, []) else startSelection s

/-- The bays in RELEASE_BLOCKED, bay A before bay B (DESIGN CHOICE, log entry 66). -/
def State.blockedBays (s : State) : List Bay :=
  [Bay.a, Bay.b].filter fun bay => (s.bay bay).state == .releaseBlocked

/-- The checks of R84 that fall due, for the bays in RELEASE_BLOCKED. -/
def State.dueChecks (s : State) : PerBay Bool where
  a := s.ppc.waitCheck.a || (s.bay .a).state == .releaseBlocked
  b := s.ppc.waitCheck.b || (s.bay .b).state == .releaseBlocked

/-- A way out for a blocked bay (R84): another source that is eligible and passes the window check. -/
def State.hasAlternate (s : State) (bay : Bay) : Bool :=
  [Src.dc, Src.a, Src.b, Src.br].any fun x => x != baySrc bay && s.choosable x && s.windowPasses x

/-- The checks of R84; while a confirm is awaited they wait for the attempt's end. -/
def checkAlternates (s : State) : Act :=
  if s.ppc.engaged then ({ s with ppc := { s.ppc with waitCheck := s.dueChecks } }, [])
  else
    ({ s with ppc := { s.ppc with waitCheck := { a := false, b := false } } },
      (s.blockedBays.filter s.hasAlternate).map Task.alternate)

/-- While the cause NO_ALTERNATE stands, a trigger repeats the takeover (R86). -/
def State.repeatTakeover (s : State) : List Task :=
  match s.ppc.onSrc with
  | some x => tasksIf (s.ppc.causeNoAlternate && !s.ppc.engaged) [.takeover x]
  | none => []

/-- A reselection trigger (R69, R76): before traffic opens it is answered by the selection at the opening; while the cause
NO_ALTERNATE stands the takeover is repeated (R86), and the checks of R84 are made. -/
def onTrigger (s : State) : Act :=
  if !s.opened then (s, [])
  else
    (s, s.repeatTakeover ++ ([.alternates, .reselect] : List Task))

/-! ## The work that waits (R77, R83) -/

/-- A waiting release may be taken: of origin LATCH when the flag is clear (R83). -/
def State.releaseReady (s : State) (bay : Bay) : Option Origin :=
  match s.ppc.waitRelease.get bay with
  | some .request => some .request
  | some .latch => if s.mtu.shockHold then none else some .latch
  | none => none

/-- A bay's waiting release is no longer waiting. -/
def State.dropRelease (s : State) (bay : Bay) : State :=
  { s with ppc := { s.ppc with waitRelease := s.ppc.waitRelease.set bay none } }

/-- The bridge attempt (R70): BR is commanded ON whether or not it is eligible. -/
def bridgeAttempt (s : State) : Act :=
  beginAttempt .bridge .br [] { s with ppc := { s.ppc with bridgeDue := false } }

/-- The pending mark is released (R77). -/
def State.releasePending (s : State) : State := { s with ppc := { s.ppc with pending := false } }

/-- The work that waited for the end of an attempt, for the flag or for the ON bay, one item at a time (R83): a SUPPLY
reload, the releases, the checks of R84, the pending reselection, whose release is itself a trigger (Table 4-5), the
bridge attempt. -/
def takeWaiting (s : State) : Act :=
  if s.ppc.engaged then (s, [])
  else if s.ppc.supplyDue then (s.takeDueSupply, [.supplySwitch, .settled])
  else match s.releaseReady .a, s.releaseReady .b with
    | some o, _ => (s.dropRelease .a, [.releaseRequest .a o, .settled])
    | none, some o => (s.dropRelease .b, [.releaseRequest .b o, .settled])
    | none, none =>
      if s.ppc.waitCheck.a || s.ppc.waitCheck.b then
        ((checkAlternates s).1, (checkAlternates s).2 ++ [.settled])
      else if s.ppc.pending && !s.reselectionWaits then (s.releasePending, [.trigger, .settled])
      else if s.ppc.bridgeDue && !s.mtu.shockHold then
        if s.ppc.onSrc.isSome then ({ s with ppc := { s.ppc with bridgeDue := false } }, []) else bridgeAttempt s
      else (s, [])

/-! ## Release (R83) -/

/-- A release request reaches the Power Path Controller (R83). -/
def onReleaseRequest (bay : Bay) (origin : Origin) (s : State) : Act :=
  if (s.bay bay).state != .releasing then (s, [])
  else if s.ppc.engaged || (origin == .latch && s.mtu.shockHold) then
    ({ s with ppc := { s.ppc with waitRelease := s.ppc.waitRelease.set bay (some origin) } }, [])
  else if s.ppc.onSrc = some (baySrc bay) then
    (s, [.walk (.release bay origin) (s.candidates (some (baySrc bay)))])
  else (s.leaveOn (baySrc bay) .off, [.releaseDone bay])

/-! ## Emergency takeover (R82, R85, R86) -/

/-- The severity of a loss: URGENT for a presence or DC-in loss, WARN for a temperature fault. -/
def lossSeverity (urgent : Bool) : Severity := if urgent then .urgent else .warn

/-- The record of a takeover (R81). -/
def takeoverRecord (lost target : Src) (now : Time) : MoveRec where
  origin := some lost
  target := target
  reason := .fault
  start := now
  finish := some now
  result := some .takeover

/-- A departing ON bay is reported DONE by a takeover that moves the load off it (R85). -/
def State.departed (s : State) : List Task :=
  match s.ppc.onSrc.bind srcBay with
  | some bay =>
    if (s.bay bay).state = .releasing ∨ (s.bay bay).state = .releaseBlocked then [.releaseDone bay] else []
  | none => []

/-- The bay controllers are told of the sources that leave ON at a takeover: the lost source goes OFF, another ON source
takes the state R68 gives it. -/
def leaveForTakeover (lost : Src) (s : State) : Act :=
  let a := commandOff lost .off s
  let b := if s.ppc.onSrc = some lost then (a.1, []) else restSource s.ppc.onSrc a.1
  (b.1, a.2 ++ b.2)

/-- The load moves at once to a source (R85). After the notice come the bay controllers and the classifier, in R85's order,
then the bridge voltage check (R88) and the DONE of a departing bay, which R85 does not order (DESIGN CHOICE, log
entry 64). -/
def takeOver (lost target : Src) (urgent : Bool) (s : State) : Act :=
  let a := leaveForTakeover lost s
  let b := commandOn target a.1
  let s2 := b.1.carriesFrom target
  let s3 : State := { s2 with ppc :=
    { s2.ppc.nowOn target (s.dwellStart target) with
      moving := true
      bridge := if target = .br then s.bridgeStart .br else none
      record := some (takeoverRecord lost target s.now)
      waitRelease := match s.ppc.onSrc.bind srcBay with
        | some bay => s.ppc.waitRelease.set bay none
        | none => s.ppc.waitRelease } }
  (s3.notify (sourceChanged (lossSeverity urgent) target (some lost) .fault),
    a.2 ++ b.2 ++ ([.classify] : List Task) ++ tasksIf (target == .br) [.bridgeCheck] ++ s.departed ++
      ([.moved, .settled] : List Task))

/-- A temperature fault of the ON pack finds no candidate (R86): the pack stays ON, the cause is added and the notice
raised, unless the cause stands already. -/
def noAlternate (lost : Src) (s : State) : Act :=
  if s.ppc.causeNoAlternate then (s, [])
  else
    let s' : State := { s with ppc := Ppc.request { s.ppc with causeNoAlternate := true } }
    (s'.notify
        { kind := .sourceFaultNoAlternate, severity := .urgent, subject := srcNumber lost
          arg1 := match srcBay lost with | some bay => (s.slot (temperatureSlot bay)).value | none => 0
          arg2 := 0 }, [])

/-- A release whose handover was aborted by a temperature fault that no takeover followed (log entry 19). -/
def State.strandedRelease (s : State) : List Task :=
  match s.ppc.onSrc.bind srcBay with
  | some bay =>
    if (s.bay bay).state = .releasing ∧ (s.ppc.waitRelease.get bay).isNone then [.releaseBlocked bay] else []
  | none => []

/-- An emergency takeover from a lost or faulted source (R85, R86). Where the source lost was the target of a handover off BR
and no candidate is left, BR carries the load already and nothing changes (DEDUCED from R82, log entry 19). -/
def onTakeover (lost : Src) (urgent : Bool) (s : State) : Act :=
  match s.candidates (some lost) with
  | c :: _ => if s.ppc.onSrc = some c then (s, [.moved, .settled]) else takeOver lost c urgent s
  | [] =>
    if urgent then
      if s.ppc.onSrc = some .br then (s, [.moved, .settled]) else takeOver lost .br true s
    else if s.ppc.onSrc = some lost then noAlternate lost s
    else (s, s.strandedRelease ++ [.moved, .settled])

/-- The takeover of a faulted ON source is repeated (R86). -/
def repeatedTakeover (lost : Src) (s : State) : Act :=
  if s.ppc.attempt.isNone && s.ppc.onSrc == some lost then onTakeover lost false s else (s, [])

/-- The to source of an awaited attempt is lost or faulted (R69, R82): ABORTED and OFF; a start-up selection goes on with
its next candidate, a handover's loss becomes an emergency takeover. An event that is a trigger as well (Table 4-5) is
taken as one after its effects have been told. A SUPPLY reload that waits is taken after the takeover, which is made under
the parameters so far in force (DEDUCED, log entry 32). A takeover's notice is posted before the bay controller of the lost
target is told (DESIGN CHOICE, log entry 65). -/
def loseTarget (a : Attempt) (urgent trigger : Bool) (s : State) : Act :=
  let b := failAttempt a .off .aborted s
  let told := b.2 ++ tasksIf trigger [.trigger]
  match a.kind with
  | .startup => resumeWalk a told b.1
  | .bridge => (b.1, told ++ ([.moved, .settled] : List Task))
  | .policy => ((onTakeover a.target urgent b.1).1, told ++ (onTakeover a.target urgent b.1).2)
  | .release _ _ => ((onTakeover a.target urgent b.1).1, told ++ (onTakeover a.target urgent b.1).2)

/-- A source is lost or faulted (R69, R82, R85), or changes while it carries nothing; where it is not the ON source the
event may be a trigger as well (Table 4-5). The eligibilities are up to date. -/
def onLoss (x : Src) (urgent trigger : Bool) (s : State) : Act :=
  match s.ppc.attempt with
  | some a =>
    if a.target = x then loseTarget a urgent trigger s
    else if a.old = some x then completeAttempt .fromLost (lossSeverity urgent) true s
    else (s, tasksIf trigger [.trigger])
  | none => if s.ppc.onSrc = some x then onTakeover x urgent s else (s, tasksIf trigger [.trigger])

/-- A source that is neither ON nor the target of an attempt takes a switch state. -/
def State.setIdleSwitch (s : State) (x : Src) (sw : Switch) : State :=
  if (s.source x).sw = .on then s else s.setSwitch x sw

/-! ## DC-in (R68) -/

/-- DCIN_OK changes (R68, R72, R82, R85). -/
def onDcin (high : Bool) (s : State) : Act :=
  if s.lines.dcinOk = high then (s, [])
  else
    let s1 := State.refresh { s with lines := { s.lines with dcinOk := high } }
    let s2 := s1.setIdleSwitch .dc (if high then .standby else .off)
    if high then (s2, [.trigger]) else onLoss .dc true true s2

/-! ## Bay state changes (R68, R72, R76, R87) -/

/-- A pack's held-off mark is set or cleared. -/
def State.setHeldOff (s : State) (x : Src) (held : Bool) : State :=
  s.setSource x { s.source x with heldOff := held }

/-- The switch a bay's state sets on entry (Table 4-3), where it is not ON: OFF, or STANDBY in READY. -/
def State.enterSwitch (s : State) (bay : Bay) : State :=
  let x := baySrc bay
  if offState (s.bay bay).state then s.setIdleSwitch x .off
  else if (s.bay bay).state = .ready then s.setIdleSwitch x (standbyOrOff (s.source x).heldOff)
  else s

/-- A bay state change is itself a trigger (Table 4-5): a bay enters READY, or leaves READY or ACTIVE while it is not the
ON source. An entry to RELEASING is a release request, not a trigger (R76). -/
def State.bayTriggers (s : State) (bay : Bay) (old new : BayState) : Bool :=
  new != .releasing && (new == .ready || ((old == .ready || old == .active) && s.ppc.onSrc != some (baySrc bay)))

/-- A bay's held-off mark clears and its waiting release ends as it enters EMPTY (R83, R87). -/
def State.emptySource (s : State) (bay : Bay) : State :=
  if (s.bay bay).state = .empty then (s.dropRelease bay).setHeldOff (baySrc bay) false else s

/-- The Power Path Controller is told a bay's state change (R68, R72, R76, R83). A switch that is ON in a state that does
not carry the load (R95), as after a presence fall, is a loss (R82, R85). -/
def powerOnBay (bay : Bay) (old new : BayState) (s : State) : Act :=
  let s1 := (s.emptySource bay).enterSwitch bay
  let trigger := s.bayTriggers bay old new || s1.eligibilityChanges
  if (s.source (baySrc bay)).sw = .on ∧ !(s.bay bay).carries then onLoss (baySrc bay) true trigger s1.refresh
  else if new = .releasing then
    (s1.refresh, match (s.bay bay).origin with | some o => [.releaseRequest bay o] | none => [])
  else (s1.refresh, tasksIf trigger [.trigger] ++ tasksIf (old == .suspect) [.settled])

/-! ## Slot changes (R66, R72, R74, R75, R84, R87, R88) -/

/-- The BRIDGE cause is added, with its notice, unless it stands (R88): first argument 1 for the timer, 2 for the
voltage. -/
def addBridgeCause (why : Int) (s : State) : State :=
  if s.ppc.causeBridge then s
  else
    State.notify { s with ppc := Ppc.request { s.ppc with causeBridge := true } }
      { kind := .bridgeExhausting, severity := .urgent, subject := 3, arg1 := why
        arg2 := match s.freshValue bridgeSlot with | some v => v | none => 0 }

/-- BR is ON and slot 12 holds a FRESH value below the bridge low limit (R88). -/
def State.bridgeLowNow (s : State) : Bool :=
  (s.source .br).sw == .on &&
    (match s.freshValue bridgeSlot with | some v => v < (s.supply.bridgeLow : Int) | none => false)

/-- The voltage check when BR has become ON, and at a write of slot 12 (R88). -/
def checkBridge (s : State) : State := if s.bridgeLowNow then addBridgeCause 2 s else s

/-- A bay's switch goes to STANDBY when its held-off mark clears. -/
def State.restoreStandby (s : State) (bay : Bay) : State :=
  if (s.bay bay).state = .ready ∨ (s.bay bay).state = .suspect then
    s.setIdleSwitch (baySrc bay) (standbyOrOff (s.source (baySrc bay)).heldOff)
  else s

/-- A pack's held-off mark as its temperature decides it, with the switch that follows it unless it is ON (R87): OFF under
the mark, in whatever state of the bay, and STANDBY in an admitted bay without it. -/
def State.holdOff (s : State) (bay : Bay) (held : Bool) : State :=
  let s1 := s.setHeldOff (baySrc bay) held
  if held then s1.setIdleSwitch (baySrc bay) .off else s1.restoreStandby bay

/-- A pack's temperature was written above the limit (R82, R85, R87). -/
def packTooHot (bay : Bay) (s : State) : Act :=
  let x := baySrc bay
  let s1 := s.holdOff bay true
  let s2 := s1.refresh
  let concerned := s.ppc.onSrc == some x || s.ppc.attempt.any fun a => a.target == x || a.old == some x
  if concerned then onLoss x false s1.eligibilityChanges s2
  else (s2, tasksIf s1.eligibilityChanges [.trigger])

/-- The NO_ALTERNATE cause goes when the ON pack is no longer held off (R86, R87). -/
def State.dropNoAlternate (s : State) : State :=
  match s.ppc.onSrc with
  | some x =>
    if (s.source x).heldOff then s else { s with ppc := Ppc.request { s.ppc with causeNoAlternate := false } }
  | none => s

/-- A pack's temperature was written at or below the limit (R87). -/
def packCool (bay : Bay) (s : State) : Act :=
  let s1 := (s.holdOff bay false).dropNoAlternate
  afterInput false s1

/-- The Power Path Controller is told a write of a temperature slot. -/
def temperatureWritten (bay : Bay) (s : State) : Act :=
  if (s.supply.temperature : Int) < (s.slot (temperatureSlot bay)).value then packTooHot bay s else packCool bay s

/-- A write of an energy slot is a trigger (R74, R75, Table 4-5). -/
def State.energyTriggers (s : State) (bay : Bay) (old : Int) : Bool :=
  s.supply.balance ||
    (s.ppc.onSrc == some (baySrc bay) && (s.supply.reserve : Int) ≤ old && s.packEnergy bay < (s.supply.reserve : Int))

/-- The Power Path Controller is told a write of a slot it reads (Table 3-3). At slot 12 the voltage check comes before the
trigger (DESIGN CHOICE, log entry 64). -/
def powerOnWrite (slot : Fin 32) (old : Slot) (s : State) : Act :=
  match slot.val with
  | 0 => afterInput false s
  | 5 => afterInput false s
  | 2 => (s, if s.energyTriggers .a old.value then [.trigger] else [])
  | 7 => (s, if s.energyTriggers .b old.value then [.trigger] else [])
  | 3 => temperatureWritten .a s
  | 8 => temperatureWritten .b s
  | 12 => afterInput false (checkBridge s)
  | 14 => (s, [.alternates])
  | _ => (s, [])

/-- The Power Path Controller is told that a slot became STALE or NEVER (R72). The slots of a bay that has just entered
EMPTY are left to the report of that change (log entry 33). -/
def powerOnLapse (slot : Fin 32) (s : State) : Act :=
  if (slotBay slot).any fun bay => (s.bay bay).state == .empty then (s, []) else afterInput false s

/-! ## Timers (R70, R75, R88) -/

/-- The start-up limit timer expires (R70). -/
def expireStartup (s : State) : Act :=
  if !timerDue s.now s.ppc.startup then (s, [])
  else
    let s1 : State := { s with ppc := { s.ppc with startup := none, startupExpired := true } }
    if s.ppc.onSrc.isSome then (s1, [])
    else if s.ppc.engaged || s.mtu.shockHold then ({ s1 with ppc := { s1.ppc with bridgeDue := true } }, [])
    else bridgeAttempt s1

/-- The dwell timer expires (R75). -/
def expireDwell (s : State) : Act :=
  if !timerDue s.now s.ppc.dwell then (s, [])
  else ({ s with ppc := { s.ppc with dwell := none } }, [.trigger])

/-- The bridge timer expires with BR ON (R88). -/
def expireBridge (s : State) : Act :=
  if !timerDue s.now s.ppc.bridge then (s, [])
  else (addBridgeCause 1 { s with ppc := { s.ppc with bridge := none } }, [])

/-! ## Feedback and the shock-hold flag (R77, R79) -/

/-- A switch feedback line changes; an awaited target that conducts confirms (R79). -/
def onFeedback (x : Src) (conducting : Bool) (s : State) : Act :=
  ({ s with lines := { s.lines with feedback := s.lines.feedback.set x conducting } },
    if conducting && s.ppc.attempt.any fun a => a.target == x then [.confirm] else [])

/-- The flag's setting gives up an awaited attempt, except a release of origin REQUEST (R77). -/
def giveUpAttempt (s : State) : Act :=
  match s.ppc.attempt with
  | none => (s, [])
  | some a =>
    if a.kind.explicit then (s, [])
    else
      let b := failAttempt a (s.restState a.target) .aborted s
      (b.1.heldBack a.kind, b.2 ++ ([.moved, .settled] : List Task))

/-- The Power Path Controller is told of the flag (R77, R163). -/
def powerOnFlag (set : Bool) (s : State) : Act := if set && s.mtu.shockHold then giveUpAttempt s else (s, [.settled])

/-! ## A switch of the SUPPLY table (R90) -/

/-- A held-off mark under the limit in force: a FRESH temperature decides it, and one that is not FRESH keeps it
(log entry 31). -/
def State.heldOffNow (s : State) (bay : Bay) : Bool :=
  match s.freshValue (temperatureSlot bay) with
  | some v => (s.supply.temperature : Int) < v
  | none => (s.source (baySrc bay)).heldOff

/-- A bay's held-off mark and its switch brought under the limit in force (R87, R90). -/
def State.reholdBay (s : State) (bay : Bay) : State := s.holdOff bay (s.heldOffNow bay)

/-- The dwell timer under the parameters in force: from the ON pack's on-since time under BALANCE (R75, R90). -/
def State.dwellNow (s : State) : Option Timer :=
  if s.supply.balance then
    match s.ppc.onSrc with
    | some x =>
      if (srcBay x).isSome then (s.source x).onSince.map fun t => { start := t, dur := 1000 * s.supply.dwell } else none
    | none => none
  else none

/-- The dwell timer that runs on after a switch; a dwell already passed has expired, and the switch is a trigger
anyway. -/
def State.dwellLeft (s : State) : Option Timer := if timerDue s.now s.dwellNow then none else s.dwellNow

/-- The Power Path Controller's part of a SUPPLY switch (R90): it recomputes, and takes the switch as a trigger; what
waited for this part follows (log entry 53). -/
def supplyPowerSwitch (s : State) : Act :=
  let s1 := (((s.reholdBay .a).reholdBay .b).dropNoAlternate).refresh
  let s2 : State := { s1 with ppc := { s1.ppc with
    switching := false
    bridge := retime s1.ppc.bridge (1000 * s1.supply.bridgeTime)
    dwell := s1.dwellLeft } }
  ((expireBridge s2).1, [.trigger, .settled])

/-- The Power Path Controller starts when traffic opens (R69): the eligibilities, and the opening is a trigger. -/
def openPowerPath (s : State) : Act := (s.refresh, [.trigger])

end Sys2Proof.Machine
end

