-- ==== Sys2Proof/Machine/Bays.lean ====
section
/-!
DEFINITION. The bay controllers (Chapter 5): debounce, arrival, admission, the admitted pack, release, presence loss and the
two host requests.
-/

namespace Sys2Proof.Machine

/-- The attempts an admission item is given (R115). -/
def attemptLimit : Nat := 3

/-! ## Entering the states of a release (R107, R109) -/

/-- The origin argument of a release notice. -/
def originArg (o : Option Origin) : Int :=
  match o with
  | some x => originCode x
  | none => 0

/-- The bay enters RELEASED with its notice (R109). -/
def toReleased (bay : Bay) (r : BayRec) (s : State) : Act :=
  bayGoto bay .released r [bayNotice bay .bayReleased .info (originArg r.origin) 0] s

/-- The bay enters RELEASING with its origin (R107). -/
def toReleasing (bay : Bay) (origin : Origin) (s : State) : Act :=
  bayGoto bay .releasing { s.bay bay with origin := some origin, wasActive := false } [] s

/-! ## Admission (R98 to R102) -/

/-- The admission list at the beginning of an admission (R98). -/
def admissionList (polls : Image) (bay : Bay) : List AdmissionItem :=
  (admissionPlaces polls bay).map fun p => { place := p, attempts := 0, succeeded := false }

/-- The bay enters IDENTIFYING (R98). -/
def toIdentifying (bay : Bay) (s : State) : Act :=
  bayGoto bay .identifying
    { s.bay bay with
      seat := none
      origin := none
      faultReason := none
      faultPending := false
      identify := some (timerNow s s.supply.identify)
      admission := admissionList s.sru.committed.polls bay } [] s

/-- A report is a success (R99). -/
def isSuccess (bay : Bay) (outcome : TxOutcome) (results : List (Fin 32 × DescResult)) : Bool :=
  outcome == .done &&
    results.all fun r => (r.1 != voltageSlot bay && r.1 != temperatureSlot bay) || r.2 == .written

/-- An item after a report of an attempt. -/
def AdmissionItem.reported (i : AdmissionItem) (success : Bool) : AdmissionItem :=
  { i with attempts := satAdd i.attempts attemptLimit, succeeded := i.succeeded || success }

/-- The admission fails (R101). -/
def failAdmission (bay : Bay) (reason : FaultReason) (arg2 : Int) (s : State) : Act :=
  toFaulted bay reason (s.bay bay) [bayNotice bay .bayFault .warn (faultReasonCode reason) arg2] s

/-- An attempt is reported (R99). -/
def onReport (bay : Bay) (place : Fin 24) (outcome : TxOutcome) (results : List (Fin 32 × DescResult)) (s : State) : Act :=
  let r := s.bay bay
  if r.state != .identifying then (s, [])
  else
    let success := isSuccess bay outcome results
    let s1 := s.setBay bay
      { r with admission := r.admission.map fun i => if i.place = place then i.reported success else i }
    match r.admission.find? fun i => i.place == place with
    | none => (s1, [.admissionCheck bay])
    | some i =>
      if success || i.succeeded then (s1, [.admissionCheck bay])
      else if i.attempts + 1 < attemptLimit then (s1, [.admissionAgain place, .admissionCheck bay])
      else failAdmission bay .attempts place.val s1

/-- A status word has a bit in common with the pack fault mask (R103). -/
def State.statusFault (s : State) (value : Int) : Bool :=
  (BitVec.ofInt 32 value &&& BitVec.ofNat 32 s.supply.faultMask) != 0

/-- The conditions of admission hold (R100). The status word in the slot is judged by the mask in force when it was
written (R103, R115). -/
def State.admits (s : State) (bay : Bay) : Bool :=
  (s.bay bay).state == .identifying && (s.bay bay).admission.all (·.succeeded) && s.fresh (voltageSlot bay) &&
    s.fresh (temperatureSlot bay) &&
    !(s.fresh (statusSlot bay) && (s.bay bay).wordFault)

/-- The bay controller checks for admission (R100). -/
def checkAdmission (bay : Bay) (s : State) : Act :=
  if s.admits bay then
    bayGoto bay .ready { s.bay bay with identify := none, admission := [] }
      [bayNotice bay .bayAdmitted .info (s.slot (voltageSlot bay)).value (s.slot (energySlot bay)).value] s
  else (s, [])

/-- The identify timer expires (R101). -/
def onIdentifyExpiry (bay : Bay) (s : State) : Act :=
  if (s.bay bay).state = .identifying ∧ timerDue s.now (s.bay bay).identify then failAdmission bay .limit 0 s else (s, [])

/-- The admission is restarted at a POLLS switch or SOFT_RESET (R102). -/
def restartAdmission (bay : Bay) (s : State) : Act :=
  if (s.bay bay).state = .identifying then
    (s.setBay bay { s.bay bay with admission := admissionList s.sru.committed.polls bay }, [.admissionBegin bay])
  else (s, [])

/-! ## Status words (R103) -/

/-- The bay's status word was written: whether it is a status fault under the mask in force (R103, R115). -/
def State.readWord (s : State) (bay : Bay) (value : Int) : State :=
  s.setBay bay { s.bay bay with wordFault := s.statusFault value }

/-- A write of the bay's status word acts by the bay's state (Table 5-3). -/
def actOnWord (bay : Bay) (value : Int) (s : State) : Act :=
  let r := s.bay bay
  let notice := bayNotice bay .bayFault .warn (faultReasonCode .status) value
  match r.state with
  | .identifying => if s.statusFault value then failAdmission bay .status value s else (s, [])
  | .ready => if s.statusFault value then toFaulted bay .status r [notice] s else (s, [])
  | .active =>
    (s.setBay bay { r with faultPending := s.statusFault value },
      if s.statusFault value && !r.faultPending then [notice] else [])
  | .suspect =>
    (s.setBay bay { r with faultPending := s.statusFault value },
      if s.statusFault value && !r.faultPending then [notice] else [])
  | .empty => (s, [])
  | .seated => (s, [])
  | .releasing => (s, [])
  | .released => (s, [])
  | .releaseBlocked => (s, [])
  | .faulted => (s, [])

/-- A write of the bay's status word (R103). -/
def onStatusWord (bay : Bay) (value : Int) (s : State) : Act := actOnWord bay value (s.readWord bay value)

/-- The bay controllers' reading of a slot write (Table 3-3, R100, R103). -/
def bayOnWrite (slot : Fin 32) (s : State) : List Task :=
  match slotBay slot with
  | none => []
  | some bay =>
    tasksIf (slot == statusSlot bay) [.statusWord bay (s.slot slot).value] ++
      tasksIf (slot == statusSlot bay || slot == voltageSlot bay || slot == temperatureSlot bay) [.admissionCheck bay]

/-- The bay controllers' reading of a slot that became STALE or NEVER (R100). -/
def bayOnLapse (slot : Fin 32) : List Task :=
  match slotBay slot with
  | none => []
  | some bay =>
    tasksIf (slot == statusSlot bay || slot == voltageSlot bay || slot == temperatureSlot bay) [.admissionCheck bay]

/-! ## Release reports (R107 to R109) -/

/-- The release is DONE (R107, R108): the switch has been commanded OFF. -/
def onReleaseDone (bay : Bay) (s : State) : Act :=
  let r := s.bay bay
  if (r.state = .releasing ∨ r.state = .releaseBlocked) ∧ (s.source (baySrc bay)).sw ≠ .on then toReleased bay r s
  else (s, [])

/-- The release is BLOCKED (R107, R108). -/
def onReleaseBlocked (bay : Bay) (s : State) : Act :=
  let r := s.bay bay
  if r.state = .releasing then
    bayGoto bay .releaseBlocked r [bayNotice bay .releaseBlocked .urgent (originArg r.origin) 0] s
  else (s, [])

/-- An alternate is available: the bay asks for release again with the origin it had (R84, R108). -/
def onAlternate (bay : Bay) (s : State) : Act :=
  let r := s.bay bay
  if r.state = .releaseBlocked then bayGoto bay .releasing r [] s else (s, [])

/-- The shock-hold flag clears while the latch of a SUSPECT bay is OPEN (R106). -/
def onFlagCleared (bay : Bay) (s : State) : Act :=
  if (s.bay bay).state = .suspect ∧ !(s.bay bay).latchClosed then toReleasing bay .latch s else (s, [])

/-! ## Debounce (R93) -/

/-- A level has been held for the debounce time and is to be taken. -/
def LineFilter.due (f : LineFilter) (now : Time) (debounce : Nat) : Bool :=
  match f.since with
  | some t => debounce ≤ age now t
  | none => false

/-- The filter after its change is taken. -/
def LineFilter.taken (f : LineFilter) : LineFilter := { f with out := f.line, since := none }

/-- The filter after a level on its line: it times a level that differs from its output, and a line that returns ends the
timing. -/
def LineFilter.level (f : LineFilter) (now : Time) (active : Bool) : LineFilter :=
  if f.line = active then f
  else { f with line := active, since := if active = f.out then none else some now }

/-- A line of a bay changes its level (R93). -/
def onLine (bay : Bay) (line : BayLine) (active : Bool) (s : State) : State :=
  let r := s.bay bay
  match line with
  | .latch => s.setBay bay { r with latchFilter := r.latchFilter.level s.now active }
  | .presence => s.setBay bay { r with presenceFilter := r.presenceFilter.level s.now active }

/-! ## Latch changes (R96, R97, R102, R105 to R110) -/

/-- A latch change to CLOSED is taken. -/
def latchCloses (bay : Bay) (s : State) : Act :=
  let r := s.bay bay
  match r.state with
  | .suspect => if r.wasActive then bayGoto bay .active { r with wasActive := false } [] s else toReady bay r s
  | .released => if r.present then toIdentifying bay s else (s, [])
  | .releaseBlocked => bayGoto bay .active { r with origin := none } [] s
  | .empty => (s, [])
  | .seated => (s, [])
  | .identifying => (s, [])
  | .ready => (s, [])
  | .active => (s, [])
  | .releasing => (s, [])
  | .faulted => (s, [])

/-- A latch change to OPEN in an admitted bay is decided by the shock-hold flag (R105). -/
def latchOpensAdmitted (bay : Bay) (s : State) : Act :=
  let r := s.bay bay
  if s.mtu.shockHold then bayGoto bay .suspect { r with wasActive := r.state == .active } [] s
  else toReleasing bay .latch s

/-- A latch change to OPEN is taken. -/
def latchOpens (bay : Bay) (s : State) : Act :=
  let r := s.bay bay
  match r.state with
  | .identifying => toReleased bay { r with identify := none, admission := [], origin := some .latch } s
  | .ready => latchOpensAdmitted bay s
  | .active => latchOpensAdmitted bay s
  | .empty => (s, [])
  | .seated => (s, [])
  | .suspect => (s, [])
  | .releasing => (s, [])
  | .released => (s, [])
  | .releaseBlocked => (s, [])
  | .faulted => (s, [])

/-- A debounced latch change is taken (R93, R105); before traffic opens it moves the filter's output alone. -/
def onLatch (bay : Bay) (s : State) : Act :=
  let r := s.bay bay
  if !r.latchFilter.due s.now s.supply.debounce then (s, [])
  else
    let f := r.latchFilter.taken
    if !s.opened then (s.setBay bay { r with latchFilter := f }, [])
    else
      let s1 := s.setBay bay { r with latchFilter := f, latchClosed := f.out }
      if f.out then latchCloses bay s1 else latchOpens bay s1

/-! ## Presence changes (R96, R111) -/

/-- The presence of a bay is taken as PRESENT (R96). -/
def toSeated (bay : Bay) (s : State) : Act :=
  if (s.bay bay).state = .empty then
    bayGoto bay .seated { s.bay bay with present := true, seat := some (timerNow s s.supply.seat) } [] s
  else (s.setBay bay { s.bay bay with present := true }, [])

/-- The record of a bay that empties (R111). -/
def BayRec.emptied (r : BayRec) : BayRec :=
  { r with
    present := false
    seat := none
    identify := none
    admission := []
    wasActive := false
    faultPending := false
    wordFault := false
    origin := none }

/-- The notice of a presence loss (R111): the loss is abrupt when the bay's switch was commanded ON at the fall. -/
def lossNotice (bay : Bay) (s : State) : Task :=
  let left : Int := bayStateCode (s.bay bay).state
  if (s.source (baySrc bay)).sw = .on then bayNotice bay .bayAbruptLoss .urgent left 0
  else bayNotice bay .bayRemoved .info left 0

/-- The presence of a bay is taken as ABSENT (R111). -/
def toEmpty (bay : Bay) (s : State) : Act :=
  if (s.bay bay).state = .empty then (s.setBay bay { s.bay bay with present := false }, [])
  else bayGoto bay .empty (s.bay bay).emptied [lossNotice bay s] s

/-- A debounced presence change is taken (R93, R96, R111); before traffic opens it moves the filter's output alone. -/
def onPresence (bay : Bay) (s : State) : Act :=
  let r := s.bay bay
  if !r.presenceFilter.due s.now s.supply.debounce then (s, [])
  else
    let f := r.presenceFilter.taken
    let s1 := s.setBay bay { r with presenceFilter := f }
    if !s.opened then (s1, []) else if f.out then toSeated bay s1 else toEmpty bay s1

/-! ## The seat timer (R97) -/

/-- The seat timer expires (R97). -/
def onSeatExpiry (bay : Bay) (s : State) : Act :=
  let r := s.bay bay
  if r.state = .seated ∧ timerDue s.now r.seat then
    if r.latchClosed then toIdentifying bay s
    else (s.setBay bay { r with seat := some (timerNow s s.supply.seat) }, [])
  else (s, [])

/-! ## Opening and the SUPPLY switch (R93, R115, R193) -/

/-- A filter takes a change already held for the debounce time. -/
def LineFilter.settle (f : LineFilter) (now : Time) (debounce : Nat) : LineFilter :=
  if f.due now debounce then f.taken else f

/-- The bay controller takes its lines when traffic opens (R93, R96). -/
def openBayLines (bay : Bay) (s : State) : Act :=
  let r := s.bay bay
  let latch := r.latchFilter.settle s.now s.supply.debounce
  let presence := r.presenceFilter.settle s.now s.supply.debounce
  (s.setBay bay { r with latchFilter := latch, presenceFilter := presence, latchClosed := latch.out },
    if presence.out then [.seat bay] else [])

/-- The bay controller's part of a SUPPLY switch (R93, R115): running timers take their new times from their starts, and
the filters the new debounce time. A latch change, a presence change and a timer that fall due together are taken in this
order, which R93 and R112 leave open (DESIGN CHOICE, log entry 44). -/
def supplyBaySwitch (bay : Bay) (s : State) : Act :=
  let r := s.bay bay
  (s.setBay bay { r with seat := retime r.seat s.supply.seat, identify := retime r.identify s.supply.identify },
    [.latchTaken bay, .presenceTaken bay, .seatExpiry bay, .identifyExpiry bay])

end Sys2Proof.Machine
end

