-- ==== Sys2Proof/Machine/Classifier.lean ====
section
/-!
DEFINITION. The supply classifier (Chapter 6): the energy sum, the pack level, the supply class and the allowance.
-/

namespace Sys2Proof.Machine

/-- What a bay contributes to the energy sum (R117): a slot that is NEVER holds 0. -/
def State.contribution (s : State) (bay : Bay) : Int :=
  if counted (s.bay bay).state then (s.slot (energySlot bay)).value else 0

/-- The energy sum (R117). -/
def State.energySum (s : State) : Int := s.contribution .a + s.contribution .b

/-- The new pack level (Table 6-2). A loaded image whose critical threshold lies above the high one, which R191 does not
check, makes rows of the table overlap: the first row in its order is taken (DESIGN CHOICE, log entry 46). -/
def nextLevel (p : Supply) (level : PackLevel) (e : Int) : PackLevel :=
  match level with
  | .high => if e < p.crit then .critical else if e < p.high then .low else .high
  | .low => if e < p.crit then .critical else if e < p.high + p.hyst then .low else .high
  | .critical => if e < p.crit + p.hyst then .critical else if e < p.high + p.hyst then .low else .high

/-- The supply class (Table 6-3). -/
def classOf (on : Option Src) (level : PackLevel) : SupplyClass :=
  match on with
  | none => .unknown
  | some .dc => .mains
  | some .br => .bridge
  | some .a => match level with | .high => .packHigh | .low => .packLow | .critical => .packCritical
  | some .b => match level with | .high => .packHigh | .low => .packLow | .critical => .packCritical

/-- The allowance of a class (Table 6-4). -/
def allowanceOf (p : Supply) : SupplyClass → Nat
  | .unknown => p.bridge
  | .mains => p.mains
  | .packHigh => p.packHigh
  | .packLow => p.packLow
  | .packCritical => p.packCritical
  | .bridge => p.bridge

/-- The class and the allowance are evaluated (R119, R121, R122): a change of class raises its notice, and a change of the
allowance's value is handed to the Brightness Controller. The notice is posted first and the hand-off, with the step it may
start, comes after it (DESIGN CHOICE, log entry 71). -/
def evaluateClass (s : State) : Act :=
  let c := s.classifier
  let cls := classOf s.ppc.onSrc c.level
  let allowance := allowanceOf s.supply cls
  let s1 : State := { s with classifier := { c with cls := cls, allowance := allowance } }
  (if cls = c.cls then s1
    else s1.notify
      { kind := .supplyClassChanged, severity := .info, subject := 0, arg1 := classCode c.cls, arg2 := classCode cls },
    if allowance = c.allowance then [] else [.ceiling])

/-- The energy sum is recomputed (R117), then the pack level (R118), then the class (R119). -/
def recomputeEnergy (s : State) : Act :=
  let e := s.energySum
  evaluateClass { s with classifier := { s.classifier with
    energy := e, level := nextLevel s.supply s.classifier.level e } }

/-- The classifier's part of a SUPPLY switch (R123): Table 6-2 with the present E, then the class and the allowance. -/
def supplyClassSwitch (s : State) : Act :=
  evaluateClass { s with classifier := { s.classifier with
    level := nextLevel s.supply s.classifier.level s.classifier.energy } }

end Sys2Proof.Machine
end

