-- ==== Sys2Proof/Machine/Brightness.lean ====
section
/-!
DEFINITION. The Brightness Controller (Chapter 7) and the ceiling (section 6.7): modes, steps, the pipeline from counts to a
driver code, and the driver's level write.
-/

namespace Sys2Proof.Machine

/-! ## The ceiling (R125, R126, R141) -/

/-- A quotient of exact integers, truncated toward zero, added to a level and taken as a number of nits. -/
def interpolate (lo hi num den : Int) : Nat := (lo + Int.tdiv ((hi - lo) * num) den).toNat

/-- The last point of a curve whose key is at or below a value, with the point after it. -/
def segmentBelow (key : Nat × Nat → Nat) (v : Nat) : List (Nat × Nat) → Option ((Nat × Nat) × (Nat × Nat))
  | [] => none
  | [_] => none
  | p :: q :: rest =>
    match segmentBelow key v (q :: rest) with
    | some r => some r
    | none => if key p ≤ v then some (p, q) else none

/-- The luminance a display power curve assigns to an allowance (R125). A loaded curve whose point count lies outside 2
to 8 gives a free value (log entry 11); in one whose powers fall, which R191 does not check, the first case of R125 that
applies is taken (DESIGN CHOICE, log entry 46). -/
def powerCeiling (p : Light) (allowance : Nat) : Nat :=
  match p.power.head?, p.power.getLast? with
  | some first, some last =>
    if p.powerCount < 2 ∨ 8 < p.powerCount then Config.strayCurve allowance % 2001
    else if last.2 ≤ allowance then last.1
    else if allowance < first.2 then first.1
    else match segmentBelow (·.2) allowance p.power with
      | some (j, k) => interpolate j.1 k.1 (allowance - j.2) (k.2 - j.2)
      | none => first.1
  | _, _ => Config.strayCurve allowance % 2001

/-- The commanded level under a new ceiling (R141): a fall below it lowers it at once. -/
def clampLevel (q : Option Nat) (c : Nat) : Option Nat := q.map fun x => min x c

/-- The ceiling is recomputed (R126): a new value takes force, the commanded level is clamped and a step starts. -/
def recomputeCeiling (s : State) : Act :=
  match s.brc.ceiling with
  | none => (s, [])
  | some c =>
    let c' := powerCeiling s.light s.classifier.allowance
    if c' = c then (s, [])
    else ({ s with brc := { s.brc with ceiling := some c', level := clampLevel s.brc.level c' } }, [.brightStep])

/-- The Brightness Controller begins work (R129). -/
def openBrightness (s : State) : Act :=
  let c := powerCeiling s.light s.classifier.allowance
  ({ s with brc := { s.brc with
    ceiling := some c
    level := some (min s.light.start c)
    step := some (timerNow s s.light.period) } }, [])

/-! ## Modes (R130 to R132) -/

/-- The record at an entry to a mode (R130). -/
def Brc.enter (b : Brc) (mode : BrightMode) (level : Nat) : Brc :=
  match mode with
  | .auto => { b with mode := .auto, manual := none, hold := none }
  | .hold => { b with mode := .hold, manual := none, hold := if b.mode = .hold then b.hold else b.level }
  | .manual => { b with mode := .manual, manual := some level, hold := none }
  | .off => { b with mode := .off, manual := none, hold := none }

/-- An accepted SET_BRIGHTNESS (R131): the bias, the mode and its level, then a step at once. -/
def acceptBrightness (mode : BrightMode) (level : Nat) (bias : Int) (s : State) : Act :=
  ({ s with brc := Brc.enter { s.brc with bias := bias } mode (min level s.light.nMax) }, [.brightStep])

/-- A captured host write (R132): a MANUAL request, MODE_CHANGED when the mode changes, then a step at once. -/
def captureLevel (code : Nat) (s : State) : Act :=
  let s1 : State := { s with brc := s.brc.enter .manual (code * s.light.nMax / 4095) }
  (if s.brc.mode = .manual then s1
    else s1.notify
      { kind := .modeChanged, severity := .info, subject := 0, arg1 := modeCode s.brc.mode
        arg2 := modeCode .manual },
    [.brightStep])

/-! ## Stages 1 to 4 (R135 to R138) -/

/-- The status slot a status slot byte names (Table 12-3): 16 to 31, or none. -/
def statusSlotOf (c : Nat) : Option (Fin 32) :=
  if c = 0xFF then none
  else if 16 ≤ c ∧ c ≤ 31 then some (Fin.ofNat 32 c)
  else if Config.undefinedCode c % 17 = 16 then none
  else some (Fin.ofNat 32 (16 + Config.undefinedCode c % 17))

/-- A sensor's count is taken as full scale (R135). -/
def State.saturated (s : State) (status mask : Nat) : Bool :=
  match statusSlotOf status with
  | none => false
  | some slot =>
    match s.freshValue slot with
    | some v => (BitVec.ofInt 32 v &&& BitVec.ofNat 32 mask) != 0
    | none => false

/-- The largest illuminance. -/
def luxLimit : Nat := 1048575

/-- The count of a slot value (R135). -/
def countOf (v : Int) : Nat := min v.toNat 65535

/-- The illuminance of a sensor, if the sensor is usable (R135). -/
def State.illuminance (s : State) (slot : Fin 32) (k status mask : Nat) : Option Nat :=
  (s.freshValue slot).map fun v =>
    min ((if s.saturated status mask then 65535 else countOf v) * k / 256) luxLimit

/-- The front illuminance (slot 10). -/
def State.frontLux (s : State) : Option Nat := s.illuminance 10 s.light.frontK s.light.frontStatus s.light.frontMask

/-- The effective rear illuminance (slot 11, R136). -/
def State.rearLux (s : State) : Option Nat :=
  (s.illuminance 11 s.light.rearK s.light.rearStatus s.light.rearMask).map fun x => x * s.light.weight / 256

/-- The ambient illuminance from the usable sensors (Table 7-4). -/
def State.ambientLux (s : State) : Option Nat :=
  match s.frontLux, s.rearLux with
  | some f, some r => some (max f r)
  | some f, none => some f
  | none, some r => some r
  | none, none => none

/-- The log-lux code of an ambient (R137). -/
def logLux (a : Nat) : Nat :=
  if a ≤ 1 then 0
  else
    let e := Nat.log2 a
    16 * e + (if 4 ≤ e then a / 2 ^ (e - 4) else a * 2 ^ (4 - e)) % 16

/-- The change of S toward its target (R138). It never passes the target, also at a rate above 256, which a loaded image may
hold (DESIGN CHOICE, log entry 57). -/
def smoothStep (d alpha : Nat) : Nat := min d ((d * alpha + 255) / 256)

/-- The smoothed value after stage 4 (R138). -/
def smoothed (p : Light) (s l : Nat) : Nat :=
  if s < 16 * l then s + smoothStep (16 * l - s) p.alphaUp
  else s - smoothStep (s - 16 * l) p.alphaDown

/-- Stages 1 to 4 on the record: an ambient gives L and S; a loss of both sensors sets the light-lost mark. -/
def Brc.measured (b : Brc) (p : Light) : Option Nat → Brc
  | some a =>
    { b with ambient := some a, code := logLux a, smooth := smoothed p b.smooth (logLux a), lightLost := false }
  | none => { b with lightLost := true }

/-! ## Stages 5 to 9 (R139 to R142) -/

/-- The biased code X (R139). -/
def biased (smooth : Nat) (bias : Int) : Nat := min ((smooth : Int) + 16 * bias).toNat 5104

/-- The level a brightness curve gives (R139). A loaded curve whose point count lies outside 2 to 16 gives a free value
(log entry 11). -/
def curveLevel (p : Light) (x : Nat) : Nat :=
  match p.curve.head?, p.curve.getLast? with
  | some first, some last =>
    if p.curveCount < 2 ∨ 16 < p.curveCount then Config.strayCurve x % 2001
    else if x ≤ 16 * first.1 then first.2
    else if 16 * last.1 ≤ x then last.2
    else match segmentBelow (fun q => 16 * q.1) x p.curve with
      | some (i, j) => interpolate i.2 j.2 (x - 16 * i.1) (16 * j.1 - 16 * i.1)
      | none => first.2
  | _, _ => Config.strayCurve x % 2001

/-- The curve level after stage 6: AUTO alone runs stages 5 and 6 (R139). -/
def Brc.curved (b : Brc) (p : Light) : Nat :=
  match b.mode with
  | .auto => curveLevel p (biased b.smooth b.bias)
  | .hold => b.curve
  | .manual => b.curve
  | .off => b.curve

/-- The demand U (Table 7-2), from the curve level of this step. -/
def Brc.demand (b : Brc) (p : Light) (curve : Nat) : Nat :=
  match b.mode with
  | .auto => max curve p.nMin
  | .hold => b.hold.getD 0
  | .manual => b.manual.getD 0
  | .off => 0

/-- What the limited mark compares with the ceiling (R140). -/
def Brc.wanted (b : Brc) (p : Light) (curve : Nat) : Nat :=
  match b.mode with
  | .auto => curve
  | .hold => b.demand p curve
  | .manual => b.demand p curve
  | .off => 0

/-- The commanded level after stage 8 (R141). -/
def moved (p : Light) (mode : BrightMode) (q n : Nat) : Nat :=
  if mode = .off then 0 else if q < n then min (q + p.rUp) n else max (q - p.rDown) n

/-- The driver code of a level (R142). -/
def driverCode (nMax q : Nat) : Nat := if nMax ≤ q then 4095 else (q * 4095 + nMax / 2) / nMax

/-- Stages 5 to 9 on the record. -/
def Brc.leveled (b : Brc) (p : Light) : Brc :=
  let c := b.ceiling.getD 0
  let curve := b.curved p
  let n := min (b.demand p curve) c
  let q := moved p b.mode (b.level.getD 0) n
  { b with
    curve := curve
    target := n
    level := some q
    computed := driverCode p.nMax q
    limited := c < b.wanted p curve }

/-! ## Stage 10: the driver write (R143 to R145) -/

/-- A driver code as two bytes, least significant first. -/
def codeBytes (c : Nat) : List Byte := [BitVec.ofNat 8 c, BitVec.ofNat 8 (c / 256)]

/-- The driver's level write on a resolved route entry (R143). -/
def driverTxn (cmd : Byte) (code : Nat) (r : RouteSnap) : EngTxn where
  issuer := .brc
  cls := .control
  arrival := 0
  passedOver := 0
  gate := none
  write := true
  down := r.down
  cmd := cmd
  data := codeBytes code
  readLen := 0
  checked := r.checked

/-- The difference of two numbers, without sign. -/
def distance (a b : Nat) : Nat := (a - b) + (b - a)

/-- A driver write is worth placing (R143). -/
def Brc.worth (b : Brc) (p : Light) : Bool :=
  (b.computed != b.written || b.noneWritten) &&
    (p.hysteresis ≤ distance b.computed b.written || b.level == some b.target || b.noneWritten || b.owed)

/-- The consecutive failures after a completion (Table 7-7). -/
def writeFailures (outcome : TxOutcome) (n : Nat) : Nat :=
  if outcome = .done then 0 else if isFailure outcome then satAdd n 255 else n

/-- The driver write completes (R145); `segment` is the notice's subject. -/
def driverDone (segment : Nat) (code : Nat) (outcome : TxOutcome) (s : State) : State :=
  let b := s.brc
  let n := writeFailures outcome b.failures
  let b' : Brc := { b with
    write := .none
    written := if outcome = .done then code else b.written
    noneWritten := b.noneWritten && outcome != .done
    owed := outcome != .done
    failures := n }
  let s' : State := { s with brc := b' }
  if n = 3 ∧ b.failures = 2 then
    s'.notify
      { kind := .backlightWriteFailed, severity := .warn, subject := segment, arg1 := outcomeCode outcome, arg2 := code }
  else s'

/-- A port whose queued driver write carries a new code (R144). -/
def Port.recoded (code : Nat) (p : Port) : Port :=
  { p with queue := p.queue.map fun t => if t.issuer = .brc then { t with data := codeBytes code } else t }

/-- The data of the queued driver write replaced (R144). -/
def State.recode (s : State) (code : Nat) : State :=
  { s with
    ports :=
      { p1 := s.ports.p1.recoded code
        p2 := s.ports.p2.recoded code
        p3 := s.ports.p3.recoded code
        p4 := s.ports.p4.recoded code }
    brc := { s.brc with write := .queued code } }

/-- A driver write is placed (R143); a key that resolves to no entry fails at once. -/
def placeDriver (s : State) : Act :=
  match routeOf s.sru.committed s.light.driverKey with
  | none => (driverDone 0 s.brc.computed .noRoute s, [])
  | some r =>
    ({ s with brc := { s.brc with write := .queued s.brc.computed } },
      [.place r.seg (driverTxn s.light.command s.brc.computed r)])

/-- Stage 10 (R143 to R145). -/
def writeOut (s : State) : Act :=
  match s.brc.write with
  | .executing _ => (s, [])
  | .queued _ => (s.recode s.brc.computed, [])
  | .none =>
    if s.brc.worth s.light then placeDriver s
    else
      ({ s with brc := { s.brc with
        owed := s.brc.owed && (s.brc.computed != s.brc.written || s.brc.noneWritten) } }, [])

/-! ## The step (R129, R133) -/

/-- ALS_LOST is raised (R136): no sensor is usable and none has been found lost yet. -/
def alsNotice (was : Brc) (a : Option Nat) (s : State) : State :=
  if a.isNone && !was.lightLost then
    s.notify { kind := .alsLost, severity := .warn, subject := 0, arg1 := 0, arg2 := 0 }
  else s

/-- CEILING_LIMITING is raised at an entry into the limited condition (R140). -/
def limitNotice (was : Brc) (p : Light) (s : State) : State :=
  if s.brc.limited && !was.limited then
    s.notify
      { kind := .ceilingLimiting, severity := .info, subject := 0, arg1 := s.brc.wanted p s.brc.curve
        arg2 := s.brc.ceiling.getD 0 }
  else s

/-- The stages of Table 7-3, in order. -/
def fullStep (s : State) : Act :=
  let p := s.light
  let a := s.ambientLux
  let b := { s.brc with awaitingLight := false }
  let s1 := alsNotice b a { s with brc := b.measured p a }
  let s2 := limitNotice b p { s1 with brc := s1.brc.leveled p }
  writeOut s2

/-- A step in AUTO or HOLD waits for light (R129). -/
def State.waitsForLight (s : State) : Bool :=
  s.brc.awaitingLight && (s.brc.mode == .auto || s.brc.mode == .hold) && !s.fresh 10 && !s.fresh 11

/-- A step (R133): it restarts the step timer with the period in force; none runs before the tables take force. -/
def brightnessStep (s : State) : Act :=
  if s.brc.ceiling.isNone then (s, [])
  else
    let s1 : State := { s with brc := { s.brc with step := some (timerNow s s.light.period) } }
    if s.waitsForLight then (s1, []) else fullStep s1

/-- The step timer expires (R133). -/
def onStepTimer (s : State) : Act := if timerDue s.now s.brc.step then brightnessStep s else (s, [])

/-- SOFT_RESET acts on the Brightness Controller (R150). -/
def resetBrightness (s : State) : Act :=
  ({ s with brc := { s.brc with mode := .auto, bias := 0, manual := none, hold := none } }, [.ceiling, .brightStep])

end Sys2Proof.Machine
end

