-- ==== Sys2Proof/Machine/Motion.lean ====
section
/-!
DEFINITION. The Motion Unit (Chapter 8): motion reads, samples, the motion states, PARK, the shock-hold flag, drop records
and the drop log.
-/

namespace Sys2Proof.Machine

/-- The sample-loss time in ms (R154). -/
def sampleLossTime : Nat := 50

/-- The retry interval in ms (R152). -/
def retryTime : Nat := 10

/-- The state with the Motion Unit's record replaced. -/
def State.setMtu (s : State) (m : Mtu) : State := { s with mtu := m }

/-! ## Motion reads (R152, R153) -/

/-- The motion read on a resolved route entry (R152). -/
def motionTxn (cmd : Byte) (r : RouteSnap) : EngTxn where
  issuer := .mtu
  cls := .motion
  arrival := 0
  passedOver := 0
  gate := none
  write := false
  down := r.down
  cmd := cmd
  data := []
  readLen := 24
  checked := r.checked

/-- A motion read ends without samples (R153). -/
def Mtu.readFailed (m : Mtu) (now : Time) (outcome : TxOutcome) : Mtu :=
  { m with
    placed := false
    lastRead := some outcome
    readsFailed := satAdd m.readsFailed 65535
    failTime := some now
    retryArmed := true }

/-- A motion read is placed when none is outstanding (R152). -/
def placeMotionRead (s : State) : Act :=
  if s.mtu.placed then (s, [])
  else match routeOf s.sru.committed s.motionParams.key with
    | none => (s.setMtu (s.mtu.readFailed s.now .noRoute), [])
    | some r =>
      if r.seg = .sp4 then
        (s.setMtu { s.mtu with placed := true }, [.place .sp4 (motionTxn s.motionParams.command r)])
      else (s.setMtu (s.mtu.readFailed s.now .noRoute), [])

/-- ACC_WM changes (R152): before traffic opens it is not noticed. -/
def onAccWm (asserted : Bool) (s : State) : Act :=
  ({ s with lines := { s.lines with accWm := asserted } },
    tasksIf (asserted && !s.lines.accWm && s.opened) [.motionRead])

/-- Ten milliseconds have passed after a read that did not complete DONE (R152). -/
def onRetryTimer (s : State) : Act :=
  match s.mtu.failTime with
  | none => (s, [])
  | some t =>
    if s.mtu.retryArmed && retryTime ≤ age s.now t then
      (s.setMtu { s.mtu with retryArmed := false }, tasksIf s.lines.accWm [.motionRead])
    else (s, [])

/-- An axis value of a sample: its word taken as signed and shifted right by four (R153). -/
def axisAt (data : List Byte) (i : Nat) : Int := i16 data i / 16

/-- The time of sample `i` of a read (R153). -/
def sampleTime (now : Time) (i : Nat) : Time := now - BitVec.ofNat 32 ((3 - i) * 5 / 2)

/-- The samples of a read, in order (R153). -/
def sampleTasks (now : Time) (data : List Byte) : List Task :=
  (List.range 4).map fun i =>
    .sample (axisAt data (6 * i)) (axisAt data (6 * i + 2)) (axisAt data (6 * i + 4)) (sampleTime now i)

/-- The motion read completes (R153). With ACC_WM asserted the next read is placed after the four samples have been handled
(R152; DESIGN CHOICE, log entry 61). -/
def motionDone (outcome : TxOutcome) (data : List Byte) (s : State) : Act :=
  if outcome = .done then
    (s.setMtu { s.mtu with
        placed := false, lastRead := some .done, starved := false, lossSince := some s.now, retryArmed := false },
      sampleTasks s.now data ++ tasksIf s.lines.accWm [.motionRead])
  else (s.setMtu (s.mtu.readFailed s.now outcome), [])

/-! ## Samples (R155, R165) -/

/-- The class of a sample (Table 8-2). -/
inductive SampleClass | low | high | band | mid
deriving DecidableEq, Repr

/-- The squared magnitude of a sample (R155). -/
def squared (x y z : Int) : Nat := (x * x + y * y + z * z).toNat

/-- The class of a squared magnitude (Table 8-2). A loaded image that breaks F ≤ L ≤ H < I, which R191 does not check,
makes classes overlap: LOW is tested first, then HIGH, then BAND (DESIGN CHOICE, log entry 46). -/
def classOfSample (p : MotionParams) (m : Nat) : SampleClass :=
  if m < p.fall * p.fall then .low
  else if p.impact * p.impact < m then .high
  else if p.low * p.low ≤ m ∧ m ≤ p.high * p.high then .band
  else .mid

/-- The peak axis and sign of a sample (R165): x before y before z when two are equal, + for 0. -/
def peakAxisOf (x y z : Int) : PeakAxis :=
  if y.natAbs ≤ x.natAbs ∧ z.natAbs ≤ x.natAbs then (if x < 0 then .minusX else .plusX)
  else if z.natAbs ≤ y.natAbs then (if y < 0 then .minusY else .plusY)
  else (if z < 0 then .minusZ else .plusZ)

/-- A sample as it acts: its axes, its time, its squared magnitude, and the history before it joined. -/
structure Sample where
  x : Int
  y : Int
  z : Int
  time : Time
  mag : Nat
  before : List Nat
deriving DecidableEq, Repr

/-- The trace code of a sample (M = 7). -/
def Sample.code (q : Sample) : Nat := compact 7 q.mag

/-- A record takes a sample as its new peak (R165). -/
def DropRec.peaked (r : DropRec) (q : Sample) : DropRec :=
  { r with
    peak := q.mag
    peakCode := compact 10 q.mag
    axis := peakAxisOf q.x q.y q.z
    before := q.before
    peakTrace := q.code
    after := [] }

/-- A later sample of an open record: a new peak, or a code of the after-part (R165). -/
def DropRec.tracked (r : DropRec) (q : Sample) : DropRec :=
  if r.peak < q.mag then r.peaked q
  else { r with after := if r.after.length < 15 then r.after ++ [q.code] else r.after }

/-- The history with a code added: the eight latest, oldest first (R165). -/
def addHistory (history : List Nat) (code : Nat) : List Nat :=
  (if history.length < 8 then history else history.drop 1) ++ [code]

/-- A record opened by a sample (R164). -/
def openedRecord (seq : Half) (kind : DropKind) (start : Time) (q : Sample) : DropRec :=
  DropRec.peaked
    { seq := seq, kind := kind, followed := false, start := start, freeFall := 0, parkToImpact := none, peak := 0
      peakCode := 0, axis := .plusX, impacts := 0, settle := 0, snap := none, before := [], peakTrace := 0
      after := [], read := false } q

/-- The Motion Unit opens a record (R164). -/
def Mtu.opens (m : Mtu) (kind : DropKind) (start : Time) (q : Sample) : Mtu :=
  { m with openRec := some (openedRecord m.seq kind start q), seq := m.seq + 1 }

/-! ## PARK and the flag (R162, R163) -/

/-- An interval in ms in a field of 0 to 65535 (R164): held at 65535, and at 0 where the later time precedes the earlier
one (section 7 of 00_scope.md). -/
def heldInterval (later earlier : Time) : Nat :=
  if reached later earlier then min (age later earlier) 65535 else 0

/-- Entering FALLING or IMPACT: PARK asserted, the flag set, both hold timers stopped (R160 to R163). -/
def Mtu.alarmed (m : Mtu) (t : Time) : Mtu :=
  { m with
    park := true
    parkTime := if m.park then m.parkTime else some t
    parkHold := none
    shockHold := true
    shockTimer := none }

/-- The bays and the Power Path Controller are told of a change of the flag (R163). -/
def flagTasks (was now : Bool) : List Task := tasksIf (was != now) [.flagChanged now]

/-- The park hold expires (R162). -/
def parkExpires (s : State) : State :=
  if timerDue s.now s.mtu.parkHold then s.setMtu { s.mtu with park := false, parkHold := none } else s

/-- The shock hold expires (R163). -/
def shockExpires (s : State) : Act :=
  if timerDue s.now s.mtu.shockTimer then
    (s.setMtu { s.mtu with shockHold := false, shockTimer := none }, flagTasks s.mtu.shockHold false)
  else (s, [])

/-! ## Entering the motion states (R156 to R160) -/

/-- Entering FALLING (R156): FREE_FALL is posted, and then the flag's change is told (DESIGN CHOICE, log entry 58). -/
def enterFalling (start : Time) (q : Sample) (s : State) : Act :=
  let m := (s.mtu.opens .drop start q).alarmed q.time
  ((s.setMtu { m with state := .falling, entry := q.time }).notify
      { kind := .freeFall, severity := .warn, subject := 0, arg1 := s.mtu.seq.toNat, arg2 := 0 },
    flagTasks s.mtu.shockHold true)

/-- The snapshots of a record (R164). -/
def State.dropSnap (s : State) : DropSnap where
  onSrc := s.ppc.onSrc
  cls := s.classifier.cls
  bayA := (s.bay .a).state
  bayB := (s.bay .b).state

/-- The PARK-to-impact time (R164): 0 when the sample is not later than the assertion. -/
def parkToImpact (sample : Time) : Option Time → Nat
  | some t => heldInterval sample t
  | none => 0

/-- Entering SETTLING: both runs are 0 (R158). -/
def Mtu.settling (m : Mtu) (t : Time) : Mtu :=
  { m with state := .settling, entry := t, fallRun := 0, settleRun := 0 }

/-- The impact window is full at a sample (R158): the state becomes SETTLING at its time. -/
def Mtu.windowFull (m : Mtu) (window : Nat) (t : Time) : Mtu := if window ≤ m.window then m.settling t else m

/-- Entering IMPACT with an open record (R158, R164): the entering sample is the first of the window, and fills a window
of 1. A KNOCK that strikes in NORMAL while the park hold of an earlier fall runs has the PARK-to-impact time of R164's
formula, the time since the earlier assertion, and not the 0 of its sentence on a KNOCK from NORMAL (DESIGN CHOICE, log
entry 47). IMPACT is posted before the flag's change is told (DESIGN CHOICE, log entry 58). -/
def enterImpact (q : Sample) (s : State) : Act :=
  let m := s.mtu.alarmed q.time
  match m.openRec with
  | none => (s, [])
  | some r =>
    let r' : DropRec := { r with
      impacts := 1, parkToImpact := some (parkToImpact q.time m.parkTime), snap := some s.dropSnap }
    let m' : Mtu := { m with state := .impact, entry := q.time, window := 1, openRec := some r' }
    ((s.setMtu (m'.windowFull s.motionParams.window q.time)).notify
        { kind := .impact, severity := .urgent, subject := 0, arg1 := dropCode r.kind, arg2 := compact 10 q.mag },
      flagTasks s.mtu.shockHold true)

/-- A blow in NORMAL or SETTLING opens a KNOCK (R156, R159). The free-fall and settle runs keep what they held, and the
impact window count keeps its last value in SETTLING and FALLING; the rules name no other value (DESIGN CHOICE, log entry
48). -/
def knock (q : Sample) (s : State) : Act := enterImpact q (s.setMtu (s.mtu.opens .knock q.time q))

/-- Entering SENSOR_LOST with its notice (R154). -/
def loseSensor (s : State) : State :=
  (s.setMtu { s.mtu with state := .sensorLost, entry := s.now }).notify
    { kind := .sensorLost, severity := .warn, subject := 4, arg1 := outcomeCodeOpt s.mtu.lastRead, arg2 := 0 }

/-- Entering NORMAL from SETTLING (R160, R162, R163): the holds start, and one of 0 ends at once. -/
def Mtu.normal (m : Mtu) (p : MotionParams) (now t : Time) : Mtu :=
  { m with
    state := .normal
    entry := t
    fallRun := 0
    settleRun := 0
    window := 0
    park := m.park && p.parkHold != 0
    parkHold := if p.parkHold = 0 then none else some { start := now, dur := p.parkHold }
    shockHold := m.shockHold && p.shockHold != 0
    shockTimer := if p.shockHold = 0 then none else some { start := now, dur := p.shockHold } }

/-- Entering NORMAL from SETTLING: the reloaded MOTION table that waits is taken (R172), and a starved sensor is lost at
once (R154). The holds start under the parameters so far in force, of which one of 0 ends at once, and the reload follows
(DESIGN CHOICE, log entry 49). SENSOR_LOST is posted before the flag's change is told (DESIGN CHOICE, log entry 58). -/
def enterNormal (t : Time) (s : State) : Act :=
  let s1 := s.setMtu (s.mtu.normal s.motionParams s.now t)
  (if s1.mtu.starved then loseSensor s1 else s1, flagTasks s.mtu.shockHold s1.mtu.shockHold ++ [.motionSwitch])

/-- The first sample in SENSOR_LOST returns the state to NORMAL and clears the flag (R154, R163). -/
def sensorReturns (t : Time) (s : State) : State :=
  s.setMtu { s.mtu with
    state := .normal, entry := t, fallRun := 0, settleRun := 0, window := 0, shockHold := false, shockTimer := none }

/-! ## The drop log (R168, R169) -/

/-- A record of the log. -/
def Mtu.logAt (m : Mtu) (i : Fin 4) : Option DropRec := m.log[i]

/-- The empty place with the lowest index (R169, step 1). -/
def Mtu.emptyPlace (m : Mtu) : Option (Fin 4) := (List.finRange 4).find? fun i => (m.logAt i).isNone

/-- The read record that entered the log earliest (R169, step 2). -/
def Mtu.readPlace (m : Mtu) : Option (Fin 4) := m.order.find? fun i => (m.logAt i).any (·.read)

/-- The peak code at a place. -/
def Mtu.peakAt (m : Mtu) (i : Fin 4) : Nat := match m.logAt i with | some r => r.peakCode | none => 0

/-- The place with the smallest peak code, the earliest entered when several share it (R169, step 3). -/
def Mtu.weakest (m : Mtu) : List (Fin 4) → Option (Fin 4)
  | [] => none
  | i :: rest =>
    match m.weakest rest with
    | some j => if m.peakAt j < m.peakAt i then some j else some i
    | none => some i

/-- The place an offered record takes, if it is kept (R169). -/
def Mtu.placeFor (m : Mtu) (r : DropRec) : Option (Fin 4) :=
  match m.emptyPlace, m.readPlace with
  | some i, _ => some i
  | none, some i => some i
  | none, none => (m.weakest m.order).filter fun i => m.peakAt i < r.peakCode

/-- A record enters a place of the log (R169). -/
def Mtu.enterLog (m : Mtu) (i : Fin 4) (r : DropRec) : Mtu :=
  { m with log := m.log.set i (some { r with read := false }), order := m.order.filter (· != i) ++ [i] }

/-- A closed record is offered to the log (R169). -/
def offerRecord (r : DropRec) (s : State) : State :=
  match s.mtu.placeFor r with
  | some i =>
    (s.setMtu (s.mtu.enterLog i r)).notify
      { kind := .dropRecorded, severity := .warn, subject := i.val, arg1 := dropCode r.kind, arg2 := r.peakCode }
  | none =>
    s.notify
      { kind := .dropNotLogged, severity := .warn, subject := 0, arg1 := dropCode r.kind, arg2 := r.peakCode }

/-- The open record closes at a time (R168). -/
def closeRecord (followed : Bool) (t : Time) (s : State) : State :=
  match s.mtu.openRec with
  | none => s
  | some r =>
    let r' : DropRec := { r with
      followed := followed
      snap := match r.snap with | some x => some x | none => some s.dropSnap
      settle := heldInterval t s.mtu.entry }
    let s1 := offerRecord r' s
    s1.setMtu { s1.mtu with openRec := none }

/-! ## The motion state machine (R156 to R159) -/

/-- A LOW sample advances the free-fall run; the run's first sample gives its start time. -/
def Mtu.fallSample (m : Mtu) (t : Time) : Mtu :=
  { m with fallRun := satAdd m.fallRun 255, fallStart := if m.fallRun = 0 then t else m.fallStart }

/-- A sample in NORMAL (R156). -/
def actNormal (c : SampleClass) (q : Sample) (s : State) : Act :=
  match c with
  | .low =>
    let m := s.mtu.fallSample q.time
    if s.motionParams.fallCount ≤ m.fallRun then enterFalling m.fallStart q (s.setMtu m) else (s.setMtu m, [])
  | .high => knock q s
  | .band => (s.setMtu { s.mtu with fallRun := 0 }, [])
  | .mid => (s.setMtu { s.mtu with fallRun := 0 }, [])

/-- The open record with a change. -/
def Mtu.mapOpen (m : Mtu) (f : DropRec → DropRec) : Mtu := { m with openRec := m.openRec.map f }

/-- The fall ends without a strike (R157). -/
def Mtu.caught (m : Mtu) (t : Time) : Mtu :=
  (m.mapOpen fun r => { r with
    kind := .caught, freeFall := heldInterval t r.start, parkToImpact := none }).settling t

/-- A sample in FALLING (R157). -/
def actFalling (c : SampleClass) (q : Sample) (s : State) : Act :=
  match c with
  | .low => (s, [])
  | .high =>
    enterImpact q (s.setMtu (s.mtu.mapOpen fun r => { r with kind := .drop, freeFall := heldInterval q.time r.start }))
  | .band => (s.setMtu (s.mtu.caught q.time), [])
  | .mid => (s.setMtu (s.mtu.caught q.time), [])

/-- A sample in IMPACT (R158): the window and the impact count advance. -/
def Mtu.windowSample (m : Mtu) (high : Bool) : Mtu :=
  Mtu.mapOpen { m with window := satAdd m.window 255 } fun r =>
    { r with impacts := if high then satAdd r.impacts 255 else r.impacts }

/-- A sample in IMPACT (R158). -/
def actImpact (c : SampleClass) (q : Sample) (s : State) : Act :=
  (s.setMtu ((s.mtu.windowSample (c == .high)).windowFull s.motionParams.window q.time), [])

/-- A sample in SETTLING (R159). -/
def actSettling (c : SampleClass) (q : Sample) (s : State) : Act :=
  match c with
  | .band =>
    let m := { s.mtu with settleRun := satAdd s.mtu.settleRun 1000, fallRun := 0 }
    if s.motionParams.settleCount ≤ m.settleRun then enterNormal q.time (closeRecord false q.time (s.setMtu m))
    else (s.setMtu m, [])
  | .low =>
    let m := { s.mtu.fallSample q.time with settleRun := 0 }
    if s.motionParams.fallCount ≤ m.fallRun then enterFalling m.fallStart q (closeRecord true q.time (s.setMtu m))
    else (s.setMtu m, [])
  | .high => knock q (closeRecord false q.time s)
  | .mid => (s.setMtu { s.mtu with fallRun := 0, settleRun := 0 }, [])

/-- A sample acts on the motion state. -/
def actSample (c : SampleClass) (q : Sample) (s : State) : Act :=
  match s.mtu.state with
  | .normal => actNormal c q s
  | .falling => actFalling c q s
  | .impact => actImpact c q s
  | .settling => actSettling c q s
  | .sensorLost => (s, [])

/-- A sample joins the history and the open record, then acts on the state (R155). -/
def actOn (x y z : Int) (t : Time) (s : State) : Act :=
  let q : Sample := { x := x, y := y, z := z, time := t, mag := squared x y z, before := s.mtu.history }
  let m := s.mtu.mapOpen fun r => r.tracked q
  actSample (classOfSample s.motionParams q.mag) q
    (s.setMtu { m with history := addHistory m.history q.code, samples := m.samples + 1 })

/-- A sample is taken (R154, R155): the first one in SENSOR_LOST returns the state to NORMAL, which is told before the
sample acts there. -/
def takeSample (x y z : Int) (t : Time) (s : State) : Act :=
  if s.mtu.state = .sensorLost then (sensorReturns t s, flagTasks s.mtu.shockHold false ++ [.sample x y z t])
  else actOn x y z t s

/-! ## Time limits (R154, R157, R159) -/

/-- The sample-loss time has passed without a delivery (R154). -/
def onSampleLoss (s : State) : Act :=
  match s.mtu.lossSince with
  | none => (s, [])
  | some t =>
    if s.mtu.starved || age s.now t < sampleLossTime then (s, [])
    else
      let s1 := s.setMtu { s.mtu with starved := true }
      match s.mtu.state with
      | .normal => (loseSensor s1, [])
      | .impact => (s1.setMtu (s1.mtu.settling s.now), [])
      | .falling => (s1, [])
      | .settling => (s1, [])
      | .sensorLost => (s1, [])

/-- The fall ends on its limit (R157). -/
def Mtu.longFall (m : Mtu) (limit : Nat) (now : Time) : Mtu :=
  (m.mapOpen fun r => { r with kind := .longFall, freeFall := limit, parkToImpact := none }).settling now

/-- The fall limit expires (R157). -/
def onFallLimit (s : State) : Act :=
  match s.mtu.state, s.mtu.openRec with
  | .falling, some r =>
    if s.motionParams.fallLimit ≤ age s.now r.start then
      (s.setMtu (s.mtu.longFall s.motionParams.fallLimit s.now), [])
    else (s, [])
  | _, _ => (s, [])

/-- The settle limit expires (R159). -/
def onSettleLimit (s : State) : Act :=
  if s.mtu.state = .settling ∧ s.motionParams.settleLimit ≤ age s.now s.mtu.entry then
    enterNormal s.now (closeRecord false s.now s)
  else (s, [])

/-! ## Start, SOFT_RESET and the MOTION table (R151, R172) -/

/-- The Motion Unit starts work when traffic opens (R151, R152, R154). -/
def openMotionUnit (s : State) : Act :=
  (s.setMtu { s.mtu with lossSince := some s.now }, tasksIf s.lines.accWm [.motionRead])

/-- A MOTION table that waits takes force when no record is open (R172). -/
def takeMotionTable (s : State) : Act :=
  if s.mtu.motionDue && s.mtu.openRec.isNone then
    let p := motionOf s.sru.committed.motion
    shockExpires (parkExpires
      { s with
        sru := { s.sru with motionForce := s.sru.committed.motion }
        mtu := { s.mtu with
          motionDue := false
          parkHold := retime s.mtu.parkHold p.parkHold
          shockTimer := retime s.mtu.shockTimer p.shockHold } })
  else (s, [])

end Sys2Proof.Machine
end

