-- ==== Sys2Proof/Machine/Upstream.lean ====
section
/-!
DEFINITION. The Upstream Link Interface and the Route and Guard Unit (Chapter 1): the transaction phases, lookup, gates,
guards, trailers, posted writes, held reads, answers and the outcome ring; and the bytes of a service exchange (R173, R175).
-/

namespace Sys2Proof.Machine

/-- The stretch limit in ms (R4, R5, R175). -/
def stretchLimit : Nat := 30

/-- The abandonment limit in ms (R7). -/
def stallLimit : Nat := 35

/-- The most records of the outcome ring (R24). -/
def ringLimit : Nat := 8

/-- The state with the Upstream Link Interface replaced. -/
def State.setUli (s : State) (u : Uli) : State := { s with uli := u }

/-! ## Replies and phases (R1) -/

/-- The ULI with no transaction open, after a reply. -/
def Uli.toIdle (u : Uli) (reply : LinkReply) : Uli :=
  { u with
    phase := .idle
    txn := none
    byteHold := none
    heldSince := none
    answer := []
    answerPos := 0
    reply := reply }

/-- An acknowledge or NACK in a phase; the clock of R7 starts again. -/
def Uli.say (u : Uli) (phase : Phase) (reply : LinkReply) (now : Time) : Uli :=
  { u with phase := phase, reply := reply, lastActivity := now }

/-- A NACK after which the host has still to end the transaction (R1). -/
def Uli.toDrain (u : Uli) (now : Time) : Uli :=
  { u with phase := .drain, txn := none, byteHold := none, heldSince := none, reply := .nack, lastActivity := now }

/-- The answer of a read is ready: the address is acknowledged and READOUT begins (R5, R6). -/
def Uli.toReadout (u : Uli) (answer : List Byte) (now : Time) : Uli :=
  { u with
    phase := .readout
    txn := none
    heldSince := none
    answer := answer
    answerPos := 0
    reply := .ack
    lastActivity := now }

/-! ## Outcome records (R24, R26) -/

/-- A record joins the ring; the oldest of eight makes room (R24). -/
def addRecord (ring : List OutcomeRec) (r : OutcomeRec) : List OutcomeRec :=
  (if ring.length < ringLimit then ring else ring.drop 1) ++ [r]

/-- An outcome is recorded with the next sequence number (R24). -/
def State.record (s : State) (addr : Addr) (cmd : Option Byte) (dir : Dir) (outcome : TxOutcome) : State :=
  s.setUli { s.uli with
    ring := addRecord s.uli.ring
      { seq := s.uli.seq, time := s.now, addr := addr, cmd := cmd, dir := dir, outcome := outcome }
    seq := s.uli.seq + 1 }

/-- PASS_WRITE_FAILED for a write whose every byte was acknowledged (R26); `seq` is its record's number. -/
def writeFailed (seg : Seg) (seq : Half) (outcome : TxOutcome) : Post where
  kind := .passWriteFailed
  severity := .warn
  subject := segNumber seg
  arg1 := seq.toNat
  arg2 := outcomeCode outcome

/-- The transaction is NACKed with an outcome, and the ULI enters DRAIN. -/
def State.refuse (s : State) (t : UpTxn) (dir : Dir) (outcome : TxOutcome) : State :=
  let s1 := s.record t.addr t.cmd dir outcome
  s1.setUli (s1.uli.toDrain s.now)

/-! ## Guards (R15 to R17) -/

/-- A rule matches a command in a direction (R15): MASK and CAPTURE_LEVEL act on writes, SYNTH_LEVEL on reads. -/
def GuardRule.matches (r : GuardRule) (cmd : Byte) (write : Bool) : Bool :=
  decide (r.low.toNat ≤ cmd.toNat) && decide (cmd.toNat ≤ r.high.toNat) &&
    (match r.dir with | .write => write | .read => !write | .both => true) &&
    (match r.action with
      | .pass => true
      | .refuse => true
      | .mask => write
      | .captureLevel => write
      | .synthLevel => !write)

/-- The first matching rule (R15). -/
def RouteSnap.rule (e : RouteSnap) (cmd : Byte) (write : Bool) : Option GuardRule :=
  e.rules.find? fun r => r.matches cmd write

/-- The action that decides a transaction; PASS when no rule matches. -/
def RouteSnap.action (e : RouteSnap) (cmd : Byte) (write : Bool) : GuardAction :=
  match e.rule cmd write with
  | some r => r.action
  | none => .pass

/-- A MASK replaces the bytes whose mask bit is 0 (R17). -/
def maskBytes (r : GuardRule) (data : List Byte) : List Byte :=
  (List.range data.length).map fun i =>
    if i < 8 ∧ !bitAt r.mask i then r.fill.getD i 0 else data.getD i 0

/-- The data as the guards leave them. -/
def RouteSnap.forwarded (e : RouteSnap) (cmd : Byte) (data : List Byte) : List Byte :=
  match e.rule cmd true with
  | some r => if r.action = .mask then maskBytes r data else data
  | none => data

/-! ## The first address byte (R1, R8, R10, R12) -/

/-- The used indicator of a matched entry is set (R23). -/
def State.markUsed (s : State) (e : RouteSnap) : State :=
  match e.key.bind (routePlace s.sru.committed.routes) with
  | some p =>
    { s with sru := { s.sru with committed := { s.sru.committed with
      routes := mapIndicator s.sru.committed.routes p fun b => b ||| 1 } } }
  | none => s

/-- A transaction as it opens. -/
def UpTxn.opened (addr : Addr) (snap : Option RouteSnap) : UpTxn where
  addr := addr
  snap := snap
  cmd := none
  data := []
  inLane := false

/-- The decisions on a matched lookup (Table 1-3): ENGINE class, then a closed gate without a stand-in reply. -/
def openMatched (addr : Addr) (e : RouteSnap) (s : State) : State :=
  let t := UpTxn.opened addr (some e)
  if e.engineOnly then s.refuse t .none .refused
  else if s.gateClosed e.gate && e.standIn.isNone then s.refuse t .none .gated
  else s.setUli { s.uli.say .address .ack s.now with txn := some t }

/-- A first address byte in IDLE (R1, R2, R173). -/
def openTransaction (addr : Addr) (read : Bool) (s : State) : State :=
  let t := UpTxn.opened addr none
  if addr = serviceAddr s.lines.addrSelHigh then
    if read then s.setUli (s.uli.toDrain s.now)
    else s.setUli { s.uli.say .address .ack s.now with txn := some t }
  else if read then s.refuse t .read .refused
  else if reservedAddr addr then s.refuse t .none .noRoute
  else match lookupRoute s.sru.committed addr with
    | none => s.refuse t .none .noRoute
    | some e => openMatched addr e (s.markUsed e)

/-- A first address byte by the phase: NACKed in STARTING (R1); it opens a transaction in IDLE alone. -/
def onFirstAddress (addr : Addr) (read : Bool) (s : State) : State :=
  match s.uli.phase with
  | .starting => s.setUli { s.uli with reply := .nack }
  | .idle => openTransaction addr read s
  | .address => s
  | .command => s
  | .writeData => s
  | .held => s
  | .readout => s
  | .drain => s

/-! ## The command byte (R15) -/

/-- The command byte (R2, R15): NACKed when both directions are refused. -/
def onCommand (byte : Byte) (s : State) : State :=
  match s.uli.phase, s.uli.txn with
  | .address, some t =>
    let t' := { t with cmd := some byte }
    match t.snap with
    | none => s.setUli { s.uli.say .command .ack s.now with txn := some t' }
    | some e =>
      if e.action byte true = .refuse ∧ e.action byte false = .refuse then s.refuse t' .none .refused
      else s.setUli { s.uli.say .command .ack s.now with txn := some t' }
  | .drain, _ => s.setUli (s.uli.say .drain .nack s.now)
  | _, _ => s

/-! ## Data bytes of a write (R2 to R4, R173) -/

/-- The pass lane of a segment is occupied. -/
def State.laneBusy (s : State) (seg : Seg) : Bool := (s.port seg).lane.isSome

/-- A refusal at the first data byte, or at the stop of a zero-data write (Table 1-3, R11, R16). -/
def State.writeRefusal (s : State) (e : RouteSnap) (cmd : Byte) : Option TxOutcome :=
  if s.gateClosed e.gate then some .gated
  else if e.writeProtect then some .refused
  else if e.action cmd true = .refuse then some .refused
  else none

/-- The byte joins the data and is acknowledged. -/
def State.takeByte (s : State) (t : UpTxn) (byte : Byte) : State :=
  s.setUli { s.uli.say .writeData .ack s.now with txn := some { t with data := t.data ++ [byte] }, byteHold := none }

/-- The first data byte of a pass-through write: refused, held for the lane, or acknowledged; a capturing write does not
wait for the lane (R4, R18). -/
def firstByte (t : UpTxn) (e : RouteSnap) (cmd byte : Byte) (s : State) : State :=
  match s.writeRefusal e cmd with
  | some o => s.refuse t .write o
  | none =>
    if e.action cmd true != .captureLevel && s.laneBusy e.seg then
      s.setUli { s.uli with
        phase := .writeData, txn := some t, byteHold := some (byte, s.now), reply := .clockHeld }
    else s.takeByte t byte

/-- The most bytes of a write phase: 32 data bytes, and the trailer of a checked entry. -/
def RouteSnap.byteLimit (e : RouteSnap) : Nat := if e.checked then 33 else 32

/-- A later data byte. A 33rd one of a service write is NACKed, and the request decoded in that byte's handling (DESIGN
CHOICE, log entry 63). -/
def laterByte (t : UpTxn) (byte : Byte) (s : State) : Act :=
  match t.snap with
  | some e =>
    (if t.data.length < e.byteLimit then s.takeByte t byte else s.refuse t .write .refused, [])
  | none =>
    if t.data.length < 32 then (s.takeByte t byte, [])
    else (s.setUli (s.uli.toDrain s.now), [.malformed (t.cmd.getD 0) (t.data.headD 0)])

/-- A data byte (R2 to R4, R173). -/
def onDataByte (byte : Byte) (s : State) : Act :=
  match s.uli.phase, s.uli.txn with
  | .command, some t =>
    match t.snap, t.cmd with
    | some e, some cmd => (firstByte t e cmd byte s, [])
    | _, _ => (s.takeByte t byte, [])
  | .writeData, some t => if s.uli.byteHold.isSome then (s, []) else laterByte t byte s
  | .drain, _ => (s.setUli (s.uli.say .drain .nack s.now), [])
  | _, _ => (s, [])

/-- The held byte's segment. -/
def State.heldByte (s : State) : Option (Byte × Time × UpTxn × RouteSnap) :=
  match s.uli.byteHold, s.uli.txn with
  | some (b, t), some x => x.snap.map fun e => (b, t, x, e)
  | _, _ => none

/-- The lane frees and the held byte is acknowledged (R4). -/
def onByteRelease (s : State) : State :=
  match s.heldByte with
  | some (b, _, x, e) => if s.laneBusy e.seg then s else s.takeByte x b
  | none => s

/-- The stretch limit passes on a held byte (R4): NACK and BUSY. -/
def onByteLimit (s : State) : State :=
  match s.heldByte with
  | some (_, t, x, _) => if stretchLimit ≤ age s.now t then s.refuse x .write .busy else s
  | none => s

/-! ## The end of a write (R3, R4, R18, R21) -/

/-- How a pass-through write ends at its stop. -/
inductive WriteEnd
  | outcome (o : TxOutcome)
  | capture (code : Nat)
  | forward (data : List Byte)
deriving DecidableEq, Repr

/-- The data of a write, without the trailer of a checked entry. -/
def writePayload (e : RouteSnap) (data : List Byte) : List Byte := if e.checked then data.dropLast else data

/-- The host's trailer matches, or none is used (R21). -/
def trailerMatches (t : UpTxn) (e : RouteSnap) (cmd : Byte) : Bool :=
  !e.checked ||
    (match t.data.getLast? with
      | some b => b == writeTrailer (addrByte t.addr) cmd t.data.dropLast
      | none => false)

/-- The checks at the stop, in the order of Table 1-3. -/
def State.endOfWrite (s : State) (t : UpTxn) (e : RouteSnap) (cmd : Byte) : WriteEnd :=
  let payload := writePayload e t.data
  if !trailerMatches t e cmd then .outcome .refused
  else if e.action cmd true = .captureLevel ∧ payload.length < 2 then .outcome .refused
  else if s.gateClosed e.gate then .outcome .gated
  else if t.data.isEmpty && (e.writeProtect || e.action cmd true == .refuse) then .outcome .refused
  else if t.data.isEmpty && s.laneBusy e.seg then .outcome .busy
  else if e.action cmd true = .captureLevel then .capture (min (u16 payload 0) 4095)
  else .forward (e.forwarded cmd payload)

/-- The pass-lane transaction of a write, with the recomputed trailer (R20, R21). -/
def writeLane (t : UpTxn) (e : RouteSnap) (cmd : Byte) (data : List Byte) : LaneTxn where
  snap := e
  addr := t.addr
  cmd := cmd
  write := true
  data := data
  trailer := if e.checked then some (writeTrailer e.down cmd data) else none
  recorded := false

/-- The outcome of a write that ends at its stop (R26). -/
def endRecorded (t : UpTxn) (e : RouteSnap) (o : TxOutcome) (s : State) : State :=
  (s.record t.addr t.cmd .write o).notify (writeFailed e.seg s.uli.seq o)

/-- A pass-through write ends (R3, R4): recorded, captured, or handed to its pass lane. -/
def endPassWrite (t : UpTxn) (e : RouteSnap) (cmd : Byte) (s : State) : Act :=
  match s.endOfWrite t e cmd with
  | .outcome o => (endRecorded t e o s, [])
  | .capture code => captureLevel code (s.record t.addr t.cmd .write .captured)
  | .forward data => (s, [.handIn (writeLane t e cmd data)])

/-- A service write ends: the request is decoded (R173). -/
def serviceTask (t : UpTxn) : Task :=
  match t.data with
  | tag :: payload => .request (t.cmd.getD 0) tag payload
  | [] => .malformed (t.cmd.getD 0) 0

/-- The write phase ends, and the ULI returns to IDLE (R3, R173). -/
def endWritePhase (t : UpTxn) (s : State) : Act :=
  let s1 := s.setUli (s.uli.toIdle .released)
  match t.snap, t.cmd with
  | some e, some cmd => endPassWrite t e cmd s1
  | some _, none => (s1, [])
  | none, _ => (s1, [serviceTask t])

/-- A transaction ends between its address and its command byte (R3). -/
def endAddressPhase (t : UpTxn) (s : State) : State :=
  let s1 := s.setUli (s.uli.toIdle .released)
  if t.snap.isSome then s1.record t.addr none .none .refused else s1

/-- A stop (R3): it ends the open transaction, READOUT or DRAIN. The clock is held in HELD and while a byte is held, and
no stop can be driven then. -/
def onStop (s : State) : Act :=
  match s.uli.phase, s.uli.txn with
  | .address, some t => (endAddressPhase t s, [])
  | .command, some t => endWritePhase t s
  | .writeData, some t => if s.uli.byteHold.isSome then (s, []) else endWritePhase t s
  | .readout, _ => (s.setUli (s.uli.toIdle .released), [])
  | .drain, _ => (s.setUli (s.uli.toIdle .released), [])
  | _, _ => (s, [])

/-! ## Reads (R5, R6, R13, R19, R22) -/

/-- Reply bytes padded with 0xFF to 32. -/
def pad32 (bytes : List Byte) : List Byte := (List.range 32).map fun i => bytes.getD i 0xFF

/-- The answer buffer over upstream address bytes: 32 bytes, and on a checked entry a trailer computed over them
(R6, R22). -/
def answerBuffer (addr : Addr) (e : RouteSnap) (cmd : Byte) (bytes : List Byte) : List Byte :=
  pad32 bytes ++ (if e.checked then [readTrailer (addrByte addr) cmd (pad32 bytes)] else [])

/-- A read is answered at once from bytes the RGU gives itself (R13, R19). -/
def answerNow (t : UpTxn) (e : RouteSnap) (cmd : Byte) (outcome : TxOutcome) (bytes : List Byte) (s : State) : State :=
  let s1 := s.record t.addr t.cmd .read outcome
  s1.setUli (s1.uli.toReadout (answerBuffer t.addr e cmd bytes) s.now)

/-- A read that finds its gate closed (R13): the stand-in reply, or GATED. -/
def answerGated (t : UpTxn) (e : RouteSnap) (cmd : Byte) (s : State) : State :=
  match e.standIn with
  | some bytes => answerNow t e cmd .standIn bytes s
  | none => s.refuse t .read .gated

/-- The ULI holds the clock on the repeated-start address (R5, R175). -/
def State.holdRead (s : State) (t : UpTxn) : State :=
  s.setUli { s.uli with phase := .held, txn := some t, heldSince := some s.now, reply := .clockHeld }

/-- The repeated-start address of a pass-through read (Table 1-3). -/
def turnToRead (t : UpTxn) (e : RouteSnap) (cmd : Byte) (s : State) : State :=
  if s.gateClosed e.gate then answerGated t e cmd s
  else match e.action cmd false with
    | .refuse => s.refuse t .read .refused
    | .synthLevel => answerNow t e cmd .synthesized (codeBytes s.brc.written) s
    | .pass => s.holdRead t
    | .mask => s.holdRead t
    | .captureLevel => s.holdRead t

/-- The response buffer of 32 bytes (R175, R196). -/
def responseBuffer : Option Response → List Byte
  | some r =>
    pad32 ([BitVec.ofNat 8 r.payload.length, r.code, r.tag, BitVec.ofNat 8 (statusCode r.status)] ++ r.payload)
  | none => pad32 [0x00, 0x00, 0x00, 0xFF]

/-- The response record is returned (R175). -/
def answerResponse (s : State) : State := s.setUli (s.uli.toReadout (responseBuffer s.sru.response) s.now)

/-- The repeated-start address of a service read (R173, R175). -/
def turnToResponse (t : UpTxn) (s : State) : State :=
  if t.cmd = some 0xF0 then answerResponse s
  else if t.cmd = some 0xF1 then
    if s.sru.response.any (·.current) then s.holdRead t else answerResponse s
  else s.setUli (s.uli.toDrain s.now)

/-- A repeated start straight after the command byte with the same address and the read bit. -/
def turnRead (t : UpTxn) (s : State) : State :=
  match t.snap, t.cmd with
  | some e, some cmd => turnToRead t e cmd s
  | some _, none => s
  | none, _ => turnToResponse t s

/-- An ended transaction, followed by the next first address byte. -/
def thenOpen (a : Act) (addr : Addr) (read : Bool) : Act := (a.1, a.2 ++ [.openTxn addr read])

/-- A repeated start (R3, R5): it turns a write into a read, or ends what is open and opens a new transaction. -/
def onRepeatedStart (addr : Addr) (read : Bool) (s : State) : Act :=
  match s.uli.phase, s.uli.txn with
  | .starting, _ => (s.setUli { s.uli with reply := .nack }, [])
  | .idle, _ => (s, [.openTxn addr read])
  | .address, some t => thenOpen (endAddressPhase t s, []) addr read
  | .command, some t =>
    if read && addr == t.addr then (turnRead t s, []) else thenOpen (endWritePhase t s) addr read
  | .writeData, some t => if s.uli.byteHold.isSome then (s, []) else thenOpen (endWritePhase t s) addr read
  | .readout, _ => (s.setUli (s.uli.toIdle .released), [.openTxn addr read])
  | .drain, _ => (s.setUli (s.uli.toIdle .released), [.openTxn addr read])
  | _, _ => (s, [])

/-! ## Held reads (R5) -/

/-- The read the ULI holds, with its snapshot and command; absent when a service read is held. -/
def State.heldRead (s : State) : Option (UpTxn × RouteSnap × Byte) :=
  if s.uli.phase != .held then none
  else s.uli.txn.bind fun t => t.snap.bind fun e => t.cmd.map fun c => (t, e, c)

/-- The ULI holds a service read (R175). -/
def State.heldService (s : State) : Bool := s.uli.phase == .held && s.uli.txn.any fun t => t.snap.isNone

/-- The pass-lane transaction of a read (R20, R22). -/
def readLane (t : UpTxn) (e : RouteSnap) (cmd : Byte) : LaneTxn where
  snap := e
  addr := t.addr
  cmd := cmd
  write := false
  data := []
  trailer := none
  recorded := false

/-- A held read is placed in its free lane, with its gate checked again (R5, R12). -/
def onReadHandin (s : State) : Act :=
  match s.heldRead with
  | none => (s, [])
  | some (t, e, cmd) =>
    if t.inLane || s.laneBusy e.seg then (s, [])
    else if s.gateClosed e.gate then (answerGated t e cmd s, [])
    else (s.setUli { s.uli with txn := some { t with inLane := true } }, [.handIn (readLane t e cmd)])

/-- The read left in its lane makes no second record (R5, R25). -/
def State.leaveInLane (s : State) (t : UpTxn) (e : RouteSnap) : State :=
  if t.inLane then
    s.setPort e.seg { s.port e.seg with lane := (s.port e.seg).lane.map fun x => { x with recorded := true } }
  else s

/-- The stretch limit passes on a held read (R5): NACK and BUSY. -/
def onReadLimit (s : State) : State :=
  match s.heldRead, s.uli.heldSince with
  | some (t, e, _), some since =>
    if stretchLimit ≤ age s.now since then (s.leaveInLane t e).refuse t .read .busy else s
  | _, _ => s

/-- The answer of a forwarded read (R6, R22): the trailer recomputed over the upstream address, or the device's as
received. -/
def forwardedAnswer (t : LaneTxn) (outcome : TxOutcome) (data : List Byte) (trailer : Byte) : List Byte :=
  data ++ (if t.snap.checked then
    [if outcome = .done then readTrailer (addrByte t.addr) t.cmd data else trailer] else [])

/-- A held read is answered by its port's completion (R5). -/
def answerRead (t : LaneTxn) (outcome : TxOutcome) (data : List Byte) (trailer : Byte) (s : State) : State :=
  let s1 := s.record t.addr (some t.cmd) .read outcome
  if outcome = .done ∨ outcome = .crcBad then
    s1.setUli (s1.uli.toReadout (forwardedAnswer t outcome data trailer) s.now)
  else s1.setUli (s1.uli.toDrain s.now)

/-- The snoop hand-off of a DONE read on a route entry (R27). -/
def handoff (t : LaneTxn) (outcome : TxOutcome) (data : List Byte) (s : State) : List Task :=
  match t.snap.key with
  | some key => if outcome = .done ∧ !t.write then snoopTasks s key t.cmd data else []
  | none => []

/-- A pass-lane transaction completes to the ULI (R5, R24 to R27). -/
def laneDone (t : LaneTxn) (outcome : TxOutcome) (data : List Byte) (trailer : Byte) (s : State) : Act :=
  if t.write then
    let s1 := s.record t.addr (some t.cmd) .write outcome
    (if outcome = .done then s1 else s1.notify (writeFailed t.snap.seg s.uli.seq outcome), [])
  else
    (if t.recorded then s else answerRead t outcome data trailer s, handoff t outcome data s)

/-! ## Readout, waiting reads and abandonment (R6, R7, R175) -/

/-- The host clocks one byte of the answer (R6). -/
def onReadoutByte (s : State) : State :=
  if s.uli.phase = .readout then
    s.setUli { s.uli.say .readout (.data (s.uli.answer.getD s.uli.answerPos 0xFF)) s.now with
      answerPos := s.uli.answerPos + 1 }
  else s

/-- A waiting response read is released (R175). -/
def releaseWaiting (s : State) : State := if s.heldService then answerResponse s else s

/-- The 30 ms limit of a waiting response read (R175). -/
def onWaitingLimit (s : State) : State :=
  match s.uli.heldSince with
  | some since => if s.heldService && stretchLimit ≤ age s.now since then answerResponse s else s
  | none => s

/-- The transaction the host has stalled in, abandoned (R7, R173). -/
def abandon (dir : Dir) (s : State) : State :=
  let s1 := s.setUli (s.uli.toIdle .released)
  match s.uli.txn with
  | some t => if t.snap.isSome then s1.record t.addr t.cmd dir .abandoned else s1
  | none => s1

/-- The host stalls for 35 ms (R7); the part's own clock holds do not count. -/
def onStall (s : State) : State :=
  if age s.now s.uli.lastActivity < stallLimit then s
  else match s.uli.phase with
    | .address => abandon .none s
    | .command => abandon .none s
    | .writeData => if s.uli.byteHold.isSome then s else abandon .write s
    | .readout => s.setUli (s.uli.toIdle .released)
    | .drain => s.setUli (s.uli.toIdle .released)
    | .starting => s
    | .idle => s
    | .held => s

end Sys2Proof.Machine
end

