-- ==== Sys2Proof/Machine/Readout.lean ====
section
/-!
DEFINITION. The read-out images, notice records and drop records as bytes (R196, R197, Tables 12-5 to 12-7).
-/

namespace Sys2Proof.Machine

/-! ## Fields (R197) -/

/-- A 1-byte field, held at its end. -/
def f1 (n : Nat) : List Byte := [BitVec.ofNat 8 (min n 0xFF)]

/-- A 2-byte field, held at its end. -/
def f2 (n : Nat) : List Byte := Builtin.le2 (min n 0xFFFF)

/-- The four bytes of a 32-bit number. -/
def word4 (w : BitVec 32) : List Byte :=
  [w.setWidth 8, (w >>> 8).setWidth 8, (w >>> 16).setWidth 8, (w >>> 24).setWidth 8]

/-- A 4-byte field, held at its end. -/
def f4 (n : Nat) : List Byte := word4 (BitVec.ofNat 32 (min n 0xFFFFFFFF))

/-- A number held in a range. -/
def clampInt (v lo hi : Int) : Int := if v < lo then lo else if hi < v then hi else v

/-- A signed 4-byte field, held at its ends. -/
def i4 (v : Int) : List Byte := word4 (BitVec.ofInt 32 (clampInt v (-2147483648) 2147483647))

/-- A signed 24-bit notice argument, held at its ends (R197). -/
def i3 (v : Int) : List Byte := (word4 (BitVec.ofInt 32 (clampInt v (-8388608) 8388607))).take 3

/-- An optional field: all ones in its width when it is absent. -/
def optField (width : Nat) : Option (List Byte) → List Byte
  | some bytes => bytes
  | none => List.replicate width 0xFF

/-- A timebase value. -/
def time4 (t : Time) : List Byte := word4 t

/-- A time left in a 2-byte field: at most 65,534, and 0xFFFF when stopped. -/
def left2 (now : Time) (t : Option Timer) : List Byte := optField 2 (t.map fun t => f2 (min (t.left now) 65534))

/-! ## Images (Table 12-5) -/

/-- READ_TELEMETRY, one slot. -/
def slotImage (now : Time) (r : Slot) : List Byte :=
  f1 (slotStateCode r.state + 4 * (match r.source with | some x => slotSourceCode x | none => 3) + 16 * r.implausible) ++
    i4 r.value ++ optField 2 (r.time.map fun t => f2 (min (age now t) 65534))

/-- An admission item: its place, then attempts used with the succeeded bit. -/
def itemImage (i : AdmissionItem) : List Byte := f1 i.place.val ++ f1 (i.attempts % 4 + flagBit i.succeeded 7)

/-- The handover record of READ_BAY. -/
def recordImage : Option MoveRec → List Byte
  | some r =>
    f1 (1 + flagBit r.origin.isSome 1 + flagBit r.finish.isSome 2 + flagBit r.result.isSome 3) ++
      f1 (srcCode r.origin) ++ f1 (srcNumber r.target) ++ f1 (reasonCode r.reason) ++ time4 r.start ++
      optField 4 (r.finish.map time4) ++ optField 1 (r.result.map fun x => f1 (resultCode x))
  | none => f1 0 ++ List.replicate 12 0xFF

/-- READ_BAY (R92). -/
def bayImage (bay : Bay) (s : State) : List Byte :=
  let r := s.bay bay
  time4 s.now ++ f1 (bayStateCode r.state) ++
    f1 (flagBit r.latchClosed 0 + flagBit r.present 1 + flagBit r.wasActive 2 + flagBit r.faultPending 3) ++
    time4 r.entry ++ optField 1 (r.origin.map fun x => f1 (originCode x)) ++
    optField 1 (r.faultReason.map fun x => f1 (faultReasonCode x)) ++ left2 s.now r.seat ++ left2 s.now r.identify ++
    f1 r.admission.length ++
    ((r.admission.take 24).flatMap itemImage ++ List.replicate (2 * (24 - r.admission.length)) 0xFF) ++
    recordImage s.ppc.record

/-- One source of READ_POWER. -/
def sourceImage (s : State) (x : Src) : List Byte :=
  f1 (switchCode (s.source x).sw + flagBit (s.lines.feedback.get x) 2 + flagBit (s.source x).eligible 3 +
    flagBit (s.source x).heldOff 4)

/-- READ_POWER (R91, R127). -/
def powerImage (s : State) : List Byte :=
  sourceImage s .dc ++ sourceImage s .a ++ sourceImage s .b ++ sourceImage s .br ++
    f1 (flagBit s.ppc.managed 0) ++ f1 (srcCode s.ppc.onSrc) ++ f1 (flagBit s.ppc.pending 0) ++
    optField 4 (s.ppc.bridge.map fun t => f4 (t.left s.now)) ++
    f1 (flagBit s.ppc.causeBridge 0 + flagBit s.ppc.causeNoAlternate 1) ++ f1 (classCode s.classifier.cls) ++
    f2 s.classifier.allowance ++ f1 (levelCode s.classifier.level) ++ i4 s.classifier.energy ++ time4 s.now ++
    f1 (flagBit s.ppc.startupExpired 0)

/-- The write record's code and the code it carries. -/
def writeImage : WriteRec → Nat × Option Nat
  | .none => (0, none)
  | .queued c => (1, some c)
  | .executing c => (2, some c)

/-- READ_BRIGHTNESS (R147). -/
def brightImage (s : State) : List Byte :=
  let b := s.brc
  f1 (modeCode b.mode) ++ [BitVec.ofInt 8 b.bias] ++ optField 2 (b.manual.map f2) ++ optField 2 (b.hold.map f2) ++
    optField 4 (b.ambient.map f4) ++ f2 b.code ++ f2 b.smooth ++ f2 b.curve ++ f2 b.target ++
    optField 2 (b.level.map f2) ++ f2 b.computed ++ optField 2 (b.ceiling.map f2) ++ f2 b.written ++
    f1 (flagBit b.noneWritten 0 + flagBit b.owed 1 + flagBit b.awaitingLight 2 + flagBit b.limited 3 +
      flagBit b.lightLost 4) ++
    f1 (writeImage b.write).1 ++ optField 2 ((writeImage b.write).2.map f2) ++ f1 b.failures ++ left2 s.now b.step

/-- One place of the drop log in READ_MOTION. -/
def logImage : Option DropRec → List Byte
  | some r => f2 r.seq.toNat ++ f1 (dropCode r.kind + flagBit r.read 7) ++ f2 r.peakCode
  | none => List.replicate 5 0xFF

/-- READ_MOTION (R171). -/
def motionImage (s : State) : List Byte :=
  let m := s.mtu
  time4 s.now ++ f1 (motionCode m.state) ++ time4 m.entry ++ f1 m.fallRun ++ f2 m.settleRun ++ f1 m.window ++
    f1 (flagBit m.starved 0 + flagBit m.placed 1 + flagBit m.park 2 + flagBit m.shockHold 3 +
      flagBit m.openRec.isSome 4 + flagBit m.failTime.isSome 5 + flagBit m.parkTime.isSome 6) ++
    optField 4 (m.failTime.map time4) ++ optField 4 (m.parkTime.map time4) ++ left2 s.now m.parkHold ++
    left2 s.now m.shockTimer ++ optField 2 (m.openRec.map fun r => f2 r.seq.toNat) ++
    optField 1 (m.openRec.map fun r => f1 (dropCode r.kind)) ++ f2 m.seq.toNat ++
    (List.finRange 4).flatMap (fun i => logImage (m.logAt i)) ++ word4 m.samples ++ f2 m.readsFailed

/-- READ_POLL_STATUS (R47); an empty place has no entry, and its fields read as absent (R197; DEDUCED, log entry 37). -/
def pollImage (place : Fin 24) (s : State) : List Byte :=
  let p := s.poll place
  if (s.pollEntry place).isSome then
    time4 s.now ++ f1 place.val ++ f1 1 ++ f1 (pollStateCode p.state) ++
      f1 (flagBit p.skipped 0 + flagBit p.late 1 + flagBit p.nextDue.isSome 2 + flagBit p.lastCompletion.isSome 3) ++
      optField 4 (p.nextDue.map time4) ++ f1 (outcomeCodeOpt p.lastOutcome) ++ f1 p.failures ++
      optField 4 (p.lastCompletion.map time4)
  else time4 s.now ++ f1 place.val ++ f1 0 ++ f1 0xFF ++ f1 0 ++ List.replicate 10 0xFF

/-- An outcome record in READ_LINK_STATUS. -/
def outcomeImage (r : OutcomeRec) : List Byte :=
  f2 r.seq.toNat ++ time4 r.time ++ [addrByte r.addr] ++ optField 1 (r.cmd.map fun c => [c]) ++
    f1 (dirCode r.dir + flagBit r.cmd.isSome 2) ++ f1 (outcomeCode r.outcome)

/-- A port in READ_LINK_STATUS. -/
def portImage (p : Port) : List Byte :=
  f1 (portStateCode p.state) ++ f1 p.timeouts ++ f1 p.queue.length ++ f1 (flagBit p.lane.isSome 0)

/-- READ_LINK_STATUS (R24, R28). -/
def linkImage (s : State) : List Byte :=
  f1 s.uli.ring.length ++
    ((s.uli.ring.take 8).flatMap outcomeImage ++ List.replicate (10 * (8 - s.uli.ring.length)) 0xFF) ++
    allSegs.flatMap fun i => portImage (s.port i)

/-! ## Notices and drop records (Tables 12-6 and 12-7) -/

/-- A notice record. -/
def noticeImage (n : Notice) : List Byte :=
  f2 n.seq.toNat ++ (word4 n.time).take 2 ++ f1 (kindCode n.kind + 64 * severityCode n.severity) ++ f1 n.subject ++
    f1 n.repeats ++ i3 n.arg1 ++ i3 n.arg2

/-- A drop record. -/
def dropImage (r : DropRec) : List Byte :=
  f2 r.seq.toNat ++ f1 (dropCode r.kind) ++
    f1 (flagBit r.followed 0 + flagBit r.read 1 + flagBit r.parkToImpact.isSome 2 + flagBit r.snap.isSome 3) ++
    time4 r.start ++ f2 r.freeFall ++ optField 2 (r.parkToImpact.map f2) ++ f2 r.peakCode ++ f1 (axisCode r.axis) ++
    f1 r.impacts ++ f2 r.settle ++ optField 1 (r.snap.map fun x => f1 (srcCode x.onSrc)) ++
    optField 1 (r.snap.map fun x => f1 (classCode x.cls)) ++
    optField 1 (r.snap.map fun x => f1 (bayStateCode x.bayA)) ++
    optField 1 (r.snap.map fun x => f1 (bayStateCode x.bayB)) ++
    f1 (r.before.length + 1 + r.after.length) ++ packTrace (r.before ++ [r.peakTrace] ++ r.after)

/-- The FETCH_NOTICES payload. -/
def fetchImage (taken : List Notice) (left : Nat) (overflow : Bool) : List Byte :=
  f1 (taken.length + flagBit overflow 7) ++ f1 left ++ taken.flatMap noticeImage

end Sys2Proof.Machine
end

