-- ==== Sys2Proof/Machine/Commit.lean ====
section
/-!
DEFINITION. Table commits (R179 to R182): the affected segments, validation, the switch and the limit; and the end of a
background operation (R176).
-/

namespace Sys2Proof.Machine

/-- The commit limit in ms (R179). -/
def commitLimit : Nat := 50

/-- The time of validation in ms (R180). -/
def validationTime : Nat := 2

/-- The state with the Service Request Unit replaced. -/
def State.setSru (s : State) (u : Sru) : State := { s with sru := u }

/-! ## The end of a background operation (R176) -/

/-- The request code of a background operation. -/
def backgroundCode : Background → Byte
  | .none => 0
  | .commit _ => 0x06
  | .save => 0x07
  | .swap _ => 0x25

/-- The end of an operation in its response record, if the record is still its own. -/
def endResponse (code : Byte) (status : Status) (payload : List Byte) (r : Response) : Response :=
  if r.current && r.code == code then { r with status := status, payload := payload, current := false } else r

/-- The end is written into the response record, and a waiting read is released when its hold ends so (R175). -/
def State.writeEnd (s : State) (code : Byte) (status : Status) (payload : List Byte) : State :=
  let s1 := s.setSru { s.sru with response := s.sru.response.map (endResponse code status payload) }
  if s1.sru.response.any (·.current) then s1 else releaseWaiting s1

/-- The background operation ends (R176). -/
def onBackgroundEnd (status : Status) (payload : List Byte) (s : State) : State :=
  State.writeEnd (s.setSru { s.sru with background := .none }) (backgroundCode s.sru.background) status payload

/-- The bay controller reports the end of a swap (R113). -/
def onSwapEnd (bay : Bay) (s : State) : State :=
  match s.sru.background with
  | .swap requested =>
    if requested = bay then
      onBackgroundEnd (if (s.bay bay).state = .releaseBlocked then .failed else .done)
        [BitVec.ofNat 8 (bayStateCode (s.bay bay).state)] s
    else s
  | .none => s
  | .commit _ => s
  | .save => s

/-! ## Affected segments (R179) -/

/-- A numbered run of bytes: an item of a segment's content. -/
abbrev Item := Nat × List Byte

/-- The fields of a route entry place (Table 12-3): without bit 7 of its flags, which has no name (R197), and without its
indicators, which are no content (R23, R181). A field counts also where a flag leaves it unused (DEDUCED, log entry 51). -/
def routeFields (routes : Image) (p : Nat) : List Byte :=
  slice routes (12 * p) 3 ++ [byteAt routes (12 * p + 3) &&& 0x7F] ++ slice routes (12 * p + 4) 7

/-- The fields of a field descriptor (Table 12-4), without the unnamed bits of its flags (R197). -/
def descriptorFields (img : Image) (o : Nat) : List Byte :=
  slice img o 2 ++ [byteAt img (o + 2) &&& 1] ++ slice img (o + 3) 16

/-- The fields of a descriptor list; descriptors beyond the count are not read (section 12.3). -/
def descriptorsFields (img : Image) (o count : Nat) : List Byte :=
  (List.range (min count 4)).flatMap fun k => descriptorFields img (o + 19 * k)

/-- The fields of a poll place. -/
def pollFields (polls : Image) (p : Nat) : List Byte :=
  slice polls (95 * p) 19 ++ descriptorsFields polls (95 * p + 19) (u8 polls (95 * p + 10))

/-- The fields of a snoop place. -/
def snoopFields (snoops : Image) (p : Nat) : List Byte :=
  slice snoops (79 * p) 3 ++ descriptorsFields snoops (79 * p + 3) (u8 snoops (79 * p + 2))

/-- The segment a segment byte names. In a staging image (`staged`) a byte outside 1 to 4 names no segment; in the
committed image, which a load does not check, it acts as one that is left free (log entry 11). -/
def segmentNamed (staged : Bool) (n : Nat) : Option Seg :=
  if staged && !(decide (1 ≤ n) && decide (n ≤ 4)) then none else some (segOfNumber n)

/-- The segment of a route entry place, if the place is not empty. -/
def placeSegment (staged : Bool) (routes : Image) (p : Nat) : Option Seg :=
  if byteAt routes (12 * p) = 0 then none else segmentNamed staged (u8 routes (12 * p + 1))

/-- The segment of a pass window; segment 0 is a window that is not used (R9). -/
def windowSegment (staged : Bool) (routes : Image) (w : Nat) : Option Seg :=
  if byteAt routes (384 + 4 * w + 2) = 0 then none else segmentNamed staged (u8 routes (384 + 4 * w + 2))

/-- The segment of the entry a key names (R10). -/
def keySegment (staged : Bool) (routes : Image) (key : Byte) : Option Seg :=
  (routePlace routes key).bind (placeSegment staged routes)

/-- The bytes of the guard rules a route entry place names; every field of a rule has its bytes (Table 12-3). -/
def guardBytes (t : Tables) (p : Nat) : List (List Byte) :=
  if bitAt (byteAt t.routes (12 * p + 3)) 5 then
    ((List.range (u8 t.routes (12 * p + 5))).filter fun k => u8 t.routes (12 * p + 4) + k < 64).map fun k =>
      slice t.guards (13 * (u8 t.routes (12 * p + 4) + k)) 13
  else []

/-- The items at the first `n` places that lie on a segment. -/
def itemsOn {α : Type} (n : Nat) (segment : Nat → Option Seg) (item : Nat → α) (seg : Seg) : List (Nat × α) :=
  ((List.range n).filter fun p => segment p == some seg).map fun p => (p, item p)

/-- The route entries of a segment, without their indicators. -/
def routeItems (staged : Bool) (t : Tables) (seg : Seg) : List Item :=
  itemsOn 32 (placeSegment staged t.routes) (routeFields t.routes) seg

/-- The pass windows of a segment. -/
def windowItems (staged : Bool) (t : Tables) (seg : Seg) : List Item :=
  itemsOn 2 (windowSegment staged t.routes) (fun w => slice t.routes (384 + 4 * w) 4) seg

/-- The guard rules named by the guard lists of a segment's entries. -/
def guardItems (staged : Bool) (t : Tables) (seg : Seg) : List (Nat × List (List Byte)) :=
  itemsOn 32 (placeSegment staged t.routes) (guardBytes t) seg

/-- The poll entries whose targets resolve to an entry on a segment. -/
def pollItems (staged : Bool) (t : Tables) (seg : Seg) : List Item :=
  itemsOn 24 (fun p => if byteAt t.polls (95 * p) = 0 then none else
    keySegment staged t.routes (byteAt t.polls (95 * p + 1))) (pollFields t.polls) seg

/-- The snoop bindings whose keys name an entry on a segment. -/
def snoopItems (staged : Bool) (t : Tables) (seg : Seg) : List Item :=
  itemsOn 16 (fun p => if byteAt t.snoops (79 * p) = 0 then none else
    keySegment staged t.routes (byteAt t.snoops (79 * p))) (snoopFields t.snoops) seg

/-- A segment's content is the same in the committed tables and in those a commit would put into force, whose ROUTES is a
staging image (`staged`) or the committed one. -/
def sameContent (staged : Bool) (old new : Tables) (seg : Seg) : Bool :=
  routeItems false old seg == routeItems staged new seg && windowItems false old seg == windowItems staged new seg &&
    guardItems false old seg == guardItems staged new seg && pollItems false old seg == pollItems staged new seg &&
    snoopItems false old seg == snoopItems staged new seg

/-- The affected segments of a commit (R179). -/
def affectedSegments (staged : Bool) (old new : Tables) : PerSeg Bool where
  p1 := !sameContent staged old new .sp1
  p2 := !sameContent staged old new .sp2
  p3 := !sameContent staged old new .sp3
  p4 := !sameContent staged old new .sp4

/-- The tables a commit would put into force. -/
def State.stagedTables (s : State) (mask : Byte) : Tables := maskTables mask s.sru.committed s.sru.staging

/-! ## Validation (R180) -/

/-- A number lies in a range. -/
def within (lo hi n : Nat) : Bool := decide (lo ≤ n) && decide (n ≤ hi)

/-- The first index below `n` that fails a check. -/
def firstBad (n : Nat) (ok : Nat → Bool) : Option Nat := (List.range n).find? fun i => !ok i

/-- A route entry place meets the conditions of R180. Of two places that hold the same key the later fails (DESIGN CHOICE,
log entry 62). -/
def routeOk (service : Byte) (img : Image) (p : Nat) : Bool :=
  let o := 12 * p
  let flags := byteAt img (o + 3)
  byteAt img o == 0 ||
    (within 0x08 0x77 (u8 img o) && byteAt img o != service &&
      (List.range p).all (fun q => byteAt img (12 * q) != byteAt img o) && within 1 4 (u8 img (o + 1)) &&
      within 0 0x7F (u8 img (o + 2)) && within 0 2 (flags.toNat / 8 % 4) &&
      (!bitAt flags 5 ||
        (within 0 63 (u8 img (o + 4)) && within 0 8 (u8 img (o + 5)) &&
          within 0 64 (u8 img (o + 4) + u8 img (o + 5)))) &&
      (!bitAt flags 6 || within 0 4 (u8 img (o + 6))))

/-- A pass window meets the conditions of R180. -/
def windowOk (img : Image) (w : Nat) : Bool :=
  let o := 384 + 4 * w
  within 0 0x7F (u8 img o) && within 0 0x7F (u8 img (o + 1)) && within 0 4 (u8 img (o + 2)) &&
    within 0 1 (u8 img (o + 3))

/-- The index that names a failing field, or a failing window (log entry 12). -/
def fieldIndexOf (table field : Nat) : Nat := Config.fieldIndex table field % 256

/-- The first failing place of ROUTES; its windows come after its places. -/
def badRoutes (service : Byte) (img : Image) : Option Nat :=
  match firstBad 32 (routeOk service img) with
  | some p => some p
  | none => (firstBad 2 (windowOk img)).map fun w => fieldIndexOf 0 w

/-- A guard rule meets the conditions of R180. -/
def guardOk (img : Image) (i : Nat) : Bool :=
  let o := 13 * i
  decide (u8 img o ≤ u8 img (o + 1)) && within 0 2 (u8 img (o + 2)) && within 0 4 (u8 img (o + 3))

/-- A field descriptor is valid (R56). -/
def descriptorOk (img : Image) (o : Nat) : Bool :=
  within 1 32 (u8 img (o + 1)) && within 0 15 (u8 img (o + 3)) && within 0 31 (u8 img (o + 10)) &&
    decide (i32 img (o + 11) ≤ i32 img (o + 15))

/-- The descriptors of a list are valid. -/
def descriptorsOk (img : Image) (o count : Nat) : Bool :=
  (List.range (min count 4)).all fun k => descriptorOk img (o + 19 * k)

/-- A poll place meets the conditions of R46. -/
def pollOk (img : Image) (p : Nat) : Bool :=
  let o := 95 * p
  let kind := u8 img o
  let read := u8 img (o + 2) == 1
  let count := u8 img (o + 10)
  kind == 0 ||
    (within 1 4 kind && within 0x08 0x77 (u8 img (o + 1)) && within 0 1 (u8 img (o + 2)) &&
      within 0 1 (u8 img (o + 5)) && within 0 4 count && descriptorsOk img (o + 19) count &&
      (if read then within 1 32 (u8 img (o + 4))
        else kind == 2 && within 0 8 (u8 img (o + 4)) && count == 0) &&
      (kind != 1 || within 10 65535 (u16 img (o + 6))))

/-- A snoop place meets the conditions of R180. -/
def snoopOk (img : Image) (p : Nat) : Bool :=
  let o := 79 * p
  u8 img o == 0 ||
    (within 0x08 0x77 (u8 img o) && within 1 4 (u8 img (o + 2)) && descriptorsOk img (o + 3) (u8 img (o + 2)))

/-- A status slot field of LIGHT: 16 to 31, or none. -/
def statusSlotOk (c : Nat) : Bool := c == 0xFF || within 16 31 c

/-- The fields of LIGHT before its curves, in the order of the image (Table 7-8). -/
def lightFields (p : Light) : List Bool :=
  [within 1 65535 p.frontK, within 1 65535 p.rearK, true, statusSlotOk p.frontStatus, statusSlotOk p.rearStatus, true,
    true, within 1 256 p.alphaUp, within 1 256 p.alphaDown, within 20 1000 p.period, within 0 2000 p.nMin,
    within 1 2000 p.nMax, within 1 2000 p.rUp, within 1 2000 p.rDown, within 0 4095 p.hysteresis,
    within 0 2000 p.start, within 0x08 0x77 p.driverKey.toNat, true, within 2 16 p.curveCount]

/-- A point of the brightness curve meets R148: its code in range and above the one before it, its level in range. Of two
points out of order the later fails (DESIGN CHOICE, log entry 67). -/
def curvePointOk (curve : List (Nat × Nat)) (i : Nat) : Bool :=
  let q := curve.getD i (0, 0)
  within 0 319 q.1 && within 0 2000 q.2 && (i == 0 || decide ((curve.getD (i - 1) (0, 0)).1 < q.1))

/-- A point of the display power curve meets R124. Of two points out of order the later fails (DESIGN CHOICE, log
entry 67). -/
def powerPointOk (curve : List (Nat × Nat)) (i : Nat) : Bool :=
  let q := curve.getD i (0, 0)
  let r := curve.getD (i - 1) (0, 0)
  within 0 2000 q.1 && within 0 20000 q.2 && (i == 0 || (decide (r.1 < q.1) && decide (r.2 ≤ q.2)))

/-- The first failing field of a list, by its ordinal. -/
def badField (table : Nat) (first : Nat) (fields : List Bool) : Option Nat :=
  (firstBad fields.length fun i => fields.getD i true).map fun i => fieldIndexOf table (first + i)

/-- The first failing field or point of LIGHT. -/
def badLight (p : Light) : Option Nat :=
  match badField 5 0 (lightFields p), firstBad p.curve.length (curvePointOk p.curve) with
  | some i, _ => some i
  | none, some i => some i
  | none, none =>
    match badField 5 19 [within 2 8 p.powerCount] with
    | some i => some i
    | none => firstBad p.power.length (powerPointOk p.power)

/-- The fields of SUPPLY, in the order of the image (Tables 4-6, 5-4 and 6-5). -/
def supplyFields (img : Image) (p : Supply) : List Bool :=
  [within 0 1 (u8 img 0), within 0 1 (u8 img 1), within 0 100000 p.reserve, within 0 100000 p.margin,
    within 0 3600 p.dwell, within 0 5000 p.window, within 0 20000 p.cutoff, within 0 1000 p.temperature,
    within 0 30000 p.bridgeLow, within 1 600 p.bridgeTime, within 2 64 p.debounce, within 50 2000 p.seat,
    within 200 10000 p.identify, true, within 0 200000 p.high, within 0 200000 p.crit && decide (p.crit ≤ p.high),
    within 0 50000 p.hyst, within 0 20000 p.mains, within 0 20000 p.packHigh, within 0 20000 p.packLow,
    within 0 20000 p.packCritical, within 0 20000 p.bridge]

/-- The fields of MOTION, in the order of the image (Table 8-6, R172). -/
def motionFields (p : MotionParams) : List Bool :=
  [within 0x08 0x77 p.key.toNat, true, within 1 1024 p.fall, within 1 255 p.fallCount,
    within 64 3547 p.impact && decide (p.high < p.impact), within 1 255 p.window,
    within 0 3547 p.low && decide (p.fall ≤ p.low), within 0 3547 p.high && decide (p.low ≤ p.high),
    within 1 1000 p.settleCount, within 100 10000 p.fallLimit, within 100 30000 p.settleLimit,
    within 0 10000 p.parkHold, within 0 10000 p.shockHold]

/-- The first failure in a table image (R180). -/
def badTable (service : Byte) (t : Tables) : Nat → Option Nat
  | 0 => badRoutes service t.routes
  | 1 => firstBad 64 (guardOk t.guards)
  | 2 => firstBad 24 (pollOk t.polls)
  | 3 => firstBad 16 (snoopOk t.snoops)
  | 4 => none
  | 5 => badLight (lightOf t.light)
  | 6 => badField 6 0 (supplyFields t.supply (supplyOf t.supply))
  | _ => badField 7 0 (motionFields (motionOf t.motion))

/-- The first failing table and index among the masked tables, in rising order. -/
def firstFailure (service : Byte) (mask : Byte) (t : Tables) : Option (Nat × Nat) :=
  (List.range 8).findSome? fun n => if bitAt mask n then (badTable service t n).map fun i => (n, i) else none

/-! ## The commit under way -/

/-- The commit under way, if there is one. -/
def State.commitRec (s : State) : Option CommitRec :=
  match s.sru.background with
  | .commit c => some c
  | .none => none
  | .save => none
  | .swap _ => none

/-- The segments a commit holds, SP1 to SP4: the order in which their IDLE ports reach a boundary when the hold ends
(DESIGN CHOICE, log entry 60). -/
def CommitRec.segments (c : CommitRec) : List Seg := allSegs.filter c.held.get

/-- The ports of some segments with a change. -/
def State.mapPorts (s : State) (segs : List Seg) (f : Port → Port) : State :=
  segs.foldl (fun s i => s.setPort i (f (s.port i))) s

/-- COMMIT is accepted (R179): the affected segments' ports are held, and the limit runs. -/
def acceptCommit (gen : Half) (mask : Byte) (s : State) : State :=
  let held := affectedSegments (bitAt mask 0) s.sru.committed (s.stagedTables mask)
  let c : CommitRec := { gen := gen, mask := mask, waiting := false, held := held, limit := timerNow s commitLimit }
  let s1 := s.mapPorts c.segments Port.hold
  s1.setSru { s1.sru with background := .commit c }

/-- A commit fails (R180, R182): its ports are released, SP1 to SP4 (DESIGN CHOICE, log entry 60), the operation ends and
COMMIT_FAILED is raised. -/
def failCommit (c : CommitRec) (status : Status) (payload : List Byte) (arg2 : Int) (s : State) : Act :=
  (s, c.segments.map Task.unhold ++
    ([.backgroundEnd status payload,
      .post { kind := .commitFailed, severity := .warn, subject := 0, arg1 := statusCode status, arg2 := arg2 }] :
        List Task))

/-- Validation ends 2 ms after acceptance (R180). -/
def onValidationEnd (s : State) : Act :=
  match s.commitRec with
  | none => (s, [])
  | some c =>
    if c.waiting || age s.now c.limit.start < validationTime then (s, [])
    else match firstFailure (addrByte (serviceAddr s.lines.addrSelHigh)) c.mask s.sru.staging with
      | none => (s.setSru { s.sru with background := .commit { c with waiting := true } }, [])
      | some (n, i) =>
        failCommit c .invalidTable [BitVec.ofNat 8 n, BitVec.ofNat 8 i] ((256 * n + i : Nat) : Int) s

/-- A held port that is not READY. -/
def State.unready (s : State) (c : CommitRec) (seg : Seg) : Bool := c.held.get seg && (s.port seg).mark != .ready

/-- The unmet conditions of a commit, in the coding of section 12.1. -/
def State.unmet (s : State) (c : CommitRec) : Nat :=
  flagBit (s.unready c .sp1) 0 + flagBit (s.unready c .sp2) 1 + flagBit (s.unready c .sp3) 2 +
    flagBit (s.unready c .sp4) 3 + flagBit (bitAt c.mask 6 && s.ppc.attempt.isSome) 4 +
    flagBit (bitAt c.mask 7 && s.mtu.openRec.isSome) 5

/-- The switch conditions hold (R181). -/
def State.commitReady (s : State) (c : CommitRec) : Bool := c.waiting && s.unmet c == 0

/-- The committed images at a switch (R181): the masked staging images, with the indicators carried over (R23). -/
def switchedTables (mask : Byte) (old staging : Tables) : Tables :=
  let t := maskTables mask old staging
  if bitAt mask 0 then { t with routes := carryIndicators old.routes t.routes } else t

/-- The committed SUPPLY table takes force (R90, R181); the Power Path Controller has still to be told. -/
def State.forceSupply (s : State) : State :=
  { s with sru := { s.sru with supplyForce := s.sru.committed.supply }, ppc := { s.ppc with switching := true } }

/-- The committed MOTION table takes force, unless a record is open, at whose close it does (R172, R181); the Motion Unit
has still to be told. -/
def State.forceMotion (s : State) : State :=
  { s with
    sru := { s.sru with
      motionForce := if s.mtu.openRec.isNone then s.sru.committed.motion else s.sru.motionForce }
    mtu := { s.mtu with motionDue := true } }

/-- The masked ones of the tables that have an image in force of their own take force (R181). -/
def State.forceTables (mask : Byte) (s : State) : State :=
  let s1 := if bitAt mask 6 then s.forceSupply else s
  if bitAt mask 7 then s1.forceMotion else s1

/-- The bay controllers, the Power Path Controller and the classifier are told of a SUPPLY switch (R90, R115, R123). -/
def supplyParts : List Task := [.supplyBay .a, .supplyBay .b, .supplyPower, .supplyClass]

/-- The blocks are told of a switch, in the order of R181 step 3; what they start in the power path before its turn waits
for it (DEDUCED, log entry 53). Of the bay controllers A comes before B (DESIGN CHOICE, log entry 66). -/
def switchTasks (mask : Byte) (old : Tables) : List Task :=
  tasksIf (bitAt mask 4) [.limitsSwitch] ++
    tasksIf (bitAt mask 2) [.pollsSwitch old.polls, .admissionRestart .a, .admissionRestart .b] ++
    tasksIf (bitAt mask 6) supplyParts ++ tasksIf (bitAt mask 5) [.ceiling] ++
    tasksIf (bitAt mask 7) [.motionSwitch]

/-- The masked tables switch at one moment (R181): all take force before any block is told. The boundary of an IDLE port that
was held (R42) comes after the blocks have been told and COMMIT_DONE is posted, although its mark is NONE from step 2; at a
failed commit it comes first (DESIGN CHOICE, log entry 45). Several such ports go from SP1 to SP4 (DESIGN CHOICE, log
entry 60). -/
def switchCommit (c : CommitRec) (s : State) : Act :=
  let s1 := s.setSru { s.sru with
    committed := switchedTables c.mask s.sru.committed s.sru.staging
    generation := c.gen }
  let s2 := (s1.forceTables c.mask).mapPorts c.segments fun p => { p with mark := .none }
  (s2, switchTasks c.mask s.sru.committed ++
    ([.backgroundEnd .done (Builtin.le2 c.gen.toNat ++ [c.mask]),
      .post { kind := .commitDone, severity := .info, subject := 0, arg1 := c.gen.toNat, arg2 := c.mask.toNat }] :
        List Task) ++ c.segments.map Task.boundary)

/-- COMMIT_SWITCH (R181). -/
def onCommitSwitch (s : State) : Act :=
  match s.commitRec with
  | none => (s, [])
  | some c => if s.commitReady c then switchCommit c s else (s, [])

/-- The commit limit expires (R182). Where it finds the commit WAITING with no condition unmet, the first moment of R181 has
passed, and the commit switches as COMMIT_SWITCH would (DEDUCED, log entry 3). -/
def onCommitLimit (s : State) : Act :=
  match s.commitRec with
  | none => (s, [])
  | some c =>
    if !c.limit.due s.now then (s, [])
    else if s.commitReady c then switchCommit c s
    else failCommit c .busy [BitVec.ofNat 8 (s.unmet c)] (s.unmet c) s

/-- A SUPPLY table takes force for the bays, the Power Path Controller and the classifier (R90, R115, R123). -/
def takeSupplyTable (s : State) : Act := (s.forceSupply, supplyParts)

end Sys2Proof.Machine
end

