-- ==== Sys2Proof/Machine/Settings.lean ====
section
/-!
DEFINITION. The Settings Memory Interface (Chapter 11): loading, the opening of traffic, the acting of SOFT_RESET (R184),
saving, and raw writes.
-/

namespace Sys2Proof.Machine

/-- The time of a whole load in ms (R191). -/
def loadTime : Nat := 60

/-- The time of a load that a header ends, in ms (R191). -/
def headerTime : Nat := 1

/-- The time of a page in ms (R194, R195). -/
def pageTime : Nat := 5

/-- The state with the Settings Memory Interface replaced. -/
def State.setSmi (s : State) (m : Smi) : State := { s with smi := m }

/-! ## The load (R191) -/

/-- The header of the settings memory. -/
def State.header (s : State) : List Byte := readRun s.smi.memory 0 8

/-- The header shows the version and the length this part reads. -/
def State.headerGood (s : State) : Bool := u16 s.header 0 == 1 && u16 s.header 2 == imageLength

/-- The image bytes of the settings memory. -/
def State.storedImage (s : State) : List Byte := readRun s.smi.memory 8 imageLength

/-- The CRC over the image bytes equals the header's CRC. -/
def State.crcGood (s : State) : Bool := (crc16 s.storedImage).toNat == u16 s.header 6

/-- The cause of an image that is not valid (R191): 1 for the header, 2 for the CRC, 3 for a memory that did not answer. -/
def State.loadFault (s : State) (answered : Bool) : Option Nat :=
  if !answered then some 3 else if !s.headerGood then some 1 else if !s.crcGood then some 2 else none

/-- The load may end at this moment (R191): at once when the memory does not answer, 1 ms after its start on a bad header,
60 ms after it otherwise. -/
def State.loadEnds (s : State) (answered : Bool) (start : Time) : Bool :=
  !answered || decide ((if s.headerGood then loadTime else headerTime) ≤ age s.now start)

/-- The table images of the settings memory; every entry starts with clear indicators (R191). -/
def State.storedTables (s : State) : Tables :=
  let t := tablesOf s.storedImage
  { t with routes := clearIndicatorBits t.routes }

/-- The tables and the generation a load brings (R191). -/
def State.loaded (s : State) (answered : Bool) : Tables × Half :=
  match s.loadFault answered with
  | none => (s.storedTables, BitVec.ofNat 16 (u16 s.header 4))
  | some _ => (builtinTables, 0)

/-- SETTINGS_DEFAULTED (R191). -/
def defaultedPost (cause version : Nat) : Post where
  kind := .settingsDefaulted
  severity := .warn
  subject := 0
  arg1 := cause
  arg2 := if cause = 3 then 0 else version

/-- The loaded images become the committed and the staging ones (R191, R178); an invalid image raises its notice. -/
def State.takeLoad (s : State) (answered : Bool) : State :=
  let l := s.loaded answered
  let s1 := s.setSru { s.sru with committed := l.1, staging := l.1, generation := l.2 }
  let s2 := s1.setSmi { s1.smi with
    activity := .idle
    result := some (if (s.loadFault answered).isNone then .valid else .defaulted)
    answers := answered }
  match s.loadFault answered with
  | none => s2
  | some cause => s2.notify (defaultedPost cause (u16 s.header 0))

/-- The blocks are told that the tables take force at the opening (R193); bay A before bay B (DESIGN CHOICE, log
entry 66). -/
def openingTasks : List Task :=
  [.limitsSwitch, .pollsStart, .openBay .a, .openBay .b, .openPower, .classify, .openBright, .openMotion]

/-- Traffic opens at the end of the load after power-on reset (R193). -/
def openTraffic (answered : Bool) (s : State) : Act :=
  let s1 := s.takeLoad answered
  let s2 := s1.setSru { s1.sru with supplyForce := s1.sru.committed.supply, motionForce := s1.sru.committed.motion }
  (s2.setUli (s2.uli.toIdle .released), openingTasks)

/-- A reload of SUPPLY takes force at once when no confirm is awaited, and else at that attempt's end (R90). -/
def State.supplyReload (s : State) : Act :=
  if s.ppc.engaged then ({ s with ppc := { s.ppc with supplyDue := true } }, []) else takeSupplyTable s

/-- The blocks are told of a SOFT_RESET in the order of R181 step 3, and then the segment ports (R184). Bay A comes before
bay B, and the ports go from SP1 to SP4 (DESIGN CHOICE, log entries 60 and 66). -/
def resetTasks (supply : List Task) : List Task :=
  ([.limitsSwitch, .pollsStart, .admissionRestart .a, .admissionRestart .b] : List Task) ++ supply ++
    ([.brightReset, .motionSwitch] : List Task) ++ allSegs.map Task.resetPort ++ ([.resetDone] : List Task)

/-- SOFT_RESET acts at the end of its read (R184): the reloaded tables take force before any block is told. -/
def actReset (answered : Bool) (s : State) : Act :=
  let s1 : State := { s with ntq := s.ntq.emptied, uli := { s.uli with ring := [] } }
  let s2 := s1.takeLoad answered
  let s3 := (s2.setSru { s2.sru with snapshot := none }).forceMotion
  (s3.supplyReload.1, resetTasks s3.supplyReload.2)

/-- SETTINGS_LOAD_END (R191). -/
def onLoadEnd (answered : Bool) (s : State) : Act :=
  match s.smi.activity with
  | .loading start =>
    if s.loadEnds answered start then
      if s.sru.resetPending then actReset answered s else openTraffic answered s
    else (s, [])
  | .idle => (s, [])
  | .saving _ => (s, [])
  | .rawWriting _ => (s, [])

/-- SOFT_RESET has acted (R184): its record reads DONE if it is still its own, and a waiting read is released. -/
def onResetDone (s : State) : State :=
  let s1 := s.setSru { s.sru with resetPending := false, gaveUp := false }
  s1.writeEnd 0x7F .done (Builtin.le2 s.sru.generation.toNat ++ [if s.sru.gaveUp then 1 else 0])

/-! ## Saving (R194) -/

/-- The pages of the image: 8 bytes each, the last with the two bytes that are left (log entry 29). -/
def imagePages : Nat := 630

/-- The offset of page `k` of a save: the image pages in rising offset, the header last. -/
def pageOffset (k : Nat) : Nat := if k < imagePages then 8 * (k + 1) else 0

/-- The bytes of page `k` of a save; `image` is the header followed by the table images. -/
def pageBytes (image : List Byte) (k : Nat) : List Byte := slice image (pageOffset k) 8

/-- The settings image a save writes (R194): the committed images, with every indicator clear, under a new header. -/
def State.saveImage (s : State) : List Byte :=
  let img := imageBytes { s.sru.committed with routes := clearIndicatorBits s.sru.committed.routes }
  headerBytes s.sru.generation img ++ img

/-- A page of a save is written and read back (R194); `held` is what the page then holds. -/
def savePage (r : SaveRec) (acknowledged : Bool) (held : List Byte) (s : State) : Act :=
  let bytes := pageBytes r.image r.done
  let got := held.take bytes.length
  let smi := { s.smi with memory := writeRun s.smi.memory (pageOffset r.done) got, answers := acknowledged }
  if acknowledged && got == bytes then
    if r.done < imagePages then
      (s.setSmi { smi with activity := .saving { r with done := r.done + 1, start := s.now } }, [])
    else (s.setSmi { smi with activity := .idle }, [.backgroundEnd .done (Builtin.le2 r.gen.toNat)])
  else
    (s.setSmi { smi with activity := .idle }, [.backgroundEnd .failed (Builtin.le2 (pageOffset r.done))])

/-- SAVE_PAGE_DONE (R194). A page that is not acknowledged fails too when its 5 ms have passed (DESIGN CHOICE, log entry
59). -/
def onSavePage (acknowledged : Bool) (held : List Byte) (s : State) : Act :=
  match s.smi.activity with
  | .saving r => if age s.now r.start < pageTime then (s, []) else savePage r acknowledged held s
  | .idle => (s, [])
  | .loading _ => (s, [])
  | .rawWriting _ => (s, [])

/-! ## Raw writes (R195) -/

/-- The pages of a raw write, in rising offset. -/
def rawPages (offset : Nat) (bytes : List Byte) : List (Nat × List Byte) :=
  (List.range (bytes.length / 8)).map fun k => (offset + 8 * k, slice bytes (8 * k) 8)

/-- The activity after a raw page: the next page, or IDLE. -/
def afterPage (rest : List (Nat × List Byte)) (now : Time) : SmiActivity :=
  match rest with
  | [] => .idle
  | p :: ps => .rawWriting { pages := p :: ps, start := now }

/-- RAW_WRITE_PAGE_DONE (R195). -/
def onRawPage (s : State) : State :=
  match s.smi.activity with
  | .rawWriting r =>
    if age s.now r.start < pageTime then s
    else match r.pages with
      | [] => s.setSmi { s.smi with activity := .idle }
      | p :: ps => s.setSmi { s.smi with
          memory := writeRun s.smi.memory p.1 p.2, activity := afterPage ps s.now }
  | .idle => s
  | .loading _ => s
  | .saving _ => s

end Sys2Proof.Machine
end

