-- ==== Sys2Proof/Machine/Service.lean ====
section
/-!
DEFINITION. The Service Request Unit (Chapter 9): the requests of Table 12-1, the checks of R174 in their order, the long
read-outs (R177), and what each request does.
-/

namespace Sys2Proof.Machine

/-! ## The requests -/

/-- The requests of Table 9-1. -/
inductive Request
  | identify | stageWrite | stageRead | tableRead | discard | commit | saveSettings | settingsRead | settingsWrite
  | fetchNotices | setAlertLevel | readTelemetry | readBay | readPower | readBrightness | setBrightness | requestSwap
  | retryBay | readDrop | clearDrop | readMotion | readPollStatus | readLinkStatus | clearIndicators | softReset
deriving DecidableEq, Repr

/-- The request code (Table 12-1). -/
def Request.code : Request → Byte
  | .identify => 0x01
  | .stageWrite => 0x02
  | .stageRead => 0x03
  | .tableRead => 0x04
  | .discard => 0x05
  | .commit => 0x06
  | .saveSettings => 0x07
  | .settingsRead => 0x08
  | .settingsWrite => 0x09
  | .fetchNotices => 0x10
  | .setAlertLevel => 0x11
  | .readTelemetry => 0x20
  | .readBay => 0x21
  | .readPower => 0x22
  | .readBrightness => 0x23
  | .setBrightness => 0x24
  | .requestSwap => 0x25
  | .retryBay => 0x26
  | .readDrop => 0x30
  | .clearDrop => 0x31
  | .readMotion => 0x32
  | .readPollStatus => 0x40
  | .readLinkStatus => 0x41
  | .clearIndicators => 0x42
  | .softReset => 0x7F

/-- Every request. -/
def allRequests : List Request :=
  [.identify, .stageWrite, .stageRead, .tableRead, .discard, .commit, .saveSettings, .settingsRead, .settingsWrite,
    .fetchNotices, .setAlertLevel, .readTelemetry, .readBay, .readPower, .readBrightness, .setBrightness, .requestSwap,
    .retryBay, .readDrop, .clearDrop, .readMotion, .readPollStatus, .readLinkStatus, .clearIndicators, .softReset]

/-- The request a code names. -/
def requestOf (code : Byte) : Option Request := allRequests.find? fun r => r.code == code

/-- The payload lengths a request takes (Table 12-1). -/
def Request.takes : Request → Nat → Bool
  | .identify, n => n == 0
  | .stageWrite, n => within 4 31 n
  | .stageRead, n => n == 4
  | .tableRead, n => n == 4
  | .discard, n => n == 1
  | .commit, n => n == 3
  | .saveSettings, n => n == 0
  | .settingsRead, n => n == 3
  | .settingsWrite, n => within 3 31 n
  | .fetchNotices, n => n == 2
  | .setAlertLevel, n => n == 1
  | .readTelemetry, n => n == 2
  | .readBay, n => n == 2
  | .readPower, n => n == 1
  | .readBrightness, n => n == 1
  | .setBrightness, n => n == 4
  | .requestSwap, n => n == 1
  | .retryBay, n => n == 1
  | .readDrop, n => n == 2
  | .clearDrop, n => n == 1
  | .readMotion, n => n == 1
  | .readPollStatus, n => n == 2
  | .readLinkStatus, n => n == 1
  | .clearIndicators, n => n == 0
  | .softReset, n => n == 0

/-- The background operations (Table 9-1). -/
def Request.background : Request → Bool
  | .commit => true
  | .saveSettings => true
  | .requestSwap => true
  | .identify => false
  | .stageWrite => false
  | .stageRead => false
  | .tableRead => false
  | .discard => false
  | .settingsRead => false
  | .settingsWrite => false
  | .fetchNotices => false
  | .setAlertLevel => false
  | .readTelemetry => false
  | .readBay => false
  | .readPower => false
  | .readBrightness => false
  | .setBrightness => false
  | .retryBay => false
  | .readDrop => false
  | .clearDrop => false
  | .readMotion => false
  | .readPollStatus => false
  | .readLinkStatus => false
  | .clearIndicators => false
  | .softReset => false

/-- What a request that passed the checks of R174 answers. -/
structure Answer where
  status : Status
  payload : List Byte
  state : State
  tasks : List Task
deriving DecidableEq, Repr

/-- A refusal: nothing changes apart from the response record (R174). -/
def refusal (status : Status) (s : State) : Answer := { status := status, payload := [], state := s, tasks := [] }

/-- An answer that changes nothing. -/
def reading (payload : List Byte) (s : State) : Answer := { status := .ok, payload := payload, state := s, tasks := [] }

/-- An answer without a payload. -/
def acting (a : Act) : Answer := { status := .ok, payload := [], state := a.1, tasks := a.2 }

/-! ## Identification and tables (R178, R183) -/

/-- The load result code; VALID before any load has ended cannot be read. -/
def loadResultCode : Option LoadResult → Nat
  | some .valid => 0
  | some .defaulted => 1
  | none => 0xFF

/-- IDENTIFY (R183). -/
def requestIdentify (s : State) : Answer :=
  reading (Builtin.le2 0x4120 ++ [Config.revision] ++ Builtin.le2 s.sru.generation.toNat ++
    f1 (loadResultCode s.smi.result) ++ [32, 2, 64, 24, 16, 32, 16, 4]) s

/-- A commit is under way. -/
def State.committing (s : State) : Bool := s.commitRec.isSome

/-- STAGE_WRITE (R178). -/
def requestStageWrite (p : List Byte) (s : State) : Answer :=
  let n := u8 p 0
  let bytes := p.drop 3
  if 7 < n then refusal .badTable s
  else if tableSize n < u16 p 1 + bytes.length then refusal .badOffset s
  else if s.committing then refusal .busy s
  else acting (s.setSru { s.sru with
    staging := setTable s.sru.staging n (putRun (tableImage s.sru.staging n) (u16 p 1) bytes) }, [])

/-- The checks and bytes of STAGE_READ and TABLE_READ (R178). -/
def readImageRun (t : Tables) (p : List Byte) (s : State) : Answer :=
  let n := u8 p 0
  if !within 1 28 (u8 p 3) then refusal .badLength s
  else if 7 < n then refusal .badTable s
  else if tableSize n < u16 p 1 + u8 p 3 then refusal .badOffset s
  else reading (slice (tableImage t n) (u16 p 1) (u8 p 3)) s

/-- STAGE_READ (R178). -/
def requestStageRead (p : List Byte) (s : State) : Answer := readImageRun s.sru.staging p s

/-- TABLE_READ (R178): the committed images, also while a SOFT_RESET's SUPPLY or MOTION image is committed and not yet in
force (R90, R172; DESIGN CHOICE, log entry 68). -/
def requestTableRead (p : List Byte) (s : State) : Answer := readImageRun s.sru.committed p s

/-- DISCARD (R178). -/
def requestDiscard (p : List Byte) (s : State) : Answer :=
  if s.committing then refusal .busy s
  else acting (s.setSru { s.sru with staging := maskTables (byteAt p 0) s.sru.staging s.sru.committed }, [])

/-- COMMIT (R179). -/
def requestCommit (p : List Byte) (s : State) : Answer :=
  if byteAt p 2 = 0 then refusal .notApplicable s
  else
    { status := .accepted, payload := [], state := acceptCommit (BitVec.ofNat 16 (u16 p 0)) (byteAt p 2) s
      tasks := [] }

/-- CLEAR_INDICATORS (R23, R183). -/
def requestClearIndicators (s : State) : Answer :=
  acting (s.setSru { s.sru with committed := { s.sru.committed with
    routes := clearIndicatorBits s.sru.committed.routes } }, [])

/-! ## Settings (R194, R195) -/

/-- SAVE_SETTINGS (R194). -/
def requestSave (s : State) : Answer :=
  match s.smi.activity with
  | .idle =>
    let r : SaveRec := { image := s.saveImage, gen := s.sru.generation, done := 0, start := s.now }
    { status := .accepted
      payload := []
      state := (s.setSru { s.sru with background := .save }).setSmi { s.smi with activity := .saving r }
      tasks := [] }
  | .loading _ => refusal .busy s
  | .saving _ => refusal .busy s
  | .rawWriting _ => refusal .busy s

/-- The Settings Memory Interface is IDLE. -/
def State.smiIdle (s : State) : Bool := s.smi.activity == .idle

/-- SETTINGS_READ (R195). -/
def requestSettingsRead (p : List Byte) (s : State) : Answer :=
  if !within 1 28 (u8 p 2) then refusal .badLength s
  else if memorySize < u16 p 0 + u8 p 2 then refusal .badOffset s
  else if !s.smiIdle then refusal .busy s
  else if !s.smi.answers then refusal .failed s
  else reading (readRun s.smi.memory (u16 p 0) (u8 p 2)) s

/-- SETTINGS_WRITE (R195). -/
def requestSettingsWrite (p : List Byte) (s : State) : Answer :=
  let bytes := p.drop 2
  if u16 p 0 % 8 ≠ 0 ∨ ¬(bytes.length = 8 ∨ bytes.length = 16 ∨ bytes.length = 24) then refusal .badAlign s
  else if memorySize < u16 p 0 + bytes.length then refusal .badOffset s
  else if !s.smiIdle then refusal .busy s
  else acting (s.setSmi { s.smi with
    activity := .rawWriting { pages := rawPages (u16 p 0) bytes, start := s.now } }, [])

/-! ## Notices (R189, R190) -/

/-- FETCH_NOTICES (R189). -/
def requestFetch (p : List Byte) (s : State) : Answer :=
  if !within 1 2 (u8 p 0) then refusal .badLength s
  else
    let q := s.ntq.fetched (u8 p 0) (byteAt p 1 != 0)
    { status := .ok
      payload := fetchImage (s.ntq.taken (u8 p 0)) q.queue.length s.ntq.overflow
      state := { s with ntq := q }
      tasks := [] }

/-- SET_ALERT_LEVEL (R190). -/
def requestAlertLevel (p : List Byte) (s : State) : Answer :=
  match severityOfCode (u8 p 0) with
  | some level => acting ({ s with ntq := s.ntq.withLevel level }, [])
  | none => refusal .notApplicable s

/-! ## Telemetry (R66) -/

/-- READ_TELEMETRY (R66). -/
def requestTelemetry (p : List Byte) (s : State) : Answer :=
  if !within 1 4 (u8 p 1) || decide (32 < u8 p 0 + u8 p 1) then refusal .badLength s
  else reading ((List.range (u8 p 1)).flatMap fun k => slotImage s.now (s.slot (Fin.ofNat 32 (u8 p 0 + k)))) s

/-! ## Long read-outs (R177) -/

/-- The bytes of part `k` of an image. -/
def partOf (image : List Byte) (k : Nat) : List Byte := slice image (28 * k) 28

/-- Part 0 of a long read-out: the snapshot is replaced, and the response carries its first bytes. -/
def firstPart (code : Byte) (subject : Option Byte) (image : List Byte) (s : State) : Answer :=
  { status := .ok
    payload := partOf image 0
    state := s.setSru { s.sru with
      snapshot := some { code := code, subject := subject, time := s.now, image := image } }
    tasks := [] }

/-- A part above 0 comes from the snapshot of the same code and subject, if it begins within the image. -/
def laterPart (code : Byte) (subject : Option Byte) (k : Nat) (s : State) : Answer :=
  match s.sru.snapshot with
  | some x =>
    if x.code = code ∧ x.subject = subject ∧ 28 * k < x.image.length then reading (partOf x.image k) s
    else refusal .badOffset s
  | none => refusal .badOffset s

/-- A long read-out without side effects. -/
def longRead (r : Request) (subject : Option Byte) (k : Nat) (image : List Byte) (s : State) : Answer :=
  if k = 0 then firstPart r.code subject image s else laterPart r.code subject k s

/-- READ_BAY (R92). -/
def requestReadBay (p : List Byte) (s : State) : Answer :=
  match bayOfByte (byteAt p 0) with
  | some bay => longRead .readBay (some (byteAt p 0)) (u8 p 1) (bayImage bay s) s
  | none => refusal .notApplicable s

/-- READ_POWER (R91). -/
def requestReadPower (p : List Byte) (s : State) : Answer := longRead .readPower none (u8 p 0) (powerImage s) s

/-- READ_BRIGHTNESS (R147). -/
def requestReadBrightness (p : List Byte) (s : State) : Answer :=
  longRead .readBrightness none (u8 p 0) (brightImage s) s

/-- READ_MOTION (R171). -/
def requestReadMotion (p : List Byte) (s : State) : Answer := longRead .readMotion none (u8 p 0) (motionImage s) s

/-- READ_LINK_STATUS (R24, R28). -/
def requestReadLink (p : List Byte) (s : State) : Answer := longRead .readLinkStatus none (u8 p 0) (linkImage s) s

/-- The state with an entry's SKIPPED and LATE marks clear (R47). -/
def State.clearMarks (s : State) (place : Fin 24) : State :=
  s.setPoll place { s.poll place with skipped := false, late := false }

/-- READ_POLL_STATUS (R47). -/
def requestReadPoll (p : List Byte) (s : State) : Answer :=
  if 23 < u8 p 0 then refusal .notApplicable s
  else if u8 p 1 = 0 then
    firstPart Request.readPollStatus.code (some (byteAt p 0)) (pollImage (Fin.ofNat 24 (u8 p 0)) s)
      (s.clearMarks (Fin.ofNat 24 (u8 p 0)))
  else laterPart Request.readPollStatus.code (some (byteAt p 0)) (u8 p 1) s

/-! ## The drop log (R170) -/

/-- The state with a record of the log replaced or removed. -/
def State.setLog (s : State) (i : Fin 4) (r : Option DropRec) : State :=
  s.setMtu { s.mtu with log := s.mtu.log.set i r }

/-- READ_DROP (R170). -/
def requestReadDrop (p : List Byte) (s : State) : Answer :=
  if 3 < u8 p 0 then refusal .notApplicable s
  else if u8 p 1 = 0 then
    match s.mtu.logAt (Fin.ofNat 4 (u8 p 0)) with
    | some r =>
      firstPart Request.readDrop.code (some (byteAt p 0)) (dropImage r)
        (s.setLog (Fin.ofNat 4 (u8 p 0)) (some { r with read := true }))
    | none => refusal .notApplicable s
  else laterPart Request.readDrop.code (some (byteAt p 0)) (u8 p 1) s

/-- CLEAR_DROP (R170). -/
def requestClearDrop (p : List Byte) (s : State) : Answer :=
  let i := Fin.ofNat 4 (u8 p 0)
  if 3 < u8 p 0 ∨ (s.mtu.logAt i).isNone then refusal .notApplicable s
  else acting (s.setMtu { s.mtu with log := s.mtu.log.set i none, order := s.mtu.order.filter (· != i) }, [])

/-! ## Brightness, bays and reset (R113, R114, R131, R184) -/

/-- SET_BRIGHTNESS (R131). -/
def requestBrightness (p : List Byte) (s : State) : Answer :=
  let bias := signed 8 (u8 p 3)
  match modeOfCode (u8 p 0) with
  | some mode =>
    if -64 ≤ bias ∧ bias ≤ 64 then acting (acceptBrightness mode (u16 p 1) bias s) else refusal .notApplicable s
  | none => refusal .notApplicable s

/-- The bay of a REQUEST_SWAP that may be accepted (R113). -/
def State.swapBay (s : State) (b : Byte) : Option Bay :=
  (bayOfByte b).filter fun bay => (s.bay bay).state == .ready || (s.bay bay).state == .active

/-- REQUEST_SWAP (R113). -/
def requestSwapOf (p : List Byte) (s : State) : Answer :=
  match s.swapBay (byteAt p 0) with
  | some bay =>
    let a := toReleasing bay .request (s.setSru { s.sru with background := .swap bay })
    { status := .accepted, payload := [], state := a.1, tasks := a.2 }
  | none => refusal .notApplicable s

/-- The bay of a RETRY_BAY that may be accepted (R114). -/
def State.retryOf (s : State) (b : Byte) : Option Bay :=
  (bayOfByte b).filter fun bay => (s.bay bay).state == .faulted && (s.bay bay).latchClosed

/-- RETRY_BAY (R114). -/
def requestRetry (p : List Byte) (s : State) : Answer :=
  match s.retryOf (byteAt p 0) with
  | some bay => acting (toIdentifying bay s)
  | none => refusal .notApplicable s

/-- SOFT_RESET at its decoding (R184): a commit under way is given up, its ports released from SP1 to SP4 (DESIGN CHOICE,
log entry 60), and the settings image is read. -/
def requestReset (s : State) : Answer :=
  match s.smi.activity with
  | .idle =>
    let s1 := s.setSru { s.sru with
      background := if s.committing then .none else s.sru.background
      resetPending := true
      gaveUp := s.committing }
    { status := .accepted
      payload := []
      state := s1.setSmi { s1.smi with activity := .loading s.now }
      tasks := match s.commitRec with | some c => c.segments.map Task.unhold | none => [] }
  | .loading _ => refusal .busy s
  | .saving _ => refusal .busy s
  | .rawWriting _ => refusal .busy s

/-! ## Decoding (R173, R174) -/

/-- What a request does once the checks of R174 are passed. -/
def Request.act (r : Request) (p : List Byte) (s : State) : Answer :=
  match r with
  | .identify => requestIdentify s
  | .stageWrite => requestStageWrite p s
  | .stageRead => requestStageRead p s
  | .tableRead => requestTableRead p s
  | .discard => requestDiscard p s
  | .commit => requestCommit p s
  | .saveSettings => requestSave s
  | .settingsRead => requestSettingsRead p s
  | .settingsWrite => requestSettingsWrite p s
  | .fetchNotices => requestFetch p s
  | .setAlertLevel => requestAlertLevel p s
  | .readTelemetry => requestTelemetry p s
  | .readBay => requestReadBay p s
  | .readPower => requestReadPower p s
  | .readBrightness => requestReadBrightness p s
  | .setBrightness => requestBrightness p s
  | .requestSwap => requestSwapOf p s
  | .retryBay => requestRetry p s
  | .readDrop => requestReadDrop p s
  | .clearDrop => requestClearDrop p s
  | .readMotion => requestReadMotion p s
  | .readPollStatus => requestReadPoll p s
  | .readLinkStatus => requestReadLink p s
  | .clearIndicators => requestClearIndicators s
  | .softReset => requestReset s

/-- The answer of a request, with the checks of R174 in their order; a pending SOFT_RESET refuses every further request
(R184, log entry 13). -/
def answerOf (r : Request) (p : List Byte) (s : State) : Answer :=
  if !r.takes p.length then refusal .badLength s
  else if r.background && s.sru.background != .none then refusal .busy s
  else if s.sru.resetPending then refusal .busy s
  else r.act p s

/-- The response record a decoded request leaves (R174). -/
def responseOf (code tag : Byte) (a : Answer) : Response where
  code := code
  tag := tag
  status := a.status
  payload := a.payload
  current := a.status == .accepted

/-- An answer takes effect with its response record (R174). -/
def respond (code tag : Byte) (a : Answer) : Act :=
  (a.state.setSru { a.state.sru with response := some (responseOf code tag a) }, a.tasks)

/-- A request is decoded (R174). -/
def decodeRequest (code tag : Byte) (p : List Byte) (s : State) : Act :=
  match requestOf code with
  | some r => respond code tag (answerOf r p s)
  | none => respond code tag (refusal .unknownRequest s)

/-- A service write without a tag, or with a 33rd data byte (R173). -/
def decodeMalformed (code tag : Byte) (s : State) : Act := respond code tag (refusal .badLength s)

/-- A whole service write arrives (R173): in STARTING its address is NACKed (R1), and it cannot begin while another
transaction is open. -/
def serviceWrite (code tag : Byte) (p : List Byte) (s : State) : Act :=
  match s.uli.phase with
  | .starting => (s.setUli { s.uli with reply := .nack }, [])
  | .idle => (s.setUli { s.uli with reply := .ack, lastActivity := s.now }, [.request code tag p])
  | .address => (s, [])
  | .command => (s, [])
  | .writeData => (s, [])
  | .held => (s, [])
  | .readout => (s, [])
  | .drain => (s, [])

/-- The transaction of a whole service READ form. -/
def serviceRead (s : State) (cmd : Byte) : UpTxn :=
  { UpTxn.opened (serviceAddr s.lines.addrSelHigh) none with cmd := some cmd }

/-- A whole service READ form arrives (R175), up to its repeated-start address. -/
def onResponseRead (cmd : Byte) (s : State) : State :=
  match s.uli.phase with
  | .starting => s.setUli { s.uli with reply := .nack }
  | .idle => turnToResponse (serviceRead s cmd) s
  | .address => s
  | .command => s
  | .writeData => s
  | .held => s
  | .readout => s
  | .drain => s

end Sys2Proof.Machine
end

