-- ==== Sys2Proof/Machine/Agenda.lean ====
section
/-!
DEFINITION. The agenda: what each block does when another tells it something inside the handling of one command, and the
work-off of a handling, first to last, each task putting what it starts in front of the rest (log entry 4).
-/

namespace Sys2Proof.Machine

/-- A handling step that starts nothing further. -/
def alone (s : State) : Act := (s, [])

/-- An engine transaction completes to its issuer (R48, R145, R153). An issuer acts alike on an ABSENT of any reason
(R30, R31, R49). -/
def engineDone (seg : Seg) (t : EngTxn) (outcome : TxOutcome) (_reason : Option AbsentReason) (data : List Byte)
    (s : State) : Act :=
  match t.issuer with
  | .ple tag => pollDone tag t outcome data s
  | .brc => alone (driverDone (segNumber seg) (u16 t.data 0) outcome s)
  | .mtu => motionDone outcome data s

/-- A slot is an energy slot, whose change makes the classifier recompute (R117). -/
def isEnergySlot (slot : Fin 32) : Bool := slot == energySlot .a || slot == energySlot .b

/-- The readers of a slot are told a write: the Power Path Controller, the classifier, the bay controllers (R66; log
entry 20). -/
def tellWritten (slot : Fin 32) (old : Slot) (s : State) : Act :=
  let a := powerOnWrite slot old s
  (a.1, a.2 ++ tasksIf (isEnergySlot slot) [.energy] ++ bayOnWrite slot s)

/-- The readers of a slot are told that it became STALE or NEVER (R66); a STALE energy slot keeps its value. -/
def tellLapsed (slot : Fin 32) (s : State) : Act :=
  let a := powerOnLapse slot s
  (a.1, a.2 ++ tasksIf (isEnergySlot slot && (s.slot slot).state == .never) [.energy] ++ bayOnLapse slot)

/-- A change of the shock-hold flag is told to the bay controllers and then to the Power Path Controller (R163); a bay
controller acts on the clearing alone (R106). Bay A acts, with all it starts, before bay B (DESIGN CHOICE, log
entry 66). -/
def flagNews (set : Bool) : List Task :=
  if set then [.flagPower true] else [.flagBay .a, .flagBay .b, .flagPower false]

/-- What a block does with a task. -/
def handle (t : Task) (s : State) : Act :=
  match t with
  | .post p => alone (s.notify p)
  | .openTxn addr read => alone (onFirstAddress addr read s)
  | .handIn x => handIntoLane x s
  | .laneDone x outcome data trailer => laneDone x outcome data trailer s
  | .request code tag payload => decodeRequest code tag payload s
  | .malformed code tag => decodeMalformed code tag s
  | .place seg x => placeEngine seg x s
  | .boundary seg => atBoundary seg s
  | .portIdle seg => returnToIdle seg s
  | .engineDone seg x outcome reason data => engineDone seg x outcome reason data s
  | .isolate seg => isolatePort seg s
  | .connect seg => connectPort seg s
  | .unhold seg => unholdPort seg s
  | .resetPort seg => resetPort seg s
  | .pollRun place => runPoll place s
  | .fallsDue place => entryFallsDue place s
  | .pollAgain place => runPollAgain place s
  | .pollKind place outcome results => pollKindRule place outcome results s
  | .setupSegment seg => setupEvent seg s
  | .pollBay bay old new => pollOnBay bay old new s
  | .admissionBegin bay => beginAdmission bay s
  | .admissionAgain place => runAdmissionAgain place s
  | .descriptor source place d data => runDescriptor source place d data s
  | .slotWritten slot old => tellWritten slot old s
  | .slotLapsed slot => tellLapsed slot s
  | .slotsNever bay => clearBaySlots bay s
  | .trigger => onTrigger s
  | .powerBay bay old new => powerOnBay bay old new s
  | .walk kind candidates => walkOn kind candidates s
  | .goOn kind candidates => goOn kind candidates s
  | .moved => alone s.moveTold
  | .confirm => confirmAttempt s
  | .settled => takeWaiting s
  | .releaseRequest bay origin => onReleaseRequest bay origin s
  | .reselect => reselect s
  | .alternates => checkAlternates s
  | .takeover lost => repeatedTakeover lost s
  | .bridgeCheck => alone (checkBridge s)
  | .releaseDone bay => onReleaseDone bay s
  | .releaseBlocked bay => onReleaseBlocked bay s
  | .alternate bay => onAlternate bay s
  | .admissionReport bay place outcome results => onReport bay place outcome results s
  | .admissionCheck bay => checkAdmission bay s
  | .statusWord bay value => onStatusWord bay value s
  | .seat bay => toSeated bay s
  | .seatExpiry bay => onSeatExpiry bay s
  | .identifyExpiry bay => onIdentifyExpiry bay s
  | .latchTaken bay => onLatch bay s
  | .presenceTaken bay => onPresence bay s
  | .admissionRestart bay => restartAdmission bay s
  | .swapEnd bay => alone (onSwapEnd bay s)
  | .energy => recomputeEnergy s
  | .classify => evaluateClass s
  | .ceiling => recomputeCeiling s
  | .brightStep => brightnessStep s
  | .motionRead => placeMotionRead s
  | .sample x y z time => takeSample x y z time s
  | .flagChanged set => (s, flagNews set)
  | .flagPower set => powerOnFlag set s
  | .flagBay bay => onFlagCleared bay s
  | .motionSwitch => takeMotionTable s
  | .limitsSwitch => switchLimits s
  | .pollsSwitch old => switchPolls old s
  | .pollsStart => startPolls s
  | .supplySwitch => takeSupplyTable s
  | .supplyBay bay => supplyBaySwitch bay s
  | .supplyPower => supplyPowerSwitch s
  | .supplyClass => supplyClassSwitch s
  | .brightReset => resetBrightness s
  | .openBay bay => openBayLines bay s
  | .openPower => openPowerPath s
  | .openBright => openBrightness s
  | .openMotion => openMotionUnit s
  | .backgroundEnd status payload => alone (onBackgroundEnd status payload s)
  | .resetDone => alone (onResetDone s)

/-- Tasks worked off first to last, each putting what it starts in front of the rest; what `fuel` does not reach stays on
the agenda. -/
def run : Nat → List Task → State → State
  | _, [], s => s
  | 0, t :: ts, s => { s with agenda := t :: ts }
  | fuel + 1, t :: ts, s => run fuel ((handle t s).2 ++ ts) (handle t s).1

/-- How many tasks one step works off. -/
def stepFuel : Nat := 4096

/-- A handling: a first change, and the work it starts, behind what an earlier step has left over. -/
def perform (f : State → Act) (s : State) : State :=
  let s1 := run stepFuel s.agenda { s with agenda := [] }
  let a := f { s1 with agenda := [] }
  run stepFuel (s1.agenda ++ a.2) a.1

end Sys2Proof.Machine
end

