-- ==== Sys2Proof/Machine/LinkCommands.lean ====
section
/-!
DEFINITION. The meanings of the upstream link events and the response reads (Chapter 1, R175).
-/

namespace Sys2Proof.Machine

/-- FIRST_ADDRESS_BYTE (R1, R2, R8, R10, R12). -/
def execFirstAddressByte (addr : Addr) (read : Bool) (s : State) : Host.Outcome State Fault Refusal :=
  .next (perform (fun x => alone (onFirstAddress addr read x)) s)

/-- COMMAND_BYTE (R2, R15). -/
def execCommandByte (byte : Byte) (s : State) : Host.Outcome State Fault Refusal :=
  .next (perform (fun x => alone (onCommand byte x)) s)

/-- WRITE_DATA_BYTE (R2 to R4, R16 to R18, R173). -/
def execWriteDataByte (byte : Byte) (s : State) : Host.Outcome State Fault Refusal :=
  .next (perform (fun x => onDataByte byte x) s)

/-- HELD_BYTE_RELEASE (R4). -/
def execHeldByteRelease (s : State) : Host.Outcome State Fault Refusal :=
  .next (perform (fun x => alone (onByteRelease x)) s)

/-- DATA_HOLD_STRETCH_LIMIT (R4). -/
def execDataHoldStretchLimit (s : State) : Host.Outcome State Fault Refusal :=
  .next (perform (fun x => alone (onByteLimit x)) s)

/-- STOP_CONDITION (R3, R4, R18, R21, R173). -/
def execStopCondition (s : State) : Host.Outcome State Fault Refusal :=
  .next (perform (fun x => onStop x) s)

/-- REPEATED_START (R3, R5, R13, R19, R175). -/
def execRepeatedStart (addr : Addr) (read : Bool) (s : State) : Host.Outcome State Fault Refusal :=
  .next (perform (fun x => onRepeatedStart addr read x) s)

/-- HELD_READ_LANE_HANDIN (R5, R12). -/
def execHeldReadLaneHandin (s : State) : Host.Outcome State Fault Refusal :=
  .next (perform (fun x => onReadHandin x) s)

/-- HELD_READ_STRETCH_LIMIT (R5, R25). -/
def execHeldReadStretchLimit (s : State) : Host.Outcome State Fault Refusal :=
  .next (perform (fun x => alone (onReadLimit x)) s)

/-- READOUT_BYTE (R6). -/
def execReadoutByte (s : State) : Host.Outcome State Fault Refusal :=
  .next (perform (fun x => alone (onReadoutByte x)) s)

/-- HOST_STALL_LIMIT (R7). -/
def execHostStallLimit (s : State) : Host.Outcome State Fault Refusal :=
  .next (perform (fun x => alone (onStall x)) s)

/-- RESPONSE_READ (R175). -/
def execResponseRead (s : State) : Host.Outcome State Fault Refusal :=
  .next (perform (fun x => alone (onResponseRead 0xF0 x)) s)

/-- WAITING_RESPONSE_READ (R175). -/
def execWaitingResponseRead (s : State) : Host.Outcome State Fault Refusal :=
  .next (perform (fun x => alone (onResponseRead 0xF1 x)) s)

/-- WAITING_READ_LIMIT (R175). -/
def execWaitingReadLimit (s : State) : Host.Outcome State Fault Refusal :=
  .next (perform (fun x => alone (onWaitingLimit x)) s)

end Sys2Proof.Machine
end

