-- ==== Sys2Proof/Machine/RequestCommands.lean ====
section
/-!
DEFINITION. The meanings of the service requests (Chapter 9): each is the whole service write of one request code (log entry 6).
-/

namespace Sys2Proof.Machine

/-- UNKNOWN_REQUEST (R174). -/
def execUnknownRequest (code tag : Byte) (payload : List Byte) (s : State) :
    Host.Outcome State Fault Refusal :=
  .next (perform (fun x => serviceWrite code tag payload x) s)

/-- IDENTIFY (R183). -/
def execIdentify (tag : Byte) (payload : List Byte) (s : State) : Host.Outcome State Fault Refusal :=
  .next (perform (fun x => serviceWrite 0x01 tag payload x) s)

/-- STAGE_WRITE (R178). -/
def execStageWrite (tag : Byte) (payload : List Byte) (s : State) : Host.Outcome State Fault Refusal :=
  .next (perform (fun x => serviceWrite 0x02 tag payload x) s)

/-- STAGE_READ (R178). -/
def execStageRead (tag : Byte) (payload : List Byte) (s : State) : Host.Outcome State Fault Refusal :=
  .next (perform (fun x => serviceWrite 0x03 tag payload x) s)

/-- TABLE_READ (R178). -/
def execTableRead (tag : Byte) (payload : List Byte) (s : State) : Host.Outcome State Fault Refusal :=
  .next (perform (fun x => serviceWrite 0x04 tag payload x) s)

/-- DISCARD (R178). -/
def execDiscard (tag : Byte) (payload : List Byte) (s : State) : Host.Outcome State Fault Refusal :=
  .next (perform (fun x => serviceWrite 0x05 tag payload x) s)

/-- COMMIT (R179). -/
def execCommit (tag : Byte) (payload : List Byte) (s : State) : Host.Outcome State Fault Refusal :=
  .next (perform (fun x => serviceWrite 0x06 tag payload x) s)

/-- SAVE_SETTINGS (R194). -/
def execSaveSettings (tag : Byte) (payload : List Byte) (s : State) : Host.Outcome State Fault Refusal :=
  .next (perform (fun x => serviceWrite 0x07 tag payload x) s)

/-- SETTINGS_READ (R195). -/
def execSettingsRead (tag : Byte) (payload : List Byte) (answered : Bool) (s : State) :
    Host.Outcome State Fault Refusal :=
  .next (perform (fun x => serviceWrite 0x08 tag payload (x.setSmi { x.smi with answers := answered })) s)

/-- SETTINGS_WRITE (R195). -/
def execSettingsWrite (tag : Byte) (payload : List Byte) (s : State) : Host.Outcome State Fault Refusal :=
  .next (perform (fun x => serviceWrite 0x09 tag payload x) s)

/-- FETCH_NOTICES (R189). -/
def execFetchNotices (tag : Byte) (payload : List Byte) (s : State) : Host.Outcome State Fault Refusal :=
  .next (perform (fun x => serviceWrite 0x10 tag payload x) s)

/-- SET_ALERT_LEVEL (R190). -/
def execSetAlertLevel (tag : Byte) (payload : List Byte) (s : State) : Host.Outcome State Fault Refusal :=
  .next (perform (fun x => serviceWrite 0x11 tag payload x) s)

/-- READ_TELEMETRY (R66). -/
def execReadTelemetry (tag : Byte) (payload : List Byte) (s : State) : Host.Outcome State Fault Refusal :=
  .next (perform (fun x => serviceWrite 0x20 tag payload x) s)

/-- READ_BAY (R92). -/
def execReadBay (tag : Byte) (payload : List Byte) (s : State) : Host.Outcome State Fault Refusal :=
  .next (perform (fun x => serviceWrite 0x21 tag payload x) s)

/-- READ_POWER (R91). -/
def execReadPower (tag : Byte) (payload : List Byte) (s : State) : Host.Outcome State Fault Refusal :=
  .next (perform (fun x => serviceWrite 0x22 tag payload x) s)

/-- READ_BRIGHTNESS (R147). -/
def execReadBrightness (tag : Byte) (payload : List Byte) (s : State) : Host.Outcome State Fault Refusal :=
  .next (perform (fun x => serviceWrite 0x23 tag payload x) s)

/-- SET_BRIGHTNESS (R131). -/
def execSetBrightness (tag : Byte) (payload : List Byte) (s : State) : Host.Outcome State Fault Refusal :=
  .next (perform (fun x => serviceWrite 0x24 tag payload x) s)

/-- REQUEST_SWAP (R113). -/
def execRequestSwap (tag : Byte) (payload : List Byte) (s : State) : Host.Outcome State Fault Refusal :=
  .next (perform (fun x => serviceWrite 0x25 tag payload x) s)

/-- RETRY_BAY (R114). -/
def execRetryBay (tag : Byte) (payload : List Byte) (s : State) : Host.Outcome State Fault Refusal :=
  .next (perform (fun x => serviceWrite 0x26 tag payload x) s)

/-- READ_DROP (R170). -/
def execReadDrop (tag : Byte) (payload : List Byte) (s : State) : Host.Outcome State Fault Refusal :=
  .next (perform (fun x => serviceWrite 0x30 tag payload x) s)

/-- CLEAR_DROP (R170). -/
def execClearDrop (tag : Byte) (payload : List Byte) (s : State) : Host.Outcome State Fault Refusal :=
  .next (perform (fun x => serviceWrite 0x31 tag payload x) s)

/-- READ_MOTION (R171). -/
def execReadMotion (tag : Byte) (payload : List Byte) (s : State) : Host.Outcome State Fault Refusal :=
  .next (perform (fun x => serviceWrite 0x32 tag payload x) s)

/-- READ_POLL_STATUS (R47). -/
def execReadPollStatus (tag : Byte) (payload : List Byte) (s : State) : Host.Outcome State Fault Refusal :=
  .next (perform (fun x => serviceWrite 0x40 tag payload x) s)

/-- READ_LINK_STATUS (R24). -/
def execReadLinkStatus (tag : Byte) (payload : List Byte) (s : State) : Host.Outcome State Fault Refusal :=
  .next (perform (fun x => serviceWrite 0x41 tag payload x) s)

/-- CLEAR_INDICATORS (R23, R183). -/
def execClearIndicators (tag : Byte) (payload : List Byte) (s : State) : Host.Outcome State Fault Refusal :=
  .next (perform (fun x => serviceWrite 0x42 tag payload x) s)

/-- SOFT_RESET (R184). -/
def execSoftReset (tag : Byte) (payload : List Byte) (s : State) : Host.Outcome State Fault Refusal :=
  .next (perform (fun x => serviceWrite 0x7F tag payload x) s)

end Sys2Proof.Machine
end

