-- ==== Sys2Proof/Machine/SettingsCommands.lean ====
section
/-!
DEFINITION. The meanings of power-on reset, the settings load, the commit events and the settings memory pages (Chapters 9 and 11).
-/

namespace Sys2Proof.Machine

/-- POWER_ON_RESET (R193): every block takes its reset values. The input lines, the private memory and the commands that
wait are outside the reset (log entry 7). The page of a save or a raw write that the reset cuts short holds its old bytes
(DESIGN CHOICE, log entry 69). -/
def execPowerOnReset (s : State) : Host.Outcome State Fault Refusal :=
  .next (State.afterReset s.pending s.lines
    { a := s.bays.a.latchFilter.line, b := s.bays.b.latchFilter.line }
    { a := s.bays.a.presenceFilter.line, b := s.bays.b.presenceFilter.line } s.smi.memory s.smi.answers)

/-- SETTINGS_LOAD_END (R191, R193, R184). -/
def execSettingsLoadEnd (answered : Bool) (s : State) : Host.Outcome State Fault Refusal :=
  .next (perform (fun x => onLoadEnd answered x) s)

/-- COMMIT_VALIDATION_END (R180). -/
def execCommitValidationEnd (s : State) : Host.Outcome State Fault Refusal :=
  .next (perform (fun x => onValidationEnd x) s)

/-- COMMIT_SWITCH (R181). -/
def execCommitSwitch (s : State) : Host.Outcome State Fault Refusal :=
  .next (perform (fun x => onCommitSwitch x) s)

/-- COMMIT_LIMIT_EXPIRY (R182). -/
def execCommitLimitExpiry (s : State) : Host.Outcome State Fault Refusal :=
  .next (perform (fun x => onCommitLimit x) s)

/-- SAVE_PAGE_DONE (R194). -/
def execSavePageDone (acknowledged : Bool) (held : List Byte) (s : State) :
    Host.Outcome State Fault Refusal :=
  .next (perform (fun x => onSavePage acknowledged held x) s)

/-- RAW_WRITE_PAGE_DONE (R195). -/
def execRawWritePageDone (s : State) : Host.Outcome State Fault Refusal :=
  .next (perform (fun x => alone (onRawPage x)) s)

end Sys2Proof.Machine
end

