-- ==== Sys2Proof/Machine/PortCommands.lean ====
section
/-!
DEFINITION. The meanings of the segment port, Poll Engine and Telemetry Store events (Chapters 2 and 3).
-/

namespace Sys2Proof.Machine

/-- PORT_TRANSACTION_COMPLETE (R35). -/
def execPortTransactionComplete (seg : Seg) (answer : DeviceAnswer) (s : State) :
    Host.Outcome State Fault Refusal :=
  .next (perform (fun x => completeRunning seg answer x) s)

/-- TRANSACTION_TIME_LIMIT (R36). -/
def execTransactionTimeLimit (seg : Seg) (s : State) : Host.Outcome State Fault Refusal :=
  .next (perform (fun x => timeOutRunning seg x) s)

/-- RECOVERY_END (R37, R39). -/
def execRecoveryEnd (seg : Seg) (s : State) : Host.Outcome State Fault Refusal :=
  .next (perform (fun x => endRecovery seg x) s)

/-- SUSPENSION_EXPIRY (R39). -/
def execSuspensionExpiry (seg : Seg) (s : State) : Host.Outcome State Fault Refusal :=
  .next (perform (fun x => endSuspension seg x) s)

/-- PERIODIC_DUE (R50). -/
def execPeriodicDue (place : Fin 24) (s : State) : Host.Outcome State Fault Refusal :=
  .next (perform (fun x => periodicFallsDue place x) s)

/-- SETUP_RUN_DUE (R52). -/
def execSetupRunDue (place : Fin 24) (s : State) : Host.Outcome State Fault Refusal :=
  .next (perform (fun x => setupFallsDue place x) s)

/-- ADMIT_RUN_DUE (R54). -/
def execAdmitRunDue (place : Fin 24) (s : State) : Host.Outcome State Fault Refusal :=
  .next (perform (fun x => admissionFallsDue place x) s)

/-- SLOT_STALE (R64). -/
def execSlotStale (slot : Fin 32) (s : State) : Host.Outcome State Fault Refusal :=
  .next (perform (fun x => if x.expired slot then makeStale slot x else alone x) s)

end Sys2Proof.Machine
end

