-- ==== Sys2Proof/Machine/BayCommands.lean ====
section
/-!
DEFINITION. The meanings of the bay line and bay timer events (Chapter 5).
-/

namespace Sys2Proof.Machine

/-- LINE_LEVEL_CHANGE (R93). -/
def execLineLevelChange (bay : Bay) (line : BayLine) (active : Bool) (s : State) :
    Host.Outcome State Fault Refusal :=
  .next (perform (fun x => alone (onLine bay line active x)) s)

/-- LATCH_CHANGE (R105). -/
def execLatchChange (bay : Bay) (s : State) : Host.Outcome State Fault Refusal :=
  .next (perform (fun x => onLatch bay x) s)

/-- PRESENCE_RISE (R96). -/
def execPresenceRise (bay : Bay) (s : State) : Host.Outcome State Fault Refusal :=
  .next (perform (fun x => if (x.bay bay).presenceFilter.line then onPresence bay x else alone x) s)

/-- PRESENCE_FALL (R111). -/
def execPresenceFall (bay : Bay) (s : State) : Host.Outcome State Fault Refusal :=
  .next (perform (fun x => if (x.bay bay).presenceFilter.line then alone x else onPresence bay x) s)

/-- SEAT_TIMER_EXPIRY (R97). -/
def execSeatTimerExpiry (bay : Bay) (s : State) : Host.Outcome State Fault Refusal :=
  .next (perform (fun x => onSeatExpiry bay x) s)

/-- IDENTIFY_TIMER_EXPIRY (R101). -/
def execIdentifyTimerExpiry (bay : Bay) (s : State) : Host.Outcome State Fault Refusal :=
  .next (perform (fun x => onIdentifyExpiry bay x) s)

end Sys2Proof.Machine
end

