-- ==== Sys2Proof/Machine/PowerCommands.lean ====
section
/-!
DEFINITION. The meanings of the power path events (Chapter 4).
-/

namespace Sys2Proof.Machine

/-- DCIN_OK_CHANGE (R68). -/
def execDcinOkChange (high : Bool) (s : State) : Host.Outcome State Fault Refusal :=
  .next (perform (fun x => onDcin high x) s)

/-- FEEDBACK_CONDUCTING (R79). -/
def execFeedbackConducting (src : Src) (conducting : Bool) (s : State) : Host.Outcome State Fault Refusal :=
  .next (perform (fun x => onFeedback src conducting x) s)

/-- CONFIRM_TIMER_EXPIRY (R80). -/
def execConfirmTimerExpiry (s : State) : Host.Outcome State Fault Refusal :=
  .next (perform (fun x => expireConfirm x) s)

/-- STARTUP_LIMIT_EXPIRY (R70). -/
def execStartupLimitExpiry (s : State) : Host.Outcome State Fault Refusal :=
  .next (perform (fun x => expireStartup x) s)

/-- DWELL_TIMER_EXPIRY (R75). -/
def execDwellTimerExpiry (s : State) : Host.Outcome State Fault Refusal :=
  .next (perform (fun x => expireDwell x) s)

/-- BRIDGE_TIMER_EXPIRY (R88). -/
def execBridgeTimerExpiry (s : State) : Host.Outcome State Fault Refusal :=
  .next (perform (fun x => expireBridge x) s)

end Sys2Proof.Machine
end

