-- ==== Sys2Proof/Machine/UnitCommands.lean ====
section
/-!
DEFINITION. The meanings of the brightness and motion events (Chapters 7 and 8).
-/

namespace Sys2Proof.Machine

/-- STEP_TIMER_EXPIRY (R133). -/
def execStepTimerExpiry (s : State) : Host.Outcome State Fault Refusal :=
  .next (perform (fun x => onStepTimer x) s)

/-- ACC_WM_CHANGE (R152). -/
def execAccWmChange (asserted : Bool) (s : State) : Host.Outcome State Fault Refusal :=
  .next (perform (fun x => onAccWm asserted x) s)

/-- MOTION_RETRY_TIMER (R152). -/
def execMotionRetryTimer (s : State) : Host.Outcome State Fault Refusal :=
  .next (perform (fun x => onRetryTimer x) s)

/-- SAMPLE_LOSS_EXPIRY (R154). -/
def execSampleLossExpiry (s : State) : Host.Outcome State Fault Refusal :=
  .next (perform (fun x => onSampleLoss x) s)

/-- FALL_LIMIT_EXPIRY (R157). -/
def execFallLimitExpiry (s : State) : Host.Outcome State Fault Refusal :=
  .next (perform (fun x => onFallLimit x) s)

/-- SETTLE_LIMIT_EXPIRY (R159). -/
def execSettleLimitExpiry (s : State) : Host.Outcome State Fault Refusal :=
  .next (perform (fun x => onSettleLimit x) s)

/-- PARK_HOLD_EXPIRY (R162). -/
def execParkHoldExpiry (s : State) : Host.Outcome State Fault Refusal :=
  .next (perform (fun x => alone (parkExpires x)) s)

/-- SHOCK_HOLD_EXPIRY (R163). -/
def execShockHoldExpiry (s : State) : Host.Outcome State Fault Refusal :=
  .next (perform (fun x => shockExpires x) s)

end Sys2Proof.Machine
end

