-- ==== Sys2Proof/Machine/Dispatch.lean ====
section
/-! DEFINITION. The meaning of every command: one arm for each row of spec/opcode_table.json. -/

namespace Sys2Proof.Machine

def exec (i : Instr) (s : State) : Host.Outcome State Fault Refusal :=
  match i with
  | .powerOnReset => Sys2Proof.Machine.execPowerOnReset s
  | .settingsLoadEnd answered => Sys2Proof.Machine.execSettingsLoadEnd answered s
  | .firstAddressByte addr read => Sys2Proof.Machine.execFirstAddressByte addr read s
  | .commandByte byte => Sys2Proof.Machine.execCommandByte byte s
  | .writeDataByte byte => Sys2Proof.Machine.execWriteDataByte byte s
  | .heldByteRelease => Sys2Proof.Machine.execHeldByteRelease s
  | .dataHoldStretchLimit => Sys2Proof.Machine.execDataHoldStretchLimit s
  | .stopCondition => Sys2Proof.Machine.execStopCondition s
  | .repeatedStart addr read => Sys2Proof.Machine.execRepeatedStart addr read s
  | .heldReadLaneHandin => Sys2Proof.Machine.execHeldReadLaneHandin s
  | .heldReadStretchLimit => Sys2Proof.Machine.execHeldReadStretchLimit s
  | .readoutByte => Sys2Proof.Machine.execReadoutByte s
  | .hostStallLimit => Sys2Proof.Machine.execHostStallLimit s
  | .responseRead => Sys2Proof.Machine.execResponseRead s
  | .waitingResponseRead => Sys2Proof.Machine.execWaitingResponseRead s
  | .waitingReadLimit => Sys2Proof.Machine.execWaitingReadLimit s
  | .unknownRequest code tag payload => Sys2Proof.Machine.execUnknownRequest code tag payload s
  | .identify tag payload => Sys2Proof.Machine.execIdentify tag payload s
  | .stageWrite tag payload => Sys2Proof.Machine.execStageWrite tag payload s
  | .stageRead tag payload => Sys2Proof.Machine.execStageRead tag payload s
  | .tableRead tag payload => Sys2Proof.Machine.execTableRead tag payload s
  | .discard tag payload => Sys2Proof.Machine.execDiscard tag payload s
  | .commit tag payload => Sys2Proof.Machine.execCommit tag payload s
  | .commitValidationEnd => Sys2Proof.Machine.execCommitValidationEnd s
  | .commitSwitch => Sys2Proof.Machine.execCommitSwitch s
  | .commitLimitExpiry => Sys2Proof.Machine.execCommitLimitExpiry s
  | .saveSettings tag payload => Sys2Proof.Machine.execSaveSettings tag payload s
  | .savePageDone acknowledged held => Sys2Proof.Machine.execSavePageDone acknowledged held s
  | .settingsRead tag payload answered => Sys2Proof.Machine.execSettingsRead tag payload answered s
  | .settingsWrite tag payload => Sys2Proof.Machine.execSettingsWrite tag payload s
  | .rawWritePageDone => Sys2Proof.Machine.execRawWritePageDone s
  | .fetchNotices tag payload => Sys2Proof.Machine.execFetchNotices tag payload s
  | .setAlertLevel tag payload => Sys2Proof.Machine.execSetAlertLevel tag payload s
  | .readTelemetry tag payload => Sys2Proof.Machine.execReadTelemetry tag payload s
  | .readBay tag payload => Sys2Proof.Machine.execReadBay tag payload s
  | .readPower tag payload => Sys2Proof.Machine.execReadPower tag payload s
  | .readBrightness tag payload => Sys2Proof.Machine.execReadBrightness tag payload s
  | .setBrightness tag payload => Sys2Proof.Machine.execSetBrightness tag payload s
  | .requestSwap tag payload => Sys2Proof.Machine.execRequestSwap tag payload s
  | .retryBay tag payload => Sys2Proof.Machine.execRetryBay tag payload s
  | .readDrop tag payload => Sys2Proof.Machine.execReadDrop tag payload s
  | .clearDrop tag payload => Sys2Proof.Machine.execClearDrop tag payload s
  | .readMotion tag payload => Sys2Proof.Machine.execReadMotion tag payload s
  | .readPollStatus tag payload => Sys2Proof.Machine.execReadPollStatus tag payload s
  | .readLinkStatus tag payload => Sys2Proof.Machine.execReadLinkStatus tag payload s
  | .clearIndicators tag payload => Sys2Proof.Machine.execClearIndicators tag payload s
  | .softReset tag payload => Sys2Proof.Machine.execSoftReset tag payload s
  | .portTransactionComplete seg answer => Sys2Proof.Machine.execPortTransactionComplete seg answer s
  | .transactionTimeLimit seg => Sys2Proof.Machine.execTransactionTimeLimit seg s
  | .recoveryEnd seg => Sys2Proof.Machine.execRecoveryEnd seg s
  | .suspensionExpiry seg => Sys2Proof.Machine.execSuspensionExpiry seg s
  | .periodicDue place => Sys2Proof.Machine.execPeriodicDue place s
  | .setupRunDue place => Sys2Proof.Machine.execSetupRunDue place s
  | .admitRunDue place => Sys2Proof.Machine.execAdmitRunDue place s
  | .slotStale slot => Sys2Proof.Machine.execSlotStale slot s
  | .lineLevelChange bay line active => Sys2Proof.Machine.execLineLevelChange bay line active s
  | .latchChange bay => Sys2Proof.Machine.execLatchChange bay s
  | .presenceRise bay => Sys2Proof.Machine.execPresenceRise bay s
  | .presenceFall bay => Sys2Proof.Machine.execPresenceFall bay s
  | .seatTimerExpiry bay => Sys2Proof.Machine.execSeatTimerExpiry bay s
  | .identifyTimerExpiry bay => Sys2Proof.Machine.execIdentifyTimerExpiry bay s
  | .dcinOkChange high => Sys2Proof.Machine.execDcinOkChange high s
  | .feedbackConducting src conducting => Sys2Proof.Machine.execFeedbackConducting src conducting s
  | .confirmTimerExpiry => Sys2Proof.Machine.execConfirmTimerExpiry s
  | .startupLimitExpiry => Sys2Proof.Machine.execStartupLimitExpiry s
  | .dwellTimerExpiry => Sys2Proof.Machine.execDwellTimerExpiry s
  | .bridgeTimerExpiry => Sys2Proof.Machine.execBridgeTimerExpiry s
  | .stepTimerExpiry => Sys2Proof.Machine.execStepTimerExpiry s
  | .accWmChange asserted => Sys2Proof.Machine.execAccWmChange asserted s
  | .motionRetryTimer => Sys2Proof.Machine.execMotionRetryTimer s
  | .sampleLossExpiry => Sys2Proof.Machine.execSampleLossExpiry s
  | .fallLimitExpiry => Sys2Proof.Machine.execFallLimitExpiry s
  | .settleLimitExpiry => Sys2Proof.Machine.execSettleLimitExpiry s
  | .parkHoldExpiry => Sys2Proof.Machine.execParkHoldExpiry s
  | .shockHoldExpiry => Sys2Proof.Machine.execShockHoldExpiry s

end Sys2Proof.Machine
end

