-- ==== Sys2Proof/Safety.lean ====
section
/-!
DEFINITION. What the statements speak of: the invariants of the blocks, the states in which a handling starts little, and
the answer of a decoded request.
-/

namespace Sys2Proof.Machine

/-! ## Invariants -/

/-- The queue holds at most 16 records, and ALERT_N is low exactly while it holds one at or above the alert level
(R186, R190). -/
def State.noticesSafe (s : State) : Prop :=
  s.ntq.queue.length ≤ 16 ∧ s.ntq.alertLow = s.ntq.queue.any fun n => atOrAbove s.ntq.alertLevel n.severity

/-- The ring holds at most 8 records; each port holds at most 8 engine transactions and counts at most 3 timeouts
(R24, R28, R38). -/
def State.linksSafe (s : State) : Prop :=
  s.uli.ring.length ≤ 8 ∧ ∀ seg, (s.port seg).queue.length ≤ 8 ∧ (s.port seg).timeouts ≤ 3

/-- The private memory is in canonical form. -/
def State.memorySafe (s : State) : Prop := memoryWf s.smi.memory = true

/-- SHDN_REQ is asserted exactly while a cause is in the set (R89), and the path mode is MANAGED exactly while a source
is the ON source (R71). -/
def State.powerSafe (s : State) : Prop :=
  s.ppc.shdnReq = (s.ppc.causeBridge || s.ppc.causeNoAlternate) ∧ s.ppc.managed = s.ppc.onSrc.isSome

/-- A bay's state change has not been told to the Power Path Controller yet (R94). -/
def State.newsDue (s : State) (bay : Bay) : Prop := ∃ old new, Task.powerBay bay old new ∈ s.agenda

/-- The sources that are ON (R71): the ON source is ON and alone has an on-since time, an awaited target is ON beside it,
and no other source is ON, so that at most two are. -/
def State.sourcesSafe (s : State) : Prop :=
  (∀ x, (s.source x).onSince.isSome = decide (s.ppc.onSrc = some x)) ∧
    (∀ x, s.ppc.onSrc = some x → (s.source x).sw = .on) ∧
    (∀ a, s.ppc.attempt = some a →
      (s.source a.target).sw = .on ∧ a.old = s.ppc.onSrc ∧ s.ppc.onSrc ≠ some a.target) ∧
    (∀ x, (s.source x).sw = .on → s.ppc.onSrc = some x ∨ ∃ a, s.ppc.attempt = some a ∧ a.target = x)

/-- A bay's switch is ON only in the states that carry the load, and OFF in EMPTY, SEATED, IDENTIFYING, RELEASED and
FAULTED (R95), once the Power Path Controller has been told the bay's state. -/
def State.switchesSafe (s : State) : Prop :=
  ∀ bay, ((s.source (baySrc bay)).sw = .on → (s.bay bay).carries = true ∨ s.newsDue bay) ∧
    (offState (s.bay bay).state = true → (s.source (baySrc bay)).sw = .off ∨ s.newsDue bay)

/-- Under the shock-hold flag the one attempt that may be awaited is that of a release of origin REQUEST (R77), once the
Power Path Controller has been told of the flag. -/
def State.holdSafe (s : State) : Prop :=
  s.mtu.shockHold = true → ∀ a, s.ppc.attempt = some a →
    a.kind.explicit = true ∨ Task.flagChanged true ∈ s.agenda ∨ Task.flagPower true ∈ s.agenda

/-- Every slot bound to an EMPTY or SEATED bay is NEVER (R62, R65), once the Telemetry Store has been told that the bay
is EMPTY. -/
def State.baySlotsSafe (s : State) : Prop :=
  ∀ bay, (s.bay bay).state = .empty ∨ (s.bay bay).state = .seated →
    (∀ slot ∈ baySlots bay, (s.slot slot).state = .never) ∨ Task.slotsNever bay ∈ s.agenda

/-- The commanded level is at most the ceiling in force (R141), S stays within 0 to 5104 (R138), L within 0 to 319 (R137)
and D within 0 to 4095 (R142). -/
def State.brightSafe (s : State) : Prop :=
  (∀ q c, s.brc.level = some q → s.brc.ceiling = some c → q ≤ c) ∧ s.brc.smooth ≤ 5104 ∧ s.brc.code ≤ 319 ∧
    s.brc.computed ≤ 4095

/-- The motion state is one of those with an open record. -/
def recordStates : MotionState → Bool
  | .falling => true
  | .impact => true
  | .settling => true
  | .normal => false
  | .sensorLost => false

/-- A record is open exactly in FALLING, IMPACT and SETTLING (R164, R168), and PARK and the shock-hold flag stay set
through them with their timers stopped (R162, R163); the trace parts keep their lengths (R165). -/
def State.motionSafe (s : State) : Prop :=
  s.mtu.openRec.isSome = recordStates s.mtu.state ∧
    (recordStates s.mtu.state = true →
      s.mtu.park = true ∧ s.mtu.shockHold = true ∧ s.mtu.parkHold = none ∧ s.mtu.shockTimer = none) ∧
    s.mtu.history.length ≤ 8 ∧ ∀ r, s.mtu.openRec = some r → r.before.length ≤ 8 ∧ r.after.length ≤ 15

/-- The bay states that have an origin (Table 5-2). -/
def originStates : BayState → Bool
  | .releasing => true
  | .released => true
  | .releaseBlocked => true
  | .empty => false
  | .seated => false
  | .identifying => false
  | .ready => false
  | .active => false
  | .suspect => false
  | .faulted => false

/-- The bay states in which fault-pending may be set (R103): those reached from ACTIVE and SUSPECT before it clears. -/
def pendingStates : BayState → Bool
  | .active => true
  | .suspect => true
  | .releasing => true
  | .released => true
  | .releaseBlocked => true
  | .empty => false
  | .seated => false
  | .identifying => false
  | .ready => false
  | .faulted => false

/-- The bay states in which a fault reason may stand: from FAULTED to the next entry to IDENTIFYING (R110). -/
def reasonStates : BayState → Bool
  | .faulted => true
  | .empty => true
  | .seated => true
  | .identifying => false
  | .ready => false
  | .active => false
  | .suspect => false
  | .releasing => false
  | .released => false
  | .releaseBlocked => false

/-- Each field of a bay record is present in its states alone (Table 5-2): presence outside EMPTY, the seat timer in
SEATED, the identify timer and the admission list in IDENTIFYING, was-active in SUSPECT, the origin in the states of a
release, fault-pending in the states reached from ACTIVE and SUSPECT, the fault reason in FAULTED and until the next
IDENTIFYING. -/
def BayRec.safe (r : BayRec) : Prop :=
  r.present = (r.state != .empty) ∧ r.seat.isSome = (r.state == .seated) ∧ r.identify.isSome = (r.state == .identifying) ∧
    (r.state ≠ .identifying → r.admission = []) ∧ (r.state ≠ .suspect → r.wasActive = false) ∧
    r.origin.isSome = originStates r.state ∧ (r.faultPending = true → pendingStates r.state = true) ∧
    (r.state = .faulted → r.faultReason.isSome = true) ∧ (r.faultReason.isSome = true → reasonStates r.state = true)

/-- Both bay records keep their fields to their states. -/
def State.baysSafe (s : State) : Prop := ∀ bay, (s.bay bay).safe

/-! ## States in which a handling starts little -/

/-- A confirm is awaited and a driver write executes: what a bay or a slot change starts in the Power Path Controller and
in the Brightness Controller then waits for their ends (R77, R83, R84, R144). -/
def State.engaged (s : State) : Prop :=
  s.agenda = [] ∧ s.ppc.attempt.isSome = true ∧ ∃ code, s.brc.write = .executing code

/-- No attempt is awaited and nothing waits for one's end (R77, R83). -/
def State.powerIdle (s : State) : Prop :=
  s.ppc.attempt = none ∧ s.ppc.moving = false ∧ s.ppc.pending = false ∧ s.ppc.bridgeDue = false ∧ s.ppc.supplyDue = false ∧
    s.ppc.switching = false ∧
    s.ppc.waitRelease = { a := none, b := none } ∧ s.ppc.waitCheck = { a := false, b := false }

/-- A segment port begins nothing at a boundary: it is not IDLE, or nothing waits at it (R32). -/
def Port.rests (p : Port) : Prop := p.state ≠ .idle ∨ p.queue = [] ∧ p.lane = none

/-- A segment port holds no transaction at all. -/
def Port.bare (p : Port) : Prop := p.queue = [] ∧ p.lane = none ∧ p.running = none

/-! ## The upstream link -/

/-- An outcome is recorded in the ring, whose oldest record of eight makes room (R24). -/
def State.withRecord (s : State) (addr : Addr) (cmd : Option Byte) (dir : Dir) (outcome : TxOutcome) : State :=
  let r : OutcomeRec := { seq := s.uli.seq, time := s.now, addr := addr, cmd := cmd, dir := dir, outcome := outcome }
  { s with uli := { s.uli with
      ring := (if s.uli.ring.length < 8 then s.uli.ring else s.uli.ring.drop 1) ++ [r], seq := s.uli.seq + 1 } }

/-- The transaction is NACKed with an outcome, and the host has still to end it (R1, R24). -/
def State.turnedAway (s : State) (addr : Addr) (cmd : Option Byte) (dir : Dir) (outcome : TxOutcome) : State :=
  let s1 := s.withRecord addr cmd dir outcome
  { s1 with uli := { s1.uli with
      phase := .drain, txn := none, byteHold := none, heldSince := none, reply := .nack, lastActivity := s.now } }

/-- No transaction is open, and the link is released (R1). -/
def State.linkIdle (s : State) : State :=
  { s with uli := { s.uli with
      phase := .idle, txn := none, byteHold := none, heldSince := none, answer := [], answerPos := 0
      reply := .released } }

/-- The ULI acknowledges and stands in a phase with a transaction. -/
def State.acked (s : State) (phase : Phase) (t : UpTxn) : State :=
  { s with uli := { s.uli with phase := phase, txn := some t, reply := .ack, lastActivity := s.now } }

/-- The ULI answers a read: the address is acknowledged, and the host clocks the buffer out (R5, R6). -/
def State.answering (s : State) (buffer : List Byte) : State :=
  { s with uli := { s.uli with
      phase := .readout, txn := none, heldSince := none, answer := buffer, answerPos := 0, reply := .ack
      lastActivity := s.now } }

/-- The ULI holds the clock on a read (R5, R175). -/
def State.holding (s : State) (t : UpTxn) : State :=
  { s with uli := { s.uli with phase := .held, txn := some t, heldSince := some s.now, reply := .clockHeld } }

/-- A port that lets a transaction handed in wait: it executes one or recovers (R32, R37). -/
def State.portWaits (s : State) (seg : Seg) : Prop :=
  ((s.port seg).state = .busy ∨ (s.port seg).state = .recovering) ∧ (s.port seg).lane = none

/-! ## Requests -/

/-- The link is idle and no SOFT_RESET waits, so that a whole service write is decoded (R173, R184). -/
def State.servesRequests (s : State) : Prop := s.agenda = [] ∧ s.uli.phase = .idle ∧ s.sru.resetPending = false

/-- The state after a request has been decoded: the last byte acknowledged, and the response record written (R174). -/
def State.answered (s : State) (code tag : Byte) (status : Status) (payload : List Byte) : State :=
  let r : Response :=
    { code := code, tag := tag, status := status, payload := payload, current := status == .accepted }
  { s with uli := { s.uli with reply := .ack, lastActivity := s.now }, sru := { s.sru with response := some r } }

/-- The answer to part `k` of a long read-out (R177): part 0 replaces the snapshot and gives its first 28 bytes, a later
part comes from the snapshot of the same request and subject. -/
def State.partAnswer (s : State) (code tag : Byte) (subject : Option Byte) (k : Nat) (image : List Byte) : State :=
  if k = 0 then
    let x : ReadSnap := { code := code, subject := subject, time := s.now, image := image }
    State.answered { s with sru := { s.sru with snapshot := some x } } code tag .ok (image.take 28)
  else match s.sru.snapshot with
    | some x =>
      if x.code = code ∧ x.subject = subject ∧ 28 * k < x.image.length then
        s.answered code tag .ok ((x.image.drop (28 * k)).take 28)
      else s.answered code tag .badOffset []
    | none => s.answered code tag .badOffset []

/-- A number from its two bytes, the lower first. -/
def pair (lo hi : Byte) : Nat := lo.toNat + 256 * hi.toNat

/-- The payload of IDENTIFY (R183, Table 12-1): type, version, revision, generation, load result and sizes. -/
def State.identity (s : State) : List Byte :=
  [0x20, 0x41, Config.revision, BitVec.ofNat 8 s.sru.generation.toNat, BitVec.ofNat 8 (s.sru.generation.toNat / 256),
    (match s.smi.result with | some .valid => 0 | some .defaulted => 1 | none => 0xFF), 32, 2, 64, 24, 16, 32, 16, 4]

/-- The command of a request, from its tag and payload. -/
def Request.command (r : Request) (tag : Byte) (p : List Byte) (answered : Bool) : Instr :=
  match r with
  | .identify => .identify tag p
  | .stageWrite => .stageWrite tag p
  | .stageRead => .stageRead tag p
  | .tableRead => .tableRead tag p
  | .discard => .discard tag p
  | .commit => .commit tag p
  | .saveSettings => .saveSettings tag p
  | .settingsRead => .settingsRead tag p answered
  | .settingsWrite => .settingsWrite tag p
  | .fetchNotices => .fetchNotices tag p
  | .setAlertLevel => .setAlertLevel tag p
  | .readTelemetry => .readTelemetry tag p
  | .readBay => .readBay tag p
  | .readPower => .readPower tag p
  | .readBrightness => .readBrightness tag p
  | .setBrightness => .setBrightness tag p
  | .requestSwap => .requestSwap tag p
  | .retryBay => .retryBay tag p
  | .readDrop => .readDrop tag p
  | .clearDrop => .clearDrop tag p
  | .readMotion => .readMotion tag p
  | .readPollStatus => .readPollStatus tag p
  | .readLinkStatus => .readLinkStatus tag p
  | .clearIndicators => .clearIndicators tag p
  | .softReset => .softReset tag p

/-! ## Images (Tables 12-5 to 12-7) -/

/-- The number in `width` bytes of an image, the least significant byte first (R197). -/
def numberAt (img : List Byte) (offset : Nat) : Nat → Nat
  | 0 => 0
  | width + 1 => (byteAt img offset).toNat + 256 * numberAt img (offset + 1) width

/-- An image reads as the given numbers; each stands with its offset and its width. -/
def readsAs (img : List Byte) (fields : List (Nat × Nat × Nat)) : Prop :=
  ∀ f ∈ fields, numberAt img f.1 f.2.1 = f.2.2

/-- A number as a field of `width` bytes holds it: at the end of its range when it lies beyond (R197). -/
def heldNumber (width n : Nat) : Nat := min n (256 ^ width - 1)

/-- An optional number as a field holds it: all ones when it is absent. -/
def heldOption (width : Nat) (n : Option Nat) : Nat := (n.map (heldNumber width)).getD (256 ^ width - 1)

/-- A signed number as a field holds it, in two's complement and at the end of its range when it lies beyond. -/
def heldSigned (width : Nat) (v : Int) : Nat :=
  let half : Int := 2 ^ (8 * width - 1)
  ((if v < -half then -half else if half ≤ v then half - 1 else v) % (2 * half)).toNat

/-- The ms left of a timer, at most 65,534, and none of one that does not run. -/
def State.leftOf (s : State) (t : Option Timer) : Option Nat := t.map fun x => min (x.left s.now) 65534

/-! ## Background operations -/

/-- The response record is the one of a background operation still under way, and no waiting read is held for it. -/
def State.awaitsEnd (s : State) (code tag : Byte) : Prop :=
  s.uli.phase ≠ .held ∧
    s.sru.response = some { code := code, tag := tag, status := .accepted, payload := [], current := true }

/-- A background operation has ended: its record is clear, and its end stands in the response record (R176). -/
def State.ended (s : State) (code tag : Byte) (status : Status) (payload : List Byte) : State :=
  let r : Response := { code := code, tag := tag, status := status, payload := payload, current := false }
  { s with sru := { s.sru with background := .none, response := some r } }

/-- The ULI holds a waiting response read while the response record is current (R175). -/
def State.waitsFor (s : State) (r : Response) : Prop :=
  s.uli.phase = .held ∧ (∃ t, s.uli.txn = some t ∧ t.snap = none) ∧ s.sru.response = some r ∧ r.current = true

/-- The end of the operation is written into its response record, and the waiting read held for it is answered with the
record as it then stands (R175, R176, R184). -/
def State.released (s : State) (r : Response) (status : Status) (payload : List Byte) : State :=
  let e : Response := { r with status := status, payload := payload, current := false }
  State.answering { s with sru := { s.sru with response := some e } }
    ([BitVec.ofNat 8 payload.length, r.code, r.tag, BitVec.ofNat 8 (statusCode status)] ++ payload ++
      List.replicate (28 - payload.length) 0xFF)

/-- A commit has failed (R180, R182): the holds of its ports end, the operation ends and COMMIT_FAILED is raised. -/
def State.commitFailed (s : State) (c : CommitRec) (tag : Byte) (status : Status) (payload : List Byte) (arg2 : Int) :
    State :=
  ((s.mapPorts c.segments fun p => { p with mark := .none }).ended 0x06 tag status payload).notify
    { kind := .commitFailed, severity := .warn, subject := 0, arg1 := statusCode status, arg2 := arg2 }

/-! ## The load (R191) -/

/-- The image bytes of the private memory, behind the eight bytes of the header. -/
def State.loadImage (s : State) : List Byte := (List.range 5034).map fun i => readCell s.smi.memory (8 + i)

/-- A number of the header, from its two cells. -/
def State.loadNumber (s : State) (cell : Nat) : Nat := pair (readCell s.smi.memory cell) (readCell s.smi.memory (cell + 1))

/-- The cause of an image that is not valid: the memory did not answer, the header shows another version or length, the
CRC differs. -/
def State.loadCause (s : State) (answered : Bool) : Option Nat :=
  if answered = false then some 3
  else if s.loadNumber 0 ≠ 1 ∨ s.loadNumber 2 ≠ 5034 then some 1
  else if (crc16 s.loadImage).toNat ≠ s.loadNumber 6 then some 2 else none

/-- The ms from the start of a load to its end: none when the memory does not answer, one when a header ends it, 60
else. -/
def State.loadWait (s : State) (answered : Bool) : Nat :=
  if answered = false then 0 else if s.loadNumber 0 = 1 ∧ s.loadNumber 2 = 5034 then 60 else 1

/-- The tables a load brings: the stored ones with every indicator clear, or the built-in ones. -/
def State.loadTables (s : State) (answered : Bool) : Tables :=
  let table := fun (offset size : Nat) => (s.loadImage.drop offset).take size
  if s.loadCause answered = none then
    { routes := (List.range 392).map fun i =>
        if i < 384 ∧ i % 12 = 11 then byteAt s.loadImage i &&& 0xFC else byteAt s.loadImage i
      guards := table 392 832
      polls := table 1224 2280
      snoops := table 3504 1264
      slots := table 4768 64
      light := table 4832 129
      supply := table 4961 51
      motion := table 5012 22 }
  else builtinTables

/-- The generation a load brings. -/
def State.loadGeneration (s : State) (answered : Bool) : Half :=
  if s.loadCause answered = none then BitVec.ofNat 16 (s.loadNumber 4) else 0

/-- The Settings Memory Interface after a load. -/
def State.loadEnded (s : State) (answered : Bool) : Smi :=
  { s.smi with
    activity := .idle, answers := answered
    result := some (if s.loadCause answered = none then .valid else .defaulted) }

/-- The notice queue after a load: SETTINGS_DEFAULTED joins it, with the cause and the version found. -/
def State.loadNotice (s : State) (answered : Bool) (q : Ntq) : Ntq :=
  match s.loadCause answered with
  | none => q
  | some cause => q.post s.now
      { kind := .settingsDefaulted, severity := .warn, subject := 0, arg1 := cause
        arg2 := if cause = 3 then 0 else s.loadNumber 0 }

/-- The poll status an entry starts with: idle, with the next-due time of a PERIODIC or SETUP entry (R47, R51, R52). -/
def State.pollStarts (s : State) (place : Fin 24) : PollStatus :=
  { PollStatus.reset with nextDue := match s.pollEntry place with
    | some e => (match e.kind with
      | .periodic => some (later s.now e.phase)
      | .setup => some (later s.now e.phase)
      | .admission _ => none)
    | none => none }

/-- Nothing has happened since power-on reset, except that time has passed and the bays' filters have timed their lines;
no feedback line conducts and ACC_WM is low. -/
def State.starting (s : State) : Prop :=
  (∃ latch presence memory answers, s =
      { State.afterReset s.pending s.lines latch presence memory answers with
        now := s.now, bays := s.bays, smi := s.smi }) ∧
    (∀ bay, s.bay bay = { BayRec.reset false false with
      latchFilter := (s.bay bay).latchFilter, presenceFilter := (s.bay bay).presenceFilter }) ∧
    s.lines.accWm = false ∧ ∀ x, s.lines.feedback.get x = false

/-- A line filter at the opening of traffic: a change already held for the debounce time is taken (R93). -/
def LineFilter.opens (f : LineFilter) (now : Time) (debounce : Nat) : LineFilter :=
  match f.since with
  | some since => if debounce ≤ age now since then { line := f.line, out := f.line, since := none } else f
  | none => f

end Sys2Proof.Machine
end

