-- ==== Sys2Proof/WellFormed.lean ====
section
/-!
DEFINITION. Which commands are well formed: the forms the link, the devices and the settings memory can show.
-/

namespace Sys2Proof

/-- The request codes of Table 12-1. -/
def requestCodes : List Byte :=
  [0x01, 0x02, 0x03, 0x04, 0x05, 0x06, 0x07, 0x08, 0x09, 0x10, 0x11, 0x20, 0x21, 0x22, 0x23, 0x24, 0x25, 0x26,
   0x30, 0x31, 0x32, 0x40, 0x41, 0x42, 0x7F]

/-- A service write carries a tag and at most 31 payload bytes (R173). -/
def payloadFits (payload : List Byte) : Bool := payload.length ≤ 31

/-- A port drives at most 35 bytes, the longest write with its trailer (Tables 2-2 and 2-3). A device that exchanges all
bytes drives at most 32 data bytes (R6, Table 2-2); the model asks for all 32, of which the port takes its read length. -/
def DeviceAnswer.wellFormed : DeviceAnswer → Bool
  | .notAcknowledged byte => byte < 35
  | .exchanged data _ => data.length == 32

/-- The well-formed commands. -/
def Instr.wellFormed : Instr → Bool
  | .powerOnReset => true
  | .settingsLoadEnd _ => true
  | .firstAddressByte _ _ => true
  | .commandByte _ => true
  | .writeDataByte _ => true
  | .heldByteRelease => true
  | .dataHoldStretchLimit => true
  | .stopCondition => true
  | .repeatedStart _ _ => true
  | .heldReadLaneHandin => true
  | .heldReadStretchLimit => true
  | .readoutByte => true
  | .hostStallLimit => true
  | .responseRead => true
  | .waitingResponseRead => true
  | .waitingReadLimit => true
  | .unknownRequest code _ payload => !requestCodes.contains code && payloadFits payload
  | .identify _ payload => payloadFits payload
  | .stageWrite _ payload => payloadFits payload
  | .stageRead _ payload => payloadFits payload
  | .tableRead _ payload => payloadFits payload
  | .discard _ payload => payloadFits payload
  | .commit _ payload => payloadFits payload
  | .commitValidationEnd => true
  | .commitSwitch => true
  | .commitLimitExpiry => true
  | .saveSettings _ payload => payloadFits payload
  | .savePageDone _ held => held.length == 8
  | .settingsRead _ payload _ => payloadFits payload
  | .settingsWrite _ payload => payloadFits payload
  | .rawWritePageDone => true
  | .fetchNotices _ payload => payloadFits payload
  | .setAlertLevel _ payload => payloadFits payload
  | .readTelemetry _ payload => payloadFits payload
  | .readBay _ payload => payloadFits payload
  | .readPower _ payload => payloadFits payload
  | .readBrightness _ payload => payloadFits payload
  | .setBrightness _ payload => payloadFits payload
  | .requestSwap _ payload => payloadFits payload
  | .retryBay _ payload => payloadFits payload
  | .readDrop _ payload => payloadFits payload
  | .clearDrop _ payload => payloadFits payload
  | .readMotion _ payload => payloadFits payload
  | .readPollStatus _ payload => payloadFits payload
  | .readLinkStatus _ payload => payloadFits payload
  | .clearIndicators _ payload => payloadFits payload
  | .softReset _ payload => payloadFits payload
  | .portTransactionComplete _ answer => answer.wellFormed
  | .transactionTimeLimit _ => true
  | .recoveryEnd _ => true
  | .suspensionExpiry _ => true
  | .periodicDue _ => true
  | .setupRunDue _ => true
  | .admitRunDue _ => true
  | .slotStale _ => true
  | .lineLevelChange _ _ _ => true
  | .latchChange _ => true
  | .presenceRise _ => true
  | .presenceFall _ => true
  | .seatTimerExpiry _ => true
  | .identifyTimerExpiry _ => true
  | .dcinOkChange _ => true
  | .feedbackConducting _ _ => true
  | .confirmTimerExpiry => true
  | .startupLimitExpiry => true
  | .dwellTimerExpiry => true
  | .bridgeTimerExpiry => true
  | .stepTimerExpiry => true
  | .accWmChange _ => true
  | .motionRetryTimer => true
  | .sampleLossExpiry => true
  | .fallLimitExpiry => true
  | .settleLimitExpiry => true
  | .parkHoldExpiry => true
  | .shockHoldExpiry => true

end Sys2Proof
end

