-- ==== Sys2Proof/Certificates/Slice0/Obligations.lean ====
section
/-!
DEFINITION. The statements about the VLN4120 for the provers.
-/

open Sys2Proof Sys2Proof.Machine

/-! ## The queue, the timebase and reset -/

/-- A step runs the command at the front of the queue on the state with the queue's rest. -/
def Obligations.StepRunsFrontCommand : Prop :=
  ∀ (c : Instr) (rest : List Instr) (s : State),
    step { s with pending := c :: rest } = exec c { s with pending := rest }

/-- Every command answers a next state and leaves the rest of the queue alone; it takes no time, and POWER_ON_RESET
alone sets the timebase. A step with no command waiting and nothing left over advances the timebase by one millisecond
and does nothing else: the model's choice (log entries 2 and 4). -/
def Obligations.CommandsKeepQueueAndTime : Prop :=
  (∀ (c : Instr) (s : State), ∃ t, exec c s = .next t ∧ t.pending = s.pending ∧
    (c ≠ .powerOnReset → t.now = s.now) ∧ (c = .powerOnReset → t.now = 0)) ∧
  (∀ s : State, s.pending = [] → s.agenda = [] → step s = .next { s with now := s.now + 1 })

/-- POWER_ON_RESET leaves every block as its chapter states; the queue, the input lines and the private memory stand
outside the reset (log entries 1, 7 and 8), the memory also where the reset cuts a page short (the model's choice, log
entry 69). -/
def Obligations.PowerOnResetState : Prop :=
  ∀ s : State, ∃ t, exec .powerOnReset s = .next t ∧
    t.pending = s.pending ∧ t.lines = s.lines ∧ t.smi.memory = s.smi.memory ∧ t.now = 0 ∧
    t.uli.phase = .starting ∧ t.uli.ring = [] ∧ t.uli.seq = 0 ∧
    (∀ seg, (t.port seg).state = (if (segBay seg).isSome then .isolated else .idle) ∧ (t.port seg).bare ∧
      (t.port seg).timeouts = 0 ∧ (t.port seg).mark = .none) ∧
    (∀ place, (t.poll place).state = .idle ∧ (t.poll place).failures = 0 ∧ (t.poll place).lastOutcome = none) ∧
    (∀ slot, t.slot slot = { state := .never, value := 0, time := none, source := none, implausible := 0 }) ∧
    (t.source .dc).sw = (if s.lines.dcinOk then .standby else .off) ∧ (t.source .a).sw = .off ∧
    (t.source .b).sw = .off ∧ (t.source .br).sw = .standby ∧ t.ppc.managed = false ∧ t.ppc.onSrc = none ∧
    t.ppc.shdnReq = false ∧ t.ppc.startup = some { start := 0, dur := 2000 } ∧
    t.classifier.energy = 0 ∧ t.classifier.level = .critical ∧ t.classifier.cls = .unknown ∧
    (∀ bay, (t.bay bay).state = .empty ∧ (t.bay bay).safe) ∧
    t.brc.mode = .auto ∧ t.brc.bias = 0 ∧ t.brc.smooth = 0 ∧ t.brc.noneWritten = true ∧ t.brc.write = .none ∧
    t.mtu.state = .normal ∧ t.mtu.park = false ∧ t.mtu.shockHold = false ∧ t.mtu.openRec = none ∧
    (∀ i, t.mtu.logAt i = none) ∧ t.mtu.samples = 0 ∧
    t.sru.response = none ∧ t.sru.background = .none ∧ t.sru.snapshot = none ∧
    t.ntq = { queue := [], overflow := false, alertLevel := .warn, seq := 0, alertLow := false } ∧
    t.smi.activity = .loading 0

/-! ## Invariants that every step keeps -/

/-- The machine right after reset meets every invariant below. -/
def Obligations.ResetMeetsInvariants : Prop :=
  State.reset.noticesSafe ∧ State.reset.linksSafe ∧ State.reset.memorySafe ∧ State.reset.powerSafe ∧
    State.reset.sourcesSafe ∧ State.reset.switchesSafe ∧ State.reset.holdSafe ∧ State.reset.brightSafe ∧
    State.reset.motionSafe ∧ State.reset.baysSafe ∧ State.reset.baySlotsSafe

/-- The notice queue never exceeds 16 records, and ALERT_N follows it; the outcome ring, the port queues and the
timeout counts keep their bounds; the private memory keeps its canonical form. -/
def Obligations.StepKeepsQueuesAndMemory : Prop :=
  ∀ s t : State, step s = .next t →
    (s.noticesSafe → t.noticesSafe) ∧ (s.linksSafe → t.linksSafe) ∧ (s.memorySafe → t.memorySafe)

/-- SHDN_REQ follows the set of causes, and the path mode the ON source. The ON source is ON and alone has an on-since
time, and only an awaited target is ON beside it. A bay's switch is ON only in the states that carry the load, and OFF
in the states of Table 4-3. Under the shock-hold flag only a release of origin REQUEST is awaited. -/
def Obligations.StepKeepsPowerRecord : Prop :=
  ∀ s t : State, step s = .next t →
    (s.powerSafe → t.powerSafe) ∧ (s.sourcesSafe → s.switchesSafe → t.sourcesSafe ∧ t.switchesSafe) ∧
      (s.holdSafe → t.holdSafe)

/-- The commanded level stays at or below the ceiling in force, and S, L and D stay in their ranges. -/
def Obligations.StepKeepsBrightnessRanges : Prop :=
  ∀ s t : State, s.brightSafe → step s = .next t → t.brightSafe

/-- A record is open exactly in FALLING, IMPACT and SETTLING, and PARK and the flag stay set through them. -/
def Obligations.StepKeepsMotionRecord : Prop :=
  ∀ s t : State, s.motionSafe → step s = .next t → t.motionSafe

/-- Each field of a bay record is present in its states alone, fault-pending and the fault reason among them; and
every slot bound to an EMPTY or SEATED bay is NEVER. -/
def Obligations.StepKeepsBayRecords : Prop :=
  ∀ s t : State, step s = .next t → (s.baysSafe → t.baysSafe) ∧ (s.baySlotsSafe → t.baySlotsSafe)

/-! ## Laws over all commands -/

/-- The generation and the committed tables change at POWER_ON_RESET, at the end of a load and at a commit switch
alone (which the limit's expiry brings where no condition is unmet, the model's choice, log entry 3); of ROUTES the indicator bytes are left out, which traffic and
CLEAR_INDICATORS change. The private memory changes at the two page events alone. -/
def Obligations.SettingsChangeAtTheirEvents : Prop :=
  (∀ (c : Instr) (s t : State), exec c s = .next t → c ≠ .powerOnReset → c ≠ .commitSwitch → c ≠ .commitLimitExpiry →
    (∀ answered, c ≠ .settingsLoadEnd answered) →
    t.sru.generation = s.sru.generation ∧ t.sru.committed.guards = s.sru.committed.guards ∧
    t.sru.committed.polls = s.sru.committed.polls ∧ t.sru.committed.snoops = s.sru.committed.snoops ∧
    t.sru.committed.slots = s.sru.committed.slots ∧ t.sru.committed.light = s.sru.committed.light ∧
    t.sru.committed.supply = s.sru.committed.supply ∧ t.sru.committed.motion = s.sru.committed.motion ∧
    (s.sru.committed.routes.length = 392 → t.sru.committed.routes.length = 392 ∧
      ∀ i, ¬(i < 384 ∧ i % 12 = 11) → byteAt t.sru.committed.routes i = byteAt s.sru.committed.routes i)) ∧
  (∀ (c : Instr) (s t : State), exec c s = .next t → c ≠ .rawWritePageDone →
    (∀ acknowledged held, c ≠ .savePageDone acknowledged held) → t.smi.memory = s.smi.memory)

/-- An URGENT notice leaves the queue by a fetch or a reset alone: any command that decodes no FETCH_NOTICES (code
0x10) and resets nothing keeps it in the queue under its sequence number. A stop and a repeated start count, unless a
service write of that code is open, and so does the end of a settings load that is no SOFT_RESET's. -/
def Obligations.UrgentNoticesStay : Prop :=
  ∀ (c : Instr) (s t : State), c.wellFormed = true → s.agenda = [] → exec c s = .next t →
    c ≠ .powerOnReset → (∀ answered, c = .settingsLoadEnd answered → s.sru.resetPending = false) →
    (∀ tag payload, c ≠ .fetchNotices tag payload) →
    ((c = .stopCondition ∨ ∃ addr read, c = .repeatedStart addr read) →
      ∀ x, s.uli.txn = some x → x.snap = none → x.cmd ≠ some 0x10) →
    ∀ n ∈ s.ntq.queue, n.severity = .urgent → ∃ m ∈ t.ntq.queue, m.seq = n.seq ∧ m.severity = .urgent

/-- An unread drop record stays in its place of the log until a record with a larger peak code takes the place: any
command that decodes no READ_DROP (code 0x30) or CLEAR_DROP (0x31) and is no power-on reset keeps it so. A stop and a
repeated start count, unless a service write of such a code is open. -/
def Obligations.UnreadDropsStay : Prop :=
  ∀ (c : Instr) (s t : State), c.wellFormed = true → s.agenda = [] → exec c s = .next t →
    c ≠ .powerOnReset → (∀ tag payload, c ≠ .readDrop tag payload) → (∀ tag payload, c ≠ .clearDrop tag payload) →
    ((c = .stopCondition ∨ ∃ addr read, c = .repeatedStart addr read) →
      ∀ x, s.uli.txn = some x → x.snap = none → x.cmd ≠ some 0x30 ∧ x.cmd ≠ some 0x31) →
    ∀ i r, s.mtu.logAt i = some r → r.read = false →
      ∃ q, t.mtu.logAt i = some q ∧ q.read = false ∧ (q = r ∨ r.peakCode < q.peakCode)

/-- While the shock-hold flag stays set, no bay moves from READY or ACTIVE to RELEASING because of its latch, and no
attempt begins but that of a release of origin REQUEST. -/
def Obligations.ShockHoldHoldsOff : Prop :=
  ∀ (c : Instr) (s t : State), s.agenda = [] → t.agenda = [] → exec c s = .next t → s.mtu.shockHold = true →
    t.mtu.shockHold = true →
    (∀ bay, ((s.bay bay).state = .ready ∨ (s.bay bay).state = .active) → (t.bay bay).state = .releasing →
      (t.bay bay).origin = some .request) ∧
    (s.ppc.attempt = none → ∀ a, t.ppc.attempt = some a → ∃ bay, a.kind = .release bay .request)

/-- S never leaves the way to its target, and it reaches a target that stands: each step of stage 4 with the rates of
R138 moves S toward 16·L without passing it, moves it unless it is there, and steps enough bring it there. -/
def Obligations.SmoothingReachesTarget : Prop :=
  ∀ (p : Light) (s l : Nat), 1 ≤ p.alphaUp → p.alphaUp ≤ 256 → 1 ≤ p.alphaDown → p.alphaDown ≤ 256 →
    (s < 16 * l → smoothed p s l = s + ((16 * l - s) * p.alphaUp + 255) / 256 ∧
      s < smoothed p s l ∧ smoothed p s l ≤ 16 * l) ∧
    (16 * l < s → smoothed p s l = s - ((s - 16 * l) * p.alphaDown + 255) / 256 ∧
      smoothed p s l < s ∧ 16 * l ≤ smoothed p s l) ∧
    (s = 16 * l → smoothed p s l = s) ∧
    ∃ steps, (List.replicate steps l).foldl (smoothed p) s = 16 * l

/-- A post: it takes the next sequence number and joins a queue of fewer than 16 records. At a full queue the first of
five steps applies: it merges into the newest record of its kind and subject; it takes the place of the oldest INFO
record; an INFO post is discarded; it takes the place of the oldest WARN record; or, when every record is URGENT, a
WARN post is discarded and an URGENT one merges into the newest record. Steps 2 to 5 set the overflow mark. -/
def Obligations.PostJoinsMergesOrIsDiscarded : Prop :=
  ∀ (s : State) (p : Post),
    let q := s.ntq.queue
    let joined : Notice :=
      { seq := s.ntq.seq, time := s.now, kind := p.kind, severity := p.severity, subject := p.subject, repeats := 1
        arg1 := p.arg1, arg2 := p.arg2 }
    let after := fun (queue : List Notice) (overflow : Bool) =>
      { s with ntq := { s.ntq with
          queue := queue, overflow := overflow, seq := s.ntq.seq + 1
          alertLow := queue.any fun n => atOrAbove s.ntq.alertLevel n.severity } }
    let same := fun (n : Notice) => n.kind = p.kind ∧ n.subject = p.subject
    (q.length < 16 → s.notify p = after (q ++ [joined]) s.ntq.overflow) ∧
    (∀ n ∈ q, n.severity = .urgent → ∃ m ∈ (s.notify p).ntq.queue, m.seq = n.seq ∧ m.severity = .urgent) ∧
    (16 ≤ q.length →
      (∀ front n back, q = front ++ n :: back → same n → (∀ m ∈ back, ¬same m) →
        let merged : Notice := { n with
          repeats := min (n.repeats + 1) 255, time := s.now, arg1 := p.arg1, arg2 := p.arg2
          severity := if severityCode n.severity ≤ severityCode p.severity then p.severity else n.severity }
        s.notify p = after (front ++ merged :: back) s.ntq.overflow) ∧
      ((∀ m ∈ q, ¬same m) →
        (∀ front n back, q = front ++ n :: back → n.severity = .info → (∀ m ∈ front, m.severity ≠ .info) →
          s.notify p = after (front ++ back ++ [joined]) true) ∧
        ((∀ m ∈ q, m.severity ≠ .info) →
          (p.severity = .info → s.notify p = after q true) ∧
          (∀ front n back, p.severity ≠ .info → q = front ++ n :: back → n.severity = .warn →
            (∀ m ∈ front, m.severity ≠ .warn) → s.notify p = after (front ++ back ++ [joined]) true) ∧
          ((∀ m ∈ q, m.severity = .urgent) →
            (p.severity = .warn → s.notify p = after q true) ∧
            (∀ front n, p.severity = .urgent → q = front ++ [n] →
              s.notify p = after (front ++ [{ n with repeats := min (n.repeats + 1) 255, time := s.now }]) true)))))

/-! ## Formulas -/

/-- The stages of a brightness step as formulas. The ambient of the usable sensors: a count from the slot, full scale
where a FRESH status slot has a bit of the mask, scaled, and of the rear sensor weighted. The log-lux code of stage 3,
the place of the leading one bit and the four bits below it. The biased code and the level the brightness curve gives.
The driver code of stage 9, rounded to the nearest code with halves up for an even N_max. -/
def Obligations.LightAndDriverCodes : Prop :=
  (∀ s : State,
    let p := s.light
    let fresh := fun (slot : Fin 32) => (s.slot slot).state = .fresh
    let saturated := fun (status mask : Nat) => status ≠ 0xFF ∧ fresh (Fin.ofNat 32 status) ∧
      (BitVec.ofInt 32 (s.slot (Fin.ofNat 32 status)).value &&& BitVec.ofNat 32 mask) ≠ 0
    let lux := fun (slot : Fin 32) (k status mask x : Nat) =>
      ∃ count, (saturated status mask → count = 65535) ∧
        (¬saturated status mask → (count : Int) = max 0 (min 65535 (s.slot slot).value)) ∧
        x = min (count * k / 256) 1048575
    let front := lux 10 p.frontK p.frontStatus p.frontMask
    let rear := lux 11 p.rearK p.rearStatus p.rearMask
    (∀ c, c = p.frontStatus ∨ c = p.rearStatus → c = 0xFF ∨ 16 ≤ c ∧ c ≤ 31) →
    (¬fresh 10 → ¬fresh 11 → s.ambientLux = none) ∧
    (fresh 10 → ¬fresh 11 → ∀ x, front x → s.ambientLux = some x) ∧
    (¬fresh 10 → fresh 11 → ∀ y, rear y → s.ambientLux = some (y * p.weight / 256)) ∧
    (fresh 10 → fresh 11 → ∀ x y, front x → rear y → s.ambientLux = some (max x (y * p.weight / 256)))) ∧
  (∀ (smooth : Nat) (bias : Int), (biased smooth bias : Int) = max 0 (min 5104 ((smooth : Int) + 16 * bias))) ∧
  (∀ (p : Light) (x : Nat) (first last : Nat × Nat), p.curveCount = p.curve.length → 2 ≤ p.curve.length →
    p.curve.length ≤ 16 → p.curve.Pairwise (fun x y => x.1 < y.1) → p.curve.head? = some first →
    p.curve.getLast? = some last →
    (x ≤ 16 * first.1 → curveLevel p x = first.2) ∧ (16 * last.1 ≤ x → curveLevel p x = last.2) ∧
    ∀ (i : Nat) (a b : Nat × Nat), p.curve[i]? = some a → p.curve[i + 1]? = some b → 16 * a.1 ≤ x → x < 16 * b.1 →
      (curveLevel p x : Int) = a.2 + Int.tdiv (((b.2 : Int) - a.2) * ((x : Int) - 16 * a.1)) (16 * ((b.1 : Int) - a.1))) ∧
  (∀ (b : Brc) (p : Light) (a : Nat), (b.measured p (some a)).code = logLux a) ∧
  (∀ a : Nat, a < 2 ^ 20 → logLux a ≤ 319 ∧ (a ≤ 1 → logLux a = 0) ∧
    (1 < a → ∃ e m, 1 ≤ e ∧ e ≤ 19 ∧ 2 ^ e ≤ a ∧ a < 2 ^ (e + 1) ∧
      m = (if 4 ≤ e then a / 2 ^ (e - 4) else a * 2 ^ (4 - e)) % 16 ∧ logLux a = 16 * e + m)) ∧
  logLux 1 = 0 ∧ logLux 2 = 16 ∧ logLux 3 = 24 ∧ logLux 100 = 105 ∧ logLux 8000 = 207 ∧ logLux 50000 = 248 ∧
  logLux 1048575 = 319 ∧
  (∀ (b : Brc) (p : Light), (b.leveled p).computed = driverCode p.nMax ((b.leveled p).level.getD 0)) ∧
  (∀ nMax q : Nat, 1 ≤ nMax → nMax ≤ 2000 →
    (nMax ≤ q → driverCode nMax q = 4095) ∧
    (q < nMax → driverCode nMax q = (q * 4095 + nMax / 2) / nMax ∧
      2 * (driverCode nMax q * nMax) ≤ 2 * (q * 4095) + nMax ∧
      2 * (q * 4095) < 2 * (driverCode nMax q * nMax) + nMax)) ∧
  (lightOf Builtin.light).nMax = 1500 ∧ driverCode 1500 0 = 0 ∧ driverCode 1500 81 = 221 ∧
  driverCode 1500 260 = 710 ∧ driverCode 1500 750 = 2048 ∧ driverCode 1500 1178 = 3216 ∧ driverCode 1500 1500 = 4095

/-- The ceiling a display power curve of R124 assigns to an allowance, in its three cases, and the five default
ceilings. -/
def Obligations.CeilingOfAllowance : Prop :=
  (∀ (p : Light) (a : Nat) (first last : Nat × Nat), p.powerCount = p.power.length → 2 ≤ p.power.length →
    p.power.length ≤ 8 → p.power.Pairwise (fun x y => x.1 < y.1 ∧ x.2 ≤ y.2) →
    p.power.head? = some first → p.power.getLast? = some last →
    (last.2 ≤ a → powerCeiling p a = last.1) ∧ (a < first.2 → powerCeiling p a = first.1) ∧
    (∀ (j : Nat) (x y : Nat × Nat), p.power[j]? = some x → p.power[j + 1]? = some y → x.2 ≤ a → a < y.2 →
      powerCeiling p a = x.1 + (y.1 - x.1) * (a - x.2) / (y.2 - x.2) ∧
        (y.1 ≤ 2000 → y.2 ≤ 20000 → (y.1 - x.1) * (a - x.2) ≤ 40000000)) ∧
    first.1 ≤ powerCeiling p a ∧ powerCeiling p a ≤ last.1) ∧
  powerCeiling (lightOf Builtin.light) 9000 = 1500 ∧ powerCeiling (lightOf Builtin.light) 6000 = 1178 ∧
  powerCeiling (lightOf Builtin.light) 3600 = 700 ∧ powerCeiling (lightOf Builtin.light) 2000 = 300 ∧
  powerCeiling (lightOf Builtin.light) 1200 = 81

/-- A compact magnitude code keeps the top M + 1 bits of its value: decoding gives the value with its lower e bits
cleared, and the codes of values below 2^24 have the ranges of R166. -/
def Obligations.CompactCodesKeepTopBits : Prop :=
  (∀ m v : Nat, (v < 2 ^ (m + 1) → compact m v = v) ∧
    (2 ^ (m + 1) ≤ v → compact m v = (Nat.log2 v - m) * 2 ^ m + v / 2 ^ (Nat.log2 v - m)) ∧
    expand m (compact m v) = v / 2 ^ (Nat.log2 v - m) * 2 ^ (Nat.log2 v - m)) ∧
  (∀ m c : Nat, (c < 2 ^ (m + 1) → expand m c = c) ∧
    (2 ^ (m + 1) ≤ c → expand m c = (c - (c / 2 ^ m - 1) * 2 ^ m) * 2 ^ (c / 2 ^ m - 1))) ∧
  (∀ v : Nat, v < 2 ^ 24 → compact 10 v ≤ 15359 ∧ compact 7 v ≤ 2303) ∧
  (∀ (r : DropRec) (q : Sample), (r.peaked q).peakCode = compact 10 q.mag ∧ (r.peaked q).peakTrace = compact 7 q.mag ∧
    q.code = compact 7 q.mag) ∧
  (∀ x y z : Int, -2048 ≤ x → x ≤ 2047 → -2048 ≤ y → y ≤ 2047 → -2048 ≤ z → z ≤ 2047 →
    squared x y z ≤ 12582912 ∧ squared x y z < 2 ^ 24) ∧
  compact 10 12582912 = 14848 ∧ compact 7 12582912 = 2240 ∧ compact 10 38 = 38 ∧ compact 7 38 = 38 ∧
  compact 10 16384 = 5120 ∧ compact 7 16384 = 1024 ∧ compact 10 380000 = 9676 ∧ compact 7 380000 = 1593 ∧
  compact 10 1690000 = 11890 ∧ compact 7 1690000 = 1870 ∧ expand 10 11890 = 1689600

/-! ## The upstream link (Chapter 1) -/

/-- The first address byte. The lookup takes the lowest route entry with the address as its key (log entry 54), else
pass window 0, else pass window 1, and keeps what the table says of it, with the guard rules and the stand-in reply.
Acknowledged are the service address, and a matched entry of OPEN class whose gate is open or which has a stand-in
reply; the entry's used indicator is then set and nothing else of ROUTES changes. NACKed it is in STARTING without a
record; in IDLE with the read bit, of the service address too but without a record; at a reserved or unmatched
address, at an ENGINE-class entry, and at a closed gate without a stand-in reply (the order of the checks: log entry
23). -/
def Obligations.FirstAddressAnswered : Prop :=
  (∀ (t : Tables) (addr : Addr),
    let key := addrByte addr
    let at' := fun (p : Nat) => byteAt t.routes (12 * p)
    let keyed := ∃ p, p < 32 ∧ at' p = key ∧ at' p ≠ 0
    let window := fun (w : Nat) => u8 t.routes (384 + 4 * w + 2) ≠ 0 ∧
      ∀ i, i < 8 → (byteAt t.routes (384 + 4 * w + 1)).getLsbD i = false →
        key.getLsbD i = (byteAt t.routes (384 + 4 * w)).getLsbD i
    let passes := fun (w : Nat) => ∃ e, lookupRoute t addr = some e ∧ e.key = none ∧ e.down = key ∧
      e.engineOnly = false ∧ e.checked = false ∧ e.gate = none ∧ e.rules = [] ∧ e.standIn = none ∧
      (u8 t.routes (384 + 4 * w + 2) ≤ 4 → segNumber e.seg = u8 t.routes (384 + 4 * w + 2)) ∧
      (u8 t.routes (384 + 4 * w + 3) ≤ 1 → (e.writeProtect = true ↔ u8 t.routes (384 + 4 * w + 3) = 1))
    (∀ p, p < 32 → at' p = key → key ≠ 0 → (∀ q, q < p → at' q ≠ key) → lookupRoute t addr = routeAt t p) ∧
    (¬keyed → (window 0 → passes 0) ∧ (¬window 0 → window 1 → passes 1) ∧
      (¬window 0 → ¬window 1 → lookupRoute t addr = none)) ∧
    (∀ p, p < 32 → at' p = 0 → routeAt t p = none) ∧
    (∀ p, p < 32 → at' p ≠ 0 →
      let b := fun (i : Nat) => u8 t.routes (12 * p + i)
      ∃ e, routeAt t p = some e ∧ e.key = some (at' p) ∧ e.down.toNat = b 2 ∧ e.engineOnly = (b 3).testBit 0 ∧
        e.writeProtect = (b 3).testBit 1 ∧ e.checked = (b 3).testBit 2 ∧
        (1 ≤ b 1 → b 1 ≤ 4 → segNumber e.seg = b 1) ∧
        (b 3 / 8 % 4 = 0 → e.gate = none) ∧ (b 3 / 8 % 4 = 1 → e.gate = some .a) ∧ (b 3 / 8 % 4 = 2 → e.gate = some .b) ∧
        ((b 3).testBit 5 = false → e.rules = []) ∧
        ((b 3).testBit 5 = true → b 4 + b 5 ≤ 64 → e.rules.length = b 5 ∧
          ∀ k, k < b 5 → e.rules[k]? = some (guardRuleAt t.guards (b 4 + k))) ∧
        ((b 3).testBit 6 = false → e.standIn = none) ∧
        ((b 3).testBit 6 = true → b 6 ≤ 4 → t.routes.length = 392 → ∃ reply, e.standIn = some reply ∧
          reply.length = b 6 ∧ ∀ k, k < b 6 → byteAt reply k = byteAt t.routes (12 * p + 7 + k))) ∧
    (∀ i,
      let r := guardRuleAt t.guards i
      let b := fun (j : Nat) => u8 t.guards (13 * i + j)
      r.low.toNat = b 0 ∧ r.high.toNat = b 1 ∧ r.mask.toNat = b 4 ∧
        (b 2 ≤ 2 → r.dir = if b 2 = 0 then .write else if b 2 = 1 then .read else .both) ∧
        (b 3 ≤ 4 → r.action = if b 3 = 0 then .pass else if b 3 = 1 then .refuse else if b 3 = 2 then .mask
          else if b 3 = 3 then .captureLevel else .synthLevel) ∧
        (t.guards.length = 832 → i < 64 → ∀ k, k < 8 → byteAt r.fill k = byteAt t.guards (13 * i + 5 + k)))) ∧
  (∀ (addr : Addr) (s : State), s.agenda = [] → s.uli.phase = .idle →
    (addr = serviceAddr s.lines.addrSelHigh →
      exec (.firstAddressByte addr false) s =
        .next (s.acked .address { addr := addr, snap := none, cmd := none, data := [], inLane := false }) ∧
      exec (.firstAddressByte addr true) s = .next { s with uli := { s.uli with
        phase := .drain, txn := none, byteHold := none, heldSince := none, reply := .nack, lastActivity := s.now } }) ∧
    (∀ e, addr ≠ serviceAddr s.lines.addrSelHigh → reservedAddr addr = false →
      lookupRoute s.sru.committed addr = some e → e.engineOnly = false →
      (s.gateClosed e.gate = false ∨ e.standIn.isSome = true) →
      ∃ t, exec (.firstAddressByte addr false) s = .next t ∧
        t.uli = (s.acked .address { addr := addr, snap := some e, cmd := none, data := [], inLane := false }).uli ∧
        t.ports = s.ports ∧ t.bays = s.bays ∧ t.ppc = s.ppc ∧ t.brc = s.brc ∧ t.mtu = s.mtu ∧ t.ntq = s.ntq ∧
        t.smi = s.smi ∧
        (s.sru.committed.routes.length = 392 → ∀ key place, e.key = some key →
          routePlace s.sru.committed.routes key = some place →
          ∀ i, byteAt t.sru.committed.routes i =
            if i = 12 * place + 11 then byteAt s.sru.committed.routes i ||| 1 else byteAt s.sru.committed.routes i))) ∧
  (∀ (addr : Addr) (read : Bool) (s : State), s.agenda = [] →
    (s.uli.phase = .starting →
      exec (.firstAddressByte addr read) s = .next { s with uli := { s.uli with reply := .nack } }) ∧
    (s.uli.phase = .idle → addr ≠ serviceAddr s.lines.addrSelHigh →
      (read = true → exec (.firstAddressByte addr read) s = .next (s.turnedAway addr none .read .refused)) ∧
      (read = false → (reservedAddr addr = true ∨ lookupRoute s.sru.committed addr = none) →
        exec (.firstAddressByte addr read) s = .next (s.turnedAway addr none .none .noRoute)) ∧
      (∀ e, read = false → reservedAddr addr = false → lookupRoute s.sru.committed addr = some e →
        (e.engineOnly = true →
          exec (.firstAddressByte addr read) s = .next ((s.markUsed e).turnedAway addr none .none .refused)) ∧
        (e.engineOnly = false → s.gateClosed e.gate = true → e.standIn = none →
          exec (.firstAddressByte addr read) s = .next ((s.markUsed e).turnedAway addr none .none .gated)))))

/-- The first guard rule of an entry whose range and direction take in a transaction decides it, and none passes it.
The command byte: acknowledged, but NACKed with REFUSED when the entry's guards refuse both directions. A data byte of
a service write is acknowledged up to 32, tag and payload; the next is NACKed and the request answered BAD_LENGTH,
whatever its code (log entry 14), in that byte's handling (the model's choice, log entry 63). A data byte of a
pass-through write: the first is refused at a closed gate, at a write-protected target and by a REFUSE rule, held
while the pass lane is occupied, and else acknowledged; a later one is acknowledged up to 32 bytes and the trailer of
a checked entry. In DRAIN each byte is NACKed. A held byte is acknowledged when the lane is free, NACKed with BUSY
after 30 ms, and else held on. -/
def Obligations.HostBytesAreTaken : Prop :=
  (∀ (e : RouteSnap) (cmd : Byte) (write : Bool),
    let hits := fun (r : GuardRule) => r.low.toNat ≤ cmd.toNat ∧ cmd.toNat ≤ r.high.toNat ∧
      (write = true → r.dir ≠ .read ∧ r.action ≠ .synthLevel) ∧
      (write = false → r.dir ≠ .write ∧ r.action ≠ .mask ∧ r.action ≠ .captureLevel)
    ((∀ r ∈ e.rules, ¬hits r) → e.rule cmd write = none ∧ e.action cmd write = .pass) ∧
    (∀ front r back, e.rules = front ++ r :: back → (∀ q ∈ front, ¬hits q) → hits r →
      e.rule cmd write = some r ∧ e.action cmd write = r.action)) ∧
  (∀ (b : Byte) (s : State) (t : UpTxn) (code : Byte), s.agenda = [] → s.uli.txn = some t → t.snap = none →
    t.cmd = some code →
    let taken := Host.Outcome.next (s.acked .writeData { t with data := t.data ++ [b] })
    (s.uli.phase = .command → s.uli.byteHold = none → exec (.writeDataByte b) s = taken) ∧
    (s.uli.phase = .writeData → s.uli.byteHold = none →
      (t.data.length < 32 → exec (.writeDataByte b) s = taken) ∧
      (32 ≤ t.data.length →
        let r : Response := { code := code, tag := t.data.headD 0, status := .badLength, payload := [], current := false }
        exec (.writeDataByte b) s = .next { s with
          uli := { s.uli with
            phase := .drain, txn := none, byteHold := none, heldSince := none, reply := .nack, lastActivity := s.now }
          sru := { s.sru with response := some r } }))) ∧
  (∀ (b : Byte) (s : State), s.agenda = [] →
    (∀ t, s.uli.phase = .address → s.uli.txn = some t →
      (t.snap = none → exec (.commandByte b) s = .next (s.acked .command { t with cmd := some b })) ∧
      (∀ e, t.snap = some e →
        exec (.commandByte b) s =
          .next (if e.action b true = .refuse ∧ e.action b false = .refuse
            then s.turnedAway t.addr (some b) .none .refused else s.acked .command { t with cmd := some b }))) ∧
    (s.uli.phase = .drain →
      let nacked := Host.Outcome.next { s with uli := { s.uli with reply := .nack, lastActivity := s.now } }
      exec (.commandByte b) s = nacked ∧ exec (.writeDataByte b) s = nacked)) ∧
  (∀ (b : Byte) (s : State) (t : UpTxn) (e : RouteSnap) (cmd : Byte), s.agenda = [] → s.uli.txn = some t →
    t.snap = some e → t.cmd = some cmd →
    (s.uli.phase = .command →
      (s.gateClosed e.gate = true → exec (.writeDataByte b) s = .next (s.turnedAway t.addr t.cmd .write .gated)) ∧
      (s.gateClosed e.gate = false → (e.writeProtect = true ∨ e.action cmd true = .refuse) →
        exec (.writeDataByte b) s = .next (s.turnedAway t.addr t.cmd .write .refused)) ∧
      (s.gateClosed e.gate = false → e.writeProtect = false → e.action cmd true ≠ .refuse →
        (e.action cmd true ≠ .captureLevel → s.laneBusy e.seg = true →
          exec (.writeDataByte b) s = .next { s with uli := { s.uli with
            phase := .writeData, byteHold := some (b, s.now), reply := .clockHeld } }) ∧
        ((e.action cmd true = .captureLevel ∨ s.laneBusy e.seg = false) → s.uli.byteHold = none →
          exec (.writeDataByte b) s = .next (s.acked .writeData { t with data := t.data ++ [b] })))) ∧
    (s.uli.phase = .writeData → s.uli.byteHold = none →
      exec (.writeDataByte b) s =
        .next (if t.data.length < (if e.checked then 33 else 32)
          then s.acked .writeData { t with data := t.data ++ [b] } else s.turnedAway t.addr t.cmd .write .refused))) ∧
  (∀ (s : State) (b : Byte) (since : Time) (t : UpTxn) (e : RouteSnap), s.agenda = [] →
    s.uli.byteHold = some (b, since) → s.uli.txn = some t → t.snap = some e →
    (s.laneBusy e.seg = false → exec .heldByteRelease s = .next { s with uli := { s.uli with
      phase := .writeData, txn := some { t with data := t.data ++ [b] }, byteHold := none, reply := .ack
      lastActivity := s.now } }) ∧
    (s.laneBusy e.seg = true → exec .heldByteRelease s = .next s) ∧
    exec .dataHoldStretchLimit s =
      .next (if 30 ≤ age s.now since then s.turnedAway t.addr t.cmd .write .busy else s))

/-- The stop of a transaction. In READOUT and DRAIN it only ends them, and between the address and the command byte
the transaction ends REFUSED. A write ends by the checks of Table 1-3 in their order: a checked entry's trailer, a
captured write of less than two bytes, its gate, a zero-data write's refusal or occupied lane; each such end is
recorded with PASS_WRITE_FAILED. Else it is captured as a MANUAL request, or goes into its pass lane, with the trailer
computed anew over its downstream address and the data as a MASK rule leaves them: a SUSPENDED or ISOLATED port
completes it ABSENT, and any other takes it into its pass lane, an IDLE one reaching a boundary. A captured level
starts a brightness step. A service write is decoded. One without a tag is answered BAD_LENGTH whatever its code (log
entry 14); with a tag an unknown code is UNKNOWN_REQUEST, and a wrong payload length of a known code BAD_LENGTH, also
while a SOFT_RESET waits (before R184's BUSY: log entry 13). -/
def Obligations.StopEndsTransaction : Prop :=
  ∀ s : State, s.agenda = [] →
    ((s.uli.phase = .readout ∨ s.uli.phase = .drain) → exec .stopCondition s = .next s.linkIdle) ∧
    (∀ t, s.uli.phase = .address → s.uli.txn = some t → exec .stopCondition s =
      .next (if t.snap.isSome then s.linkIdle.withRecord t.addr none .none .refused else s.linkIdle)) ∧
    (∀ (e : RouteSnap) (cmd : Byte) (payload : List Byte) (i : Nat),
      let data := e.forwarded cmd payload
      (e.action cmd true ≠ .mask → data = payload) ∧
      (∀ r, e.rule cmd true = some r → r.action = .mask → data.length = payload.length ∧
        (i < payload.length → byteAt data i =
          if i < 8 ∧ r.mask.getLsbD i = false then byteAt r.fill i else byteAt payload i))) ∧
    (∀ t e cmd, (s.uli.phase = .command ∨ s.uli.phase = .writeData) → s.uli.byteHold = none → s.uli.txn = some t →
      t.snap = some e → t.cmd = some cmd →
      let stop := exec .stopCondition s
      let ends := fun o => (s.linkIdle.withRecord t.addr t.cmd .write o).notify
        { kind := .passWriteFailed, severity := .warn, subject := segNumber e.seg, arg1 := s.uli.seq.toNat
          arg2 := outcomeCode o }
      let payload := if e.checked then t.data.dropLast else t.data
      let trailer := crc8 (addressByte (addrByte t.addr) false :: cmd :: payload)
      let passes := e.checked = false ∨ t.data ≠ [] ∧ t.data = payload ++ [trailer]
      let captures := e.action cmd true = .captureLevel
      (¬passes → stop = .next (ends .refused)) ∧
      (passes → captures → payload.length < 2 → stop = .next (ends .refused)) ∧
      (passes → (captures → 2 ≤ payload.length) →
        (s.gateClosed e.gate = true → stop = .next (ends .gated)) ∧
        (s.gateClosed e.gate = false →
          (t.data = [] → (e.writeProtect = true ∨ e.action cmd true = .refuse) → stop = .next (ends .refused)) ∧
          (t.data = [] → e.writeProtect = false → e.action cmd true ≠ .refuse → s.laneBusy e.seg = true →
            stop = .next (ends .busy)) ∧
          ((t.data = [] → e.writeProtect = false ∧ e.action cmd true ≠ .refuse ∧ s.laneBusy e.seg = false) → ¬captures →
            let data := e.forwarded cmd payload
            let x : LaneTxn :=
              { snap := e, addr := t.addr, cmd := cmd, write := true, data := data, recorded := false
                trailer := if e.checked then some (crc8 (addressByte e.down false :: cmd :: data)) else none }
            let p := s.port e.seg
            let placed := s.linkIdle.setPort e.seg { p with lane := some x }
            let away := p.state = .suspended ∨ p.state = .isolated
            (s.portWaits e.seg → stop = .next placed) ∧
            (∃ n, 4000 ≤ n ∧ stop = .next (run n [.handIn x] s.linkIdle)) ∧
            (away → handle (.handIn x) s.linkIdle = (s.linkIdle, [.laneDone x .absent [] 0])) ∧
            (¬away → handle (.handIn x) s.linkIdle = (placed, if p.state = .idle then [.boundary e.seg] else []))) ∧
          (captures →
            let taken : State := { s.linkIdle.withRecord t.addr t.cmd .write .captured with brc := { s.brc with
              mode := .manual, hold := none, manual := some (min (u16 payload 0) 4095 * s.light.nMax / 4095) } }
            ∃ n, 4000 ≤ n ∧ stop = .next (run n [.brightStep] (if s.brc.mode = .manual then taken else taken.notify
              { kind := .modeChanged, severity := .info, subject := 0, arg1 := modeCode s.brc.mode, arg2 := 2 }))) ∧
          (∀ code, captures → s.brc.write = .executing code →
            ∃ u, stop = .next u ∧ u.uli = (s.linkIdle.withRecord t.addr t.cmd .write .captured).uli ∧
              u.brc.mode = .manual ∧ u.brc.hold = none ∧ u.brc.bias = s.brc.bias ∧
              u.brc.manual = some (min (u16 payload 0) 4095 * s.light.nMax / 4095) ∧
              u.brc.write = s.brc.write ∧ u.brc.written = s.brc.written ∧
              (s.brc.ceiling.isSome = true → u.brc.step = some { start := s.now, dur := s.light.period }) ∧
              (s.ntq.queue = [] → (s.brc.mode ≠ .manual ↔ ∃ n ∈ u.ntq.queue, n.kind = .modeChanged) ∧
                ∀ n ∈ u.ntq.queue, n.kind = .modeChanged →
                  n.severity = .info ∧ n.subject = 0 ∧ n.arg1 = modeCode s.brc.mode ∧ n.arg2 = 2) ∧
              u.ports = s.ports ∧ u.ppc = s.ppc ∧ u.bays = s.bays ∧ u.mtu = s.mtu ∧ u.sru = s.sru ∧
              u.smi = s.smi)))) ∧
    (∀ t code, (s.uli.phase = .command ∨ s.uli.phase = .writeData) → s.uli.byteHold = none → s.uli.txn = some t →
      t.snap = none → t.cmd = some code →
      let answers := fun (tag : Byte) (status : Status) (payload : List Byte) =>
        let r : Response := { code := code, tag := tag, status := status, payload := payload, current := false }
        { s.linkIdle with sru := { s.sru with response := some r } }
      (requestCodes.contains code = false → exec .stopCondition s = .next (answers (t.data.headD 0)
        (if t.data = [] then .badLength else .unknownRequest) [])) ∧
      (t.data = [] → exec .stopCondition s = .next (answers 0 .badLength [])) ∧
      (∀ r : Request, ∀ tag payload, code = r.code → t.data = tag :: payload →
        (r.takes payload.length = false → exec .stopCondition s = .next (answers tag .badLength [])) ∧
        (r = .identify → payload = [] → s.sru.resetPending = false →
          exec .stopCondition s = .next (answers tag .ok s.identity))))

/-- A repeated start. In STARTING it is NACKed. In IDLE, READOUT, DRAIN, between the address and the command byte, and
after a write it ends what is open as a stop would and opens a new transaction; while a byte is held nothing can be
driven. Straight after the command byte, with the same address and the read bit, it turns the transaction into a read:
the stand-in reply or GATED at a closed gate; else REFUSED, the synthesized driver code, or the clock held for the
pass lane. At the service address code 0xF0 returns the response record, 0xF1 too once it is not current, holding the
clock until then, and any other code is NACKed without a record. The bytes the unit gives itself are filled with 0xFF
to 32, and a checked entry's trailer follows them over the upstream address. A held read waits for its pass lane,
checks its gate again at the hand-in (the stand-in reply or GATED), and goes into the lane when the gate is open: it
waits there at a port that executes or recovers, an IDLE port reaches a boundary and starts it at once, unless a
commit hold stands, under which the port is READY and the read waits, and it is answered ABSENT at a port that is
SUSPENDED or ISOLATED. After 30 ms it is NACKed with BUSY, and its transaction in the lane makes no second record. -/
def Obligations.ReadsAreTurnedAndHeld : Prop :=
  (∀ (s : State) (addr : Addr) (read : Bool), s.agenda = [] →
    let start := exec (.repeatedStart addr read) s
    let opens := fun (u : State) => start = exec (.firstAddressByte addr read) u
    (s.uli.phase = .starting → start = .next { s with uli := { s.uli with reply := .nack } }) ∧
    (s.uli.phase = .idle → opens s) ∧
    ((s.uli.phase = .readout ∨ s.uli.phase = .drain) → opens s.linkIdle) ∧
    (∀ t, s.uli.phase = .address → s.uli.txn = some t →
      opens (if t.snap.isSome then s.linkIdle.withRecord t.addr none .none .refused else s.linkIdle)) ∧
    (∀ t, (s.uli.phase = .command ∧ ¬(read = true ∧ addr = t.addr) ∨
        s.uli.phase = .writeData ∧ s.uli.byteHold = none) → s.uli.txn = some t →
      let ended := run 4095 (onStop s).2 (onStop s).1
      ended.agenda = [] → exec .stopCondition s = .next ended ∧ opens ended) ∧
    (∀ t, s.uli.phase = .writeData → s.uli.byteHold.isSome = true → s.uli.txn = some t → start = .next s)) ∧
  (∀ (s : State) (t : UpTxn) (code : Byte), s.agenda = [] → s.uli.phase = .command → s.uli.txn = some t →
    t.snap = none → t.cmd = some code →
    let turned := exec (.repeatedStart t.addr true) s
    (code ≠ 0xF0 → code ≠ 0xF1 → turned = .next { s with uli := { s.uli with
      phase := .drain, txn := none, byteHold := none, heldSince := none, reply := .nack, lastActivity := s.now } }) ∧
    ((code = 0xF0 ∨ code = 0xF1) → s.sru.response = none →
      turned = .next (s.answering ([0x00, 0x00, 0x00, 0xFF] ++ List.replicate 28 0xFF))) ∧
    (∀ r : Response, s.sru.response = some r →
      (r.payload.length ≤ 28 → (code = 0xF0 ∨ code = 0xF1 ∧ r.current = false) → turned = .next (s.answering
        ([BitVec.ofNat 8 r.payload.length, r.code, r.tag, BitVec.ofNat 8 (statusCode r.status)] ++ r.payload ++
          List.replicate (28 - r.payload.length) 0xFF))) ∧
      (code = 0xF1 → r.current = true → turned = .next (s.holding t)))) ∧
  ∀ (s : State) (t : UpTxn) (e : RouteSnap) (cmd : Byte), s.agenda = [] → s.uli.txn = some t → t.snap = some e →
    t.cmd = some cmd →
    let buffer := fun (bytes : List Byte) =>
      let full := bytes ++ List.replicate (32 - bytes.length) 0xFF
      let a := addrByte t.addr
      full ++ (if e.checked then [crc8 ([addressByte a false, cmd, addressByte a true] ++ full)] else [])
    let standsIn := fun (bytes : List Byte) => (s.withRecord t.addr t.cmd .read .standIn).answering (buffer bytes)
    (s.uli.phase = .command →
      (s.gateClosed e.gate = true → e.standIn = none →
        exec (.repeatedStart t.addr true) s = .next (s.turnedAway t.addr t.cmd .read .gated)) ∧
      (∀ bytes, s.gateClosed e.gate = true → e.standIn = some bytes → bytes.length ≤ 4 →
        exec (.repeatedStart t.addr true) s = .next (standsIn bytes)) ∧
      (s.gateClosed e.gate = false → e.action cmd false = .refuse →
        exec (.repeatedStart t.addr true) s = .next (s.turnedAway t.addr t.cmd .read .refused)) ∧
      (s.gateClosed e.gate = false → e.action cmd false = .synthLevel →
        exec (.repeatedStart t.addr true) s =
          .next ((s.withRecord t.addr t.cmd .read .synthesized).answering
            (buffer [BitVec.ofNat 8 s.brc.written, BitVec.ofNat 8 (s.brc.written / 256)]))) ∧
      (s.gateClosed e.gate = false → e.action cmd false ≠ .refuse → e.action cmd false ≠ .synthLevel →
        exec (.repeatedStart t.addr true) s = .next (s.holding t))) ∧
    (∀ since, s.uli.phase = .held → s.uli.heldSince = some since →
      ((t.inLane = true ∨ s.laneBusy e.seg = true) → exec .heldReadLaneHandin s = .next s) ∧
      (t.inLane = false → s.laneBusy e.seg = false → s.gateClosed e.gate = true →
        (e.standIn = none → exec .heldReadLaneHandin s = .next (s.turnedAway t.addr t.cmd .read .gated)) ∧
        (∀ bytes, e.standIn = some bytes → bytes.length ≤ 4 →
          exec .heldReadLaneHandin s = .next (standsIn bytes))) ∧
      (t.inLane = false → s.gateClosed e.gate = false → s.portWaits e.seg →
        let x : LaneTxn :=
          { snap := e, addr := t.addr, cmd := cmd, write := false, data := [], trailer := none, recorded := false }
        let s1 : State := { s with uli := { s.uli with txn := some { t with inLane := true } } }
        exec .heldReadLaneHandin s = .next (s1.setPort e.seg { s.port e.seg with lane := some x })) ∧
      (t.inLane = false → s.gateClosed e.gate = false → s.laneBusy e.seg = false →
        let x : LaneTxn :=
          { snap := e, addr := t.addr, cmd := cmd, write := false, data := [], trailer := none, recorded := false }
        let s1 : State := { s with uli := { s.uli with txn := some { t with inLane := true } } }
        let p := s.port e.seg
        let away := p.state = .suspended ∨ p.state = .isolated
        let noMotion := ∀ y ∈ p.queue, y.cls ≠ .motion
        let passed := fun (y : EngTxn) => if y.cls = .poll then
          { y with passedOver := y.passedOver + 1, cls := if y.passedOver + 1 < 4 then .poll else .control } else y
        (∃ n, 4000 ≤ n ∧ exec .heldReadLaneHandin s = .next (run n [.handIn x] s1)) ∧
        (away → handle (.handIn x) s1 = (s1, [.laneDone x .absent [] 0])) ∧
        (¬away → handle (.handIn x) s1 =
          (s1.setPort e.seg { p with lane := some x }, if p.state = .idle then [.boundary e.seg] else [])) ∧
        (p.state = .idle → noMotion → p.mark = .none → exec .heldReadLaneHandin s = .next (s1.setPort e.seg
          { p with
            lane := some x, queue := p.queue.map passed, state := .busy, running := some (.lane, s.now) })) ∧
        (p.state = .idle → noMotion → p.mark ≠ .none →
          exec .heldReadLaneHandin s = .next (s1.setPort e.seg { p with lane := some x, mark := .ready }))) ∧
      (t.inLane = false → s.gateClosed e.gate = false → (s.port e.seg).lane = none →
        ((s.port e.seg).state = .suspended ∨ (s.port e.seg).state = .isolated) →
        exec .heldReadLaneHandin s = .next (s.turnedAway t.addr t.cmd .read .absent)) ∧
      (t.inLane = false → exec .heldReadStretchLimit s =
        .next (if 30 ≤ age s.now since then s.turnedAway t.addr t.cmd .read .busy else s)) ∧
      (∀ x, t.inLane = true → (s.port e.seg).lane = some x → 30 ≤ age s.now since →
        exec .heldReadStretchLimit s =
          .next ((s.setPort e.seg { s.port e.seg with lane := some { x with recorded := true } }).turnedAway t.addr
            t.cmd .read .busy)))

/-- READOUT gives one byte of the buffer for each the host clocks, and 0xFF beyond its end. A host that stalls for 35
ms has its open transaction abandoned, without PASS_WRITE_FAILED where data bytes of a write were acknowledged (log
entry 22); READOUT and DRAIN end without a record. The 32 bytes of a response read: length, code, tag, status and
payload, filled with 0xFF; the record after power-on reset has status 0xFF. The waiting form is held while the record
is current, for at most 30 ms. Where it is held, the end of the background operation (a commit that switches or fails,
a save, a swap) or the acting of a SOFT_RESET is written into the record, whose mark clears, and the read is answered
with the record as it then stands; where the record belongs to another, it and the hold stay as they are (log entry 15
for the reset). -/
def Obligations.ReadsAreAnswered : Prop :=
  (∀ s : State, s.agenda = [] →
    (s.uli.phase = .readout → exec .readoutByte s = .next { s with uli := { s.uli with
      reply := .data (if s.uli.answerPos < s.uli.answer.length then s.uli.answer.getD s.uli.answerPos 0 else 0xFF)
      answerPos := s.uli.answerPos + 1, lastActivity := s.now } }) ∧
    (age s.now s.uli.lastActivity < 35 → exec .hostStallLimit s = .next s) ∧
    (35 ≤ age s.now s.uli.lastActivity →
      ((s.uli.phase = .readout ∨ s.uli.phase = .drain) → exec .hostStallLimit s = .next s.linkIdle) ∧
      (∀ t, s.uli.txn = some t → s.uli.byteHold = none →
        (t.snap = none → (s.uli.phase = .address ∨ s.uli.phase = .command ∨ s.uli.phase = .writeData) →
          exec .hostStallLimit s = .next s.linkIdle) ∧
        (t.snap ≠ none → (s.uli.phase = .address ∨ s.uli.phase = .command) →
          exec .hostStallLimit s = .next (s.linkIdle.withRecord t.addr t.cmd .none .abandoned)) ∧
        (t.snap ≠ none → s.uli.phase = .writeData →
          exec .hostStallLimit s = .next (s.linkIdle.withRecord t.addr t.cmd .write .abandoned))))) ∧
  (∀ s : State, s.agenda = [] →
    (∀ r : Response, s.sru.response = some r → r.payload.length ≤ 28 →
      let buffer := [BitVec.ofNat 8 r.payload.length, r.code, r.tag, BitVec.ofNat 8 (statusCode r.status)] ++
        r.payload ++ List.replicate (28 - r.payload.length) 0xFF
      (s.uli.phase = .idle → exec .responseRead s = .next (s.answering buffer)) ∧
      (s.uli.phase = .idle → r.current = false → exec .waitingResponseRead s = .next (s.answering buffer)) ∧
      (s.uli.phase = .idle → r.current = true → exec .waitingResponseRead s = .next (s.holding
        { addr := serviceAddr s.lines.addrSelHigh, snap := none, cmd := some 0xF1, data := [], inLane := false })) ∧
      (∀ t since, s.uli.phase = .held → s.uli.txn = some t → t.snap = none → s.uli.heldSince = some since →
        exec .waitingReadLimit s = .next (if 30 ≤ age s.now since then s.answering buffer else s))) ∧
    (s.uli.phase = .idle → s.sru.response = none →
      exec .responseRead s = .next (s.answering ([0x00, 0x00, 0x00, 0xFF] ++ List.replicate 28 0xFF)))) ∧
  ∀ (s : State) (r : Response), s.waitsFor r →
    let free : State := { s with sru := { s.sru with background := .none } }
    let acted : State := { s with sru := { s.sru with resetPending := false, gaveUp := false } }
    let generation := fun (n : Nat) => [BitVec.ofNat 8 n, BitVec.ofNat 8 (n / 256)]
    (∀ (code : Byte) (status : Status) (payload : List Byte), payload.length ≤ 28 →
      ((∃ c, s.sru.background = .commit c) ∧ code = 0x06 ∨ s.sru.background = .save ∧ code = 0x07 ∨
        (∃ bay, s.sru.background = .swap bay) ∧ code = 0x25) →
      (r.code = code → handle (.backgroundEnd status payload) s = (free.released r status payload, [])) ∧
      (r.code ≠ code → handle (.backgroundEnd status payload) s = (free, []))) ∧
    (∀ bay, s.sru.background = .swap bay → r.code = 0x25 → handle (.swapEnd bay) s =
      (free.released r (if (s.bay bay).state = .releaseBlocked then .failed else .done)
        [BitVec.ofNat 8 (bayStateCode (s.bay bay).state)], [])) ∧
    (r.code = 0x7F → handle .resetDone s =
      (acted.released r .done (generation s.sru.generation.toNat ++ [if s.sru.gaveUp then 1 else 0]), [])) ∧
    (r.code ≠ 0x7F → handle .resetDone s = (acted, [])) ∧
    (s.agenda = [] →
      (∀ (x : SaveRec) (held : List Byte), s.smi.activity = .saving x → 5 ≤ age s.now x.start →
        s.sru.background = .save → r.code = 0x07 →
        let offset := if x.done < 630 then 8 * (x.done + 1) else 0
        let bytes := (x.image.drop offset).take 8
        let got := held.take bytes.length
        let smi : Smi := { s.smi with memory := writeRun s.smi.memory offset got, answers := true, activity := .idle }
        let failed := fun (m : Smi) => State.released { free with smi := m } r .failed (generation offset)
        (got = bytes → x.done = 630 → exec (.savePageDone true held) s = .next
          (State.released { free with smi := smi } r .done (generation x.gen.toNat))) ∧
        (got ≠ bytes → exec (.savePageDone true held) s = .next (failed smi)) ∧
        exec (.savePageDone false held) s = .next (failed { smi with answers := false })) ∧
      (∀ c : CommitRec, s.sru.background = .commit c → r.code = 0x06 →
        (∀ seg, c.held.get seg = true → (s.port seg).rests) →
        let ends := fun (u : State) (status : Status) (payload : List Byte) (notice : Post) =>
          State.notify ((u.mapPorts c.segments fun p => { p with mark := .none }).released r status payload) notice
        let fails := fun (status : Status) (payload : List Byte) (arg2 : Int) => ends free status payload
          { kind := .commitFailed, severity := .warn, subject := 0, arg1 := statusCode status, arg2 := arg2 }
        (∀ n i, c.waiting = false → 2 ≤ age s.now c.limit.start →
          firstFailure (addrByte (serviceAddr s.lines.addrSelHigh)) c.mask s.sru.staging = some (n, i) →
          exec .commitValidationEnd s =
            .next (fails .invalidTable [BitVec.ofNat 8 n, BitVec.ofNat 8 i] ((256 * n + i : Nat) : Int))) ∧
        (c.limit.dur ≤ age s.now c.limit.start → (c.waiting = false ∨ s.unmet c ≠ 0) →
          exec .commitLimitExpiry s =
            .next (fails .busy [BitVec.ofNat 8 (s.unmet c)] ((s.unmet c : Nat) : Int))) ∧
        (c.waiting = true → s.unmet c = 0 → c.mask &&& 0xF4 = 0 → ∃ t : State, exec .commitSwitch s = .next t ∧
          t = ends { free with sru := { free.sru with committed := t.sru.committed, generation := c.gen } } .done
            (generation c.gen.toNat ++ [c.mask])
            { kind := .commitDone, severity := .info, subject := 0, arg1 := c.gen.toNat, arg2 := c.mask.toNat })))

/-- A host transaction whose bay gate is closed reaches no segment port: its stop, its repeated start and its hand-in
leave every port as it is. -/
def Obligations.GatedTransactionReachesNoPort : Prop :=
  ∀ (c : Instr) (s t : State) (x : UpTxn) (e : RouteSnap), s.agenda = [] → s.uli.txn = some x → x.snap = some e →
    s.gateClosed e.gate = true →
    (c = .stopCondition ∨ c = .heldReadLaneHandin ∨ ∃ addr read, c = .repeatedStart addr read) →
    exec c s = .next t → t.ports = s.ports

/-- A pass-lane transaction completes to the Upstream Link Interface. A write is recorded, and PASS_WRITE_FAILED
raised unless it is DONE. A held read is recorded and answered with its bytes, on a checked entry with the trailer
computed anew over the upstream address, or after CRC_BAD as it was received; any other outcome NACKs it; a read
recorded already is not answered. The bytes of a DONE read on a route entry run the snoop bindings of its key and
command, in rising place order. -/
def Obligations.LaneCompletionsAnswer : Prop :=
  ∀ (x : LaneTxn) (outcome : TxOutcome) (data : List Byte) (trailer : Byte) (s : State),
    let done := handle (.laneDone x outcome data trailer) s
    let recorded := s.withRecord x.addr (some x.cmd) .write outcome
    (x.write = true → done = (if outcome = .done then recorded else recorded.notify
      { kind := .passWriteFailed, severity := .warn, subject := segNumber x.snap.seg, arg1 := s.uli.seq.toNat
        arg2 := outcomeCode outcome }, [])) ∧
    (x.write = false →
      (x.recorded = true → done.1 = s) ∧
      (x.recorded = false → (outcome = .done ∨ outcome = .crcBad) →
        let a := addrByte x.addr
        let sent := if outcome = .done then crc8 ([addressByte a false, x.cmd, addressByte a true] ++ data) else trailer
        done.1 = (s.withRecord x.addr (some x.cmd) .read outcome).answering
          (data ++ if x.snap.checked then [sent] else [])) ∧
      (x.recorded = false → outcome ≠ .done → outcome ≠ .crcBad →
        done.1 = s.turnedAway x.addr (some x.cmd) .read outcome) ∧
      ((outcome ≠ .done ∨ x.snap.key = none) → done.2 = []) ∧
      (∀ key, outcome = .done → x.snap.key = some key →
        done.2 = (List.range 16).flatMap fun place =>
          match snoopAt s.sru.committed.snoops place with
          | some (k, c, ds) =>
            if k = key ∧ c = x.cmd then ds.map fun d => Task.descriptor .snoop place d data else []
          | none => []))

/-! ## Requests (Chapters 9, 10, 3, 5 and 7) -/

/-- The checks of a request in their order: an unknown code, the payload length, a background operation under way, and
a SOFT_RESET not yet acted (log entry 13 for the place of the last); a refused request changes its response record
alone. -/
def Obligations.RefusedRequestsAnswer : Prop :=
  ∀ (s : State) (tag : Byte) (p : List Byte), s.agenda = [] → s.uli.phase = .idle →
    (∀ code, requestCodes.contains code = false →
      exec (.unknownRequest code tag p) s = .next (s.answered code tag .unknownRequest [])) ∧
    (∀ r : Request, r.takes p.length = false →
      exec (r.command tag p s.smi.answers) s = .next (s.answered r.code tag .badLength [])) ∧
    (∀ r : Request, r.takes p.length = true →
      (r.background = true ∧ s.sru.background ≠ .none ∨ s.sru.resetPending = true) →
      exec (r.command tag p s.smi.answers) s = .next (s.answered r.code tag .busy []))

/-- IDENTIFY gives the type, the version, the revision, the generation, the load result and the sizes; STAGE_READ and
TABLE_READ give the bytes of a staging or committed image, the committed one also while a reloaded table is not yet in
force (the model's choice, log entry 68); SETTINGS_READ gives bytes of the private memory; READ_TELEMETRY gives 1 to 4
slots, seven bytes each: state, source and implausible count, value, and age (Table 12-5). The order of the refusals
within a request (the count, the table, the offset; the count, the offset, BUSY) is the model's (log entry 37). -/
def Obligations.ReadingRequestsAnswer : Prop :=
  ∀ (s : State) (tag : Byte), s.servesRequests →
    exec (.identify tag []) s = .next (s.answered 0x01 tag .ok s.identity) ∧
    (∀ n lo hi count : Byte,
      let answer := fun (code : Byte) (tables : Tables) =>
        if ¬(1 ≤ count.toNat ∧ count.toNat ≤ 28) then s.answered code tag .badLength []
        else if 7 < n.toNat then s.answered code tag .badTable []
        else if tableSize n.toNat < pair lo hi + count.toNat then s.answered code tag .badOffset []
        else s.answered code tag .ok (((tableImage tables n.toNat).drop (pair lo hi)).take count.toNat)
      exec (.stageRead tag [n, lo, hi, count]) s = .next (answer 0x03 s.sru.staging) ∧
      exec (.tableRead tag [n, lo, hi, count]) s = .next (answer 0x04 s.sru.committed)) ∧
    (∀ (lo hi count : Byte) (answered : Bool),
      let x : State := { s with smi := { s.smi with answers := answered } }
      exec (.settingsRead tag [lo, hi, count] answered) s = .next
        (if ¬(1 ≤ count.toNat ∧ count.toNat ≤ 28) then x.answered 0x08 tag .badLength []
        else if 8192 < pair lo hi + count.toNat then x.answered 0x08 tag .badOffset []
        else if s.smi.activity ≠ .idle then x.answered 0x08 tag .busy []
        else if answered = false then x.answered 0x08 tag .failed []
        else x.answered 0x08 tag .ok
          ((List.range count.toNat).map fun i => readCell s.smi.memory (pair lo hi + i)))) ∧
    (∀ first count : Byte, exec (.readTelemetry tag [first, count]) s = .next
      (if ¬(1 ≤ count.toNat ∧ count.toNat ≤ 4) ∨ 32 < first.toNat + count.toNat then s.answered 0x20 tag .badLength []
      else s.answered 0x20 tag .ok
        ((List.range count.toNat).flatMap fun k => slotImage s.now (s.slot (Fin.ofNat 32 (first.toNat + k)))))) ∧
    (∀ r : Slot, (slotImage s.now r).length = 7 ∧ readsAs (slotImage s.now r)
      [(0, 1, heldNumber 1 (slotStateCode r.state + 4 * ((r.source.map slotSourceCode).getD 3) + 16 * r.implausible)),
        (1, 4, heldSigned 4 r.value), (5, 2, heldOption 2 (r.time.map fun t => min (age s.now t) 65534))])

/-- The long read-outs of a bay, of the power path, of the brightness record, of the Motion Unit and of the link:
their parts, the lengths of their images, and every field of Table 12-5 by its offset, its width and what it holds. A
bay byte above 1 is NOT_APPLICABLE whatever its part (log entry 37). -/
def Obligations.LongReadOutsAnswer : Prop :=
  ∀ (s : State) (tag k : Byte), s.servesRequests →
    (∀ bay, let b : Byte := match bay with | .a => 0 | .b => 1
      exec (.readBay tag [b, k]) s = .next (s.partAnswer 0x21 tag (some b) k.toNat (bayImage bay s))) ∧
    (∀ b : Byte, 1 < b.toNat → exec (.readBay tag [b, k]) s = .next (s.answered 0x21 tag .notApplicable [])) ∧
    exec (.readPower tag [k]) s = .next (s.partAnswer 0x22 tag none k.toNat (powerImage s)) ∧
    exec (.readBrightness tag [k]) s = .next (s.partAnswer 0x23 tag none k.toNat (brightImage s)) ∧
    exec (.readMotion tag [k]) s = .next (s.partAnswer 0x32 tag none k.toNat (motionImage s)) ∧
    exec (.readLinkStatus tag [k]) s = .next (s.partAnswer 0x41 tag none k.toNat (linkImage s)) ∧
    (∀ bay, (bayImage bay s).length = 78) ∧ (powerImage s).length = 25 ∧ (brightImage s).length = 33 ∧
    (motionImage s).length = 57 ∧ (linkImage s).length = 97 ∧
    (∀ bay,
      let image := bayImage bay s
      let r := s.bay bay
      readsAs image
        [(0, 4, s.now.toNat), (4, 1, bayStateCode r.state),
          (5, 1, flagBit r.latchClosed 0 + flagBit r.present 1 + flagBit r.wasActive 2 + flagBit r.faultPending 3),
          (6, 4, r.entry.toNat), (10, 1, heldOption 1 (r.origin.map originCode)),
          (11, 1, heldOption 1 (r.faultReason.map faultReasonCode)), (12, 2, heldOption 2 (s.leftOf r.seat)),
          (14, 2, heldOption 2 (s.leftOf r.identify)), (16, 1, heldNumber 1 r.admission.length)] ∧
      (∀ k i, k < 24 → r.admission[k]? = some i → readsAs image
        [(17 + 2 * k, 1, i.place.val), (18 + 2 * k, 1, i.attempts % 4 + flagBit i.succeeded 7)]) ∧
      (∀ k, k < 24 → r.admission.length ≤ k → readsAs image [(17 + 2 * k, 2, 0xFFFF)]) ∧
      (s.ppc.record = none → readsAs image
        [(65, 1, 0), (66, 4, 0xFFFFFFFF), (70, 4, 0xFFFFFFFF), (74, 4, 0xFFFFFFFF)]) ∧
      (∀ x, s.ppc.record = some x → readsAs image
        [(65, 1, 1 + flagBit x.origin.isSome 1 + flagBit x.finish.isSome 2 + flagBit x.result.isSome 3),
          (66, 1, srcCode x.origin), (67, 1, srcNumber x.target), (68, 1, reasonCode x.reason), (69, 4, x.start.toNat),
          (73, 4, heldOption 4 (x.finish.map fun t => t.toNat)), (77, 1, heldOption 1 (x.result.map resultCode))])) ∧
    (let source := fun (x : Src) => switchCode (s.source x).sw + flagBit (s.lines.feedback.get x) 2 +
      flagBit (s.source x).eligible 3 + flagBit (s.source x).heldOff 4
    readsAs (powerImage s)
      [(0, 1, source .dc), (1, 1, source .a), (2, 1, source .b), (3, 1, source .br), (4, 1, flagBit s.ppc.managed 0),
        (5, 1, srcCode s.ppc.onSrc), (6, 1, flagBit s.ppc.pending 0),
        (7, 4, heldOption 4 (s.ppc.bridge.map fun t => t.left s.now)),
        (11, 1, flagBit s.ppc.causeBridge 0 + flagBit s.ppc.causeNoAlternate 1), (12, 1, classCode s.classifier.cls),
        (13, 2, heldNumber 2 s.classifier.allowance), (15, 1, levelCode s.classifier.level),
        (16, 4, heldSigned 4 s.classifier.energy), (20, 4, s.now.toNat), (24, 1, flagBit s.ppc.startupExpired 0)]) ∧
    (let b := s.brc
    let write : Nat × Nat := match b.write with
      | .none => (0, 0xFFFF) | .queued c => (1, heldNumber 2 c) | .executing c => (2, heldNumber 2 c)
    readsAs (brightImage s)
      [(0, 1, modeCode b.mode), (1, 1, (b.bias % 256).toNat), (2, 2, heldOption 2 b.manual), (4, 2, heldOption 2 b.hold),
        (6, 4, heldOption 4 b.ambient), (10, 2, heldNumber 2 b.code), (12, 2, heldNumber 2 b.smooth),
        (14, 2, heldNumber 2 b.curve), (16, 2, heldNumber 2 b.target), (18, 2, heldOption 2 b.level),
        (20, 2, heldNumber 2 b.computed), (22, 2, heldOption 2 b.ceiling), (24, 2, heldNumber 2 b.written),
        (26, 1, flagBit b.noneWritten 0 + flagBit b.owed 1 + flagBit b.awaitingLight 2 + flagBit b.limited 3 +
          flagBit b.lightLost 4),
        (27, 1, write.1), (28, 2, write.2), (30, 1, heldNumber 1 b.failures), (31, 2, heldOption 2 (s.leftOf b.step))]) ∧
    (let m := s.mtu
    readsAs (motionImage s)
      [(0, 4, s.now.toNat), (4, 1, motionCode m.state), (5, 4, m.entry.toNat), (9, 1, heldNumber 1 m.fallRun),
        (10, 2, heldNumber 2 m.settleRun), (12, 1, heldNumber 1 m.window),
        (13, 1, flagBit m.starved 0 + flagBit m.placed 1 + flagBit m.park 2 + flagBit m.shockHold 3 +
          flagBit m.openRec.isSome 4 + flagBit m.failTime.isSome 5 + flagBit m.parkTime.isSome 6),
        (14, 4, heldOption 4 (m.failTime.map fun t => t.toNat)), (18, 4, heldOption 4 (m.parkTime.map fun t => t.toNat)),
        (22, 2, heldOption 2 (s.leftOf m.parkHold)), (24, 2, heldOption 2 (s.leftOf m.shockTimer)),
        (26, 2, heldOption 2 (m.openRec.map fun r => r.seq.toNat)),
        (28, 1, heldOption 1 (m.openRec.map fun r => dropCode r.kind)), (29, 2, m.seq.toNat), (51, 4, m.samples.toNat),
        (55, 2, heldNumber 2 m.readsFailed)] ∧
      ∀ i : Fin 4, readsAs (motionImage s) (match m.logAt i with
        | some r => [(31 + 5 * i.val, 2, r.seq.toNat), (33 + 5 * i.val, 1, dropCode r.kind + flagBit r.read 7),
          (34 + 5 * i.val, 2, heldNumber 2 r.peakCode)]
        | none => [(31 + 5 * i.val, 4, 0xFFFFFFFF), (35 + 5 * i.val, 1, 0xFF)])) ∧
    readsAs (linkImage s) [(0, 1, heldNumber 1 s.uli.ring.length)] ∧
    (∀ n r, n < 8 → s.uli.ring[n]? = some r → readsAs (linkImage s)
      [(1 + 10 * n, 2, r.seq.toNat), (3 + 10 * n, 4, r.time.toNat), (7 + 10 * n, 1, r.addr.toNat),
        (8 + 10 * n, 1, heldOption 1 (r.cmd.map fun c => c.toNat)),
        (9 + 10 * n, 1, dirCode r.dir + flagBit r.cmd.isSome 2), (10 + 10 * n, 1, outcomeCode r.outcome)]) ∧
    (∀ n, n < 8 → s.uli.ring.length ≤ n → readsAs (linkImage s)
      [(1 + 10 * n, 4, 0xFFFFFFFF), (5 + 10 * n, 4, 0xFFFFFFFF), (9 + 10 * n, 2, 0xFFFF)]) ∧
    (∀ seg,
      let o := 77 + 4 * segNumber seg
      let p := s.port seg
      readsAs (linkImage s) [(o, 1, portStateCode p.state), (o + 1, 1, heldNumber 1 p.timeouts),
        (o + 2, 1, heldNumber 1 p.queue.length), (o + 3, 1, flagBit p.lane.isSome 0)])

/-- READ_POLL_STATUS clears the SKIPPED and LATE marks it reports, READ_DROP marks its record read, and CLEAR_DROP
takes its record out of the log; a later part of either read-out comes from the snapshot. The images hold the fields
of Tables 12-5 and 12-7, each by its offset and width, and the trace as R167 packs it. A place above 23 and an index
above 3 are NOT_APPLICABLE whatever the part, and an empty poll place reads present 0 with the other fields absent as
R197 codes them and flags 0 (both the model's inference, log entry 37). -/
def Obligations.PollAndDropReadsAct : Prop :=
  ∀ (s : State) (tag : Byte), s.servesRequests →
    (∀ place : Fin 24, exec (.readPollStatus tag [BitVec.ofNat 8 place.val, 0]) s = .next
      ((s.setPoll place { s.poll place with skipped := false, late := false }).partAnswer 0x40 tag
        (some (BitVec.ofNat 8 place.val)) 0 (pollImage place s))) ∧
    (∀ place k : Byte, 23 < place.toNat →
      exec (.readPollStatus tag [place, k]) s = .next (s.answered 0x40 tag .notApplicable [])) ∧
    (∀ place k : Byte, place.toNat ≤ 23 → k ≠ 0 → exec (.readPollStatus tag [place, k]) s =
      .next (s.partAnswer 0x40 tag (some place) k.toNat [])) ∧
    (∀ (i : Fin 4) (r : DropRec), s.mtu.logAt i = some r →
      exec (.readDrop tag [BitVec.ofNat 8 i.val, 0]) s = .next
        (State.partAnswer
          { s with mtu := { s.mtu with log := s.mtu.log.set i (some { r with read := true }) } } 0x30 tag
          (some (BitVec.ofNat 8 i.val)) 0 (dropImage r)) ∧
      exec (.clearDrop tag [BitVec.ofNat 8 i.val]) s = .next
        (State.answered
          { s with mtu := { s.mtu with
              log := s.mtu.log.set i none, order := s.mtu.order.filter fun j => decide (j ≠ i) } }
          0x31 tag .ok [])) ∧
    (∀ i : Fin 4, s.mtu.logAt i = none →
      exec (.readDrop tag [BitVec.ofNat 8 i.val, 0]) s = .next (s.answered 0x30 tag .notApplicable []) ∧
      exec (.clearDrop tag [BitVec.ofNat 8 i.val]) s = .next (s.answered 0x31 tag .notApplicable [])) ∧
    (∀ i k : Byte, i.toNat ≤ 3 → k ≠ 0 →
      exec (.readDrop tag [i, k]) s = .next (s.partAnswer 0x30 tag (some i) k.toNat [])) ∧
    (∀ i k : Byte, 3 < i.toNat →
      exec (.readDrop tag [i, k]) s = .next (s.answered 0x30 tag .notApplicable []) ∧
      exec (.clearDrop tag [i]) s = .next (s.answered 0x31 tag .notApplicable [])) ∧
    (∀ place : Fin 24,
      let image := pollImage place s
      let p := s.poll place
      image.length = 18 ∧ readsAs image [(0, 4, s.now.toNat), (4, 1, place.val)] ∧
      readsAs image (if (s.pollEntry place).isSome then
        [(5, 1, 1), (6, 1, pollStateCode p.state),
          (7, 1, flagBit p.skipped 0 + flagBit p.late 1 + flagBit p.nextDue.isSome 2 + flagBit p.lastCompletion.isSome 3),
          (8, 4, heldOption 4 (p.nextDue.map fun t => t.toNat)), (12, 1, heldOption 1 (p.lastOutcome.map outcomeCode)),
          (13, 1, heldNumber 1 p.failures), (14, 4, heldOption 4 (p.lastCompletion.map fun t => t.toNat))]
        else
        [(5, 1, 0), (6, 1, 0xFF), (7, 1, 0), (8, 4, 0xFFFFFFFF), (12, 2, 0xFFFF), (14, 4, 0xFFFFFFFF)])) ∧
    (∀ r : DropRec,
      let image := dropImage r
      let snap := fun (f : DropSnap → Nat) => heldOption 1 (r.snap.map f)
      let codes := r.before ++ [r.peakTrace] ++ r.after
      image.length = 59 ∧ readsAs image
        [(0, 2, r.seq.toNat), (2, 1, dropCode r.kind),
          (3, 1, flagBit r.followed 0 + flagBit r.read 1 + flagBit r.parkToImpact.isSome 2 + flagBit r.snap.isSome 3),
          (4, 4, r.start.toNat), (8, 2, heldNumber 2 r.freeFall), (10, 2, heldOption 2 r.parkToImpact),
          (12, 2, heldNumber 2 r.peakCode), (14, 1, axisCode r.axis), (15, 1, heldNumber 1 r.impacts),
          (16, 2, heldNumber 2 r.settle), (18, 1, snap fun x => srcCode x.onSrc), (19, 1, snap fun x => classCode x.cls),
          (20, 1, snap fun x => bayStateCode x.bayA), (21, 1, snap fun x => bayStateCode x.bayB),
          (22, 1, heldNumber 1 codes.length)] ∧
      ∀ n, n < 288 → (byteAt image (23 + n / 8)).getLsbD (7 - n % 8) =
        match codes[n / 12]? with
        | some c => c.testBit (11 - n % 12)
        | none => false)

/-- STAGE_WRITE puts its bytes into a staging image, DISCARD takes the named staging images back from the committed
ones, and both are refused BUSY under a commit; CLEAR_INDICATORS clears the indicators of every entry. FETCH_NOTICES
gives the oldest records, removes them and clears the overflow mark, or leaves both under the peek flag;
SET_ALERT_LEVEL sets the level; ALERT_N follows both at once. The answer and its records hold the fields of Table
12-6, each by its offset and width. The order of STAGE_WRITE's refusals is the model's (log entry 37). -/
def Obligations.StagingAndNoticeRequestsAct : Prop :=
  ∀ (s : State) (tag : Byte), s.servesRequests →
    (∀ (n lo hi : Byte) (bytes : List Byte), 1 ≤ bytes.length → bytes.length ≤ 28 →
      let image := tableImage s.sru.staging n.toNat
      let put := image.take (pair lo hi) ++ bytes ++ image.drop (pair lo hi + bytes.length)
      exec (.stageWrite tag ([n, lo, hi] ++ bytes)) s = .next
        (if 7 < n.toNat then s.answered 0x02 tag .badTable []
        else if tableSize n.toNat < pair lo hi + bytes.length then s.answered 0x02 tag .badOffset []
        else if s.commitRec.isSome then s.answered 0x02 tag .busy []
        else State.answered { s with sru := { s.sru with staging := setTable s.sru.staging n.toNat put } } 0x02 tag
          .ok [])) ∧
    (∀ mask : Byte, exec (.discard tag [mask]) s = .next
      (if s.commitRec.isSome then s.answered 0x05 tag .busy []
      else State.answered
        { s with sru := { s.sru with staging := maskTables mask s.sru.staging s.sru.committed } } 0x05 tag .ok [])) ∧
    (s.sru.committed.routes.length = 392 → ∃ routes : Image,
      exec (.clearIndicators tag []) s = .next (State.answered
        { s with sru := { s.sru with committed := { s.sru.committed with routes := routes } } } 0x42 tag .ok []) ∧
      routes.length = 392 ∧
      ∀ i, byteAt routes i = if i < 384 ∧ i % 12 = 11 then byteAt s.sru.committed.routes i &&& 0xFC
        else byteAt s.sru.committed.routes i) ∧
    (∀ count peek : Byte,
      let rest := s.ntq.queue.drop count.toNat
      let q : Ntq := if peek ≠ 0 then s.ntq else
        { s.ntq with
          queue := rest, overflow := false
          alertLow := rest.any fun n => atOrAbove s.ntq.alertLevel n.severity }
      exec (.fetchNotices tag [count, peek]) s = .next
        (if ¬(1 ≤ count.toNat ∧ count.toNat ≤ 2) then s.answered 0x10 tag .badLength []
        else State.answered { s with ntq := q } 0x10 tag .ok
          (fetchImage (s.ntq.queue.take count.toNat) q.queue.length s.ntq.overflow))) ∧
    (∀ (c : Byte) (level : Severity), severityOfCode c.toNat = some level →
      exec (.setAlertLevel tag [c]) s = .next (State.answered
        { s with ntq := { s.ntq with
            alertLevel := level, alertLow := s.ntq.queue.any fun n => atOrAbove level n.severity } } 0x11 tag .ok [])) ∧
    (∀ c : Byte, 2 < c.toNat →
      exec (.setAlertLevel tag [c]) s = .next (s.answered 0x11 tag .notApplicable [])) ∧
    (∀ (taken : List Notice) (left : Nat) (overflow : Bool),
      let image := fetchImage taken left overflow
      image.length = 2 + 13 * taken.length ∧
        readsAs image [(0, 1, heldNumber 1 (taken.length + flagBit overflow 7)), (1, 1, heldNumber 1 left)] ∧
        ∀ k n, taken[k]? = some n →
          let o := 2 + 13 * k
          readsAs image
            [(o, 2, n.seq.toNat), (o + 2, 2, n.time.toNat % 65536), (o + 4, 1, kindCode n.kind + 64 * severityCode n.severity),
              (o + 5, 1, heldNumber 1 n.subject), (o + 6, 1, heldNumber 1 n.repeats), (o + 7, 3, heldSigned 3 n.arg1),
              (o + 10, 3, heldSigned 3 n.arg2)])

/-- COMMIT is accepted: its record with the affected segments and the 50 ms limit, and each affected port in commit
hold, READY at once where nothing executes. A mask of 0 is NOT_APPLICABLE. -/
def Obligations.CommitIsAccepted : Prop :=
  ∀ (s : State) (tag lo hi mask : Byte), s.servesRequests → s.sru.background = .none →
    (mask = 0 → exec (.commit tag [lo, hi, mask]) s = .next (s.answered 0x06 tag .notApplicable [])) ∧
    (mask ≠ 0 → ∃ t, exec (.commit tag [lo, hi, mask]) s = .next t ∧
      (let held := affectedSegments (bitAt mask 0) s.sru.committed (maskTables mask s.sru.committed s.sru.staging)
      t.sru = { s.sru with
        background := .commit
          { gen := BitVec.ofNat 16 (pair lo hi), mask := mask, waiting := false, held := held
            limit := { start := s.now, dur := 50 } }
        response := some { code := 0x06, tag := tag, status := .accepted, payload := [], current := true } } ∧
      ∀ seg, t.port seg = if held.get seg then
        { s.port seg with mark :=
            if (s.port seg).state = .suspended ∨ (s.port seg).state = .isolated ∨
              ((s.port seg).state = .idle ∧ (firstOf .motion (s.port seg).queue).isNone) then .ready else .held }
        else s.port seg) ∧
      t.bays = s.bays ∧ t.ppc = s.ppc ∧ t.classifier = s.classifier ∧ t.brc = s.brc ∧ t.mtu = s.mtu ∧ t.ntq = s.ntq ∧
      t.smi = s.smi ∧ t.polls = s.polls ∧ t.slots = s.slots)

/-- What a commit affects and what its validation asks. A segment is affected when a route entry on it, its guard
rules, a pass window, a poll entry or a snoop binding that names it differs in the two sets of tables: place by place,
every named field counting also where a flag leaves it unused (log entry 51), while indicators, unnamed bits and
descriptors beyond the count are no content. A byte of a staged ROUTES image outside 1 to 4 names no segment.
Validation names the first failing table and, of ROUTES, GUARDS, POLLS and SNOOPS, its first failing place. The
model's choices: a key with two places means the lowest (log entry 54), and in validation the later of them fails (log
entry 62). -/
def Obligations.CommitConditions : Prop :=
  (∀ (staged : Bool) (old new : Tables) (seg : Seg),
    let names := fun (x : Bool) (n : Nat) => (!x || decide (1 ≤ n ∧ n ≤ 4)) && segOfNumber n == seg
    let entryOn := fun (x : Bool) (t : Tables) (p : Nat) =>
      byteAt t.routes (12 * p) != 0 && names x (u8 t.routes (12 * p + 1))
    let rules := fun (t : Tables) (p : Nat) =>
      let first := u8 t.routes (12 * p + 4)
      if (u8 t.routes (12 * p + 3)).testBit 5 then
        ((List.range (u8 t.routes (12 * p + 5))).filter fun k => first + k < 64).map fun k =>
          slice t.guards (13 * (first + k)) 13
      else []
    let route := fun (x : Bool) (t : Tables) (p : Nat) =>
      if entryOn x t p then some (routeFields t.routes p, rules t p) else none
    let window := fun (x : Bool) (t : Tables) (w : Nat) =>
      if byteAt t.routes (384 + 4 * w + 2) ≠ 0 ∧ names x (u8 t.routes (384 + 4 * w + 2)) = true then
        some (slice t.routes (384 + 4 * w) 4) else none
    let keyOn := fun (x : Bool) (t : Tables) (key : Byte) => (routePlace t.routes key).any fun p => entryOn x t p
    let poll := fun (x : Bool) (t : Tables) (p : Nat) =>
      if byteAt t.polls (95 * p) ≠ 0 ∧ keyOn x t (byteAt t.polls (95 * p + 1)) = true then some (pollFields t.polls p)
      else none
    let snoop := fun (x : Bool) (t : Tables) (p : Nat) =>
      if byteAt t.snoops (79 * p) ≠ 0 ∧ keyOn x t (byteAt t.snoops (79 * p)) = true then some (snoopFields t.snoops p)
      else none
    (affectedSegments staged old new).get seg = true ↔
      (∃ p, p < 32 ∧ route false old p ≠ route staged new p) ∨
        (∃ w, w < 2 ∧ window false old w ≠ window staged new w) ∨
        (∃ p, p < 24 ∧ poll false old p ≠ poll staged new p) ∨
        ∃ p, p < 16 ∧ snoop false old p ≠ snoop staged new p) ∧
  (∀ (routes : Image) (p i : Nat), routes.length = 392 → p < 32 →
    (routeFields routes p).length = 11 ∧ (i < 11 → byteAt (routeFields routes p) i =
      if i = 3 then byteAt routes (12 * p + 3) &&& 0x7F else byteAt routes (12 * p + i))) ∧
  (∀ (img : Image) (o i : Nat), o + 19 ≤ img.length →
    (descriptorFields img o).length = 19 ∧ (i < 19 → byteAt (descriptorFields img o) i =
      if i = 2 then byteAt img (o + 2) &&& 1 else byteAt img (o + i))) ∧
  (∀ (service mask : Byte) (t : Tables),
    let firstOfPlaces := fun (n places : Nat) (good : Nat → Prop) =>
      (∀ i, i < places → ¬good i → (∀ j, j < i → good j) → badTable service t n = some i)
    let describes := fun (img : Image) (o count : Nat) => ∀ k, k < count → k < 4 →
      let d := o + 19 * k
      1 ≤ u8 img (d + 1) ∧ u8 img (d + 1) ≤ 32 ∧ u8 img (d + 3) ≤ 15 ∧ u8 img (d + 10) ≤ 31 ∧
        i32 img (d + 11) ≤ i32 img (d + 15)
    let entry := fun (p : Nat) =>
      let b := fun i => u8 t.routes (12 * p + i)
      b 0 = 0 ∨ 0x08 ≤ b 0 ∧ b 0 ≤ 0x77 ∧ b 0 ≠ service.toNat ∧ (∀ q, q < p → u8 t.routes (12 * q) ≠ b 0) ∧
        1 ≤ b 1 ∧ b 1 ≤ 4 ∧ b 2 ≤ 0x7F ∧ b 3 / 8 % 4 ≤ 2 ∧
        ((b 3).testBit 5 = true → b 4 ≤ 63 ∧ b 5 ≤ 8 ∧ b 4 + b 5 ≤ 64) ∧ ((b 3).testBit 6 = true → b 6 ≤ 4)
    let window := fun (w : Nat) =>
      let b := fun i => u8 t.routes (384 + 4 * w + i)
      b 0 ≤ 0x7F ∧ b 1 ≤ 0x7F ∧ b 2 ≤ 4 ∧ b 3 ≤ 1
    let guard := fun (i : Nat) =>
      let b := fun j => u8 t.guards (13 * i + j)
      b 0 ≤ b 1 ∧ b 2 ≤ 2 ∧ b 3 ≤ 4
    let poll := fun (p : Nat) =>
      let b := fun i => u8 t.polls (95 * p + i)
      b 0 = 0 ∨ b 0 ≤ 4 ∧ 0x08 ≤ b 1 ∧ b 1 ≤ 0x77 ∧ b 2 ≤ 1 ∧ b 5 ≤ 1 ∧ b 10 ≤ 4 ∧
        describes t.polls (95 * p + 19) (b 10) ∧ (b 2 = 1 → 1 ≤ b 4 ∧ b 4 ≤ 32) ∧
        (b 2 = 0 → b 0 = 2 ∧ b 4 ≤ 8 ∧ b 10 = 0) ∧ (b 0 = 1 → 10 ≤ u16 t.polls (95 * p + 6))
    let snoop := fun (p : Nat) =>
      let b := fun i => u8 t.snoops (79 * p + i)
      b 0 = 0 ∨ 0x08 ≤ b 0 ∧ b 0 ≤ 0x77 ∧ 1 ≤ b 2 ∧ b 2 ≤ 4 ∧ describes t.snoops (79 * p + 3) (b 2)
    let l := lightOf t.light
    let u := supplyOf t.supply
    let m := motionOf t.motion
    (firstFailure service mask t = none ↔ ∀ n, n < 8 → bitAt mask n = true → badTable service t n = none) ∧
    (∀ n i, firstFailure service mask t = some (n, i) ↔ n < 8 ∧ bitAt mask n = true ∧
      badTable service t n = some i ∧ ∀ k, k < n → bitAt mask k = true → badTable service t k = none) ∧
    (badTable service t 0 = none ↔ (∀ p, p < 32 → entry p) ∧ ∀ w, w < 2 → window w) ∧ firstOfPlaces 0 32 entry ∧
    (badTable service t 1 = none ↔ ∀ i, i < 64 → guard i) ∧ firstOfPlaces 1 64 guard ∧
    (badTable service t 2 = none ↔ ∀ p, p < 24 → poll p) ∧ firstOfPlaces 2 24 poll ∧
    (badTable service t 3 = none ↔ ∀ p, p < 16 → snoop p) ∧ firstOfPlaces 3 16 snoop ∧
    badTable service t 4 = none ∧
    (badTable service t 5 = none ↔
      (1 ≤ l.frontK ∧ 1 ≤ l.rearK ∧ (∀ c, c = l.frontStatus ∨ c = l.rearStatus → c = 0xFF ∨ 16 ≤ c ∧ c ≤ 31) ∧
        1 ≤ l.alphaUp ∧ l.alphaUp ≤ 256 ∧ 1 ≤ l.alphaDown ∧ l.alphaDown ≤ 256 ∧ 20 ≤ l.period ∧ l.period ≤ 1000 ∧
        l.nMin ≤ 2000 ∧ 1 ≤ l.nMax ∧ l.nMax ≤ 2000 ∧ 1 ≤ l.rUp ∧ l.rUp ≤ 2000 ∧ 1 ≤ l.rDown ∧ l.rDown ≤ 2000 ∧
        l.hysteresis ≤ 4095 ∧ l.start ≤ 2000 ∧ 0x08 ≤ l.driverKey.toNat ∧ l.driverKey.toNat ≤ 0x77) ∧
      (2 ≤ l.curveCount ∧ l.curveCount ≤ 16 ∧ (∀ q ∈ l.curve, q.1 ≤ 319 ∧ q.2 ≤ 2000) ∧
        l.curve.Pairwise fun x y => x.1 < y.1) ∧
      2 ≤ l.powerCount ∧ l.powerCount ≤ 8 ∧ (∀ q ∈ l.power, q.1 ≤ 2000 ∧ q.2 ≤ 20000) ∧
        l.power.Pairwise fun x y => x.1 < y.1 ∧ x.2 ≤ y.2) ∧
    (badTable service t 6 = none ↔
      u8 t.supply 0 ≤ 1 ∧ u8 t.supply 1 ≤ 1 ∧ u.reserve ≤ 100000 ∧ u.margin ≤ 100000 ∧ u.dwell ≤ 3600 ∧
        u.window ≤ 5000 ∧ u.cutoff ≤ 20000 ∧ u.temperature ≤ 1000 ∧ u.bridgeLow ≤ 30000 ∧ 1 ≤ u.bridgeTime ∧
        u.bridgeTime ≤ 600 ∧ 2 ≤ u.debounce ∧ u.debounce ≤ 64 ∧ 50 ≤ u.seat ∧ u.seat ≤ 2000 ∧ 200 ≤ u.identify ∧
        u.identify ≤ 10000 ∧ u.high ≤ 200000 ∧ u.crit ≤ u.high ∧ u.hyst ≤ 50000 ∧ u.mains ≤ 20000 ∧
        u.packHigh ≤ 20000 ∧ u.packLow ≤ 20000 ∧ u.packCritical ≤ 20000 ∧ u.bridge ≤ 20000) ∧
    (badTable service t 7 = none ↔
      0x08 ≤ m.key.toNat ∧ m.key.toNat ≤ 0x77 ∧ 1 ≤ m.fall ∧ m.fall ≤ 1024 ∧ 1 ≤ m.fallCount ∧ m.fallCount ≤ 255 ∧
        64 ≤ m.impact ∧ m.impact ≤ 3547 ∧ 1 ≤ m.window ∧ m.window ≤ 255 ∧ m.fall ≤ m.low ∧ m.low ≤ m.high ∧
        m.high < m.impact ∧ 1 ≤ m.settleCount ∧ m.settleCount ≤ 1000 ∧ 100 ≤ m.fallLimit ∧ m.fallLimit ≤ 10000 ∧
        100 ≤ m.settleLimit ∧ m.settleLimit ≤ 30000 ∧ m.parkHold ≤ 10000 ∧ m.shockHold ≤ 10000))

/-- SAVE_SETTINGS begins to write the committed images with clear indicators under a new header; SETTINGS_WRITE,
aligned and within the memory, begins to write whole pages; SOFT_RESET begins to read the settings image and gives up
a commit, whose ports it releases. Each is refused BUSY while the memory is in use. -/
def Obligations.MemoryRequestsBegin : Prop :=
  ∀ (s : State) (tag : Byte), s.servesRequests →
    (s.sru.background = .none → s.smi.activity = .idle →
      let img := imageBytes { s.sru.committed with routes := clearIndicatorBits s.sru.committed.routes }
      let r : SaveRec :=
        { image := headerBytes s.sru.generation img ++ img, gen := s.sru.generation, done := 0, start := s.now }
      exec (.saveSettings tag []) s = .next (State.answered
        { s with sru := { s.sru with background := .save }, smi := { s.smi with activity := .saving r } } 0x07 tag
        .accepted [])) ∧
    (∀ (lo hi : Byte) (bytes : List Byte), 1 ≤ bytes.length → bytes.length ≤ 29 →
      let aligned := pair lo hi % 8 = 0 ∧ (bytes.length = 8 ∨ bytes.length = 16 ∨ bytes.length = 24)
      let r : RawRec := { pages := rawPages (pair lo hi) bytes, start := s.now }
      exec (.settingsWrite tag ([lo, hi] ++ bytes)) s = .next
        (if ¬aligned then s.answered 0x09 tag .badAlign []
        else if 8192 < pair lo hi + bytes.length then s.answered 0x09 tag .badOffset []
        else if s.smi.activity ≠ .idle then s.answered 0x09 tag .busy []
        else State.answered { s with smi := { s.smi with activity := .rawWriting r } } 0x09 tag .ok [])) ∧
    (∀ (offset k : Nat) (bytes : List Byte), k < bytes.length / 8 →
      (rawPages offset bytes)[k]? = some (offset + 8 * k, (bytes.drop (8 * k)).take 8) ∧
        (rawPages offset bytes).length = bytes.length / 8) ∧
    (s.commitRec = none → s.smi.activity = .idle →
      exec (.softReset tag []) s = .next (State.answered
        { s with
          sru := { s.sru with resetPending := true, gaveUp := false }
          smi := { s.smi with activity := .loading s.now } } 0x7F tag .accepted [])) ∧
    (∀ c : CommitRec, s.sru.background = .commit c → s.smi.activity = .idle →
      (∀ seg, c.held.get seg = true → (s.port seg).state ≠ .idle) →
      exec (.softReset tag []) s = .next (State.answered
        { s.mapPorts c.segments (fun p => { p with mark := .none }) with
          sru := { s.sru with background := .none, resetPending := true, gaveUp := true }
          smi := { s.smi with activity := .loading s.now } } 0x7F tag .accepted [])) ∧
    (s.smi.activity ≠ .idle →
      (s.sru.background = .none → exec (.saveSettings tag []) s = .next (s.answered 0x07 tag .busy [])) ∧
      exec (.softReset tag []) s = .next (s.answered 0x7F tag .busy []))

/-- SET_BRIGHTNESS takes the bias, the mode and, in MANUAL, the level up to N_max, and refuses a mode that is none and
a bias beyond 64; then a step runs at once, which writes nothing while a driver write executes. -/
def Obligations.SetBrightnessActs : Prop :=
  ∀ (s : State) (tag m lo hi bias : Byte), s.servesRequests →
    ((3 < m.toNat ∨ 64 < bias.toInt ∨ bias.toInt < -64) →
      exec (.setBrightness tag [m, lo, hi, bias]) s = .next (s.answered 0x24 tag .notApplicable [])) ∧
    (∀ mode, modeOfCode m.toNat = some mode → -64 ≤ bias.toInt → bias.toInt ≤ 64 →
      ∃ n, 4000 ≤ n ∧ exec (.setBrightness tag [m, lo, hi, bias]) s = .next (run n [.brightStep]
        { s.answered 0x24 tag .ok [] with brc := { s.brc with
            mode := mode, bias := bias.toInt
            manual := if mode = .manual then some (min (pair lo hi) s.light.nMax) else none
            hold := if mode = .hold then (if s.brc.mode = .hold then s.brc.hold else s.brc.level) else none } })) ∧
    (∀ mode code, modeOfCode m.toNat = some mode → -64 ≤ bias.toInt → bias.toInt ≤ 64 → s.brc.write = .executing code →
      ∃ t, exec (.setBrightness tag [m, lo, hi, bias]) s = .next t ∧
        t.sru = (s.answered 0x24 tag .ok []).sru ∧ t.brc.mode = mode ∧ t.brc.bias = bias.toInt ∧
        t.brc.manual = (if mode = .manual then some (min (pair lo hi) s.light.nMax) else none) ∧
        t.brc.hold = (if mode = .hold then (if s.brc.mode = .hold then s.brc.hold else s.brc.level) else none) ∧
        t.brc.write = s.brc.write ∧ t.brc.written = s.brc.written ∧
        (s.brc.ceiling.isSome = true → t.brc.step = some { start := s.now, dur := s.light.period }) ∧
        t.ports = s.ports ∧ t.ppc = s.ppc ∧ t.bays = s.bays ∧ t.mtu = s.mtu ∧ t.smi = s.smi)

/-- REQUEST_SWAP releases a READY or ACTIVE bay with origin REQUEST, and RETRY_BAY begins an admission in a FAULTED
bay whose latch is CLOSED; both are else NOT_APPLICABLE, as for a bay byte above 1. The bay's release waits for the
end of an awaited attempt. -/
def Obligations.SwapAndRetryAct : Prop :=
  ∀ (s : State) (tag : Byte), s.servesRequests →
    (∀ b : Byte, 1 < b.toNat →
      (s.sru.background = .none → exec (.requestSwap tag [b]) s = .next (s.answered 0x25 tag .notApplicable [])) ∧
      exec (.retryBay tag [b]) s = .next (s.answered 0x26 tag .notApplicable [])) ∧
    ∀ bay : Bay,
    let b : Byte := match bay with | .a => 0 | .b => 1
    (s.sru.background = .none → (s.bay bay).state ≠ .ready → (s.bay bay).state ≠ .active →
      exec (.requestSwap tag [b]) s = .next (s.answered 0x25 tag .notApplicable [])) ∧
    (((s.bay bay).state ≠ .faulted ∨ (s.bay bay).latchClosed = false) →
      exec (.retryBay tag [b]) s = .next (s.answered 0x26 tag .notApplicable [])) ∧
    (s.engaged → s.switchesSafe →
      (s.sru.background = .none → ((s.bay bay).state = .ready ∨ (s.bay bay).state = .active) →
        ∃ t, exec (.requestSwap tag [b]) s = .next t ∧
          t.bay bay = { s.bay bay with state := .releasing, entry := s.now, origin := some .request, wasActive := false } ∧
          t.bay (otherBay bay) = s.bay (otherBay bay) ∧ t.sru.background = .swap bay ∧
          t.sru.response = some { code := 0x25, tag := tag, status := .accepted, payload := [], current := true } ∧
          t.ppc.waitRelease.get bay = some .request ∧ t.ppc.attempt = s.ppc.attempt ∧ t.mtu = s.mtu ∧
          t.ports = s.ports) ∧
      ((s.bay bay).state = .faulted → (s.bay bay).latchClosed = true →
        ∃ t, exec (.retryBay tag [b]) s = .next t ∧
          t.bay bay = { s.bay bay with
            state := .identifying, entry := s.now, seat := none, origin := none, faultReason := none
            faultPending := false, identify := some { start := s.now, dur := s.supply.identify }
            admission := admissionList s.sru.committed.polls bay } ∧
          t.bay (otherBay bay) = s.bay (otherBay bay) ∧ t.sru = (s.answered 0x26 tag .ok []).sru ∧
          (t.source (baySrc bay)).sw = .off ∧ t.ppc.attempt = s.ppc.attempt ∧ t.mtu = s.mtu ∧ t.ports = s.ports))

/-! ## Background operations and the settings memory (Chapters 9 and 11) -/

/-- The load after power-on reset ends and traffic opens: at once with the built-in tables (log entry 9) when the
memory does not answer, after 1 ms with them on another header, after 60 ms with them on another CRC, each with
SETTINGS_DEFAULTED; else after 60 ms with the stored tables. At a part that has done nothing since its reset the
blocks then start: the poll entries, the bays with their lines, the power path with its start-up attempt, the
classifier, the Brightness Controller and the Motion Unit. -/
def Obligations.LoadOpensTraffic : Prop :=
  ∀ (s : State) (start : Time) (answered : Bool), s.agenda = [] → s.smi.activity = .loading start →
    s.sru.resetPending = false →
    (age s.now start < s.loadWait answered → exec (.settingsLoadEnd answered) s = .next s) ∧
    (s.loadWait answered ≤ age s.now start →
      ((∀ seg, (s.port seg).bare) → ∃ t, exec (.settingsLoadEnd answered) s = .next t ∧ t.uli.phase = .idle ∧
        t.smi = s.loadEnded answered ∧ t.sru.generation = s.loadGeneration answered ∧
        t.sru.committed = s.loadTables answered ∧ t.sru.staging = s.loadTables answered ∧
        t.sru.supplyForce = (s.loadTables answered).supply ∧ t.sru.motionForce = (s.loadTables answered).motion) ∧
      (s.starting →
        let supply := supplyOf (s.loadTables answered).supply
        let light := lightOf (s.loadTables answered).light
        let c := powerCeiling light supply.bridge
        let target : Src := if s.lines.dcinOk then .dc else .br
        let reason : MoveReason := if s.lines.dcinOk then .dcArrival else .policy
        ∃ t, exec (.settingsLoadEnd answered) s = .next t ∧ t.ntq = s.loadNotice answered s.ntq ∧
          t.ports = s.ports ∧ t.slots = s.slots ∧ (∀ place, t.poll place = t.pollStarts place) ∧
          (∀ bay,
            let latch := (s.bay bay).latchFilter.opens s.now supply.debounce
            let presence := (s.bay bay).presenceFilter.opens s.now supply.debounce
            t.bay bay = { s.bay bay with
              latchFilter := latch, presenceFilter := presence, latchClosed := latch.out, present := presence.out
              state := if presence.out then .seated else .empty
              entry := if presence.out then s.now else 0
              seat := if presence.out then some { start := s.now, dur := supply.seat } else none }) ∧
          t.ppc.attempt = some { kind := .startup, target := target, old := none, reason := reason
                                 confirm := { start := s.now, dur := 5 }, rest := [] } ∧
          t.ppc.record = some { origin := none, target := target, reason := reason, start := s.now, finish := none
                                result := none } ∧
          (t.source target).sw = .on ∧ t.ppc.onSrc = none ∧ t.ppc.managed = false ∧ t.ppc.startup = s.ppc.startup ∧
          t.ppc.bridge = (if s.lines.dcinOk then none else some { start := s.now, dur := 1000 * supply.bridgeTime }) ∧
          t.classifier = { s.classifier with allowance := supply.bridge } ∧
          t.brc = { s.brc with
            ceiling := some c, level := some (min light.start c)
            step := some { start := s.now, dur := light.period } } ∧
          t.mtu = { s.mtu with lossSince := some s.now }))

/-- The read of a SOFT_RESET ends, at a part with nothing at its ports and no admission, while a confirm is awaited: the
ring, the notice queue and the snapshot are emptied; the tables are loaded, SUPPLY to take force at
the attempt's end and MOTION at the close of an open record; the poll entries start afresh; SUSPENDED ends and a
running transaction ends its port's count; the Brightness Controller is in AUTO without a bias; and the request's own
response reads DONE with the generation and the mark of a commit given up, if it is still current and the request's
(the model's choice, log entry 15). A waiting response read that is held for that record is answered with it; any
other hold stays as it is. Where no confirm is awaited the loaded SUPPLY is in force at the end of the handling. -/
def Obligations.ResetActs : Prop :=
  (∀ (s : State) (start : Time) (answered : Bool), s.agenda = [] → s.ppc.attempt = none → s.ppc.moving = false →
    s.ppc.switching = false → s.smi.activity = .loading start → s.sru.resetPending = true →
    s.loadWait answered ≤ age s.now start →
    (∀ seg, (s.port seg).queue = [] ∧ (s.port seg).lane = none ∧ (s.port seg).mark = .none) →
    (∀ bay, (s.bay bay).state ≠ .identifying) →
    ∃ t, exec (.settingsLoadEnd answered) s = .next t ∧ t.smi = s.loadEnded answered ∧
      t.sru.generation = s.loadGeneration answered ∧ t.sru.committed = s.loadTables answered ∧
      t.sru.staging = s.loadTables answered ∧ t.sru.supplyForce = (s.loadTables answered).supply ∧
      t.ppc.switching = false ∧
      (s.mtu.openRec = none → t.sru.motionForce = (s.loadTables answered).motion)) ∧
  ∀ (s : State) (start : Time) (answered : Bool), s.engaged → s.smi.activity = .loading start →
    s.sru.resetPending = true → s.loadWait answered ≤ age s.now start →
    (∀ seg, (s.port seg).queue = [] ∧ (s.port seg).lane = none ∧ (s.port seg).mark = .none) →
    (∀ bay, (s.bay bay).state ≠ .identifying) →
    let emptied : State := { s with uli := { s.uli with ring := [] } }
    let payload := [BitVec.ofNat 8 (s.loadGeneration answered).toNat,
      BitVec.ofNat 8 ((s.loadGeneration answered).toNat / 256), if s.sru.gaveUp then 1 else 0]
    ∃ t, exec (.settingsLoadEnd answered) s = .next t ∧
      ((s.uli.phase = .held → ∀ x, s.uli.txn = some x → x.snap.isSome = true) → t.uli = emptied.uli) ∧
      (∀ r, s.waitsFor r →
        (r.code = 0x7F → t.uli = (emptied.released r .done payload).uli) ∧
        (r.code ≠ 0x7F → t.uli = emptied.uli)) ∧
      t.smi = s.loadEnded answered ∧ t.sru.generation = s.loadGeneration answered ∧
      t.sru.committed = s.loadTables answered ∧ t.sru.staging = s.loadTables answered ∧
      t.sru.supplyForce = s.sru.supplyForce ∧ t.ppc.supplyDue = true ∧ t.ppc.attempt = s.ppc.attempt ∧
      (s.mtu.openRec.isSome = true → t.sru.motionForce = s.sru.motionForce ∧ t.mtu.motionDue = true ∧
        t.mtu = { s.mtu with motionDue := true } ∧ t.bays = s.bays) ∧
      (s.mtu.openRec = none → t.sru.motionForce = (s.loadTables answered).motion ∧ t.mtu.motionDue = false) ∧
      t.sru.snapshot = none ∧ t.sru.resetPending = false ∧ t.sru.gaveUp = false ∧
      t.sru.background = s.sru.background ∧
      t.sru.response = s.sru.response.map (fun r =>
        if r.current = true ∧ r.code = 0x7F then
          { r with status := .done, current := false, payload := payload }
        else r) ∧
      (∀ n ∈ t.ntq.queue, n.time = s.now) ∧
      (∀ place, t.poll place = t.pollStarts place) ∧
      (∀ seg, (t.port seg).queue = [] ∧ (t.port seg).lane = none ∧ (t.port seg).mark = .none ∧
        (t.port seg).suspension = none ∧ (t.port seg).recovery = (s.port seg).recovery ∧
        (t.port seg).state = (if (s.port seg).state = .suspended then .idle else (s.port seg).state) ∧
        (t.port seg).timeouts = (if (s.port seg).state = .busy then (s.port seg).timeouts else 0) ∧
        (t.port seg).clearCount = ((s.port seg).clearCount || (s.port seg).state == .busy)) ∧
      t.brc.mode = .auto ∧ t.brc.bias = 0 ∧ t.brc.manual = none ∧ t.brc.hold = none ∧ t.brc.write = s.brc.write

/-- Validation ends 2 ms after acceptance: the commit then waits for its switch, or fails with INVALID_TABLE, the
failing table and its index. The commit limit ends a commit with BUSY and its unmet conditions 50 ms after acceptance.
The model's choice (log entry 3, standing in for the first moment of R181): where the expiry finds the commit waiting
with no condition unmet, COMMIT_LIMIT_EXPIRY does what COMMIT_SWITCH does. The unmet conditions are the held ports that
are not READY, an awaited confirm under SUPPLY, and an open record under MOTION. No held port is IDLE here (the order
of its boundary at a failure is the model's choice, log entry 45). -/
def Obligations.CommitValidatesOrFails : Prop :=
  ∀ (s : State) (c : CommitRec) (tag : Byte), s.agenda = [] → s.sru.background = .commit c → s.awaitsEnd 0x06 tag →
    (∀ seg, c.held.get seg = true → (s.port seg).state ≠ .idle) →
    (c.waiting = false → age s.now c.limit.start < 2 → exec .commitValidationEnd s = .next s) ∧
    (c.waiting = false → 2 ≤ age s.now c.limit.start →
      (firstFailure (addrByte (serviceAddr s.lines.addrSelHigh)) c.mask s.sru.staging = none →
        exec .commitValidationEnd s =
          .next { s with sru := { s.sru with background := .commit { c with waiting := true } } }) ∧
      (∀ n i, firstFailure (addrByte (serviceAddr s.lines.addrSelHigh)) c.mask s.sru.staging = some (n, i) →
        exec .commitValidationEnd s = .next (s.commitFailed c tag .invalidTable
          [BitVec.ofNat 8 n, BitVec.ofNat 8 i] ((256 * n + i : Nat) : Int)))) ∧
    (age s.now c.limit.start < c.limit.dur → exec .commitLimitExpiry s = .next s) ∧
    (c.limit.dur ≤ age s.now c.limit.start →
      ((c.waiting = false ∨ s.unmet c ≠ 0) → exec .commitLimitExpiry s = .next
        (s.commitFailed c tag .busy [BitVec.ofNat 8 (s.unmet c)] ((s.unmet c : Nat) : Int))) ∧
      (c.waiting = true → s.unmet c = 0 → exec .commitLimitExpiry s = exec .commitSwitch s)) ∧
    (∀ seg, (s.unmet c).testBit (segNumber seg - 1) =
      (c.held.get seg && decide ((s.port seg).mark ≠ .ready))) ∧
    (s.unmet c).testBit 4 = (bitAt c.mask 6 && s.ppc.attempt.isSome) ∧
    (s.unmet c).testBit 5 = (bitAt c.mask 7 && s.mtu.openRec.isSome) ∧ s.unmet c < 64

/-- The switch: when the commit waits and no condition is unmet, every masked table takes its staging image, the
generation becomes the requested one, and the held ports are released; else nothing happens. ROUTES keeps the
indicators of the entries whose key, segment and downstream address are unchanged. Each masked block takes its table:
SUPPLY and MOTION are in force at the end of the handling, and the Power Path Controller's part of SUPPLY brings the
held-off marks, the eligibilities and the bridge timer under the new limits before it is a trigger (log entry 53). A
pack's switch follows its held-off mark unless it is ON: OFF under it, STANDBY in READY and SUSPECT without it. The
operation ends DONE with the generation and the mask, and COMMIT_DONE is posted. The model's choices: the mark stays
as it was where the temperature slot is not FRESH, and the SUPPLY table brings triggers alone, no takeover from an ON
pack that it holds off (log entry 31); the boundary of a held port comes after the end and the notice (log entry 45),
and of two places with one key the lowest is meant (log entry 54). -/
def Obligations.CommitSwitchesTables : Prop :=
  (∀ s : State,
    let t := (handle .supplyPower s).1
    (handle .supplyPower s).2 = [.trigger, .settled] ∧ t.ppc.switching = false ∧ t.ppc.attempt = s.ppc.attempt ∧
    (∀ bay, (s.slot (temperatureSlot bay)).state = .fresh → (t.source (baySrc bay)).heldOff =
      decide ((s.supply.temperature : Int) < (s.slot (temperatureSlot bay)).value)) ∧
    (∀ bay, (s.slot (temperatureSlot bay)).state ≠ .fresh →
      (t.source (baySrc bay)).heldOff = (s.source (baySrc bay)).heldOff) ∧
    (∀ bay, (t.source (baySrc bay)).sw =
      if (s.source (baySrc bay)).sw = .on then .on
      else if (t.source (baySrc bay)).heldOff then .off
      else if (s.bay bay).state = .ready ∨ (s.bay bay).state = .suspect then .standby
      else (s.source (baySrc bay)).sw) ∧
    (∀ x, (t.source x).eligible = t.eligibleNow x) ∧
    (s.ppc.bridge = none → t.ppc.bridge = none) ∧
    ∀ b, s.ppc.bridge = some b →
      let limit := 1000 * s.supply.bridgeTime
      (age s.now b.start < limit → t.ppc.bridge = some { start := b.start, dur := limit }) ∧
      (limit ≤ age s.now b.start → t.ppc.bridge = none ∧ t.ppc.causeBridge = true)) ∧
  ∀ (s : State) (c : CommitRec), s.agenda = [] → s.sru.background = .commit c →
    ((c.waiting = false ∨ s.unmet c ≠ 0) → exec .commitSwitch s = .next s) ∧
    (c.waiting = true → s.unmet c = 0 →
      let old := s.sru.committed.routes
      let new := s.sru.staging.routes
      let payload := [BitVec.ofNat 8 c.gen.toNat, BitVec.ofNat 8 (c.gen.toNat / 256), c.mask]
      ∃ t, exec .commitSwitch s = .next t ∧ t.sru.generation = c.gen ∧ t.sru.staging = s.sru.staging ∧
        t.sru.committed.guards = (if bitAt c.mask 1 then s.sru.staging.guards else s.sru.committed.guards) ∧
        t.sru.committed.polls = (if bitAt c.mask 2 then s.sru.staging.polls else s.sru.committed.polls) ∧
        t.sru.committed.snoops = (if bitAt c.mask 3 then s.sru.staging.snoops else s.sru.committed.snoops) ∧
        t.sru.committed.slots = (if bitAt c.mask 4 then s.sru.staging.slots else s.sru.committed.slots) ∧
        t.sru.committed.light = (if bitAt c.mask 5 then s.sru.staging.light else s.sru.committed.light) ∧
        t.sru.committed.supply = (if bitAt c.mask 6 then s.sru.staging.supply else s.sru.committed.supply) ∧
        t.sru.committed.motion = (if bitAt c.mask 7 then s.sru.staging.motion else s.sru.committed.motion) ∧
        t.smi = s.smi ∧ (∀ seg, c.held.get seg = true → (t.port seg).mark = .none) ∧
        ((∀ seg, (s.port seg).lane = none) →
          (bitAt c.mask 0 = false → t.sru.committed.routes = old) ∧
          (bitAt c.mask 0 = true → new.length = 392 →
            t.sru.committed.routes.length = 392 ∧
            (∀ i, ¬(i < 384 ∧ i % 12 = 11) → byteAt t.sru.committed.routes i = byteAt new i) ∧
            ∀ p, p < 32 →
              let key := byteAt new (12 * p)
              let b := byteAt t.sru.committed.routes (12 * p + 11)
              b &&& 0xFC = byteAt new (12 * p + 11) &&& 0xFC ∧
              ((key = 0 ∨ routePlace old key = none) → b &&& 3 = 0) ∧
              (∀ q, key ≠ 0 → routePlace old key = some q → b &&& 3 =
                if slice old (12 * q) 3 = slice new (12 * p) 3 then byteAt old (12 * q + 11) &&& 3 else 0))) ∧
        (bitAt c.mask 6 = true → t.sru.supplyForce = s.sru.staging.supply) ∧
        (bitAt c.mask 6 = false → s.ppc.supplyDue = false → t.sru.supplyForce = s.sru.supplyForce) ∧
        (bitAt c.mask 7 = true → t.sru.motionForce = s.sru.staging.motion) ∧
        (bitAt c.mask 7 = false → s.mtu.motionDue = false → t.sru.motionForce = s.sru.motionForce) ∧
        (bitAt c.mask 7 = true → bitAt c.mask 4 = false → bitAt c.mask 6 = false → t.mtu.motionDue = false) ∧
        (bitAt c.mask 4 = true → s.ppc.attempt.isSome = true → ∀ slot,
          let x := s.slot slot
          let limit := u16 s.sru.staging.slots (2 * slot.val)
          t.slot slot = if x.state = .fresh ∧ limit ≠ 0 ∧ (∃ since, x.time = some since ∧ limit < age s.now since) then
            { x with state := .stale } else x) ∧
        (c.mask &&& 0xD0 = 0 →
          (bitAt c.mask 5 = true → t.brc.ceiling = s.brc.ceiling.map (fun _ =>
            powerCeiling (lightOf s.sru.staging.light) s.classifier.allowance)) ∧
          (bitAt c.mask 2 = true → (∀ seg, (s.port seg).bare) → (∀ bay, (s.bay bay).state ≠ .identifying) →
            ∀ place, t.poll place =
              match pollAt s.sru.committed.polls place.val, pollAt s.sru.staging.polls place.val with
              | some a, some b =>
                if a.kind = b.kind ∧ a.target = b.target ∧ a.cmd = b.cmd ∧ a.period = b.period then s.poll place
                else t.pollStarts place
              | _, _ => t.pollStarts place)) ∧
        (∀ tag, s.awaitsEnd 0x06 tag →
          ((c.mask &&& 0xD0 = 0 ∨ s.ppc.attempt.isSome = true) → t.sru.background = .none ∧
            t.sru.response =
              some { code := 0x06, tag := tag, status := .done, payload := payload, current := false }) ∧
          (c.mask &&& 0xF4 = 0 →
            (∀ seg, c.held.get seg = true → (s.port seg).queue = [] ∧ (s.port seg).lane = none) →
            t = State.notify
              (State.ended
                { s.mapPorts c.segments (fun p => { p with mark := .none }) with
                  sru := { s.sru with committed := t.sru.committed, generation := c.gen } } 0x06 tag .done payload)
              { kind := .commitDone, severity := .info, subject := 0, arg1 := c.gen.toNat, arg2 := c.mask.toNat })))

/-- A page of a save 5 ms after its start: read back as written, the save goes on with the next of 630 image pages,
the last of two bytes (log entry 29), or, after the header page, ends DONE with the generation; else it ends FAILED
with the page's offset. The cells of the page hold what it then reads as (log entry 30). That a page which is not
acknowledged fails after its 5 ms is the model's choice (log entry 59). A raw write goes on page by page without
reading back. -/
def Obligations.PagesAreWritten : Prop :=
  ∀ s : State, s.agenda = [] →
    (∀ (r : SaveRec) (tag : Byte) (held : List Byte), s.smi.activity = .saving r → 5 ≤ age s.now r.start →
      s.sru.background = .save → s.awaitsEnd 0x07 tag →
      let offset := if r.done < 630 then 8 * (r.done + 1) else 0
      let bytes := (r.image.drop offset).take 8
      let got := held.take bytes.length
      let memory := writeRun s.smi.memory offset got
      let smi : Smi := { s.smi with memory := memory, answers := true, activity := .idle }
      (got = bytes → r.done < 630 → exec (.savePageDone true held) s = .next
        { s with smi := { smi with activity := .saving { r with done := r.done + 1, start := s.now } } }) ∧
      (got = bytes → r.done = 630 → exec (.savePageDone true held) s = .next
        (State.ended { s with smi := smi } 0x07 tag .done
          [BitVec.ofNat 8 r.gen.toNat, BitVec.ofNat 8 (r.gen.toNat / 256)])) ∧
      (got ≠ bytes → exec (.savePageDone true held) s = .next
        (State.ended { s with smi := smi } 0x07 tag .failed
          [BitVec.ofNat 8 offset, BitVec.ofNat 8 (offset / 256)])) ∧
      exec (.savePageDone false held) s = .next
        (State.ended { s with smi := { smi with answers := false } } 0x07 tag .failed
          [BitVec.ofNat 8 offset, BitVec.ofNat 8 (offset / 256)])) ∧
    (∀ (r : RawRec) (offset : Nat) (bytes : List Byte) (rest : List (Nat × List Byte)),
      s.smi.activity = .rawWriting r → r.pages = (offset, bytes) :: rest → 5 ≤ age s.now r.start →
      let next : SmiActivity := if rest = [] then .idle else .rawWriting { pages := rest, start := s.now }
      exec .rawWritePageDone s = .next
        { s with smi := { s.smi with memory := writeRun s.smi.memory offset bytes, activity := next } })

/-! ## Segment ports, polls and telemetry (Chapters 2 and 3) -/

/-- An executing transaction reaches its stop. The bytes driven and the outcome: NACK_TARGET at an address byte that
is not acknowledged and NACK_DATA at another, each with a stop at once; else DONE, or CRC_BAD for a checked read whose
trailer does not match; a byte of a read that the device does not drive reads 0xFF (log entry 35). The items stand in
the port's wire record (log entry 39). With nothing else at the port: the driver's level write is recorded as written;
a pass-lane write is recorded and, when it is not DONE, reported; a held read through a pass window is answered or
NACKed; a PERIODIC read changes its entry's status. The port is then IDLE with the count 0. -/
def Obligations.PortTransactionCompletes : Prop :=
  (∀ f : WireTxn,
    let a := addressByte f.down false
    let r := addressByte f.down true
    let bytes := [a, f.cmd] ++ f.data ++ f.sentTrailer.toList
    (f.write = true →
      (∀ n, n < bytes.length → f.finish (.notAcknowledged n) = some
        { outcome := if n = 0 then .nackTarget else .nackData, data := [], trailer := 0
          wire := [.start] ++ (List.range (n + 1)).map (fun i => .sent (bytes.getD i 0) (decide (i < n))) ++ [.stop] }) ∧
      (∀ n, bytes.length ≤ n → f.finish (.notAcknowledged n) = none) ∧
      (∀ data trailer, f.finish (.exchanged data trailer) = some
        { outcome := .done, data := [], trailer := trailer
          wire := [.start] ++ bytes.map (fun b => .sent b true) ++ [.stop] })) ∧
    (f.write = false →
      f.finish (.notAcknowledged 0) = some
        { outcome := .nackTarget, data := [], trailer := 0, wire := [.start, .sent a false, .stop] } ∧
      f.finish (.notAcknowledged 1) = some
        { outcome := .nackData, data := [], trailer := 0, wire := [.start, .sent a true, .sent f.cmd false, .stop] } ∧
      f.finish (.notAcknowledged 2) = some
        { outcome := .nackTarget, data := [], trailer := 0
          wire := [.start, .sent a true, .sent f.cmd true, .restart, .sent r false, .stop] } ∧
      (∀ n, 3 ≤ n → f.finish (.notAcknowledged n) = none) ∧
      (∀ data trailer,
        let got := (List.range f.readLen).map fun i => data.getD i 0xFF
        let all := got ++ (if f.checked then [trailer] else [])
        f.finish (.exchanged data trailer) = some
          { outcome := if f.checked = true ∧ trailer ≠ crc8 ([a, f.cmd, r] ++ got) then .crcBad else .done
            data := got
            trailer := trailer
            wire := [.start, .sent a true, .sent f.cmd true, .restart, .sent r true] ++
              (List.range all.length).map (fun i => .taken (all.getD i 0) (decide (i + 1 < all.length))) ++
              [.stop] }))) ∧
  (∀ x : EngTxn, x.form =
    { write := x.write, down := x.down, cmd := x.cmd, data := x.data, readLen := x.readLen, checked := x.checked
      sentTrailer := if x.checked then some (crc8 ([addressByte x.down false, x.cmd] ++ x.data)) else none }) ∧
  (∀ x : LaneTxn, x.form =
    { write := x.write, down := x.snap.down, cmd := x.cmd, data := x.data, readLen := 32, checked := x.snap.checked
      sentTrailer := x.trailer }) ∧
  (∀ (s : State) (seg : Seg) (answer : DeviceAnswer) (since : Time), s.agenda = [] → (s.port seg).state = .busy →
    (s.port seg).queue = [] → (s.port seg).mark = .none →
    let port : Port :=
      { s.port seg with state := .idle, running := none, lane := none, timeouts := 0, clearCount := false }
    let complete := exec (.portTransactionComplete seg answer) s
    (∀ x, (s.port seg).running = some (.engine x, since) → x.form.finish answer = none → complete = .next s) ∧
    (∀ x (e : WireEnd), (s.port seg).running = some (.engine x, since) → (s.port seg).lane = none →
      x.form.finish answer = some e →
      let s1 := s.setPort seg { port with wire := e.wire }
      (x.issuer = .brc → e.outcome = .done →
        let brc : Brc := { s.brc with
          write := .none, written := u16 x.data 0, noneWritten := false, owed := false, failures := 0 }
        complete = .next { s1 with brc := brc }) ∧
      (∀ tag entry, x.issuer = .ple tag → tag.orphan = false → tag.descs = [] → s.pollEntry tag.place = some entry →
        entry.kind = .periodic →
        let p := s.poll tag.place
        complete = .next (s1.setPoll tag.place { p with
          state := .idle, lastOutcome := some e.outcome, lastCompletion := some s.now
          failures := if e.outcome = .done then 0 else min (p.failures + 1) 255 }))) ∧
    (∀ x (e : WireEnd), (s.port seg).running = some (.lane, since) → (s.port seg).lane = some x →
      (x.form.finish answer = none → complete = .next s) ∧
      (x.form.finish answer = some e →
        let s1 := s.setPort seg { port with wire := e.wire }
        (x.write = true →
          let t := s1.withRecord x.addr (some x.cmd) .write e.outcome
          complete = .next (if e.outcome = .done then t else t.notify
            { kind := .passWriteFailed, severity := .warn, subject := segNumber x.snap.seg, arg1 := s.uli.seq.toNat
              arg2 := outcomeCode e.outcome })) ∧
        (x.write = false → x.recorded = false → x.snap.key = none → x.snap.checked = false →
          complete = .next (if e.outcome = .done then (s1.withRecord x.addr (some x.cmd) .read .done).answering e.data
            else s1.turnedAway x.addr (some x.cmd) .read e.outcome)))))

/-- The timers of a port. The 25 ms limit of an executing transaction: TIMEOUT, the count advanced to at most 3, and 1
ms of recovery; a posted write is recorded and reported, a driver write counts as a failure. The end of a recovery,
nine clock pulses and a stop, at a port that holds nothing: IDLE below three timeouts, SUSPENDED for 1,000 ms with its
notice at three. The end of a suspension: IDLE with the count 0, SEGMENT_RESUMED, and a pending run for each SETUP
entry of the segment, which ends an earlier wait of that entry (log entry 25). -/
def Obligations.PortTimersExpire : Prop :=
  (∀ (s : State) (seg : Seg) (x : Running) (since : Time), s.agenda = [] → (s.port seg).running = some (x, since) →
    (age s.now since < 25 → exec (.transactionTimeLimit seg) s = .next s) ∧
    (25 ≤ age s.now since →
      let port : Port := { s.port seg with
        state := .recovering, running := none
        timeouts := if (s.port seg).clearCount then 0 else min ((s.port seg).timeouts + 1) 3
        clearCount := false, recovery := some { start := s.now, dur := 1 } }
      (∀ w, x = .lane → (s.port seg).lane = some w → w.write = true →
        exec (.transactionTimeLimit seg) s = .next
          (((s.setPort seg { port with lane := none }).withRecord w.addr (some w.cmd) .write .timeout).notify
            { kind := .passWriteFailed, severity := .warn, subject := segNumber w.snap.seg, arg1 := s.uli.seq.toNat
              arg2 := outcomeCode .timeout })) ∧
      (∀ w, x = .engine w → w.issuer = .brc →
        let brc : Brc := { s.brc with write := .none, owed := true, failures := min (s.brc.failures + 1) 255 }
        let t : State := { s with brc := brc }.setPort seg port
        exec (.transactionTimeLimit seg) s = .next (if s.brc.failures = 2 then t.notify
          { kind := .backlightWriteFailed, severity := .warn, subject := segNumber seg
            arg1 := outcomeCode .timeout, arg2 := u16 w.data 0 } else t)))) ∧
  (∀ (s : State) (seg : Seg) (x : Timer), s.agenda = [] → (s.port seg).bare → (s.port seg).mark = .none →
    let wire : List BusItem := [.clock, .clock, .clock, .clock, .clock, .clock, .clock, .clock, .clock, .stop]
    ((s.port seg).state = .recovering → (s.port seg).recovery = some x →
      (age s.now x.start < x.dur → exec (.recoveryEnd seg) s = .next s) ∧
      (x.dur ≤ age s.now x.start → (s.port seg).timeouts < 3 → exec (.recoveryEnd seg) s =
        .next (s.setPort seg { s.port seg with state := .idle, recovery := none, wire := wire })) ∧
      (x.dur ≤ age s.now x.start → (s.port seg).timeouts = 3 →
        exec (.recoveryEnd seg) s = .next ((s.setPort seg { s.port seg with
            state := .suspended, recovery := none, wire := wire
            suspension := some { start := s.now, dur := 1000 } }).notify
          { kind := .segmentSuspended, severity := .warn, subject := segNumber seg, arg1 := 0, arg2 := 0 }))) ∧
    ((s.port seg).state = .suspended → (s.port seg).suspension = some x →
      (age s.now x.start < x.dur → exec (.suspensionExpiry seg) s = .next s) ∧
      (x.dur ≤ age s.now x.start → ∃ t, exec (.suspensionExpiry seg) s = .next t ∧
        t.ports = s.ports.set seg { s.port seg with state := .idle, suspension := none, timeouts := 0 } ∧
        t.ntq = s.ntq.post s.now
          { kind := .segmentResumed, severity := .info, subject := segNumber seg, arg1 := 0, arg2 := 0 } ∧
        (∀ place, t.poll place = match s.pollEntry place with
          | some e => if e.kind = .setup ∧ s.keySeg e.target = some seg then
              { s.poll place with
                nextDue := some (later s.now e.phase), dueTaken := false, gateWait := false, runAfter := false }
            else s.poll place
          | none => s.poll place) ∧
        t.uli = s.uli ∧ t.slots = s.slots ∧ t.ppc = s.ppc ∧ t.bays = s.bays ∧ t.brc = s.brc ∧ t.mtu = s.mtu ∧
        t.sru = s.sru ∧ t.smi = s.smi)))

/-- An engine transaction placed at a port joins its queue; at eight it is refused with reason FULL, unless it is
MOTION: that evicts the oldest POLL, else the oldest CONTROL, which completes first with reason EVICTED, after which
the placement is made again (the model's choice, log entry 55). At its boundary an IDLE port selects the oldest
MOTION, then its pass lane, then the oldest CONTROL, then the oldest POLL; a held port selects MOTION alone and
becomes READY when none waits. Every POLL passed over counts it, and the fourth time becomes CONTROL. A selected
transaction starts, or completes ABSENT at a closed gate and the port reaches its next boundary. A write that starts
marks the lowest place of its route key (log entry 54). -/
def Obligations.PortsPlaceAndSelect : Prop :=
  (∀ (s : State) (seg : Seg) (x : EngTxn),
    let p := s.port seg
    let place := handle (.place seg x) s
    ((p.state = .suspended ∨ p.state = .isolated) → place = (s, [.engineDone seg x .absent none []])) ∧
    (p.state ≠ .suspended → p.state ≠ .isolated →
      (p.queue.length < 8 → place =
        (s.setPort seg { p with
          queue := p.queue ++ [{ x with arrival := p.arrival, passedOver := 0 }], arrival := p.arrival + 1 },
          if p.state = .idle then [.boundary seg] else [])) ∧
      (8 ≤ p.queue.length →
        ((x.cls ≠ .motion ∨ ∀ y ∈ p.queue, y.cls = .motion) →
          place = (s, [.engineDone seg x .absent (some .full) []])) ∧
        (∀ front v back, x.cls = .motion → p.queue = front ++ v :: back → (∀ y ∈ front, y.arrival ≠ v.arrival) →
          (v.cls = .poll ∧ (∀ y ∈ front, y.cls ≠ .poll) ∨
            v.cls = .control ∧ (∀ y ∈ front, y.cls ≠ .control) ∧ ∀ y ∈ p.queue, y.cls ≠ .poll) →
          place = (s.setPort seg { p with queue := front ++ back },
            [.engineDone seg v .absent (some .evicted) [], .place seg x]))))) ∧
  (∀ (s : State) (seg : Seg),
    let p := s.port seg
    let boundary := handle (.boundary seg) s
    let noMotion := ∀ y ∈ p.queue, y.cls ≠ .motion
    let noControl := ∀ y ∈ p.queue, y.cls ≠ .control
    let passed := fun (y : EngTxn) => if y.cls = .poll then
      { y with passedOver := y.passedOver + 1, cls := if y.passedOver + 1 < 4 then .poll else .control } else y
    (p.state ≠ .idle → boundary = (s, [])) ∧
    (p.state = .idle →
      (noMotion → p.mark ≠ .none → boundary = (s.setPort seg { p with mark := .ready }, [])) ∧
      (p.queue = [] → p.lane = none → p.mark = .none → boundary = (s, [])) ∧
      (∀ front x back, p.queue = front ++ x :: back → (∀ y ∈ front, y.arrival ≠ x.arrival) →
        (x.cls = .motion ∧ (∀ y ∈ front, y.cls ≠ .motion) ∨
          noMotion ∧ p.mark = .none ∧ p.lane = none ∧
            (x.cls = .control ∧ (∀ y ∈ front, y.cls ≠ .control) ∨
              x.cls = .poll ∧ noControl ∧ ∀ y ∈ front, y.cls ≠ .poll)) →
        let q := (front ++ back).map passed
        let started := s.setPort seg { p with queue := q, state := .busy, running := some (.engine x, s.now) }
        (s.gateClosed x.gate = true →
          boundary = (s.setPort seg { p with queue := q }, [.engineDone seg x .absent none [], .boundary seg])) ∧
        (s.gateClosed x.gate = false →
          (x.issuer = .mtu → boundary = (started, [])) ∧
          (∀ code, x.issuer = .brc → s.brc.write = .queued code →
            boundary = ({ started with brc := { s.brc with write := .executing code } }, [])) ∧
          (∀ tag, x.issuer = .ple tag → boundary = (if tag.orphan then started else
            started.setPoll tag.place { s.poll tag.place with state := .inFlight }, [])))) ∧
      (∀ x, noMotion → p.mark = .none → p.lane = some x →
        let q := p.queue.map passed
        let started := s.setPort seg { p with queue := q, state := .busy, running := some (.lane, s.now) }
        (s.gateClosed x.snap.gate = true → boundary =
          (s.setPort seg { p with queue := q, lane := none }, [.laneDone x .absent [] 0, .boundary seg])) ∧
        (s.gateClosed x.snap.gate = false →
          ((x.write = false ∨ x.snap.key = none) → boundary = (started, [])) ∧
          (∀ key place r, x.write = true → x.snap.key = some key → s.sru.committed.routes.length = 392 →
            routePlace s.sru.committed.routes key = some place → routeOf s.sru.committed key = some r →
            r.seg = x.snap.seg → r.down = x.snap.down →
            ∃ routes, boundary = ({ started with sru := { s.sru with committed := { s.sru.committed with
                routes := routes } } }, []) ∧ routes.length = 392 ∧
              ∀ i, byteAt routes i = if i = 12 * place + 11 then byteAt s.sru.committed.routes i ||| 2
                else byteAt s.sru.committed.routes i)))))

/-- A poll entry that falls due, alone at its instant. A PERIODIC next-due time advances by one period whatever
happens; a SETUP run keeps its due time while it is pending, and loses it when it waits for a gate. A run that meets
its entry's transaction still placed is missed or waits behind it (log entry 25). Without a route, at a closed gate
and at a SUSPENDED or ISOLATED port nothing is placed: NO_ROUTE or SKIPPED, an admission is told, and a failed SETUP
run falls due again in 100 ms. Else the transaction joins its port's queue. The command for a place takes the lower
places due at the same instant first (log entry 50). -/
def Obligations.DueEntriesRun : Prop :=
  (∀ (s : State) (place : Fin 24), s.agenda = [] →
    (s.isDue place (fun k => k == .periodic) = false → exec (.periodicDue place) s = .next s) ∧
    (s.isDue place (fun k => k == .setup) = false → exec (.setupRunDue place) s = .next s) ∧
    (s.isDue place (fun k => isAdmission k) = false → exec (.admitRunDue place) s = .next s)) ∧
  (∀ (s : State) (place : Fin 24),
    (s.dueWith place).Pairwise (· < ·) ∧ (∀ q, q ∈ s.dueWith place ↔ q ≤ place ∧ s.dueTime q = s.dueTime place) ∧
    (s.agenda = [] →
      let all := Host.Outcome.next (run 4096 ((s.dueWith place).map Task.fallsDue) s)
      (s.isDue place (fun k => k == .periodic) = true → exec (.periodicDue place) s = all) ∧
      (s.isDue place (fun k => k == .setup) = true → exec (.setupRunDue place) s = all) ∧
      (s.isDue place (fun k => isAdmission k) = true → exec (.admitRunDue place) s = all))) ∧
  (∀ (s : State) (place : Fin 24) (e : PollEntry) (due : Time), s.agenda = [] → s.opened = true →
    s.pollEntry place = some e → s.dueWith place = [place] → reached s.now due = true →
    let p := s.poll place
    let setup := exec (.setupRunDue place) s
    let periodic := exec (.periodicDue place) s
    let admRun := exec (.admitRunDue place) s
    let put := fun (q : PollStatus) => Host.Outcome.next (s.setPoll place q)
    let placed := fun (r : RouteSnap) (q : PollStatus) =>
      let x : EngTxn := { pollTxn place e r with arrival := (s.port r.seg).arrival, passedOver := 0 }
      Host.Outcome.next ((s.setPoll place { q with state := .queued }).setPort r.seg
        { s.port r.seg with queue := (s.port r.seg).queue ++ [x], arrival := (s.port r.seg).arrival + 1 })
    let noRoute := routeOf s.sru.committed e.target = none
    let route := fun (r : RouteSnap) => routeOf s.sru.committed e.target = some r
    let away := fun (r : RouteSnap) => (s.port r.seg).state = .suspended ∨ (s.port r.seg).state = .isolated
    let room := fun (r : RouteSnap) => route r ∧ s.gateClosed r.gate = false ∧
      ((s.port r.seg).state = .busy ∨ (s.port r.seg).state = .recovering) ∧ (s.port r.seg).queue.length < 8
    (e.kind = .periodic → p.nextDue = some due →
      let q : PollStatus := { p with nextDue := some (later due e.period) }
      (p.state ≠ .idle → periodic = put { q with late := true }) ∧
      (p.state = .idle → noRoute →
        periodic = put { q with lastOutcome := some .noRoute, failures := min (p.failures + 1) 255 }) ∧
      (∀ r, p.state = .idle → route r → (s.gateClosed r.gate = true ∨ away r) → periodic = put { q with skipped := true }) ∧
      (∀ r, p.state = .idle → room r → periodic = placed r q)) ∧
    (e.kind = .setup → p.nextDue = some due → p.dueTaken = false →
      (p.state ≠ .idle → setup = put { p with dueTaken := true, runAfter := true, late := true }) ∧
      (p.state = .idle → noRoute → setup = put { p with
        nextDue := some (later s.now 100), lastOutcome := some .noRoute, failures := min (p.failures + 1) 255 }) ∧
      (∀ r, p.state = .idle → route r → s.gateClosed r.gate = true →
        setup = put { p with nextDue := none, skipped := true, gateWait := true }) ∧
      (∀ r, p.state = .idle → route r → s.gateClosed r.gate = false → away r →
        setup = put { p with nextDue := none, skipped := true }) ∧
      (∀ r, p.state = .idle → room r → setup = placed r { p with dueTaken := true })) ∧
    (∀ bay, e.kind = .admission bay → p.admitDue = some due →
      let q : PollStatus := { p with admitDue := none }
      (p.state ≠ .idle → admRun = put { q with runAfter := true }) ∧
      (∀ r, p.state = .idle → room r → admRun = placed r q))) ∧
  (∀ (s : State) (place : Fin 24) (e : PollEntry) (bay : Bay), s.pollEntry place = some e → e.kind = .admission bay →
    (s.poll place).state = .idle →
    (routeOf s.sru.committed e.target = none → handle (.pollRun place) s =
      (s.setPoll place { s.poll place with
        lastOutcome := some .noRoute, failures := min ((s.poll place).failures + 1) 255 },
        [.admissionReport bay place .noRoute []])) ∧
    (∀ r, routeOf s.sru.committed e.target = some r →
      (s.gateClosed r.gate = true ∨ (s.port r.seg).state = .suspended ∨ (s.port r.seg).state = .isolated) →
      handle (.pollRun place) s =
        (s.setPoll place { s.poll place with skipped := true }, [.admissionReport bay place .absent []])))

/-- A transaction of the Poll Engine completes: its entry's status, then its descriptors in list order when a read is
DONE, then the rule of its kind. A SETUP run that fell due ends, or falls due again in 100 ms after a failure; a
transaction that another run waits behind is not that run's (log entry 25). An admission is told first, and a run that
waited is placed after it (the model's choice, log entry 70). A descriptor takes its bits from the response, scales,
shifts and offsets them, and ends OUT_OF_FRAME, SATURATED, IMPLAUSIBLE, NO_PACK or WRITTEN; the third IMPLAUSIBLE in a
row raises its notice. A bay whose gate opens releases the SETUP runs that wait for it, those whose target resolves
now to that gate (the model's choice, log entry 41), and one that leaves IDENTIFYING drops its runs not yet placed. An
admission is given each descriptor's slot with its result. -/
def Obligations.PollReadsWriteSlots : Prop :=
  (∀ (s : State) (seg : Seg) (x : EngTxn) (tag : PollTag) (outcome : TxOutcome) (why : Option AbsentReason)
      (data : List Byte), x.issuer = .ple tag →
    let done := handle (.engineDone seg x outcome why data) s
    let p := s.poll tag.place
    let failed := outcome = .nackTarget ∨ outcome = .nackData ∨ outcome = .timeout ∨ outcome = .crcBad ∨
      outcome = .noRoute
    let read := outcome = .done ∧ x.write = false
    let runs := tag.descs.map fun d => Task.descriptor tag.source tag.place.val d data
    (tag.orphan = true → done = (s, if read then runs else [])) ∧
    (tag.orphan = false →
      done.1 = s.setPoll tag.place { p with
        state := .idle, lastOutcome := some outcome, lastCompletion := some s.now
        failures := if outcome = .done then 0 else if failed then min (p.failures + 1) 255 else p.failures
        skipped := p.skipped || outcome == .absent || outcome == .lost } ∧
      done.2 = (if read then runs else []) ++ [.pollKind tag.place outcome
        (if read then tag.descs.map fun d => (d.slot, s.descriptorResult d data) else [])])) ∧
  (∀ (s : State) (place : Fin 24) (e : PollEntry) (outcome : TxOutcome) (results : List (Fin 32 × DescResult)),
    s.pollEntry place = some e →
    let p := s.poll place
    let kind := handle (.pollKind place outcome results) s
    let failed := outcome = .nackTarget ∨ outcome = .nackData ∨ outcome = .timeout ∨ outcome = .crcBad ∨
      outcome = .noRoute
    (e.kind = .periodic → kind = (s, [])) ∧
    (e.kind = .setup → kind = (s.setPoll place (if p.dueTaken = false ∨ p.runAfter = true then p else
        { p with dueTaken := false, nextDue := if failed then some (later s.now 100) else none }),
      [.pollAgain place])) ∧
    (∀ bay, e.kind = .admission bay → kind = (s, if (s.bay bay).state = .identifying then
      [.admissionReport bay place outcome results, .pollAgain place] else [.pollAgain place])) ∧
    handle (.pollAgain place) s = (if p.runAfter then
      (s.setPoll place { p with runAfter := false }, [.pollRun place]) else (s, []))) ∧
  (∀ (s : State) (source : SlotSource) (place : Nat) (d : Descriptor) (data : List Byte) (raw : Nat), 1 ≤ d.length →
    (∀ j, raw.testBit j = (decide (j < d.length) &&
      (byteAt data ((d.position + j) / 8)).toNat.testBit ((d.position + j) % 8))) →
    let done := handle (.descriptor source place d data) s
    let r := s.slot d.slot
    let f : Int := if d.signExtend = true ∧ raw.testBit (d.length - 1) = true then (raw : Int) - 2 ^ d.length else raw
    let v : Int := f * d.multiplier / 2 ^ d.shift + d.offset
    let noPack := ∃ bay, slotBay d.slot = some bay ∧ ((s.bay bay).state = .empty ∨ (s.bay bay).state = .seated)
    let result := s.descriptorResult d data
    (8 * data.length < d.position + d.length → result = .outOfFrame ∧ done = (s, [])) ∧
    (d.position + d.length ≤ 8 * data.length →
      ((v < -2147483648 ∨ 2147483647 < v) → result = .saturated ∧ done = (s, [])) ∧
      (-2147483648 ≤ v → v ≤ 2147483647 →
        ((v < d.low ∨ d.high < v) →
          let t := s.setSlot d.slot { r with implausible := min (r.implausible + 1) 3 }
          result = .implausible ∧ done = (if r.implausible = 2 then t.notify
            { kind := .telemetryImplausible, severity := .warn, subject := d.slot.val
              arg1 := slotSourceCode source * 256 + place, arg2 := v } else t, [])) ∧
        (d.low ≤ v → v ≤ d.high →
          (noPack → result = .noPack ∧ done = (s, [])) ∧
          (¬noPack → result = .written ∧ done =
            (s.setSlot d.slot { state := .fresh, value := v, time := some s.now, source := some source, implausible := 0 },
              [.slotWritten d.slot r])))))) ∧
  (∀ (s : State) (bay : Bay) (old new : BayState),
    let told := handle (.pollBay bay old new) s
    let waits := fun (place : Fin 24) => (s.poll place).gateWait = true ∧
      ∃ e r, s.pollEntry place = some e ∧ routeOf s.sru.committed e.target = some r ∧ r.gate = some bay
    (gateOpen old = false → gateOpen new = true →
      (∀ place, waits place → told.1.poll place =
        { s.poll place with nextDue := some s.now, dueTaken := true, gateWait := false }) ∧
      (∀ place, ¬waits place → told.1.poll place = s.poll place) ∧
      ∀ place, Task.pollRun place ∈ told.2 ↔ waits place) ∧
    (old = .identifying → new ≠ .identifying → told.2 = [] ∧ ∀ place, told.1.poll place =
      match s.pollEntry place with
      | some e => if e.kind = .admission bay then { s.poll place with admitDue := none, runAfter := false }
        else s.poll place
      | none => s.poll place) ∧
    (new = .identifying → Task.admissionBegin bay ∈ told.2) ∧
    (∀ place, (handle (.admissionBegin bay) s).1.poll place = match s.pollEntry place with
      | some e => if e.kind = .admission bay then
          (if (s.poll place).state = .idle then
            { s.poll place with admitDue := some (later s.now e.phase), runAfter := false }
          else { s.poll place with admitDue := none, runAfter := true })
        else s.poll place
      | none => s.poll place))

/-- A FRESH slot older than its freshness limit becomes STALE and keeps its value, time and source; a limit of 0 never
expires. While a confirm is awaited and no admission runs, its readers take it without a further effect on their bays
and records. -/
def Obligations.SlotBecomesStale : Prop :=
  ∀ (s : State) (slot : Fin 32), s.agenda = [] →
    (let limit := u16 s.sru.committed.slots (2 * slot.val)
    s.expired slot = true ↔ (s.slot slot).state = .fresh ∧ limit ≠ 0 ∧
      ∃ since, (s.slot slot).time = some since ∧ limit < age s.now since) ∧
    (s.expired slot = false → exec (.slotStale slot) s = .next s) ∧
    (s.expired slot = true →
      let slots := s.slots.set slot { s.slot slot with state := .stale }
      (15 ≤ slot.val → s.eligibilityChanges = false → exec (.slotStale slot) s = .next { s with slots := slots }) ∧
      (s.ppc.attempt.isSome = true → (∀ bay, (s.bay bay).state ≠ .identifying) →
        ∃ t, exec (.slotStale slot) s = .next t ∧ t.slots = slots ∧ t.ppc.attempt = s.ppc.attempt ∧
          t.ppc.onSrc = s.ppc.onSrc ∧ t.bays = s.bays ∧ t.brc = s.brc ∧ t.mtu = s.mtu ∧ t.ports = s.ports ∧
          t.uli = s.uli ∧ t.polls = s.polls ∧ t.classifier = s.classifier ∧ t.ntq = s.ntq ∧ t.sru = s.sru ∧
          t.smi = s.smi))

/-! ## Battery bays (Chapter 5) -/

/-- A line's level restarts its debounce filter. A latch level held for the debounce time moves the filter alone
before traffic opens, and is recorded alone in EMPTY, SEATED, RELEASING and FAULTED, where the latch opens in SUSPECT,
RELEASED or RELEASE_BLOCKED, and where it closes in IDENTIFYING, READY or ACTIVE or in RELEASED without a pack.
Opening in READY or ACTIVE leads to SUSPECT under the shock-hold flag and to RELEASING with origin LATCH without it,
and in IDENTIFYING to RELEASED. Closing leads from SUSPECT back to ACTIVE, or to READY, in whose place fault-pending
puts FAULTED; from RELEASED with a pack to IDENTIFYING, and from RELEASE_BLOCKED to ACTIVE. -/
def Obligations.LatchIsTaken : Prop :=
  ∀ (s : State) (bay : Bay), s.agenda = [] →
    let r := s.bay bay
    let level := fun (f : LineFilter) (active : Bool) =>
      if f.line = active then f
      else { f with line := active, since := if active = f.out then none else some s.now }
    (∀ active, exec (.lineLevelChange bay .latch active) s =
        .next (s.setBay bay { r with latchFilter := level r.latchFilter active }) ∧
      exec (.lineLevelChange bay .presence active) s =
        .next (s.setBay bay { r with presenceFilter := level r.presenceFilter active })) ∧
    (r.latchFilter.since = none → exec (.latchChange bay) s = .next s) ∧
    (∀ since, r.latchFilter.since = some since → age s.now since < s.supply.debounce →
      exec (.latchChange bay) s = .next s) ∧
    (∀ since, r.latchFilter.since = some since → s.supply.debounce ≤ age s.now since →
      let f : LineFilter := { line := r.latchFilter.line, out := r.latchFilter.line, since := none }
      (s.uli.phase = .starting → exec (.latchChange bay) s = .next (s.setBay bay { r with latchFilter := f })) ∧
      (s.uli.phase ≠ .starting →
        ((r.state = .empty ∨ r.state = .seated ∨ r.state = .releasing ∨ r.state = .faulted ∨
            (r.latchFilter.line = false ∧ (r.state = .suspect ∨ r.state = .released ∨ r.state = .releaseBlocked)) ∨
            (r.latchFilter.line = true ∧ (r.state = .identifying ∨ r.state = .ready ∨ r.state = .active ∨
              (r.state = .released ∧ r.present = false)))) →
          exec (.latchChange bay) s =
            .next (s.setBay bay { r with latchFilter := f, latchClosed := r.latchFilter.line })) ∧
        (s.engaged → s.switchesSafe → r.latchFilter.line = false → (r.state = .ready ∨ r.state = .active) →
          ∃ t, exec (.latchChange bay) s = .next t ∧ t.bay (otherBay bay) = s.bay (otherBay bay) ∧
            t.bay bay = (if s.mtu.shockHold then
              { r with
                latchFilter := f, latchClosed := false, state := .suspect, entry := s.now
                wasActive := r.state == .active }
            else
              { r with
                latchFilter := f, latchClosed := false, state := .releasing, entry := s.now
                origin := some .latch, wasActive := false }) ∧
            (s.mtu.shockHold = false → t.ppc.waitRelease.get bay = some .latch) ∧
            t.ppc.onSrc = s.ppc.onSrc ∧ t.ppc.attempt = s.ppc.attempt ∧ t.mtu = s.mtu ∧ t.ports = s.ports ∧
            t.slots = s.slots ∧ t.sru = s.sru ∧ t.uli = s.uli) ∧
        (let taken := (handle (.latchTaken bay) s).1
        let told := (handle (.latchTaken bay) s).2
        let q : BayRec := { r with latchFilter := f, latchClosed := r.latchFilter.line, entry := s.now }
        (r.latchFilter.line = false → r.state = .identifying →
          taken = s.setBay bay { q with
            state := .released, identify := none, admission := [], origin := some .latch } ∧
          .post { kind := .bayReleased, severity := .info, subject := bayNumber bay, arg1 := originCode .latch, arg2 := 0 }
            ∈ told ∧ .powerBay bay .identifying .released ∈ told) ∧
        (r.latchFilter.line = true →
          (r.state = .suspect → r.wasActive = true → taken = s.setBay bay { q with state := .active, wasActive := false } ∧
            .powerBay bay .suspect .active ∈ told) ∧
          (r.state = .suspect → r.wasActive = false → r.faultPending = false →
            taken = s.setBay bay { q with state := .ready } ∧ .powerBay bay .suspect .ready ∈ told) ∧
          (r.state = .suspect → r.wasActive = false → r.faultPending = true → taken = s.setBay bay { q with
            state := .faulted, faultReason := some .status, faultPending := false, identify := none
            admission := [] } ∧ .powerBay bay .suspect .faulted ∈ told) ∧
          (r.state = .released → r.present = true → taken = s.setBay bay { q with
            state := .identifying, seat := none, origin := none, faultReason := none, faultPending := false
            identify := some { start := s.now, dur := s.supply.identify }
            admission := admissionList s.sru.committed.polls bay } ∧
            .pollBay bay .released .identifying ∈ told) ∧
          (r.state = .releaseBlocked → taken = s.setBay bay { q with state := .active, origin := none } ∧
            .powerBay bay .releaseBlocked .active ∈ told)))))

/-- A pack that arrives seats its bay with the seat timer and its switch OFF. A pack that is gone empties its bay: the
record cleared, the port ISOLATED, the bay's five slots NEVER, the switch OFF and the held-off mark clear, and
BAY_REMOVED raised. Where the switch was ON the load moves at once, to DC while DC-in is present and to BR where no
other source can be chosen: the record is a TAKEOVER from the lost pack, and BAY_ABRUPT_LOSS and SOURCE_CHANGED are
raised at URGENT. -/
def Obligations.PresenceIsTaken : Prop :=
  (∀ (s : State) (bay : Bay) (since : Time) (code : Nat) (target : Src), s.agenda = [] → s.powerIdle →
    s.brc.write = .executing code → s.uli.phase ≠ .starting → (s.bay bay).presenceFilter.since = some since →
    s.supply.debounce ≤ age s.now since → (s.bay bay).presenceFilter.line = false → (s.bay bay).state ≠ .empty →
    s.ppc.onSrc = some (baySrc bay) → (s.source (baySrc bay)).sw = .on → (s.port (baySeg bay)).bare →
    (if s.lines.dcinOk then target = .dc else target = .br ∧ (s.bay (otherBay bay)).state ≠ .ready ∧
      (s.bay (otherBay bay)).state ≠ .active) →
    ∃ t, exec (.presenceFall bay) s = .next t ∧
      t.bay bay = { s.bay bay with
        presenceFilter := { line := false, out := false, since := none }, present := false, state := .empty
        entry := s.now, seat := none, identify := none, admission := [], wasActive := false, faultPending := false
        wordFault := false, origin := none } ∧
      (t.port (baySeg bay)).state = .isolated ∧ (t.port (baySeg bay)).bare ∧
      (∀ slot, slotBay slot = some bay → t.slot slot =
        { state := .never, value := 0, time := none, source := none, implausible := 0 }) ∧
      t.ppc.onSrc = some target ∧ (t.source target).sw = .on ∧ (t.source target).onSince = some s.now ∧
      (t.source (baySrc bay)).sw = .off ∧ (t.source (baySrc bay)).onSince = none ∧
      (t.source (baySrc bay)).heldOff = false ∧ t.ppc.attempt = none ∧
      t.ppc.record = some { origin := some (baySrc bay), target := target, reason := .fault, start := s.now
                            finish := some s.now, result := some .takeover } ∧
      (s.ntq.queue = [] →
        (∃ n ∈ t.ntq.queue, n.kind = .bayAbruptLoss ∧ n.severity = .urgent ∧ n.subject = bayNumber bay ∧
          n.arg1 = bayStateCode (s.bay bay).state ∧ n.arg2 = 0) ∧
        ∃ n ∈ t.ntq.queue, n.kind = .sourceChanged ∧ n.severity = .urgent ∧ n.subject = srcNumber target ∧
          n.arg1 = srcCode (some (baySrc bay)) ∧ n.arg2 = reasonCode .fault)) ∧
  ∀ (s : State) (bay : Bay) (since : Time), s.engaged → s.switchesSafe → s.uli.phase ≠ .starting →
    (s.bay bay).presenceFilter.since = some since →
    (age s.now since < s.supply.debounce →
      exec (.presenceRise bay) s = .next s ∧ exec (.presenceFall bay) s = .next s) ∧
    (s.supply.debounce ≤ age s.now since →
      let line := (s.bay bay).presenceFilter.line
      let f : LineFilter := { line := line, out := line, since := none }
      (line = true → (s.bay bay).state = .empty →
        ∃ t, exec (.presenceRise bay) s = .next t ∧ t.bay (otherBay bay) = s.bay (otherBay bay) ∧
          t.bay bay = { s.bay bay with
            presenceFilter := f, present := true, state := .seated, entry := s.now
            seat := some { start := s.now, dur := s.supply.seat } } ∧
          (t.source (baySrc bay)).sw = .off ∧ t.ppc.attempt = s.ppc.attempt ∧ t.mtu = s.mtu ∧ t.ports = s.ports ∧
          t.slots = s.slots ∧ t.sru = s.sru ∧ t.uli = s.uli) ∧
      (line = false → (s.bay bay).state ≠ .empty → (s.source (baySrc bay)).sw ≠ .on → (s.port (baySeg bay)).bare →
        ∃ t, exec (.presenceFall bay) s = .next t ∧ t.bay (otherBay bay) = s.bay (otherBay bay) ∧
          t.bay bay = { s.bay bay with
            presenceFilter := f, present := false, state := .empty, entry := s.now, seat := none, identify := none
            admission := [], wasActive := false, faultPending := false, wordFault := false, origin := none } ∧
          (t.port (baySeg bay)).state = .isolated ∧ (t.port (baySeg bay)).bare ∧
          (t.port (baySeg bay)).isoClosed = false ∧ (t.port (baySeg bay)).timeouts = 0 ∧
          (∀ slot, t.slot slot = if slotBay slot = some bay then
            { state := .never, value := 0, time := none, source := none, implausible := 0 } else s.slot slot) ∧
          (t.source (baySrc bay)).sw = .off ∧ (t.source (baySrc bay)).heldOff = false ∧
          t.ppc.attempt = s.ppc.attempt ∧ t.mtu = s.mtu ∧ t.smi = s.smi ∧
          (s.ntq.queue = [] → ∃ n ∈ t.ntq.queue, n.kind = .bayRemoved ∧ n.severity = .info ∧
            n.subject = bayNumber bay ∧ n.arg1 = bayStateCode (s.bay bay).state ∧ n.arg2 = 0)))

/-- The seat timer starts again over an open latch, and connects the bay's segment and begins an admission over a
closed one; the identify timer faults the bay with reason LIMIT. -/
def Obligations.BayTimersExpire : Prop :=
  ∀ (s : State) (bay : Bay) (x : Timer), s.agenda = [] →
    ((s.bay bay).state = .seated → (s.bay bay).seat = some x →
      (age s.now x.start < x.dur → exec (.seatTimerExpiry bay) s = .next s) ∧
      (x.dur ≤ age s.now x.start → (s.bay bay).latchClosed = false →
        exec (.seatTimerExpiry bay) s = .next
          (s.setBay bay { s.bay bay with seat := some { start := s.now, dur := s.supply.seat } })) ∧
      (x.dur ≤ age s.now x.start → (s.bay bay).latchClosed = true → s.engaged → s.switchesSafe →
        (∀ place, (s.poll place).gateWait = false) →
        ∃ t, exec (.seatTimerExpiry bay) s = .next t ∧ t.bay (otherBay bay) = s.bay (otherBay bay) ∧
          t.bay bay = { s.bay bay with
            state := .identifying, entry := s.now, seat := none, origin := none, faultReason := none
            faultPending := false, identify := some { start := s.now, dur := s.supply.identify }
            admission := admissionList s.sru.committed.polls bay } ∧
          t.ports = s.ports.set (baySeg bay) { s.port (baySeg bay) with
            state := .recovering, isoClosed := true, recovery := some { start := s.now, dur := 1 } } ∧
          t.ppc.attempt = s.ppc.attempt ∧ t.mtu = s.mtu ∧ t.slots = s.slots ∧ t.sru = s.sru ∧ t.uli = s.uli)) ∧
    ((s.bay bay).state = .identifying → (s.bay bay).identify = some x →
      (age s.now x.start < x.dur → exec (.identifyTimerExpiry bay) s = .next s) ∧
      (x.dur ≤ age s.now x.start → s.engaged → s.switchesSafe →
        ∃ t, exec (.identifyTimerExpiry bay) s = .next t ∧ t.bay (otherBay bay) = s.bay (otherBay bay) ∧
          t.bay bay = { s.bay bay with
            state := .faulted, entry := s.now, faultReason := some .limit, faultPending := false, identify := none
            admission := [], wasActive := false } ∧
          (t.source (baySrc bay)).sw = .off ∧ t.ppc.attempt = s.ppc.attempt ∧ t.mtu = s.mtu ∧ t.ports = s.ports ∧
          t.slots = s.slots ∧ t.sru = s.sru ∧ t.uli = s.uli))

/-- An admission takes its reports: an attempt is counted and its success marked; an item without success is asked for
again, and at its third attempt faults the bay; attempts are counted to three (the model's choice, log entry 28). A
bay whose items have all succeeded, whose voltage and temperature are FRESH and whose FRESH status word was no fault
under the mask in force at its write (log entry 52), is READY with BAY_ADMITTED. A status word faults a bay in
IDENTIFYING and READY and is pending in ACTIVE and SUSPECT. A release reported DONE with the switch no longer ON ends
in RELEASED; one reported BLOCKED in RELEASE_BLOCKED, from which an alternate leads back to RELEASING. -/
def Obligations.AdmissionsAndReleasesEnd : Prop :=
  ∀ (s : State) (bay : Bay),
    let r := s.bay bay
    let post := fun (kind : NoticeKind) (severity : Severity) (arg1 arg2 : Int) =>
      Task.post { kind := kind, severity := severity, subject := bayNumber bay, arg1 := arg1, arg2 := arg2 }
    let faulted := fun (q : BayRec) (reason : FaultReason) => s.setBay bay { q with
      state := .faulted, entry := s.now, faultReason := some reason, faultPending := false, identify := none
      admission := [], wasActive := false }
    (∀ (place : Fin 24) (outcome : TxOutcome) (results : List (Fin 32 × DescResult)),
      let report := handle (.admissionReport bay place outcome results) s
      let success := outcome = .done ∧
        ∀ x ∈ results, x.1 = voltageSlot bay ∨ x.1 = temperatureSlot bay → x.2 = .written
      let s1 := fun (ok : Bool) => s.setBay bay { r with admission := r.admission.map fun i =>
        if i.place = place then { i with attempts := min (i.attempts + 1) 3, succeeded := i.succeeded || ok } else i }
      (r.state ≠ .identifying → report = (s, [])) ∧
      (r.state = .identifying → (success → report = (s1 true, [.admissionCheck bay])) ∧
        (¬success → ∀ i, r.admission.find? (fun i => i.place == place) = some i →
          (i.succeeded = true → report = (s1 false, [.admissionCheck bay])) ∧
          (i.succeeded = false → i.attempts < 2 →
            report = (s1 false, [.admissionAgain place, .admissionCheck bay])) ∧
          (i.succeeded = false → 2 ≤ i.attempts → report.1 = faulted r .attempts ∧
            post .bayFault .warn (faultReasonCode .attempts) place.val ∈ report.2 ∧
            .powerBay bay .identifying .faulted ∈ report.2)))) ∧
    (let check := handle (.admissionCheck bay) s
    let admits := r.state = .identifying ∧ (∀ i ∈ r.admission, i.succeeded = true) ∧
      (s.slot (voltageSlot bay)).state = .fresh ∧ (s.slot (temperatureSlot bay)).state = .fresh ∧
      ¬((s.slot (statusSlot bay)).state = .fresh ∧ r.wordFault = true)
    (¬admits → check = (s, [])) ∧
    (admits → check =
      (s.setBay bay { r with state := .ready, entry := s.now, identify := none, admission := [] },
        [.pollBay bay .identifying .ready, .powerBay bay .identifying .ready, .energy,
          post .bayAdmitted .info (s.slot (voltageSlot bay)).value (s.slot (energySlot bay)).value]))) ∧
    (∀ word : Int,
      let told := handle (.statusWord bay word) s
      let fault := (BitVec.ofInt 32 word &&& BitVec.ofNat 32 s.supply.faultMask) != 0
      let q : BayRec := { r with wordFault := fault }
      let notice := post .bayFault .warn (faultReasonCode .status) word
      (fault = false → r.state ≠ .active → r.state ≠ .suspect → told = (s.setBay bay q, [])) ∧
      (fault = true → (r.state = .identifying ∨ r.state = .ready) → told.1 = faulted q .status ∧ notice ∈ told.2 ∧
        .powerBay bay r.state .faulted ∈ told.2) ∧
      ((r.state = .active ∨ r.state = .suspect) → told = (s.setBay bay { q with faultPending := fault },
        if fault = true ∧ r.faultPending = false then [notice] else [])) ∧
      (r.state ≠ .identifying → r.state ≠ .ready → r.state ≠ .active → r.state ≠ .suspect →
        told = (s.setBay bay q, []))) ∧
    (let done := handle (.releaseDone bay) s
    (((r.state ≠ .releasing ∧ r.state ≠ .releaseBlocked) ∨ (s.source (baySrc bay)).sw = .on) → done = (s, [])) ∧
    (∀ origin, (r.state = .releasing ∨ r.state = .releaseBlocked) → (s.source (baySrc bay)).sw ≠ .on →
      r.origin = some origin → done.1 = s.setBay bay { r with state := .released, entry := s.now } ∧
        post .bayReleased .info (originCode origin) 0 ∈ done.2 ∧ .swapEnd bay ∈ done.2)) ∧
    (let blocked := handle (.releaseBlocked bay) s
    (r.state ≠ .releasing → blocked = (s, [])) ∧
    (∀ origin, r.state = .releasing → r.origin = some origin →
      blocked.1 = s.setBay bay { r with state := .releaseBlocked, entry := s.now } ∧
        post .releaseBlocked .urgent (originCode origin) 0 ∈ blocked.2 ∧ .swapEnd bay ∈ blocked.2)) ∧
    (let alternate := handle (.alternate bay) s
    (r.state ≠ .releaseBlocked → alternate = (s, [])) ∧
    (r.state = .releaseBlocked → alternate.1 = s.setBay bay { r with state := .releasing, entry := s.now } ∧
      .powerBay bay .releaseBlocked .releasing ∈ alternate.2)) ∧
    (s.sru.background = .swap bay → (r.state = .released ∨ r.state = .empty ∨ r.state = .releaseBlocked) →
      ∀ tag, s.awaitsEnd 0x25 tag → handle (.swapEnd bay) s = (s.ended 0x25 tag
        (if r.state = .releaseBlocked then .failed else .done) [BitVec.ofNat 8 (bayStateCode r.state)], []))

/-! ## Power path and classifier (Chapters 4 and 6) -/

/-- DCIN_OK rises: DC goes to STANDBY, eligible, and while a confirm is awaited the reselection is pending. It falls
with DC the ON source and no eligible pack: the load moves at once to BR, and the bridge timer starts. It falls with
DC the from source of an awaited handover: the target completes it at once, FROM_LOST. -/
def Obligations.DcInChanges : Prop :=
  ∀ s : State, s.agenda = [] →
    (∀ high, s.lines.dcinOk = high → exec (.dcinOkChange high) s = .next s) ∧
    (s.lines.dcinOk = false → s.uli.phase ≠ .starting → s.ppc.attempt.isSome = true → (s.source .dc).sw ≠ .on →
      ∃ t, exec (.dcinOkChange true) s = .next t ∧ t.lines = { s.lines with dcinOk := true } ∧
        (t.source .dc).sw = .standby ∧ (t.source .dc).eligible = true ∧ t.ppc.pending = true ∧
        t.ppc.attempt = s.ppc.attempt ∧ t.ppc.onSrc = s.ppc.onSrc ∧ t.bays = s.bays ∧ t.brc = s.brc ∧ t.mtu = s.mtu ∧
        t.ports = s.ports ∧ t.sru = s.sru ∧ t.uli = s.uli ∧ t.ntq = s.ntq) ∧
    (∀ code, s.lines.dcinOk = true → s.powerIdle → s.ppc.onSrc = some .dc → s.eligibleNow .a = false →
      s.eligibleNow .b = false → s.brc.write = .executing code →
      ∃ t, exec (.dcinOkChange false) s = .next t ∧ t.lines = { s.lines with dcinOk := false } ∧
        t.ppc.onSrc = some .br ∧ (t.source .dc).sw = .off ∧ (t.source .dc).onSince = none ∧ (t.source .br).sw = .on ∧
        (t.source .br).onSince = some s.now ∧ t.ppc.attempt = none ∧
        t.ppc.record = some { origin := some .dc, target := .br, reason := .fault, start := s.now
                              finish := some s.now, result := some .takeover } ∧
        t.ppc.bridge = some { start := s.now, dur := 1000 * s.supply.bridgeTime } ∧ t.bays = s.bays ∧ t.mtu = s.mtu ∧
        t.ports = s.ports ∧ t.sru = s.sru ∧ t.uli = s.uli) ∧
    (∀ (a : Attempt) (x : MoveRec) (code : Nat), s.lines.dcinOk = true → s.ppc.attempt = some a →
      s.ppc.record = some x → a.old = some .dc → a.target ≠ .dc → (∀ bay origin, a.kind ≠ .release bay origin) →
      { s with ppc := { s.ppc with attempt := none } }.powerIdle → s.brc.write = .executing code →
      ∃ t, exec (.dcinOkChange false) s = .next t ∧ t.lines = { s.lines with dcinOk := false } ∧
        t.ppc.onSrc = some a.target ∧ t.ppc.managed = true ∧ t.ppc.attempt = none ∧ (t.source .dc).sw = .off ∧
        (t.source .dc).onSince = none ∧ (t.source a.target).onSince = some s.now ∧
        t.ppc.record = some { x with finish := some s.now, result := some .fromLost } ∧ t.bays = s.bays ∧
        t.mtu = s.mtu ∧ t.ports = s.ports ∧ t.sru = s.sru ∧ t.uli = s.uli)

/-- A trigger asks for the checks of R84 and then for a selection, which waits while an attempt is awaited or a move
is told, from the moment a SUPPLY table takes force to the controller's part of it, under the shock-hold flag, and
while the ON source is a bay in SUSPECT. While the cause NO_ALTERNATE stands, a trigger first repeats the takeover of
R85: where no attempt is awaited and the faulted pack is still ON (log entry 16), the first candidate besides it is ON
at once and the cause ends; with none, nothing happens and no notice is raised. The candidates are DC and the packs,
in the order of their policy, that may be chosen, else BR. A walk ends at the ON source, passes over a candidate that
may not be chosen or fails the window check, of which a start-up selection makes none, and begins an attempt with the
first other: the target is ON, the confirm timer runs and a READY pack is ACTIVE; the reason of the bridge attempt is
POLICY. The flag gives up an awaited attempt but a release of origin REQUEST. The model's choices: what waits while a
move is told (log entry 4), when a repeat acts (log entry 16), the reason of the bridge attempt (log entry 17), the
order of a trigger's work (log entry 33), a candidate that may not be chosen any more (log entry 42), and what waits
for the SUPPLY table (log entry 53). -/
def Obligations.SelectionsBegin : Prop :=
  ∀ s : State,
    let waits := s.ppc.attempt.isSome = true ∨ s.ppc.moving = true ∨ s.ppc.switching = true ∨
      s.mtu.shockHold = true ∨ ∃ bay, s.ppc.onSrc = some (baySrc bay) ∧ (s.bay bay).state = .suspect
    let busy := s.ppc.attempt.isSome = true ∨ s.ppc.moving = true ∨ s.ppc.switching = true
    let fresh := fun (slot : Fin 32) (good : Int → Prop) (otherwise : Prop) =>
      ((s.slot slot).state = .fresh → good (s.slot slot).value) ∧ ((s.slot slot).state ≠ .fresh → otherwise)
    let choosable := fun (x : Src) => (s.source x).eligible = true ∧
      ∀ bay, x = baySrc bay → (s.bay bay).state = .ready ∨ (s.bay bay).state = .active
    let energy := fun (bay : Bay) => (s.slot (energySlot bay)).value
    let first := s.supply.first
    (s.uli.phase = .starting → handle .trigger s = (s, [])) ∧
    (s.uli.phase ≠ .starting → s.ppc.causeNoAlternate = false → handle .trigger s = (s, [.alternates, .reselect])) ∧
    (∀ x, s.uli.phase ≠ .starting → s.ppc.causeNoAlternate = true → s.ppc.onSrc = some x →
      (¬busy → handle .trigger s = (s, [.takeover x, .alternates, .reselect])) ∧
      (busy → handle .trigger s = (s, [.alternates, .reselect]))) ∧
    (∀ x,
      let repeated := handle (.takeover x) s
      ((s.ppc.attempt.isSome = true ∨ s.ppc.onSrc ≠ some x) → repeated = (s, [])) ∧
      (s.ppc.attempt = none → s.ppc.onSrc = some x → s.ppc.causeNoAlternate = true →
        (s.candidates (some x) = [] → repeated = (s, [])) ∧
        (∀ c rest, s.candidates (some x) = c :: rest →
          let t := repeated.1
          t.ppc.onSrc = some c ∧ t.ppc.managed = true ∧ t.ppc.attempt = none ∧
          (t.source x).sw = .off ∧ (t.source x).onSince = none ∧
          (t.source c).sw = .on ∧ (t.source c).onSince = some s.now ∧
          (∀ y, y ≠ x → y ≠ c → t.source y = s.source y) ∧
          t.ppc.record = some { origin := some x, target := c, reason := .fault, start := s.now
                                finish := some s.now, result := some .takeover } ∧
          t.ppc.bridge = (if c = .br then some { start := s.now, dur := 1000 * s.supply.bridgeTime } else none) ∧
          t.ppc.causeNoAlternate = false ∧ t.ppc.causeBridge = (s.ppc.causeBridge && c == .br) ∧
          t.ppc.shdnReq = t.ppc.causeBridge ∧
          t.ntq = s.ntq.post s.now
            { kind := .sourceChanged, severity := .warn, subject := srcNumber c, arg1 := srcCode (some x)
              arg2 := reasonCode .fault } ∧
          (∀ bay, x = baySrc bay →
            ((s.bay bay).state = .active → t.bay bay = if (s.bay bay).faultPending then
              { s.bay bay with
                state := .faulted, entry := s.now, faultReason := some .status, faultPending := false
                identify := none, admission := [], wasActive := false }
              else { s.bay bay with state := .ready, entry := s.now, wasActive := false }) ∧
            (((s.bay bay).state = .releasing ∨ (s.bay bay).state = .releaseBlocked) → .releaseDone bay ∈ repeated.2)) ∧
          (∀ bay, c = baySrc bay → (s.bay bay).state = .ready →
            t.bay bay = { s.bay bay with state := .active, entry := s.now }) ∧
          .classify ∈ repeated.2 ∧ (c = .br → .bridgeCheck ∈ repeated.2)))) ∧
    (waits → handle .reselect s = ({ s with ppc := { s.ppc with pending := true } }, [])) ∧
    (¬waits → handle .reselect s = ({ s with ppc := { s.ppc with pending := false } },
      [.walk (if s.ppc.managed then .policy else .startup) (s.candidates none)])) ∧
    (busy → handle .alternates s = ({ s with ppc := { s.ppc with waitCheck :=
      { a := s.ppc.waitCheck.a || decide ((s.bay .a).state = .releaseBlocked)
        b := s.ppc.waitCheck.b || decide ((s.bay .b).state = .releaseBlocked) } } }, [])) ∧
    (¬busy → ∀ bay, .alternate bay ∈ (handle .alternates s).2 ↔ (s.bay bay).state = .releaseBlocked ∧
      ∃ x, x ≠ baySrc bay ∧ choosable x ∧ s.windowPasses x = true) ∧
    (s.eligibleNow .dc = s.lines.dcinOk) ∧
    (s.eligibleNow .br = true ↔ fresh 12 (fun v => (s.supply.bridgeLow : Int) ≤ v) True) ∧
    (∀ bay, s.eligibleNow (baySrc bay) = true ↔ (s.source (baySrc bay)).heldOff = false ∧
      ((s.bay bay).state = .ready ∧ fresh (voltageSlot bay) (fun v => (s.supply.cutoff : Int) ≤ v) False ∧
          fresh (temperatureSlot bay) (fun v => v ≤ (s.supply.temperature : Int)) False ∨
        (s.bay bay).state = .active ∧ fresh (voltageSlot bay) (fun v => (s.supply.cutoff : Int) ≤ v) True ∧
          fresh (temperatureSlot bay) (fun v => v ≤ (s.supply.temperature : Int)) True)) ∧
    (∀ x, s.windowPasses x = true ↔
      let slot : Fin 32 := match x with | .dc => 13 | .a => 0 | .b => 5 | .br => 12
      (s.slot slot).state = .fresh ∧ (s.slot 14).state = .fresh ∧
        (s.slot slot).value ≤ (s.slot 14).value + s.supply.window ∧
        (s.slot 14).value ≤ (s.slot slot).value + s.supply.window) ∧
    (∀ excluded : Option Src, ∃ x y : Bay, y = otherBay x ∧
      (s.supply.balance = false →
        (x = first ↔ (s.supply.reserve : Int) ≤ energy first)) ∧
      (s.supply.balance = true → (∀ bay, s.ppc.onSrc ≠ some (baySrc bay)) →
        (x = first ↔ energy (otherBay first) ≤ energy first)) ∧
      (∀ bay since, s.supply.balance = true → s.ppc.onSrc = some (baySrc bay) →
        (s.source (baySrc bay)).onSince = some since →
        (x = otherBay bay ↔
          energy bay + s.supply.margin ≤ energy (otherBay bay) ∧ 1000 * s.supply.dwell ≤ age s.now since)) ∧
      let primary := [Src.dc, baySrc x, baySrc y].filter fun c => s.choosable c && excluded != some c
      s.candidates excluded = if primary = [] then
        (if s.choosable .br = true ∧ excluded ≠ some .br then [.br] else []) else primary) ∧
    (∀ x, s.choosable x = true ↔ choosable x) ∧
    (∀ (kind : WalkKind) (c : Src) (rest : List Src),
      let walk := handle (.walk kind (c :: rest)) s
      let target := s.ppc.onSrc ≠ some c ∧ choosable c ∧ (kind = .startup ∨ s.windowPasses c = true)
      (s.ppc.attempt.isSome = true → walk = (s, [])) ∧
      (s.ppc.attempt = none → (s.mtu.shockHold = false ∨ ∃ bay, kind = .release bay .request) →
        (s.ppc.onSrc = some c → walk = handle (.walk kind []) s) ∧
        (s.ppc.onSrc ≠ some c → ¬target → walk = (s, [.walk kind rest])) ∧
        (target →
          let reason : MoveReason := match kind with
            | .release _ _ => .release | .bridge => .policy | .startup => if c = .dc then .dcArrival else .policy
            | .policy => if c = .dc then .dcArrival else .policy
          walk.1.ppc.attempt = some { kind := kind, target := c, old := s.ppc.onSrc, reason := reason
                                      confirm := { start := s.now, dur := 5 }, rest := rest } ∧
          walk.1.ppc.record = some { origin := s.ppc.onSrc, target := c, reason := reason, start := s.now
                                     finish := none, result := none } ∧
          (walk.1.source c).sw = .on ∧ (∀ x, x ≠ c → walk.1.source x = s.source x) ∧
          walk.1.ppc.bridge = (if c = .br then some { start := s.now, dur := 1000 * s.supply.bridgeTime }
            else s.ppc.bridge) ∧
          (∀ bay, walk.1.bay bay = if c = baySrc bay ∧ (s.bay bay).state = .ready then
            { s.bay bay with state := .active, entry := s.now } else s.bay bay) ∧
          (.confirm ∈ walk.2 ↔ s.lines.feedback.get c = true)))) ∧
    (s.ppc.attempt = none → s.mtu.shockHold = false →
      (∀ bay origin, (s.bay bay).state = .releasing →
        handle (.walk (.release bay origin) []) s = (s, [.releaseBlocked bay, .settled])) ∧
      handle (.walk .policy []) s = (s, [.settled]) ∧ handle (.walk .startup []) s = (s, [.settled])) ∧
    (∀ (bay : Bay) (origin : Origin),
      let request := handle (.releaseRequest bay origin) s
      ((s.bay bay).state ≠ .releasing → request = (s, [])) ∧
      ((s.bay bay).state = .releasing →
        ((busy ∨ origin = .latch ∧ s.mtu.shockHold = true) → request =
          ({ s with ppc := { s.ppc with waitRelease := s.ppc.waitRelease.set bay (some origin) } }, [])) ∧
        (¬busy → (origin = .request ∨ s.mtu.shockHold = false) →
          (s.ppc.onSrc = some (baySrc bay) →
            request = (s, [.walk (.release bay origin) (s.candidates (some (baySrc bay)))])) ∧
          (s.ppc.onSrc ≠ some (baySrc bay) → request =
            (s.setSource (baySrc bay) { s.source (baySrc bay) with sw := .off, onSince := none },
              [.releaseDone bay]))))) ∧
    (∀ a : Attempt, s.mtu.shockHold = true → s.ppc.attempt = some a →
      ((∃ bay, a.kind = .release bay .request) → handle (.flagPower true) s = (s, [])) ∧
      ((∀ bay, a.kind ≠ .release bay .request) →
        let t := (handle (.flagPower true) s).1
        t.ppc.attempt = none ∧ t.ppc.pending = true ∧ t.ppc.onSrc = s.ppc.onSrc ∧
          (t.source a.target).sw = s.restState a.target ∧
          t.ppc.record = s.ppc.record.map (fun r => { r with finish := some s.now, result := some .aborted }) ∧
          (∀ bay, a.kind = .release bay .latch → t.ppc.waitRelease.get bay = some .latch)))

/-- An abrupt loss of the ON pack, whose bay has left the states that carry the load: the load moves at once, to DC
while DCIN_OK is high, and to BR when there is neither DC nor another pack; SOURCE_CHANGED is URGENT. A temperature
written above the limit holds its pack off and puts its switch OFF, unless it is ON; the ON pack with no candidate
left stays ON under the cause NO_ALTERNATE, with SHDN_REQ and its notice. A temperature at or below the limit ends
both. -/
def Obligations.LossesMoveTheLoad : Prop :=
  ∀ (s : State) (bay : Bay),
    let x := baySrc bay
    let limit : Int := s.supply.temperature
    (∀ (old new : BayState) (target : Src), (s.source x).sw = .on → (s.bay bay).carries = false → s.ppc.attempt = none →
      s.ppc.onSrc = some x → ((s.lines.dcinOk = true ∧ target = .dc) ∨
        (s.lines.dcinOk = false ∧ s.eligibleNow (baySrc (otherBay bay)) = false ∧ target = .br)) →
      let t := (handle (.powerBay bay old new) s).1
      t.ppc.onSrc = some target ∧ t.ppc.managed = true ∧ t.ppc.attempt = none ∧ (t.source x).sw = .off ∧
        (t.source x).onSince = none ∧ (t.source target).sw = .on ∧ (t.source target).onSince = some s.now ∧
        t.ppc.record = some { origin := some x, target := target, reason := .fault, start := s.now
                              finish := some s.now, result := some .takeover } ∧
        t.ppc.bridge = (if target = .br then some { start := s.now, dur := 1000 * s.supply.bridgeTime } else none) ∧
        t.ntq = s.ntq.post s.now
          { kind := .sourceChanged, severity := .urgent, subject := srcNumber target, arg1 := srcCode (some x)
            arg2 := reasonCode .fault } ∧ t.bays = s.bays) ∧
    (∀ old : Slot, limit < (s.slot (temperatureSlot bay)).value →
      let a := handle (.slotWritten (temperatureSlot bay) old) s
      (s.ppc.onSrc ≠ some x → s.ppc.attempt = none → (a.1.source x).heldOff = true ∧ (a.1.source x).eligible = false ∧
        (a.1.source x).sw = (if (s.source x).sw = .on then .on else .off) ∧ a.1.ppc.onSrc = s.ppc.onSrc ∧
        ((s.source x).eligible = true → .trigger ∈ a.2)) ∧
      (s.ppc.onSrc = some x → (s.source x).sw = .on → s.ppc.attempt = none → s.ppc.causeNoAlternate = false →
        s.lines.dcinOk = false → s.eligibleNow (baySrc (otherBay bay)) = false → s.eligibleNow .br = false →
        a.1.ppc.onSrc = some x ∧ (a.1.source x).heldOff = true ∧ (a.1.source x).sw = .on ∧
          a.1.ppc.causeNoAlternate = true ∧ a.1.ppc.shdnReq = true ∧ a.1.ntq = s.ntq.post s.now
            { kind := .sourceFaultNoAlternate, severity := .urgent, subject := srcNumber x
              arg1 := (s.slot (temperatureSlot bay)).value, arg2 := 0 }) ∧
      (s.ppc.onSrc = some x → s.ppc.attempt = none → (s.bay bay).state = .active → s.lines.dcinOk = true →
        (a.1.source x).heldOff = true ∧ (a.1.source x).sw = .off ∧ a.1.ppc.onSrc = some .dc ∧
          (a.1.source .dc).sw = .on ∧ a.1.ntq = s.ntq.post s.now
            { kind := .sourceChanged, severity := .warn, subject := srcNumber .dc, arg1 := srcCode (some x)
              arg2 := reasonCode .fault })) ∧
    (∀ old : Slot, (s.slot (temperatureSlot bay)).value ≤ limit →
      let a := handle (.slotWritten (temperatureSlot bay) old) s
      (a.1.source x).heldOff = false ∧ a.1.ppc.onSrc = s.ppc.onSrc ∧ a.1.ppc.attempt = s.ppc.attempt ∧
        ((s.source x).sw ≠ .on → ((s.bay bay).state = .ready ∨ (s.bay bay).state = .suspect) →
          (a.1.source x).sw = .standby) ∧
        (s.ppc.onSrc = some x → a.1.ppc.causeNoAlternate = false ∧ a.1.ppc.shdnReq = s.ppc.causeBridge))

/-- The awaited feedback line conducts: the target is the ON source from now, the old source leaves ON, and the record
is CONFIRMED; a release handover is reported DONE, and a pack's bay is told that its switch leaves ON. A pack in
RELEASE_BLOCKED goes OFF there (the model's choice, log entry 43). The confirm timer expires, with no candidate left
and a target that is no pack: the target takes the switch state of R68, the record is CONFIRM_TIMEOUT and the notice
is raised, for the bridge attempt STARTUP_NO_SOURCE alone (log entry 17). Any other change of a feedback line is only
its level. -/
def Obligations.AttemptsEnd : Prop :=
  ∀ s : State, s.agenda = [] →
    (∀ src conducting, (conducting = false ∨ ∀ a, s.ppc.attempt = some a → a.target ≠ src) →
      exec (.feedbackConducting src conducting) s =
        .next { s with lines := { s.lines with feedback := s.lines.feedback.set src conducting } }) ∧
    (∀ a : Attempt, s.ppc.attempt = some a → s.lines.feedback.get a.target = true → a.old ≠ some a.target →
      let done := handle .confirm s
      let t := done.1
      t.ppc.attempt = none ∧ t.ppc.moving = true ∧ t.ppc.onSrc = some a.target ∧ t.ppc.managed = true ∧
        (t.source a.target).sw = (s.source a.target).sw ∧ (t.source a.target).onSince = some s.now ∧
        (∀ y, a.old = some y → (t.source y).sw = s.restState y ∧ (t.source y).onSince = none) ∧
        t.ppc.record = s.ppc.record.map (fun r => { r with finish := some s.now, result := some .confirmed }) ∧
        t.ppc.causeNoAlternate = false ∧
        t.ppc.dwell = (if s.supply.balance = true ∧ (srcBay a.target).isSome = true then
          some { start := s.now, dur := 1000 * s.supply.dwell } else none) ∧
        t.ntq = s.ntq.post s.now
          { kind := .sourceChanged, severity := .info, subject := srcNumber a.target, arg1 := srcCode a.old
            arg2 := reasonCode a.reason } ∧
        (∀ bay, a.old = some (baySrc bay) → (s.bay bay).state = .active →
          t.bay bay = if (s.bay bay).faultPending then
            { s.bay bay with
              state := .faulted, entry := s.now, faultReason := some .status, faultPending := false
              identify := none, admission := [], wasActive := false }
          else { s.bay bay with state := .ready, entry := s.now, wasActive := false }) ∧
        (∀ bay origin, a.kind = .release bay origin → .releaseDone bay ∈ done.2)) ∧
    (∀ (a : Attempt) (x : MoveRec), s.ppc.attempt = some a → s.ppc.record = some x →
      (∀ bay origin, a.kind ≠ .release bay origin) → a.old ≠ some a.target → (∀ y, a.old = some y → srcBay y = none) →
      { s with ppc := { s.ppc with attempt := none } }.powerIdle →
      (∀ code, s.brc.write = .executing code →
        ∃ t, exec (.feedbackConducting a.target true) s = .next t ∧
          t.lines = { s.lines with feedback := s.lines.feedback.set a.target true } ∧ t.ppc.attempt = none ∧
          t.ppc.onSrc = some a.target ∧ t.ppc.managed = true ∧ (t.source a.target).sw = (s.source a.target).sw ∧
          (t.source a.target).onSince = some s.now ∧
          (∀ y, a.old = some y → (t.source y).sw = s.restState y ∧ (t.source y).onSince = none) ∧
          t.ppc.record = some { x with finish := some s.now, result := some .confirmed } ∧
          t.ppc.causeNoAlternate = false ∧ t.bays = s.bays ∧ t.mtu = s.mtu ∧ t.ports = s.ports ∧ t.sru = s.sru ∧
          t.uli = s.uli) ∧
      (age s.now a.confirm.start < a.confirm.dur → exec .confirmTimerExpiry s = .next s) ∧
      (a.confirm.dur ≤ age s.now a.confirm.start → a.rest = [] → srcBay a.target = none →
        ∃ t, exec .confirmTimerExpiry s = .next t ∧ t.ppc.attempt = none ∧ t.ppc.onSrc = s.ppc.onSrc ∧
          (t.source a.target).sw = s.restState a.target ∧
          t.ppc.record = some { x with finish := some s.now, result := some .confirmTimeout } ∧
          t.ntq = s.ntq.post s.now (if a.kind = .bridge then
              { kind := .startupNoSource, severity := .urgent, subject := 0, arg1 := 0, arg2 := 0 }
            else
              { kind := .handoverFailed, severity := .warn, subject := srcNumber a.target, arg1 := srcCode a.old
                arg2 := reasonCode a.reason }) ∧
          t.lines = s.lines ∧ t.bays = s.bays ∧ t.brc = s.brc ∧ t.mtu = s.mtu ∧ t.ports = s.ports ∧ t.sru = s.sru ∧
          t.uli = s.uli))

/-- The start-up limit makes a bridge attempt while no source carries the load, which waits for an attempt and for the
flag, and whose record has no from source and the reason POLICY (the model's choice, log entry 17); the dwell timer is
a trigger; the bridge timer adds the cause BRIDGE, asserts SHDN_REQ and raises its notice. -/
def Obligations.PowerTimersExpire : Prop :=
  ∀ (s : State) (x : Timer), s.agenda = [] →
    (s.ppc.startup = some x →
      (age s.now x.start < x.dur → exec .startupLimitExpiry s = .next s) ∧
      (x.dur ≤ age s.now x.start →
        (s.ppc.onSrc.isSome = true → exec .startupLimitExpiry s =
          .next { s with ppc := { s.ppc with startup := none, startupExpired := true } }) ∧
        (s.ppc.onSrc = none → (s.ppc.attempt.isSome = true ∨ s.mtu.shockHold = true) → exec .startupLimitExpiry s =
          .next { s with ppc := { s.ppc with startup := none, startupExpired := true, bridgeDue := true } }) ∧
        (s.ppc.onSrc = none → s.ppc.attempt = none → s.ppc.moving = false → s.ppc.switching = false →
          s.mtu.shockHold = false →
          s.lines.feedback.br = false →
          ∃ t, exec .startupLimitExpiry s = .next t ∧ (t.source .br).sw = .on ∧ t.ppc.startup = none ∧
            t.ppc.startupExpired = true ∧ t.ppc.onSrc = none ∧
            t.ppc.attempt = some { kind := .bridge, target := .br, old := none, reason := .policy
                                   confirm := { start := s.now, dur := 5 }, rest := [] } ∧
            t.ppc.record = some { origin := none, target := .br, reason := .policy, start := s.now, finish := none
                                  result := none } ∧
            t.ppc.bridge = some { start := s.now, dur := 1000 * s.supply.bridgeTime } ∧ t.bays = s.bays ∧
            t.brc = s.brc ∧ t.mtu = s.mtu ∧ t.ports = s.ports ∧ t.sru = s.sru))) ∧
    (s.ppc.dwell = some x →
      (age s.now x.start < x.dur → exec .dwellTimerExpiry s = .next s) ∧
      (x.dur ≤ age s.now x.start → s.uli.phase ≠ .starting → s.ppc.attempt.isSome = true →
        exec .dwellTimerExpiry s = .next { s with ppc := { s.ppc with
          dwell := none, pending := true
          waitCheck :=
            { a := s.ppc.waitCheck.a || decide ((s.bay .a).state = .releaseBlocked)
              b := s.ppc.waitCheck.b || decide ((s.bay .b).state = .releaseBlocked) } } })) ∧
    (s.ppc.bridge = some x →
      (age s.now x.start < x.dur → exec .bridgeTimerExpiry s = .next s) ∧
      (x.dur ≤ age s.now x.start → s.ppc.causeBridge = true →
        exec .bridgeTimerExpiry s = .next { s with ppc := { s.ppc with bridge := none } }) ∧
      (x.dur ≤ age s.now x.start → s.ppc.causeBridge = false →
        exec .bridgeTimerExpiry s = .next
          (State.notify { s with ppc := { s.ppc with bridge := none, causeBridge := true, shdnReq := true } }
            { kind := .bridgeExhausting, severity := .urgent, subject := 3, arg1 := 1
              arg2 := if (s.slot 12).state = .fresh then (s.slot 12).value else 0 })))

/-- A recomputation of the energy sum: the counted bays' energies, the pack level of Table 6-2, the class of Table 6-3
and the allowance of Table 6-4; a change of class raises its notice, and a change of the allowance recomputes the
ceiling, after that notice (the model's choice, log entry 71). Where a loaded image puts the critical threshold above
the high one, CRITICAL goes before HIGH (the model's choice, log entry 46). -/
def Obligations.ClassifierFollowsTables : Prop :=
  ∀ s : State, ∃ c : Classifier,
    (handle .energy s).1 = (if c.cls = s.classifier.cls then { s with classifier := c } else
      State.notify { s with classifier := c }
        { kind := .supplyClassChanged, severity := .info, subject := 0, arg1 := classCode s.classifier.cls
          arg2 := classCode c.cls }) ∧
    (handle .energy s).2 = (if c.allowance = s.classifier.allowance then [] else [.ceiling]) ∧
    c.energy = (if counted (s.bay .a).state then (s.slot 2).value else 0) +
      (if counted (s.bay .b).state then (s.slot 7).value else 0) ∧
    (c.level = .high ↔ (if s.classifier.level = .high then (s.supply.high : Int) else s.supply.high + s.supply.hyst) ≤
      c.energy ∧ (if s.classifier.level = .critical then (s.supply.crit : Int) + s.supply.hyst else s.supply.crit) ≤
      c.energy) ∧
    (c.level = .critical ↔
      c.energy < (if s.classifier.level = .critical then (s.supply.crit : Int) + s.supply.hyst else s.supply.crit)) ∧
    (c.cls = .unknown ↔ s.ppc.onSrc = none) ∧ (c.cls = .mains ↔ s.ppc.onSrc = some .dc) ∧
    (c.cls = .bridge ↔ s.ppc.onSrc = some .br) ∧
    ((s.ppc.onSrc = some .a ∨ s.ppc.onSrc = some .b) →
      (c.cls = .packHigh ↔ c.level = .high) ∧ (c.cls = .packLow ↔ c.level = .low) ∧
      (c.cls = .packCritical ↔ c.level = .critical)) ∧
    c.allowance = (match c.cls with
      | .mains => s.supply.mains | .packHigh => s.supply.packHigh | .packLow => s.supply.packLow
      | .packCritical => s.supply.packCritical | .bridge => s.supply.bridge | .unknown => s.supply.bridge)

/-! ## Brightness and motion (Chapters 7 and 8) -/

/-- A brightness step. None runs before the tables are in force; one in AUTO or HOLD that awaits light only restarts
the step timer. A full step takes the ambient into the light code and smooths it, and raises ALS_LOST when the last
sensor is lost; takes the demand of the mode, holds it to the ceiling, and raises CEILING_LIMITING at the entry into
the limited condition; moves the commanded level toward the target by at most one rate, and computes the driver code.
Then an executing driver write is left alone, a queued one carries the new code, and from NONE a write worth placing
is placed: one that differs and is forced, owed, at the target, or beyond the hysteresis. Without a route it fails at
once; one not worth placing is no longer owed. The timer makes a step when it expires. -/
def Obligations.BrightnessStepRuns : Prop :=
  (∀ s : State, s.brc.ceiling = none → handle .brightStep s = (s, [])) ∧
  (∀ (s : State) (c : Nat), s.brc.ceiling = some c →
    let b := s.brc
    let p := s.light
    let timer : Option Timer := some { start := s.now, dur := p.period }
    let step := handle .brightStep s
    let awaits := b.awaitingLight = true ∧ (b.mode = .auto ∨ b.mode = .hold) ∧ (s.slot 10).state ≠ .fresh ∧
      (s.slot 11).state ≠ .fresh
    let ambient := s.ambientLux
    let smooth := match ambient with | some a => smoothed p b.smooth (logLux a) | none => b.smooth
    let curve := if b.mode = .auto then curveLevel p (biased smooth b.bias) else b.curve
    let demand := match b.mode with
      | .auto => max curve p.nMin | .hold => b.hold.getD 0 | .manual => b.manual.getD 0 | .off => 0
    let wanted := if b.mode = .auto then curve else demand
    let n := min demand c
    let q := b.level.getD 0
    let level := if b.mode = .off then 0 else if q < n then min (q + p.rUp) n else max (q - p.rDown) n
    let d := driverCode p.nMax level
    let b1 : Brc := { b with
      step := timer, awaitingLight := false, ambient := if ambient.isSome then ambient else b.ambient
      code := match ambient with | some a => logLux a | none => b.code
      smooth := smooth, lightLost := ambient.isNone, curve := curve, target := n, level := some level, computed := d
      limited := decide (c < wanted) }
    let lost := if ambient = none ∧ b.lightLost = false then s.ntq.post s.now
      { kind := .alsLost, severity := .warn, subject := 0, arg1 := 0, arg2 := 0 } else s.ntq
    let s1 : State := { s with
      brc := b1
      ntq := if c < wanted ∧ b.limited = false then lost.post s.now
        { kind := .ceilingLimiting, severity := .info, subject := 0, arg1 := wanted, arg2 := c } else lost }
    let bytes := [BitVec.ofNat 8 d, BitVec.ofNat 8 (d / 256)]
    let worth := (d ≠ b.written ∨ b.noneWritten = true) ∧ (p.hysteresis ≤ d - b.written ∨ p.hysteresis ≤ b.written - d ∨
      level = n ∨ b.noneWritten = true ∨ b.owed = true)
    let route := routeOf s.sru.committed p.driverKey
    (awaits → step = ({ s with brc := { b with step := timer } }, [])) ∧
    (¬awaits →
      (∀ code, b.write = .executing code → step = (s1, [])) ∧
      (∀ code, b.write = .queued code → step.2 = [] ∧
        step.1 = { s1 with brc := { b1 with write := .queued d }, ports := step.1.ports } ∧
        ∀ seg, step.1.port seg = { s.port seg with queue := (s.port seg).queue.map fun x =>
          if x.issuer = .brc then { x with data := bytes } else x }) ∧
      (b.write = .none →
        (¬worth → step = ({ s1 with brc := { b1 with owed := false } }, [])) ∧
        (worth → route = none →
          let t : State := { s1 with brc := { b1 with owed := true, failures := min (b.failures + 1) 255 } }
          step = (if b.failures = 2 then t.notify
            { kind := .backlightWriteFailed, severity := .warn, subject := 0, arg1 := outcomeCode .noRoute, arg2 := d }
            else t, [])) ∧
        (∀ r, worth → route = some r → step = ({ s1 with brc := { b1 with write := .queued d } },
          [.place r.seg
            { issuer := .brc, cls := .control, arrival := 0, passedOver := 0, gate := none, write := true, down := r.down
              cmd := p.command, data := bytes, readLen := 0, checked := r.checked }]))))) ∧
  (∀ (s : State) (x : Timer), s.agenda = [] → s.brc.step = some x →
    let step := handle .brightStep s
    (age s.now x.start < x.dur → exec .stepTimerExpiry s = .next s) ∧
    (x.dur ≤ age s.now x.start → exec .stepTimerExpiry s = .next (run 4096 step.2 step.1) ∧
      (step.2 = [] → exec .stepTimerExpiry s = .next step.1)))

/-- ACC_WM and the retry timer place a motion read on SP4 when none is outstanding: of 24 bytes, MOTION class, as the
route entry of the key resolves; a key without an entry on SP4 fails at once. Before traffic opens, and while a read
is outstanding, ACC_WM is only its level; a retry that finds ACC_WM low or a read outstanding is used up (log entry
36). -/
def Obligations.MotionReadsArePlaced : Prop :=
  ∀ s : State, s.agenda = [] →
    let placed := fun (x : State) (r : RouteSnap) =>
      let txn : EngTxn :=
        { issuer := .mtu, cls := .motion, arrival := (s.port .sp4).arrival, passedOver := 0, gate := none, write := false
          down := r.down, cmd := s.motionParams.command, data := [], readLen := 24, checked := r.checked }
      { x with mtu := { x.mtu with placed := true } }.setPort .sp4
        { s.port .sp4 with queue := (s.port .sp4).queue ++ [txn], arrival := (s.port .sp4).arrival + 1 }
    let room := ((s.port .sp4).state = .busy ∨ (s.port .sp4).state = .recovering) ∧ (s.port .sp4).queue.length < 8
    let line := fun asserted => { s with lines := { s.lines with accWm := asserted } }
    exec (.accWmChange false) s = .next (line false) ∧
    ((s.lines.accWm = true ∨ s.uli.phase = .starting ∨ s.mtu.placed = true) →
      exec (.accWmChange true) s = .next (line true)) ∧
    (s.lines.accWm = false → s.uli.phase ≠ .starting → s.mtu.placed = false →
      (∀ r, routeOf s.sru.committed s.motionParams.key = some r → r.seg = .sp4 → room →
        exec (.accWmChange true) s = .next (placed (line true) r)) ∧
      ((∀ r, routeOf s.sru.committed s.motionParams.key = some r → r.seg ≠ .sp4) →
        exec (.accWmChange true) s = .next { line true with mtu := { s.mtu with
          placed := false, lastRead := some .noRoute, readsFailed := min (s.mtu.readsFailed + 1) 65535
          failTime := some s.now, retryArmed := true } })) ∧
    (∀ since, s.mtu.failTime = some since →
      ((s.mtu.retryArmed = false ∨ age s.now since < 10) → exec .motionRetryTimer s = .next s) ∧
      (s.mtu.retryArmed = true → 10 ≤ age s.now since →
        ((s.lines.accWm = false ∨ s.mtu.placed = true) →
          exec .motionRetryTimer s = .next { s with mtu := { s.mtu with retryArmed := false } }) ∧
        (∀ r, s.lines.accWm = true → s.mtu.placed = false → routeOf s.sru.committed s.motionParams.key = some r →
          r.seg = .sp4 → room →
          exec .motionRetryTimer s = .next (placed { s with mtu := { s.mtu with retryArmed := false } } r))))

/-- A DONE motion read delivers four samples, the last at its completion and the others 2.5 ms apart before it,
rounded to whole ms; another outcome is a failed read. The first sample in SENSOR_LOST returns the state to NORMAL. A
sample joins the history and the open record, whose largest becomes its peak, and acts by its class: in NORMAL LOW
samples in a row begin a fall and a HIGH one a KNOCK; a fall ends CAUGHT or strikes; an impact window that is full, at
its first sample for a window of 1, leads to SETTLING; there BAND samples in a row close the record, LOW ones close it
followed by a fall, and a HIGH one by a KNOCK. The model's choices: with ACC_WM asserted the next read comes after the
samples (log entry 61), the runs and the window count keep their values where no rule sets them (log entry 48), a
KNOCK counts from an earlier assertion of PARK that still stands (log entry 47), the hold timers start at the handling
while NORMAL is entered at the sample's time (log entry 36), they take their length from the table so far in force,
also where a reloaded MOTION table waits and is taken right after (log entry 49), and an entry's notice goes before
the flag's change is told (log entry 58). -/
def Obligations.SamplesDriveMotion : Prop :=
  (∀ (s : State) (seg : Seg) (x : EngTxn) (outcome : TxOutcome) (why : Option AbsentReason) (data : List Byte),
    x.issuer = .mtu →
    let done := handle (.engineDone seg x outcome why data) s
    let sample := fun (i ms : Nat) => Task.sample (i16 data (6 * i) / 16) (i16 data (6 * i + 2) / 16)
      (i16 data (6 * i + 4) / 16) (s.now - BitVec.ofNat 32 ms)
    (outcome = .done → done =
      ({ s with mtu := { s.mtu with
          placed := false, lastRead := some .done, starved := false, lossSince := some s.now, retryArmed := false } },
        [sample 0 7, sample 1 5, sample 2 2, sample 3 0] ++ if s.lines.accWm then [.motionRead] else [])) ∧
    (outcome ≠ .done → done =
      ({ s with mtu := { s.mtu with
          placed := false, lastRead := some outcome, readsFailed := min (s.mtu.readsFailed + 1) 65535
          failTime := some s.now, retryArmed := true } }, []))) ∧
  (∀ (s : State) (x y z : Int) (time : Time), s.mtu.state = .sensorLost →
    handle (.sample x y z time) s =
      ({ s with mtu := { s.mtu with
          state := .normal, entry := time, fallRun := 0, settleRun := 0, window := 0, shockHold := false
          shockTimer := none } },
        (if s.mtu.shockHold then [.flagChanged false] else []) ++ [.sample x y z time])) ∧
  (∀ (s : State) (x y z : Int) (time : Time),
    let p := s.motionParams
    let m := s.mtu
    p.fall ≤ p.low → p.low ≤ p.high → p.high < p.impact →
    let mag := (x * x + y * y + z * z).toNat
    let low := mag < p.fall * p.fall
    let high := p.impact * p.impact < mag
    let band := p.low * p.low ≤ mag ∧ mag ≤ p.high * p.high
    let held := fun (later earlier : Time) =>
      if (later - earlier).toNat < 2 ^ 31 then min (later - earlier).toNat 65535 else 0
    let axis : PeakAxis :=
      if y.natAbs ≤ x.natAbs ∧ z.natAbs ≤ x.natAbs then (if x < 0 then .minusX else .plusX)
      else if z.natAbs ≤ y.natAbs then (if y < 0 then .minusY else .plusY)
      else (if z < 0 then .minusZ else .plusZ)
    let peaked := fun (r : DropRec) => { r with
      peak := mag, peakCode := compact 10 mag, axis := axis, before := m.history, peakTrace := compact 7 mag, after := [] }
    let tracked := fun (r : DropRec) => if r.peak < mag then peaked r else
      { r with after := if r.after.length < 15 then r.after ++ [compact 7 mag] else r.after }
    let m0 : Mtu := { m with
      history := (if m.history.length < 8 then m.history else m.history.drop 1) ++ [compact 7 mag]
      samples := m.samples + 1, openRec := m.openRec.map tracked }
    let snap : DropSnap :=
      { onSrc := s.ppc.onSrc, cls := s.classifier.cls, bayA := (s.bay .a).state, bayB := (s.bay .b).state }
    let opened := fun (kind : DropKind) (start : Time) => peaked
      { seq := m.seq, kind := kind, followed := false, start := start, freeFall := 0, parkToImpact := none, peak := 0
        peakCode := 0, axis := .plusX, impacts := 0, settle := 0, snap := none, before := [], peakTrace := 0
        after := [], read := false }
    let run := min (m.fallRun + 1) 255
    let start := if m.fallRun = 0 then time else m.fallStart
    let alarmed := fun (q : Mtu) => { q with
      park := true, parkTime := if m.park then m.parkTime else some time, parkHold := none, shockHold := true
      shockTimer := none, entry := time }
    let toPark := if m.park then (match m.parkTime with | some t => held time t | none => 0) else 0
    let settling := fun (q : Mtu) => { q with state := .settling, entry := time, fallRun := 0, settleRun := 0 }
    let struck := fun (q : Mtu) (r : DropRec) =>
      let q1 : Mtu := { alarmed q with
        state := .impact, window := 1
        openRec := some { r with impacts := 1, parkToImpact := some toPark, snap := some snap } }
      State.notify { s with mtu := if p.window ≤ 1 then settling q1 else q1 }
        { kind := .impact, severity := .urgent, subject := 0, arg1 := dropCode r.kind, arg2 := compact 10 mag }
    let flag : List Task := if m.shockHold then [] else [.flagChanged true]
    let taken := handle (.sample x y z time) s
    let only := fun (q : Mtu) => taken = ({ s with mtu := q }, [])
    (m.state = .normal →
      (low → run < p.fallCount → only { m0 with fallRun := run, fallStart := start }) ∧
      (low → p.fallCount ≤ run → taken = (State.notify
        { s with mtu := { alarmed m0 with
            fallRun := run, fallStart := start, state := .falling, openRec := some (opened .drop start)
            seq := m.seq + 1 } }
        { kind := .freeFall, severity := .warn, subject := 0, arg1 := m.seq.toNat, arg2 := 0 }, flag)) ∧
      (high → taken = (struck { m0 with seq := m.seq + 1 } (opened .knock time), flag)) ∧
      (¬low → ¬high → only { m0 with fallRun := 0 })) ∧
    (∀ r, m.state = .falling → m.openRec = some r →
      let r1 := tracked r
      let caught : DropRec := { r1 with kind := .caught, freeFall := held time r.start, parkToImpact := none }
      (low → only m0) ∧
      (high → taken = (struck m0 { r1 with kind := .drop, freeFall := held time r.start }, flag)) ∧
      (¬low → ¬high → only (settling { m0 with openRec := some caught }))) ∧
    (∀ r, m.state = .impact → m.openRec = some r →
      let r1 := tracked r
      let window := min (m.window + 1) 255
      let q : Mtu := { m0 with
        window := window, openRec := some { r1 with impacts := if high then min (r1.impacts + 1) 255 else r1.impacts } }
      only (if p.window ≤ window then settling q else q)) ∧
    (∀ r, m.state = .settling → m.openRec = some r →
      let settled := min (m.settleRun + 1) 1000
      let r1 := tracked r
      let closed := fun (followed : Bool) => { r1 with
        followed := followed, settle := held time m.entry, read := false
        snap := match r1.snap with | some w => some w | none => some snap }
      let t := taken.1
      let logged := fun (followed : Bool) =>
        (∀ i, m.placeFor r1 = some i → t.mtu.logAt i = some (closed followed)) ∧
          (∀ i, m.placeFor r1 ≠ some i → t.mtu.logAt i = m.logAt i) ∧ t.mtu.seq = m.seq + (if high ∨ followed then 1 else 0)
      (band → settled < p.settleCount → only { m0 with settleRun := settled, fallRun := 0 }) ∧
      (band → p.settleCount ≤ settled → logged false ∧ t.mtu.openRec = none ∧ t.mtu.entry = (if m.starved then s.now
        else time) ∧ t.mtu.state = (if m.starved then .sensorLost else .normal) ∧ .motionSwitch ∈ taken.2 ∧
        t.mtu.parkHold = (if p.parkHold = 0 then none else some { start := s.now, dur := p.parkHold }) ∧
        t.mtu.shockTimer = (if p.shockHold = 0 then none else some { start := s.now, dur := p.shockHold })) ∧
      (low → run < p.fallCount → only { m0 with fallRun := run, fallStart := start, settleRun := 0 }) ∧
      (low → p.fallCount ≤ run → logged true ∧ t.mtu.state = .falling ∧ t.mtu.openRec = some (opened .drop start) ∧
        t.mtu.park = true ∧ t.mtu.shockHold = true) ∧
      (high → logged false ∧ t.mtu.openRec = some
          { opened .knock time with impacts := 1, parkToImpact := some toPark, snap := some snap } ∧
        t.mtu.state = (if p.window ≤ 1 then .settling else .impact) ∧ t.mtu.park = true ∧ t.mtu.shockHold = true) ∧
      (¬low → ¬high → ¬band → only { m0 with fallRun := 0, settleRun := 0 })))

/-- The motion timers: 50 ms without a delivery lose the sensor in NORMAL and end the window in IMPACT; the fall limit
ends a fall as LONG_FALL; the settle limit closes the record and starts both holds; the holds end PARK and the
shock-hold flag, whose clearing releases a SUSPECT bay with an open latch. -/
def Obligations.MotionTimersExpire : Prop :=
  ∀ s : State, s.agenda = [] →
    (∀ since, s.mtu.lossSince = some since →
      ((s.mtu.starved = true ∨ age s.now since < 50) → exec .sampleLossExpiry s = .next s) ∧
      (s.mtu.starved = false → 50 ≤ age s.now since →
        (s.mtu.state = .normal → exec .sampleLossExpiry s = .next
          (State.notify { s with mtu := { s.mtu with starved := true, state := .sensorLost, entry := s.now } }
            { kind := .sensorLost, severity := .warn, subject := 4, arg1 := outcomeCodeOpt s.mtu.lastRead
              arg2 := 0 })) ∧
        (s.mtu.state = .impact → exec .sampleLossExpiry s = .next
          { s with mtu := { s.mtu with
            starved := true, state := .settling, entry := s.now, fallRun := 0, settleRun := 0 } }))) ∧
    (∀ r, s.mtu.state = .falling → s.mtu.openRec = some r →
      (age s.now r.start < s.motionParams.fallLimit → exec .fallLimitExpiry s = .next s) ∧
      (s.motionParams.fallLimit ≤ age s.now r.start →
        let r' : DropRec :=
          { r with kind := .longFall, freeFall := s.motionParams.fallLimit, parkToImpact := none }
        exec .fallLimitExpiry s = .next { s with mtu := { s.mtu with
          openRec := some r', state := .settling, entry := s.now, fallRun := 0, settleRun := 0 } })) ∧
    (∀ r, s.mtu.state = .settling → s.mtu.openRec = some r →
      (age s.now s.mtu.entry < s.motionParams.settleLimit → exec .settleLimitExpiry s = .next s) ∧
      (s.motionParams.settleLimit ≤ age s.now s.mtu.entry → s.mtu.starved = false → s.mtu.motionDue = false →
        s.mtu.shockHold = true → s.motionParams.shockHold ≠ 0 → s.motionParams.parkHold ≠ 0 →
        ∃ t, exec .settleLimitExpiry s = .next t ∧ t.mtu.state = .normal ∧ t.mtu.entry = s.now ∧
          t.mtu.openRec = none ∧ t.mtu.park = s.mtu.park ∧ t.mtu.shockHold = true ∧
          t.mtu.parkHold = some { start := s.now, dur := s.motionParams.parkHold } ∧
          t.mtu.shockTimer = some { start := s.now, dur := s.motionParams.shockHold } ∧
          (∀ i, s.mtu.placeFor r = some i → ∃ q, t.mtu.logAt i = some q ∧ q.seq = r.seq ∧ q.kind = r.kind ∧
            q.peakCode = r.peakCode ∧ q.read = false ∧ q.settle =
              if reached s.now s.mtu.entry then min (age s.now s.mtu.entry) 65535 else 0) ∧
          (∀ i, s.mtu.placeFor r ≠ some i → t.mtu.logAt i = s.mtu.logAt i) ∧ t.ppc = s.ppc ∧ t.bays = s.bays ∧
          t.brc = s.brc ∧ t.ports = s.ports ∧ t.sru = s.sru ∧ t.uli = s.uli)) ∧
    (∀ x : Timer, s.mtu.parkHold = some x →
      exec .parkHoldExpiry s = .next (if x.dur ≤ age s.now x.start then
        { s with mtu := { s.mtu with park := false, parkHold := none } } else s)) ∧
    (∀ x : Timer, s.mtu.shockTimer = some x → s.mtu.shockHold = true →
      (age s.now x.start < x.dur → exec .shockHoldExpiry s = .next s) ∧
      (x.dur ≤ age s.now x.start →
        ((∀ bay, (s.bay bay).state ≠ .suspect ∨ (s.bay bay).latchClosed = true) →
          (s.ppc.attempt.isSome = true ∨ s.powerIdle) →
          exec .shockHoldExpiry s = .next { s with mtu := { s.mtu with shockHold := false, shockTimer := none } }) ∧
        (∀ bay, s.engaged → (s.bay bay).state = .suspect → (s.bay bay).latchClosed = false →
          ∃ t, exec .shockHoldExpiry s = .next t ∧ t.mtu.shockHold = false ∧ t.mtu.shockTimer = none ∧
            t.bay bay = { s.bay bay with
              state := .releasing, entry := s.now, origin := some .latch, wasActive := false })))
end

