-- ==== Sys2Proof/Laws/State.lean ====
section
/-!
SUPPORT. The small lemmas of the state's updates: for each update one lemma for each field, and the reading of a replaced
record, so that no later proof unfolds an update.
-/

namespace Sys2Proof.Machine

@[simp] theorem State.setUli_pending (s : State) (u : Uli) : (s.setUli u).pending = s.pending := rfl
@[simp] theorem State.setUli_agenda (s : State) (u : Uli) : (s.setUli u).agenda = s.agenda := rfl
@[simp] theorem State.setUli_now (s : State) (u : Uli) : (s.setUli u).now = s.now := rfl
@[simp] theorem State.setUli_lines (s : State) (u : Uli) : (s.setUli u).lines = s.lines := rfl
@[simp] theorem State.setUli_uli (s : State) (u : Uli) : (s.setUli u).uli = u := rfl
@[simp] theorem State.setUli_ports (s : State) (u : Uli) : (s.setUli u).ports = s.ports := rfl
@[simp] theorem State.setUli_polls (s : State) (u : Uli) : (s.setUli u).polls = s.polls := rfl
@[simp] theorem State.setUli_slots (s : State) (u : Uli) : (s.setUli u).slots = s.slots := rfl
@[simp] theorem State.setUli_ppc (s : State) (u : Uli) : (s.setUli u).ppc = s.ppc := rfl
@[simp] theorem State.setUli_classifier (s : State) (u : Uli) : (s.setUli u).classifier = s.classifier := rfl
@[simp] theorem State.setUli_bays (s : State) (u : Uli) : (s.setUli u).bays = s.bays := rfl
@[simp] theorem State.setUli_brc (s : State) (u : Uli) : (s.setUli u).brc = s.brc := rfl
@[simp] theorem State.setUli_mtu (s : State) (u : Uli) : (s.setUli u).mtu = s.mtu := rfl
@[simp] theorem State.setUli_sru (s : State) (u : Uli) : (s.setUli u).sru = s.sru := rfl
@[simp] theorem State.setUli_ntq (s : State) (u : Uli) : (s.setUli u).ntq = s.ntq := rfl
@[simp] theorem State.setUli_smi (s : State) (u : Uli) : (s.setUli u).smi = s.smi := rfl

@[simp] theorem State.setSru_pending (s : State) (u : Sru) : (s.setSru u).pending = s.pending := rfl
@[simp] theorem State.setSru_agenda (s : State) (u : Sru) : (s.setSru u).agenda = s.agenda := rfl
@[simp] theorem State.setSru_now (s : State) (u : Sru) : (s.setSru u).now = s.now := rfl
@[simp] theorem State.setSru_lines (s : State) (u : Sru) : (s.setSru u).lines = s.lines := rfl
@[simp] theorem State.setSru_uli (s : State) (u : Sru) : (s.setSru u).uli = s.uli := rfl
@[simp] theorem State.setSru_ports (s : State) (u : Sru) : (s.setSru u).ports = s.ports := rfl
@[simp] theorem State.setSru_polls (s : State) (u : Sru) : (s.setSru u).polls = s.polls := rfl
@[simp] theorem State.setSru_slots (s : State) (u : Sru) : (s.setSru u).slots = s.slots := rfl
@[simp] theorem State.setSru_ppc (s : State) (u : Sru) : (s.setSru u).ppc = s.ppc := rfl
@[simp] theorem State.setSru_classifier (s : State) (u : Sru) : (s.setSru u).classifier = s.classifier := rfl
@[simp] theorem State.setSru_bays (s : State) (u : Sru) : (s.setSru u).bays = s.bays := rfl
@[simp] theorem State.setSru_brc (s : State) (u : Sru) : (s.setSru u).brc = s.brc := rfl
@[simp] theorem State.setSru_mtu (s : State) (u : Sru) : (s.setSru u).mtu = s.mtu := rfl
@[simp] theorem State.setSru_sru (s : State) (u : Sru) : (s.setSru u).sru = u := rfl
@[simp] theorem State.setSru_ntq (s : State) (u : Sru) : (s.setSru u).ntq = s.ntq := rfl
@[simp] theorem State.setSru_smi (s : State) (u : Sru) : (s.setSru u).smi = s.smi := rfl

@[simp] theorem State.setMtu_pending (s : State) (m : Mtu) : (s.setMtu m).pending = s.pending := rfl
@[simp] theorem State.setMtu_agenda (s : State) (m : Mtu) : (s.setMtu m).agenda = s.agenda := rfl
@[simp] theorem State.setMtu_now (s : State) (m : Mtu) : (s.setMtu m).now = s.now := rfl
@[simp] theorem State.setMtu_lines (s : State) (m : Mtu) : (s.setMtu m).lines = s.lines := rfl
@[simp] theorem State.setMtu_uli (s : State) (m : Mtu) : (s.setMtu m).uli = s.uli := rfl
@[simp] theorem State.setMtu_ports (s : State) (m : Mtu) : (s.setMtu m).ports = s.ports := rfl
@[simp] theorem State.setMtu_polls (s : State) (m : Mtu) : (s.setMtu m).polls = s.polls := rfl
@[simp] theorem State.setMtu_slots (s : State) (m : Mtu) : (s.setMtu m).slots = s.slots := rfl
@[simp] theorem State.setMtu_ppc (s : State) (m : Mtu) : (s.setMtu m).ppc = s.ppc := rfl
@[simp] theorem State.setMtu_classifier (s : State) (m : Mtu) : (s.setMtu m).classifier = s.classifier := rfl
@[simp] theorem State.setMtu_bays (s : State) (m : Mtu) : (s.setMtu m).bays = s.bays := rfl
@[simp] theorem State.setMtu_brc (s : State) (m : Mtu) : (s.setMtu m).brc = s.brc := rfl
@[simp] theorem State.setMtu_mtu (s : State) (m : Mtu) : (s.setMtu m).mtu = m := rfl
@[simp] theorem State.setMtu_sru (s : State) (m : Mtu) : (s.setMtu m).sru = s.sru := rfl
@[simp] theorem State.setMtu_ntq (s : State) (m : Mtu) : (s.setMtu m).ntq = s.ntq := rfl
@[simp] theorem State.setMtu_smi (s : State) (m : Mtu) : (s.setMtu m).smi = s.smi := rfl

@[simp] theorem State.setSmi_pending (s : State) (m : Smi) : (s.setSmi m).pending = s.pending := rfl
@[simp] theorem State.setSmi_agenda (s : State) (m : Smi) : (s.setSmi m).agenda = s.agenda := rfl
@[simp] theorem State.setSmi_now (s : State) (m : Smi) : (s.setSmi m).now = s.now := rfl
@[simp] theorem State.setSmi_lines (s : State) (m : Smi) : (s.setSmi m).lines = s.lines := rfl
@[simp] theorem State.setSmi_uli (s : State) (m : Smi) : (s.setSmi m).uli = s.uli := rfl
@[simp] theorem State.setSmi_ports (s : State) (m : Smi) : (s.setSmi m).ports = s.ports := rfl
@[simp] theorem State.setSmi_polls (s : State) (m : Smi) : (s.setSmi m).polls = s.polls := rfl
@[simp] theorem State.setSmi_slots (s : State) (m : Smi) : (s.setSmi m).slots = s.slots := rfl
@[simp] theorem State.setSmi_ppc (s : State) (m : Smi) : (s.setSmi m).ppc = s.ppc := rfl
@[simp] theorem State.setSmi_classifier (s : State) (m : Smi) : (s.setSmi m).classifier = s.classifier := rfl
@[simp] theorem State.setSmi_bays (s : State) (m : Smi) : (s.setSmi m).bays = s.bays := rfl
@[simp] theorem State.setSmi_brc (s : State) (m : Smi) : (s.setSmi m).brc = s.brc := rfl
@[simp] theorem State.setSmi_mtu (s : State) (m : Smi) : (s.setSmi m).mtu = s.mtu := rfl
@[simp] theorem State.setSmi_sru (s : State) (m : Smi) : (s.setSmi m).sru = s.sru := rfl
@[simp] theorem State.setSmi_ntq (s : State) (m : Smi) : (s.setSmi m).ntq = s.ntq := rfl
@[simp] theorem State.setSmi_smi (s : State) (m : Smi) : (s.setSmi m).smi = m := rfl

@[simp] theorem State.setBay_pending (s : State) (i : Bay) (r : BayRec) : (s.setBay i r).pending = s.pending := rfl
@[simp] theorem State.setBay_agenda (s : State) (i : Bay) (r : BayRec) : (s.setBay i r).agenda = s.agenda := rfl
@[simp] theorem State.setBay_now (s : State) (i : Bay) (r : BayRec) : (s.setBay i r).now = s.now := rfl
@[simp] theorem State.setBay_lines (s : State) (i : Bay) (r : BayRec) : (s.setBay i r).lines = s.lines := rfl
@[simp] theorem State.setBay_uli (s : State) (i : Bay) (r : BayRec) : (s.setBay i r).uli = s.uli := rfl
@[simp] theorem State.setBay_ports (s : State) (i : Bay) (r : BayRec) : (s.setBay i r).ports = s.ports := rfl
@[simp] theorem State.setBay_polls (s : State) (i : Bay) (r : BayRec) : (s.setBay i r).polls = s.polls := rfl
@[simp] theorem State.setBay_slots (s : State) (i : Bay) (r : BayRec) : (s.setBay i r).slots = s.slots := rfl
@[simp] theorem State.setBay_ppc (s : State) (i : Bay) (r : BayRec) : (s.setBay i r).ppc = s.ppc := rfl
@[simp] theorem State.setBay_classifier (s : State) (i : Bay) (r : BayRec) :
    (s.setBay i r).classifier = s.classifier := rfl
@[simp] theorem State.setBay_bays (s : State) (i : Bay) (r : BayRec) : (s.setBay i r).bays = s.bays.set i r := rfl
@[simp] theorem State.setBay_brc (s : State) (i : Bay) (r : BayRec) : (s.setBay i r).brc = s.brc := rfl
@[simp] theorem State.setBay_mtu (s : State) (i : Bay) (r : BayRec) : (s.setBay i r).mtu = s.mtu := rfl
@[simp] theorem State.setBay_sru (s : State) (i : Bay) (r : BayRec) : (s.setBay i r).sru = s.sru := rfl
@[simp] theorem State.setBay_ntq (s : State) (i : Bay) (r : BayRec) : (s.setBay i r).ntq = s.ntq := rfl
@[simp] theorem State.setBay_smi (s : State) (i : Bay) (r : BayRec) : (s.setBay i r).smi = s.smi := rfl

@[simp] theorem State.setPort_pending (s : State) (i : Seg) (p : Port) : (s.setPort i p).pending = s.pending := rfl
@[simp] theorem State.setPort_agenda (s : State) (i : Seg) (p : Port) : (s.setPort i p).agenda = s.agenda := rfl
@[simp] theorem State.setPort_now (s : State) (i : Seg) (p : Port) : (s.setPort i p).now = s.now := rfl
@[simp] theorem State.setPort_lines (s : State) (i : Seg) (p : Port) : (s.setPort i p).lines = s.lines := rfl
@[simp] theorem State.setPort_uli (s : State) (i : Seg) (p : Port) : (s.setPort i p).uli = s.uli := rfl
@[simp] theorem State.setPort_ports (s : State) (i : Seg) (p : Port) : (s.setPort i p).ports = s.ports.set i p := rfl
@[simp] theorem State.setPort_polls (s : State) (i : Seg) (p : Port) : (s.setPort i p).polls = s.polls := rfl
@[simp] theorem State.setPort_slots (s : State) (i : Seg) (p : Port) : (s.setPort i p).slots = s.slots := rfl
@[simp] theorem State.setPort_ppc (s : State) (i : Seg) (p : Port) : (s.setPort i p).ppc = s.ppc := rfl
@[simp] theorem State.setPort_classifier (s : State) (i : Seg) (p : Port) :
    (s.setPort i p).classifier = s.classifier := rfl
@[simp] theorem State.setPort_bays (s : State) (i : Seg) (p : Port) : (s.setPort i p).bays = s.bays := rfl
@[simp] theorem State.setPort_brc (s : State) (i : Seg) (p : Port) : (s.setPort i p).brc = s.brc := rfl
@[simp] theorem State.setPort_mtu (s : State) (i : Seg) (p : Port) : (s.setPort i p).mtu = s.mtu := rfl
@[simp] theorem State.setPort_sru (s : State) (i : Seg) (p : Port) : (s.setPort i p).sru = s.sru := rfl
@[simp] theorem State.setPort_ntq (s : State) (i : Seg) (p : Port) : (s.setPort i p).ntq = s.ntq := rfl
@[simp] theorem State.setPort_smi (s : State) (i : Seg) (p : Port) : (s.setPort i p).smi = s.smi := rfl

@[simp] theorem State.setSlot_pending (s : State) (i : Fin 32) (r : Slot) : (s.setSlot i r).pending = s.pending := rfl
@[simp] theorem State.setSlot_agenda (s : State) (i : Fin 32) (r : Slot) : (s.setSlot i r).agenda = s.agenda := rfl
@[simp] theorem State.setSlot_now (s : State) (i : Fin 32) (r : Slot) : (s.setSlot i r).now = s.now := rfl
@[simp] theorem State.setSlot_lines (s : State) (i : Fin 32) (r : Slot) : (s.setSlot i r).lines = s.lines := rfl
@[simp] theorem State.setSlot_uli (s : State) (i : Fin 32) (r : Slot) : (s.setSlot i r).uli = s.uli := rfl
@[simp] theorem State.setSlot_ports (s : State) (i : Fin 32) (r : Slot) : (s.setSlot i r).ports = s.ports := rfl
@[simp] theorem State.setSlot_polls (s : State) (i : Fin 32) (r : Slot) : (s.setSlot i r).polls = s.polls := rfl
@[simp] theorem State.setSlot_slots (s : State) (i : Fin 32) (r : Slot) : (s.setSlot i r).slots = s.slots.set i r := rfl
@[simp] theorem State.setSlot_ppc (s : State) (i : Fin 32) (r : Slot) : (s.setSlot i r).ppc = s.ppc := rfl
@[simp] theorem State.setSlot_classifier (s : State) (i : Fin 32) (r : Slot) :
    (s.setSlot i r).classifier = s.classifier := rfl
@[simp] theorem State.setSlot_bays (s : State) (i : Fin 32) (r : Slot) : (s.setSlot i r).bays = s.bays := rfl
@[simp] theorem State.setSlot_brc (s : State) (i : Fin 32) (r : Slot) : (s.setSlot i r).brc = s.brc := rfl
@[simp] theorem State.setSlot_mtu (s : State) (i : Fin 32) (r : Slot) : (s.setSlot i r).mtu = s.mtu := rfl
@[simp] theorem State.setSlot_sru (s : State) (i : Fin 32) (r : Slot) : (s.setSlot i r).sru = s.sru := rfl
@[simp] theorem State.setSlot_ntq (s : State) (i : Fin 32) (r : Slot) : (s.setSlot i r).ntq = s.ntq := rfl
@[simp] theorem State.setSlot_smi (s : State) (i : Fin 32) (r : Slot) : (s.setSlot i r).smi = s.smi := rfl

@[simp] theorem State.setPoll_pending (s : State) (i : Fin 24) (r : PollStatus) :
    (s.setPoll i r).pending = s.pending := rfl
@[simp] theorem State.setPoll_agenda (s : State) (i : Fin 24) (r : PollStatus) :
    (s.setPoll i r).agenda = s.agenda := rfl
@[simp] theorem State.setPoll_now (s : State) (i : Fin 24) (r : PollStatus) : (s.setPoll i r).now = s.now := rfl
@[simp] theorem State.setPoll_lines (s : State) (i : Fin 24) (r : PollStatus) : (s.setPoll i r).lines = s.lines := rfl
@[simp] theorem State.setPoll_uli (s : State) (i : Fin 24) (r : PollStatus) : (s.setPoll i r).uli = s.uli := rfl
@[simp] theorem State.setPoll_ports (s : State) (i : Fin 24) (r : PollStatus) : (s.setPoll i r).ports = s.ports := rfl
@[simp] theorem State.setPoll_polls (s : State) (i : Fin 24) (r : PollStatus) :
    (s.setPoll i r).polls = s.polls.set i r := rfl
@[simp] theorem State.setPoll_slots (s : State) (i : Fin 24) (r : PollStatus) : (s.setPoll i r).slots = s.slots := rfl
@[simp] theorem State.setPoll_ppc (s : State) (i : Fin 24) (r : PollStatus) : (s.setPoll i r).ppc = s.ppc := rfl
@[simp] theorem State.setPoll_classifier (s : State) (i : Fin 24) (r : PollStatus) :
    (s.setPoll i r).classifier = s.classifier := rfl
@[simp] theorem State.setPoll_bays (s : State) (i : Fin 24) (r : PollStatus) : (s.setPoll i r).bays = s.bays := rfl
@[simp] theorem State.setPoll_brc (s : State) (i : Fin 24) (r : PollStatus) : (s.setPoll i r).brc = s.brc := rfl
@[simp] theorem State.setPoll_mtu (s : State) (i : Fin 24) (r : PollStatus) : (s.setPoll i r).mtu = s.mtu := rfl
@[simp] theorem State.setPoll_sru (s : State) (i : Fin 24) (r : PollStatus) : (s.setPoll i r).sru = s.sru := rfl
@[simp] theorem State.setPoll_ntq (s : State) (i : Fin 24) (r : PollStatus) : (s.setPoll i r).ntq = s.ntq := rfl
@[simp] theorem State.setPoll_smi (s : State) (i : Fin 24) (r : PollStatus) : (s.setPoll i r).smi = s.smi := rfl

@[simp] theorem State.setSource_pending (s : State) (i : Src) (r : SourceRec) :
    (s.setSource i r).pending = s.pending := rfl
@[simp] theorem State.setSource_agenda (s : State) (i : Src) (r : SourceRec) :
    (s.setSource i r).agenda = s.agenda := rfl
@[simp] theorem State.setSource_now (s : State) (i : Src) (r : SourceRec) : (s.setSource i r).now = s.now := rfl
@[simp] theorem State.setSource_lines (s : State) (i : Src) (r : SourceRec) : (s.setSource i r).lines = s.lines := rfl
@[simp] theorem State.setSource_uli (s : State) (i : Src) (r : SourceRec) : (s.setSource i r).uli = s.uli := rfl
@[simp] theorem State.setSource_ports (s : State) (i : Src) (r : SourceRec) : (s.setSource i r).ports = s.ports := rfl
@[simp] theorem State.setSource_polls (s : State) (i : Src) (r : SourceRec) : (s.setSource i r).polls = s.polls := rfl
@[simp] theorem State.setSource_slots (s : State) (i : Src) (r : SourceRec) : (s.setSource i r).slots = s.slots := rfl
@[simp] theorem State.setSource_ppc (s : State) (i : Src) (r : SourceRec) :
    (s.setSource i r).ppc = { s.ppc with sources := s.ppc.sources.set i r } := rfl
@[simp] theorem State.setSource_classifier (s : State) (i : Src) (r : SourceRec) :
    (s.setSource i r).classifier = s.classifier := rfl
@[simp] theorem State.setSource_bays (s : State) (i : Src) (r : SourceRec) : (s.setSource i r).bays = s.bays := rfl
@[simp] theorem State.setSource_brc (s : State) (i : Src) (r : SourceRec) : (s.setSource i r).brc = s.brc := rfl
@[simp] theorem State.setSource_mtu (s : State) (i : Src) (r : SourceRec) : (s.setSource i r).mtu = s.mtu := rfl
@[simp] theorem State.setSource_sru (s : State) (i : Src) (r : SourceRec) : (s.setSource i r).sru = s.sru := rfl
@[simp] theorem State.setSource_ntq (s : State) (i : Src) (r : SourceRec) : (s.setSource i r).ntq = s.ntq := rfl
@[simp] theorem State.setSource_smi (s : State) (i : Src) (r : SourceRec) : (s.setSource i r).smi = s.smi := rfl

@[simp] theorem State.notify_pending (s : State) (p : Post) : (s.notify p).pending = s.pending := rfl
@[simp] theorem State.notify_agenda (s : State) (p : Post) : (s.notify p).agenda = s.agenda := rfl
@[simp] theorem State.notify_now (s : State) (p : Post) : (s.notify p).now = s.now := rfl
@[simp] theorem State.notify_lines (s : State) (p : Post) : (s.notify p).lines = s.lines := rfl
@[simp] theorem State.notify_uli (s : State) (p : Post) : (s.notify p).uli = s.uli := rfl
@[simp] theorem State.notify_ports (s : State) (p : Post) : (s.notify p).ports = s.ports := rfl
@[simp] theorem State.notify_polls (s : State) (p : Post) : (s.notify p).polls = s.polls := rfl
@[simp] theorem State.notify_slots (s : State) (p : Post) : (s.notify p).slots = s.slots := rfl
@[simp] theorem State.notify_ppc (s : State) (p : Post) : (s.notify p).ppc = s.ppc := rfl
@[simp] theorem State.notify_classifier (s : State) (p : Post) : (s.notify p).classifier = s.classifier := rfl
@[simp] theorem State.notify_bays (s : State) (p : Post) : (s.notify p).bays = s.bays := rfl
@[simp] theorem State.notify_brc (s : State) (p : Post) : (s.notify p).brc = s.brc := rfl
@[simp] theorem State.notify_mtu (s : State) (p : Post) : (s.notify p).mtu = s.mtu := rfl
@[simp] theorem State.notify_sru (s : State) (p : Post) : (s.notify p).sru = s.sru := rfl
@[simp] theorem State.notify_ntq (s : State) (p : Post) : (s.notify p).ntq = s.ntq.post s.now p := rfl
@[simp] theorem State.notify_smi (s : State) (p : Post) : (s.notify p).smi = s.smi := rfl

@[simp] theorem State.mapPolls_pending (s : State) (f : Fin 24 → PollStatus → PollStatus) :
    (s.mapPolls f).pending = s.pending := by simp only [State.mapPolls]
@[simp] theorem State.mapPolls_agenda (s : State) (f : Fin 24 → PollStatus → PollStatus) :
    (s.mapPolls f).agenda = s.agenda := by simp only [State.mapPolls]
@[simp] theorem State.mapPolls_now (s : State) (f : Fin 24 → PollStatus → PollStatus) :
    (s.mapPolls f).now = s.now := by simp only [State.mapPolls]
@[simp] theorem State.mapPolls_lines (s : State) (f : Fin 24 → PollStatus → PollStatus) :
    (s.mapPolls f).lines = s.lines := by simp only [State.mapPolls]
@[simp] theorem State.mapPolls_uli (s : State) (f : Fin 24 → PollStatus → PollStatus) :
    (s.mapPolls f).uli = s.uli := by simp only [State.mapPolls]
@[simp] theorem State.mapPolls_ports (s : State) (f : Fin 24 → PollStatus → PollStatus) :
    (s.mapPolls f).ports = s.ports := by simp only [State.mapPolls]
theorem State.mapPolls_polls (s : State) (f : Fin 24 → PollStatus → PollStatus) :
    (s.mapPolls f).polls = Vector.ofFn fun i => f i s.polls[i] := by simp only [State.mapPolls]
@[simp] theorem State.mapPolls_slots (s : State) (f : Fin 24 → PollStatus → PollStatus) :
    (s.mapPolls f).slots = s.slots := by simp only [State.mapPolls]
@[simp] theorem State.mapPolls_ppc (s : State) (f : Fin 24 → PollStatus → PollStatus) :
    (s.mapPolls f).ppc = s.ppc := by simp only [State.mapPolls]
@[simp] theorem State.mapPolls_classifier (s : State) (f : Fin 24 → PollStatus → PollStatus) :
    (s.mapPolls f).classifier = s.classifier := by simp only [State.mapPolls]
@[simp] theorem State.mapPolls_bays (s : State) (f : Fin 24 → PollStatus → PollStatus) :
    (s.mapPolls f).bays = s.bays := by simp only [State.mapPolls]
@[simp] theorem State.mapPolls_brc (s : State) (f : Fin 24 → PollStatus → PollStatus) :
    (s.mapPolls f).brc = s.brc := by simp only [State.mapPolls]
@[simp] theorem State.mapPolls_mtu (s : State) (f : Fin 24 → PollStatus → PollStatus) :
    (s.mapPolls f).mtu = s.mtu := by simp only [State.mapPolls]
@[simp] theorem State.mapPolls_sru (s : State) (f : Fin 24 → PollStatus → PollStatus) :
    (s.mapPolls f).sru = s.sru := by simp only [State.mapPolls]
@[simp] theorem State.mapPolls_ntq (s : State) (f : Fin 24 → PollStatus → PollStatus) :
    (s.mapPolls f).ntq = s.ntq := by simp only [State.mapPolls]
@[simp] theorem State.mapPolls_smi (s : State) (f : Fin 24 → PollStatus → PollStatus) :
    (s.mapPolls f).smi = s.smi := by simp only [State.mapPolls]

@[simp] theorem State.refresh_pending (s : State) : (s.refresh).pending = s.pending := rfl
@[simp] theorem State.refresh_agenda (s : State) : (s.refresh).agenda = s.agenda := rfl
@[simp] theorem State.refresh_now (s : State) : (s.refresh).now = s.now := rfl
@[simp] theorem State.refresh_lines (s : State) : (s.refresh).lines = s.lines := rfl
@[simp] theorem State.refresh_uli (s : State) : (s.refresh).uli = s.uli := rfl
@[simp] theorem State.refresh_ports (s : State) : (s.refresh).ports = s.ports := rfl
@[simp] theorem State.refresh_polls (s : State) : (s.refresh).polls = s.polls := rfl
@[simp] theorem State.refresh_slots (s : State) : (s.refresh).slots = s.slots := rfl
theorem State.refresh_ppc (s : State) :
    (s.refresh).ppc = { s.ppc with sources :=
      { dc := s.refreshed .dc, a := s.refreshed .a, b := s.refreshed .b, br := s.refreshed .br } } := rfl
@[simp] theorem State.refresh_classifier (s : State) : (s.refresh).classifier = s.classifier := rfl
@[simp] theorem State.refresh_bays (s : State) : (s.refresh).bays = s.bays := rfl
@[simp] theorem State.refresh_brc (s : State) : (s.refresh).brc = s.brc := rfl
@[simp] theorem State.refresh_mtu (s : State) : (s.refresh).mtu = s.mtu := rfl
@[simp] theorem State.refresh_sru (s : State) : (s.refresh).sru = s.sru := rfl
@[simp] theorem State.refresh_ntq (s : State) : (s.refresh).ntq = s.ntq := rfl
@[simp] theorem State.refresh_smi (s : State) : (s.refresh).smi = s.smi := rfl

@[simp] theorem State.dropRelease_pending (s : State) (i : Bay) : (s.dropRelease i).pending = s.pending := rfl
@[simp] theorem State.dropRelease_agenda (s : State) (i : Bay) : (s.dropRelease i).agenda = s.agenda := rfl
@[simp] theorem State.dropRelease_now (s : State) (i : Bay) : (s.dropRelease i).now = s.now := rfl
@[simp] theorem State.dropRelease_lines (s : State) (i : Bay) : (s.dropRelease i).lines = s.lines := rfl
@[simp] theorem State.dropRelease_uli (s : State) (i : Bay) : (s.dropRelease i).uli = s.uli := rfl
@[simp] theorem State.dropRelease_ports (s : State) (i : Bay) : (s.dropRelease i).ports = s.ports := rfl
@[simp] theorem State.dropRelease_polls (s : State) (i : Bay) : (s.dropRelease i).polls = s.polls := rfl
@[simp] theorem State.dropRelease_slots (s : State) (i : Bay) : (s.dropRelease i).slots = s.slots := rfl
@[simp] theorem State.dropRelease_ppc (s : State) (i : Bay) :
    (s.dropRelease i).ppc = { s.ppc with waitRelease := s.ppc.waitRelease.set i none } := rfl
@[simp] theorem State.dropRelease_classifier (s : State) (i : Bay) : (s.dropRelease i).classifier = s.classifier := rfl
@[simp] theorem State.dropRelease_bays (s : State) (i : Bay) : (s.dropRelease i).bays = s.bays := rfl
@[simp] theorem State.dropRelease_brc (s : State) (i : Bay) : (s.dropRelease i).brc = s.brc := rfl
@[simp] theorem State.dropRelease_mtu (s : State) (i : Bay) : (s.dropRelease i).mtu = s.mtu := rfl
@[simp] theorem State.dropRelease_sru (s : State) (i : Bay) : (s.dropRelease i).sru = s.sru := rfl
@[simp] theorem State.dropRelease_ntq (s : State) (i : Bay) : (s.dropRelease i).ntq = s.ntq := rfl
@[simp] theorem State.dropRelease_smi (s : State) (i : Bay) : (s.dropRelease i).smi = s.smi := rfl

/-- A family read where it was replaced. -/
@[simp] theorem PerBay.get_set_self {α : Type} (p : PerBay α) (i : Bay) (x : α) : (p.set i x).get i = x := by
  cases i <;> rfl

/-- A family read where it was not replaced. -/
theorem PerBay.get_set_ne {α : Type} (p : PerBay α) {i j : Bay} (x : α) (h : j ≠ i) : (p.set i x).get j = p.get j := by
  cases i <;> cases j <;> first | rfl | exact absurd rfl h

/-- The family with the one it holds already. -/
@[simp] theorem PerBay.set_get {α : Type} (p : PerBay α) (i : Bay) : p.set i (p.get i) = p := by
  cases i <;> rfl

/-- A family read where it was replaced. -/
@[simp] theorem PerSeg.get_set_self {α : Type} (p : PerSeg α) (i : Seg) (x : α) : (p.set i x).get i = x := by
  cases i <;> rfl

/-- A family read where it was not replaced. -/
theorem PerSeg.get_set_ne {α : Type} (p : PerSeg α) {i j : Seg} (x : α) (h : j ≠ i) : (p.set i x).get j = p.get j := by
  cases i <;> cases j <;> first | rfl | exact absurd rfl h

/-- The family with the one it holds already. -/
@[simp] theorem PerSeg.set_get {α : Type} (p : PerSeg α) (i : Seg) : p.set i (p.get i) = p := by
  cases i <;> rfl

/-- A family read where it was replaced. -/
@[simp] theorem PerSrc.get_set_self {α : Type} (p : PerSrc α) (i : Src) (x : α) : (p.set i x).get i = x := by
  cases i <;> rfl

/-- A family read where it was not replaced. -/
theorem PerSrc.get_set_ne {α : Type} (p : PerSrc α) {i j : Src} (x : α) (h : j ≠ i) : (p.set i x).get j = p.get j := by
  cases i <;> cases j <;> first | rfl | exact absurd rfl h

/-- The family with the one it holds already. -/
@[simp] theorem PerSrc.set_get {α : Type} (p : PerSrc α) (i : Src) : p.set i (p.get i) = p := by
  cases i <;> rfl

@[simp] theorem State.setBay_bay_self (s : State) (i : Bay) (r : BayRec) : (s.setBay i r).bay i = r := by
  simp [State.bay]

theorem State.setBay_bay_ne (s : State) {i j : Bay} (r : BayRec) (h : j ≠ i) : (s.setBay i r).bay j = s.bay j := by
  simp [State.bay, PerBay.get_set_ne, h]

@[simp] theorem State.setPort_port_self (s : State) (i : Seg) (p : Port) : (s.setPort i p).port i = p := by
  simp [State.port]

theorem State.setPort_port_ne (s : State) {i j : Seg} (p : Port) (h : j ≠ i) :
    (s.setPort i p).port j = s.port j := by
  simp [State.port, PerSeg.get_set_ne, h]

@[simp] theorem State.setSource_source_self (s : State) (i : Src) (r : SourceRec) : (s.setSource i r).source i = r := by
  simp [State.source]

theorem State.setSource_source_ne (s : State) {i j : Src} (r : SourceRec) (h : j ≠ i) :
    (s.setSource i r).source j = s.source j := by
  simp [State.source, PerSrc.get_set_ne, h]

@[simp] theorem State.setSlot_slot_self (s : State) (i : Fin 32) (r : Slot) : (s.setSlot i r).slot i = r := by
  simp [State.slot]

theorem State.setSlot_slot_ne (s : State) {i j : Fin 32} (r : Slot) (h : j ≠ i) :
    (s.setSlot i r).slot j = s.slot j := by
  have h' : (i : Nat) ≠ j := fun e => h (Fin.ext e.symm)
  simp [State.slot, h']

@[simp] theorem State.setPoll_poll_self (s : State) (i : Fin 24) (r : PollStatus) : (s.setPoll i r).poll i = r := by
  simp [State.poll]

theorem State.setPoll_poll_ne (s : State) {i j : Fin 24} (r : PollStatus) (h : j ≠ i) :
    (s.setPoll i r).poll j = s.poll j := by
  have h' : (i : Nat) ≠ j := fun e => h (Fin.ext e.symm)
  simp [State.poll, h']

@[simp] theorem State.mapPolls_poll (s : State) (f : Fin 24 → PollStatus → PollStatus) (i : Fin 24) :
    (s.mapPolls f).poll i = f i (s.poll i) := by
  simp [State.poll, State.mapPolls]

end Sys2Proof.Machine
end

