-- ==== Sys2Proof/Laws/Agenda.lean ====
section
/-!
SUPPORT. What the work-off of an agenda can do, said once: how it unfolds, when a handling is its first change alone, and
the two inductions that carry a property through a whole handling.
-/

namespace Sys2Proof.Machine

@[simp] theorem run_nil (fuel : Nat) (s : State) : run fuel [] s = s := by
  cases fuel <;> rfl

/-- One task of a run: its handling, and what it starts in front of the rest. -/
theorem run_cons (fuel : Nat) (t : Task) (ts : List Task) (s : State) :
    run (fuel + 1) (t :: ts) s = run fuel ((handle t s).2 ++ ts) (handle t s).1 := rfl

/-- A run that has no fuel left keeps its tasks on the agenda. -/
theorem run_zero (t : Task) (ts : List Task) (s : State) : run 0 (t :: ts) s = { s with agenda := t :: ts } := rfl

/-- A property of the state that every handling keeps, whatever the task, and that does not read the agenda, holds after
a run. -/
theorem run_keeps (P : State → Prop) (leftover : ∀ s ts, P s → P { s with agenda := ts })
    (kept : ∀ t s, P s → P (handle t s).1) : ∀ fuel ts s, P s → P (run fuel ts s) := by
  intro fuel
  induction fuel with
  | zero =>
    intro ts s h
    cases ts with
    | nil => exact h
    | cons t ts => exact leftover s (t :: ts) h
  | succ fuel ih =>
    intro ts s h
    cases ts with
    | nil => exact h
    | cons t ts => exact ih _ _ (kept t s h)

/-- The same with a class of tasks: a property that the handling of such tasks keeps, when they start only such tasks. -/
theorem run_keeps_class (P : State → Prop) (Q : Task → Prop) (leftover : ∀ s ts, P s → P { s with agenda := ts })
    (kept : ∀ t s, Q t → P s → P (handle t s).1) (closed : ∀ t s, Q t → P s → ∀ u ∈ (handle t s).2, Q u) :
    ∀ fuel ts s, (∀ t ∈ ts, Q t) → P s → P (run fuel ts s) := by
  intro fuel
  induction fuel with
  | zero =>
    intro ts s _ h
    cases ts with
    | nil => exact h
    | cons t ts => exact leftover s (t :: ts) h
  | succ fuel ih =>
    intro ts s hq h
    cases ts with
    | nil => exact h
    | cons t ts =>
      have ht : Q t := hq t (List.mem_cons_self ..)
      refine ih _ _ (fun u hu => ?_) (kept t s ht h)
      rcases List.mem_append.1 hu with hu | hu
      · exact closed t s ht h u hu
      · exact hq u (List.mem_cons_of_mem _ hu)

/-- A handling with nothing left over from an earlier step. -/
theorem perform_quiet {s : State} (h : s.agenda = []) (f : State → Act) :
    perform f s = run stepFuel (f s).2 (f s).1 := by
  have e : ({ s with agenda := [] } : State) = s := by rw [← h]
  simp [perform, h, e]

/-- A handling that starts nothing is its first change. -/
theorem perform_start {s : State} (h : s.agenda = []) {f : State → Act} (hf : (f s).2 = []) :
    perform f s = (f s).1 := by
  simp [perform_quiet h, hf]

/-- A handling that starts nothing is its first change. -/
@[simp] theorem perform_alone {s : State} (h : s.agenda = []) (g : State → State) :
    perform (fun x => alone (g x)) s = g s := perform_start h rfl

/-- A property that the first change and every handling keep holds after a whole handling. -/
theorem perform_keeps (P : State → Prop) (leftover : ∀ s ts, P s → P { s with agenda := ts })
    (kept : ∀ t s, P s → P (handle t s).1) (f : State → Act) (first : ∀ s, P s → P (f s).1) (s : State) (h : P s) :
    P (perform f s) :=
  run_keeps P leftover kept _ _ _ (first _ (leftover _ [] (run_keeps P leftover kept _ _ _ (leftover s [] h))))

end Sys2Proof.Machine
end

