-- ==== Sys2Proof/Laws/LowerFrames.lean ====
section
/-!
SUPPORT. What the Telemetry Store, the segment ports and the Poll Engine leave unchanged: for each operation one lemma that
names every part of the state it does not touch.
-/

namespace Sys2Proof.Machine

@[simp] theorem State.setSwitch_frame (s : State) (i : Src) (sw : Switch) :
    (State.setSwitch s i sw).pending = s.pending ∧ (State.setSwitch s i sw).agenda = s.agenda ∧
    (State.setSwitch s i sw).now = s.now ∧ (State.setSwitch s i sw).lines = s.lines ∧
    (State.setSwitch s i sw).uli = s.uli ∧ (State.setSwitch s i sw).ports = s.ports ∧
    (State.setSwitch s i sw).polls = s.polls ∧ (State.setSwitch s i sw).slots = s.slots ∧
    (State.setSwitch s i sw).classifier = s.classifier ∧ (State.setSwitch s i sw).bays = s.bays ∧
    (State.setSwitch s i sw).brc = s.brc ∧ (State.setSwitch s i sw).mtu = s.mtu ∧
    (State.setSwitch s i sw).sru = s.sru ∧ (State.setSwitch s i sw).ntq = s.ntq ∧
    (State.setSwitch s i sw).smi = s.smi := by
  generalize h : State.setSwitch s i sw = r
  unfold State.setSwitch at h
  try dsimp only at h
  subst h; simp

@[simp] theorem countImplausible_frame (source : SlotSource) (place : Nat) (slot : Fin 32) (v : Int) (s : State) :
    (countImplausible source place slot v s).pending = s.pending ∧
    (countImplausible source place slot v s).agenda = s.agenda ∧
    (countImplausible source place slot v s).now = s.now ∧ (countImplausible source place slot v s).lines = s.lines ∧
    (countImplausible source place slot v s).uli = s.uli ∧ (countImplausible source place slot v s).ports = s.ports ∧
    (countImplausible source place slot v s).polls = s.polls ∧ (countImplausible source place slot v s).ppc = s.ppc ∧
    (countImplausible source place slot v s).classifier = s.classifier ∧
    (countImplausible source place slot v s).bays = s.bays ∧ (countImplausible source place slot v s).brc = s.brc ∧
    (countImplausible source place slot v s).mtu = s.mtu ∧ (countImplausible source place slot v s).sru = s.sru ∧
    (countImplausible source place slot v s).smi = s.smi := by
  generalize h : countImplausible source place slot v s = r
  unfold countImplausible at h
  try dsimp only at h
  (repeat' split at h) <;> subst h <;> simp

@[simp] theorem runDescriptor_frame (source : SlotSource) (place : Nat) (d : Descriptor) (data : List Byte) (s : State) :
    (runDescriptor source place d data s).1.pending = s.pending ∧
    (runDescriptor source place d data s).1.agenda = s.agenda ∧ (runDescriptor source place d data s).1.now = s.now ∧
    (runDescriptor source place d data s).1.lines = s.lines ∧ (runDescriptor source place d data s).1.uli = s.uli ∧
    (runDescriptor source place d data s).1.ports = s.ports ∧
    (runDescriptor source place d data s).1.polls = s.polls ∧ (runDescriptor source place d data s).1.ppc = s.ppc ∧
    (runDescriptor source place d data s).1.classifier = s.classifier ∧
    (runDescriptor source place d data s).1.bays = s.bays ∧ (runDescriptor source place d data s).1.brc = s.brc ∧
    (runDescriptor source place d data s).1.mtu = s.mtu ∧ (runDescriptor source place d data s).1.sru = s.sru ∧
    (runDescriptor source place d data s).1.smi = s.smi := by
  generalize h : runDescriptor source place d data s = r
  unfold runDescriptor at h
  try dsimp only at h
  (repeat' split at h) <;> subst h <;> simp

@[simp] theorem makeStale_frame (slot : Fin 32) (s : State) :
    (makeStale slot s).1.pending = s.pending ∧ (makeStale slot s).1.agenda = s.agenda ∧
    (makeStale slot s).1.now = s.now ∧ (makeStale slot s).1.lines = s.lines ∧ (makeStale slot s).1.uli = s.uli ∧
    (makeStale slot s).1.ports = s.ports ∧ (makeStale slot s).1.polls = s.polls ∧ (makeStale slot s).1.ppc = s.ppc ∧
    (makeStale slot s).1.classifier = s.classifier ∧ (makeStale slot s).1.bays = s.bays ∧
    (makeStale slot s).1.brc = s.brc ∧ (makeStale slot s).1.mtu = s.mtu ∧ (makeStale slot s).1.sru = s.sru ∧
    (makeStale slot s).1.ntq = s.ntq ∧ (makeStale slot s).1.smi = s.smi := by
  generalize h : makeStale slot s = r
  unfold makeStale at h
  try dsimp only at h
  subst h; simp

/-- A fold that keeps a part of the state at each item keeps it. -/
theorem foldl_keeps {α β : Type} (part : State → β) (f : State → α → State) (hf : ∀ s a, part (f s a) = part s) :
    ∀ (l : List α) (s : State), part (l.foldl f s) = part s
  | [], _ => rfl
  | a :: l, s => by rw [List.foldl_cons, foldl_keeps part f hf l, hf]

@[simp] theorem switchLimits_frame (s : State) :
    (switchLimits s).1.pending = s.pending ∧ (switchLimits s).1.agenda = s.agenda ∧ (switchLimits s).1.now = s.now ∧
    (switchLimits s).1.lines = s.lines ∧ (switchLimits s).1.uli = s.uli ∧ (switchLimits s).1.ports = s.ports ∧
    (switchLimits s).1.polls = s.polls ∧ (switchLimits s).1.ppc = s.ppc ∧
    (switchLimits s).1.classifier = s.classifier ∧ (switchLimits s).1.bays = s.bays ∧
    (switchLimits s).1.brc = s.brc ∧ (switchLimits s).1.mtu = s.mtu ∧ (switchLimits s).1.sru = s.sru ∧
    (switchLimits s).1.ntq = s.ntq ∧ (switchLimits s).1.smi = s.smi := by
  refine ⟨?_, ?_, ?_, ?_, ?_, ?_, ?_, ?_, ?_, ?_, ?_, ?_, ?_, ?_, ?_⟩ <;>
    exact foldl_keeps _ _ (fun s i => by simp) _ _

@[simp] theorem clearBaySlots_frame (bay : Bay) (s : State) :
    (clearBaySlots bay s).1.pending = s.pending ∧ (clearBaySlots bay s).1.agenda = s.agenda ∧
    (clearBaySlots bay s).1.now = s.now ∧ (clearBaySlots bay s).1.lines = s.lines ∧
    (clearBaySlots bay s).1.uli = s.uli ∧ (clearBaySlots bay s).1.ports = s.ports ∧
    (clearBaySlots bay s).1.polls = s.polls ∧ (clearBaySlots bay s).1.ppc = s.ppc ∧
    (clearBaySlots bay s).1.classifier = s.classifier ∧ (clearBaySlots bay s).1.bays = s.bays ∧
    (clearBaySlots bay s).1.brc = s.brc ∧ (clearBaySlots bay s).1.mtu = s.mtu ∧ (clearBaySlots bay s).1.sru = s.sru ∧
    (clearBaySlots bay s).1.ntq = s.ntq ∧ (clearBaySlots bay s).1.smi = s.smi := by
  cases bay <;> simp [clearBaySlots, baySlots]

@[simp] theorem placeEngine_frame (seg : Seg) (t : EngTxn) (s : State) :
    (placeEngine seg t s).1.pending = s.pending ∧ (placeEngine seg t s).1.agenda = s.agenda ∧
    (placeEngine seg t s).1.now = s.now ∧ (placeEngine seg t s).1.lines = s.lines ∧
    (placeEngine seg t s).1.uli = s.uli ∧ (placeEngine seg t s).1.polls = s.polls ∧
    (placeEngine seg t s).1.slots = s.slots ∧ (placeEngine seg t s).1.ppc = s.ppc ∧
    (placeEngine seg t s).1.classifier = s.classifier ∧ (placeEngine seg t s).1.bays = s.bays ∧
    (placeEngine seg t s).1.brc = s.brc ∧ (placeEngine seg t s).1.mtu = s.mtu ∧ (placeEngine seg t s).1.sru = s.sru ∧
    (placeEngine seg t s).1.ntq = s.ntq ∧ (placeEngine seg t s).1.smi = s.smi := by
  generalize h : placeEngine seg t s = r
  unfold placeEngine at h
  try dsimp only at h
  (repeat' split at h) <;> subst h <;> simp

@[simp] theorem handIntoLane_frame (t : LaneTxn) (s : State) :
    (handIntoLane t s).1.pending = s.pending ∧ (handIntoLane t s).1.agenda = s.agenda ∧
    (handIntoLane t s).1.now = s.now ∧ (handIntoLane t s).1.lines = s.lines ∧ (handIntoLane t s).1.uli = s.uli ∧
    (handIntoLane t s).1.polls = s.polls ∧ (handIntoLane t s).1.slots = s.slots ∧ (handIntoLane t s).1.ppc = s.ppc ∧
    (handIntoLane t s).1.classifier = s.classifier ∧ (handIntoLane t s).1.bays = s.bays ∧
    (handIntoLane t s).1.brc = s.brc ∧ (handIntoLane t s).1.mtu = s.mtu ∧ (handIntoLane t s).1.sru = s.sru ∧
    (handIntoLane t s).1.ntq = s.ntq ∧ (handIntoLane t s).1.smi = s.smi := by
  generalize h : handIntoLane t s = r
  unfold handIntoLane at h
  try dsimp only at h
  (repeat' split at h) <;> subst h <;> simp

@[simp] theorem tellStart_frame (t : EngTxn) (s : State) :
    (tellStart t s).pending = s.pending ∧ (tellStart t s).agenda = s.agenda ∧ (tellStart t s).now = s.now ∧
    (tellStart t s).lines = s.lines ∧ (tellStart t s).uli = s.uli ∧ (tellStart t s).ports = s.ports ∧
    (tellStart t s).slots = s.slots ∧ (tellStart t s).ppc = s.ppc ∧ (tellStart t s).classifier = s.classifier ∧
    (tellStart t s).bays = s.bays ∧ (tellStart t s).mtu = s.mtu ∧ (tellStart t s).sru = s.sru ∧
    (tellStart t s).ntq = s.ntq ∧ (tellStart t s).smi = s.smi := by
  generalize h : tellStart t s = r
  unfold tellStart at h
  try dsimp only at h
  (repeat' split at h) <;> subst h <;> simp

@[simp] theorem markWritten_frame (t : LaneTxn) (s : State) :
    (markWritten t s).pending = s.pending ∧ (markWritten t s).agenda = s.agenda ∧ (markWritten t s).now = s.now ∧
    (markWritten t s).lines = s.lines ∧ (markWritten t s).uli = s.uli ∧ (markWritten t s).ports = s.ports ∧
    (markWritten t s).polls = s.polls ∧ (markWritten t s).slots = s.slots ∧ (markWritten t s).ppc = s.ppc ∧
    (markWritten t s).classifier = s.classifier ∧ (markWritten t s).bays = s.bays ∧ (markWritten t s).brc = s.brc ∧
    (markWritten t s).mtu = s.mtu ∧ (markWritten t s).ntq = s.ntq ∧ (markWritten t s).smi = s.smi := by
  generalize h : markWritten t s = r
  unfold markWritten at h
  try dsimp only at h
  (repeat' split at h) <;> subst h <;> simp

@[simp] theorem atBoundary_frame (seg : Seg) (s : State) :
    (atBoundary seg s).1.pending = s.pending ∧ (atBoundary seg s).1.agenda = s.agenda ∧
    (atBoundary seg s).1.now = s.now ∧ (atBoundary seg s).1.lines = s.lines ∧ (atBoundary seg s).1.uli = s.uli ∧
    (atBoundary seg s).1.slots = s.slots ∧ (atBoundary seg s).1.ppc = s.ppc ∧
    (atBoundary seg s).1.classifier = s.classifier ∧ (atBoundary seg s).1.bays = s.bays ∧
    (atBoundary seg s).1.mtu = s.mtu ∧ (atBoundary seg s).1.ntq = s.ntq ∧ (atBoundary seg s).1.smi = s.smi := by
  generalize h : atBoundary seg s = r
  unfold atBoundary at h
  try dsimp only at h
  (repeat' split at h) <;> subst h <;> simp

@[simp] theorem completeRunning_frame (seg : Seg) (answer : DeviceAnswer) (s : State) :
    (completeRunning seg answer s).1.pending = s.pending ∧ (completeRunning seg answer s).1.agenda = s.agenda ∧
    (completeRunning seg answer s).1.now = s.now ∧ (completeRunning seg answer s).1.lines = s.lines ∧
    (completeRunning seg answer s).1.uli = s.uli ∧ (completeRunning seg answer s).1.polls = s.polls ∧
    (completeRunning seg answer s).1.slots = s.slots ∧ (completeRunning seg answer s).1.ppc = s.ppc ∧
    (completeRunning seg answer s).1.classifier = s.classifier ∧ (completeRunning seg answer s).1.bays = s.bays ∧
    (completeRunning seg answer s).1.brc = s.brc ∧ (completeRunning seg answer s).1.mtu = s.mtu ∧
    (completeRunning seg answer s).1.sru = s.sru ∧ (completeRunning seg answer s).1.ntq = s.ntq ∧
    (completeRunning seg answer s).1.smi = s.smi := by
  generalize h : completeRunning seg answer s = r
  unfold completeRunning at h
  try dsimp only at h
  (repeat' split at h) <;> subst h <;> simp

@[simp] theorem returnToIdle_frame (seg : Seg) (s : State) :
    (returnToIdle seg s).1.pending = s.pending ∧ (returnToIdle seg s).1.agenda = s.agenda ∧
    (returnToIdle seg s).1.now = s.now ∧ (returnToIdle seg s).1.lines = s.lines ∧
    (returnToIdle seg s).1.uli = s.uli ∧ (returnToIdle seg s).1.polls = s.polls ∧
    (returnToIdle seg s).1.slots = s.slots ∧ (returnToIdle seg s).1.ppc = s.ppc ∧
    (returnToIdle seg s).1.classifier = s.classifier ∧ (returnToIdle seg s).1.bays = s.bays ∧
    (returnToIdle seg s).1.brc = s.brc ∧ (returnToIdle seg s).1.mtu = s.mtu ∧ (returnToIdle seg s).1.sru = s.sru ∧
    (returnToIdle seg s).1.ntq = s.ntq ∧ (returnToIdle seg s).1.smi = s.smi := by
  generalize h : returnToIdle seg s = r
  unfold returnToIdle at h
  try dsimp only at h
  (repeat' split at h) <;> subst h <;> simp

@[simp] theorem timeOutRunning_frame (seg : Seg) (s : State) :
    (timeOutRunning seg s).1.pending = s.pending ∧ (timeOutRunning seg s).1.agenda = s.agenda ∧
    (timeOutRunning seg s).1.now = s.now ∧ (timeOutRunning seg s).1.lines = s.lines ∧
    (timeOutRunning seg s).1.uli = s.uli ∧ (timeOutRunning seg s).1.polls = s.polls ∧
    (timeOutRunning seg s).1.slots = s.slots ∧ (timeOutRunning seg s).1.ppc = s.ppc ∧
    (timeOutRunning seg s).1.classifier = s.classifier ∧ (timeOutRunning seg s).1.bays = s.bays ∧
    (timeOutRunning seg s).1.brc = s.brc ∧ (timeOutRunning seg s).1.mtu = s.mtu ∧
    (timeOutRunning seg s).1.sru = s.sru ∧ (timeOutRunning seg s).1.ntq = s.ntq ∧
    (timeOutRunning seg s).1.smi = s.smi := by
  generalize h : timeOutRunning seg s = r
  unfold timeOutRunning at h
  try dsimp only at h
  (repeat' split at h) <;> subst h <;> simp

@[simp] theorem endRecovery_frame (seg : Seg) (s : State) :
    (endRecovery seg s).1.pending = s.pending ∧ (endRecovery seg s).1.agenda = s.agenda ∧
    (endRecovery seg s).1.now = s.now ∧ (endRecovery seg s).1.lines = s.lines ∧ (endRecovery seg s).1.uli = s.uli ∧
    (endRecovery seg s).1.polls = s.polls ∧ (endRecovery seg s).1.slots = s.slots ∧
    (endRecovery seg s).1.ppc = s.ppc ∧ (endRecovery seg s).1.classifier = s.classifier ∧
    (endRecovery seg s).1.bays = s.bays ∧ (endRecovery seg s).1.brc = s.brc ∧ (endRecovery seg s).1.mtu = s.mtu ∧
    (endRecovery seg s).1.sru = s.sru ∧ (endRecovery seg s).1.ntq = s.ntq ∧ (endRecovery seg s).1.smi = s.smi := by
  generalize h : endRecovery seg s = r
  unfold endRecovery at h
  try dsimp only at h
  (repeat' split at h) <;> subst h <;> simp

@[simp] theorem endSuspension_frame (seg : Seg) (s : State) :
    (endSuspension seg s).1.pending = s.pending ∧ (endSuspension seg s).1.agenda = s.agenda ∧
    (endSuspension seg s).1.now = s.now ∧ (endSuspension seg s).1.lines = s.lines ∧
    (endSuspension seg s).1.uli = s.uli ∧ (endSuspension seg s).1.polls = s.polls ∧
    (endSuspension seg s).1.slots = s.slots ∧ (endSuspension seg s).1.ppc = s.ppc ∧
    (endSuspension seg s).1.classifier = s.classifier ∧ (endSuspension seg s).1.bays = s.bays ∧
    (endSuspension seg s).1.brc = s.brc ∧ (endSuspension seg s).1.mtu = s.mtu ∧ (endSuspension seg s).1.sru = s.sru ∧
    (endSuspension seg s).1.smi = s.smi := by
  generalize h : endSuspension seg s = r
  unfold endSuspension at h
  try dsimp only at h
  (repeat' split at h) <;> subst h <;> simp

@[simp] theorem isolatePort_frame (seg : Seg) (s : State) :
    (isolatePort seg s).1.pending = s.pending ∧ (isolatePort seg s).1.agenda = s.agenda ∧
    (isolatePort seg s).1.now = s.now ∧ (isolatePort seg s).1.lines = s.lines ∧ (isolatePort seg s).1.uli = s.uli ∧
    (isolatePort seg s).1.polls = s.polls ∧ (isolatePort seg s).1.slots = s.slots ∧
    (isolatePort seg s).1.ppc = s.ppc ∧ (isolatePort seg s).1.classifier = s.classifier ∧
    (isolatePort seg s).1.bays = s.bays ∧ (isolatePort seg s).1.brc = s.brc ∧ (isolatePort seg s).1.mtu = s.mtu ∧
    (isolatePort seg s).1.sru = s.sru ∧ (isolatePort seg s).1.ntq = s.ntq ∧ (isolatePort seg s).1.smi = s.smi := by
  generalize h : isolatePort seg s = r
  unfold isolatePort at h
  try dsimp only at h
  subst h; simp

@[simp] theorem connectPort_frame (seg : Seg) (s : State) :
    (connectPort seg s).1.pending = s.pending ∧ (connectPort seg s).1.agenda = s.agenda ∧
    (connectPort seg s).1.now = s.now ∧ (connectPort seg s).1.lines = s.lines ∧ (connectPort seg s).1.uli = s.uli ∧
    (connectPort seg s).1.polls = s.polls ∧ (connectPort seg s).1.slots = s.slots ∧
    (connectPort seg s).1.ppc = s.ppc ∧ (connectPort seg s).1.classifier = s.classifier ∧
    (connectPort seg s).1.bays = s.bays ∧ (connectPort seg s).1.brc = s.brc ∧ (connectPort seg s).1.mtu = s.mtu ∧
    (connectPort seg s).1.sru = s.sru ∧ (connectPort seg s).1.ntq = s.ntq ∧ (connectPort seg s).1.smi = s.smi := by
  generalize h : connectPort seg s = r
  unfold connectPort at h
  try dsimp only at h
  subst h; simp

@[simp] theorem unholdPort_frame (seg : Seg) (s : State) :
    (unholdPort seg s).1.pending = s.pending ∧ (unholdPort seg s).1.agenda = s.agenda ∧
    (unholdPort seg s).1.now = s.now ∧ (unholdPort seg s).1.lines = s.lines ∧ (unholdPort seg s).1.uli = s.uli ∧
    (unholdPort seg s).1.polls = s.polls ∧ (unholdPort seg s).1.slots = s.slots ∧ (unholdPort seg s).1.ppc = s.ppc ∧
    (unholdPort seg s).1.classifier = s.classifier ∧ (unholdPort seg s).1.bays = s.bays ∧
    (unholdPort seg s).1.brc = s.brc ∧ (unholdPort seg s).1.mtu = s.mtu ∧ (unholdPort seg s).1.sru = s.sru ∧
    (unholdPort seg s).1.ntq = s.ntq ∧ (unholdPort seg s).1.smi = s.smi := by
  generalize h : unholdPort seg s = r
  unfold unholdPort at h
  try dsimp only at h
  subst h; simp

@[simp] theorem resetPort_frame (seg : Seg) (s : State) :
    (resetPort seg s).1.pending = s.pending ∧ (resetPort seg s).1.agenda = s.agenda ∧
    (resetPort seg s).1.now = s.now ∧ (resetPort seg s).1.lines = s.lines ∧ (resetPort seg s).1.uli = s.uli ∧
    (resetPort seg s).1.polls = s.polls ∧ (resetPort seg s).1.slots = s.slots ∧ (resetPort seg s).1.ppc = s.ppc ∧
    (resetPort seg s).1.classifier = s.classifier ∧ (resetPort seg s).1.bays = s.bays ∧
    (resetPort seg s).1.brc = s.brc ∧ (resetPort seg s).1.mtu = s.mtu ∧ (resetPort seg s).1.sru = s.sru ∧
    (resetPort seg s).1.ntq = s.ntq ∧ (resetPort seg s).1.smi = s.smi := by
  generalize h : resetPort seg s = r
  unfold resetPort at h
  try dsimp only at h
  subst h; simp

@[simp] theorem runPoll_frame (place : Fin 24) (s : State) :
    (runPoll place s).1.pending = s.pending ∧ (runPoll place s).1.agenda = s.agenda ∧
    (runPoll place s).1.now = s.now ∧ (runPoll place s).1.lines = s.lines ∧ (runPoll place s).1.uli = s.uli ∧
    (runPoll place s).1.ports = s.ports ∧ (runPoll place s).1.slots = s.slots ∧ (runPoll place s).1.ppc = s.ppc ∧
    (runPoll place s).1.classifier = s.classifier ∧ (runPoll place s).1.bays = s.bays ∧
    (runPoll place s).1.brc = s.brc ∧ (runPoll place s).1.mtu = s.mtu ∧ (runPoll place s).1.sru = s.sru ∧
    (runPoll place s).1.ntq = s.ntq ∧ (runPoll place s).1.smi = s.smi := by
  generalize h : runPoll place s = r
  unfold runPoll at h
  try dsimp only at h
  (repeat' split at h) <;> subst h <;> simp

@[simp] theorem pollDone_frame (tag : PollTag) (t : EngTxn) (outcome : TxOutcome) (data : List Byte) (s : State) :
    (pollDone tag t outcome data s).1.pending = s.pending ∧ (pollDone tag t outcome data s).1.agenda = s.agenda ∧
    (pollDone tag t outcome data s).1.now = s.now ∧ (pollDone tag t outcome data s).1.lines = s.lines ∧
    (pollDone tag t outcome data s).1.uli = s.uli ∧ (pollDone tag t outcome data s).1.ports = s.ports ∧
    (pollDone tag t outcome data s).1.slots = s.slots ∧ (pollDone tag t outcome data s).1.ppc = s.ppc ∧
    (pollDone tag t outcome data s).1.classifier = s.classifier ∧ (pollDone tag t outcome data s).1.bays = s.bays ∧
    (pollDone tag t outcome data s).1.brc = s.brc ∧ (pollDone tag t outcome data s).1.mtu = s.mtu ∧
    (pollDone tag t outcome data s).1.sru = s.sru ∧ (pollDone tag t outcome data s).1.ntq = s.ntq ∧
    (pollDone tag t outcome data s).1.smi = s.smi := by
  generalize h : pollDone tag t outcome data s = r
  unfold pollDone at h
  try dsimp only at h
  (repeat' split at h) <;> subst h <;> simp

@[simp] theorem pollKindRule_frame (place : Fin 24) (outcome : TxOutcome) (results : List (Fin 32 × DescResult)) (s : State) :
    (pollKindRule place outcome results s).1.pending = s.pending ∧
    (pollKindRule place outcome results s).1.agenda = s.agenda ∧
    (pollKindRule place outcome results s).1.now = s.now ∧ (pollKindRule place outcome results s).1.lines = s.lines ∧
    (pollKindRule place outcome results s).1.uli = s.uli ∧ (pollKindRule place outcome results s).1.ports = s.ports ∧
    (pollKindRule place outcome results s).1.slots = s.slots ∧ (pollKindRule place outcome results s).1.ppc = s.ppc ∧
    (pollKindRule place outcome results s).1.classifier = s.classifier ∧
    (pollKindRule place outcome results s).1.bays = s.bays ∧ (pollKindRule place outcome results s).1.brc = s.brc ∧
    (pollKindRule place outcome results s).1.mtu = s.mtu ∧ (pollKindRule place outcome results s).1.sru = s.sru ∧
    (pollKindRule place outcome results s).1.ntq = s.ntq ∧ (pollKindRule place outcome results s).1.smi = s.smi := by
  generalize h : pollKindRule place outcome results s = r
  unfold pollKindRule at h
  try dsimp only at h
  (repeat' split at h) <;> subst h <;> simp

@[simp] theorem runPollAgain_frame (place : Fin 24) (s : State) :
    (runPollAgain place s).1.pending = s.pending ∧ (runPollAgain place s).1.agenda = s.agenda ∧
    (runPollAgain place s).1.now = s.now ∧ (runPollAgain place s).1.lines = s.lines ∧
    (runPollAgain place s).1.uli = s.uli ∧ (runPollAgain place s).1.ports = s.ports ∧
    (runPollAgain place s).1.slots = s.slots ∧ (runPollAgain place s).1.ppc = s.ppc ∧
    (runPollAgain place s).1.classifier = s.classifier ∧ (runPollAgain place s).1.bays = s.bays ∧
    (runPollAgain place s).1.brc = s.brc ∧ (runPollAgain place s).1.mtu = s.mtu ∧
    (runPollAgain place s).1.sru = s.sru ∧ (runPollAgain place s).1.ntq = s.ntq ∧
    (runPollAgain place s).1.smi = s.smi := by
  generalize h : runPollAgain place s = r
  unfold runPollAgain at h
  try dsimp only at h
  (repeat' split at h) <;> subst h <;> simp

@[simp] theorem entryFallsDue_frame (place : Fin 24) (s : State) :
    (entryFallsDue place s).1.pending = s.pending ∧ (entryFallsDue place s).1.agenda = s.agenda ∧
    (entryFallsDue place s).1.now = s.now ∧ (entryFallsDue place s).1.lines = s.lines ∧
    (entryFallsDue place s).1.uli = s.uli ∧ (entryFallsDue place s).1.ports = s.ports ∧
    (entryFallsDue place s).1.slots = s.slots ∧ (entryFallsDue place s).1.ppc = s.ppc ∧
    (entryFallsDue place s).1.classifier = s.classifier ∧ (entryFallsDue place s).1.bays = s.bays ∧
    (entryFallsDue place s).1.brc = s.brc ∧ (entryFallsDue place s).1.mtu = s.mtu ∧
    (entryFallsDue place s).1.sru = s.sru ∧ (entryFallsDue place s).1.ntq = s.ntq ∧
    (entryFallsDue place s).1.smi = s.smi := by
  generalize h : entryFallsDue place s = r
  unfold entryFallsDue at h
  try dsimp only at h
  (repeat' split at h) <;> subst h <;> simp

@[simp] theorem fallsDue_frame (place : Fin 24) (test : PollKind → Bool) (s : State) :
    (fallsDue place test s).1.pending = s.pending ∧ (fallsDue place test s).1.agenda = s.agenda ∧
    (fallsDue place test s).1.now = s.now ∧ (fallsDue place test s).1.lines = s.lines ∧
    (fallsDue place test s).1.uli = s.uli ∧ (fallsDue place test s).1.ports = s.ports ∧
    (fallsDue place test s).1.polls = s.polls ∧ (fallsDue place test s).1.slots = s.slots ∧
    (fallsDue place test s).1.ppc = s.ppc ∧ (fallsDue place test s).1.classifier = s.classifier ∧
    (fallsDue place test s).1.bays = s.bays ∧ (fallsDue place test s).1.brc = s.brc ∧
    (fallsDue place test s).1.mtu = s.mtu ∧ (fallsDue place test s).1.sru = s.sru ∧
    (fallsDue place test s).1.ntq = s.ntq ∧ (fallsDue place test s).1.smi = s.smi := by
  generalize h : fallsDue place test s = r
  unfold fallsDue at h
  try dsimp only at h
  subst h; simp

@[simp] theorem periodicFallsDue_frame (place : Fin 24) (s : State) :
    (periodicFallsDue place s).1.pending = s.pending ∧ (periodicFallsDue place s).1.agenda = s.agenda ∧
    (periodicFallsDue place s).1.now = s.now ∧ (periodicFallsDue place s).1.lines = s.lines ∧
    (periodicFallsDue place s).1.uli = s.uli ∧ (periodicFallsDue place s).1.ports = s.ports ∧
    (periodicFallsDue place s).1.polls = s.polls ∧ (periodicFallsDue place s).1.slots = s.slots ∧
    (periodicFallsDue place s).1.ppc = s.ppc ∧ (periodicFallsDue place s).1.classifier = s.classifier ∧
    (periodicFallsDue place s).1.bays = s.bays ∧ (periodicFallsDue place s).1.brc = s.brc ∧
    (periodicFallsDue place s).1.mtu = s.mtu ∧ (periodicFallsDue place s).1.sru = s.sru ∧
    (periodicFallsDue place s).1.ntq = s.ntq ∧ (periodicFallsDue place s).1.smi = s.smi := by
  generalize h : periodicFallsDue place s = r
  unfold periodicFallsDue at h
  try dsimp only at h
  subst h; simp

@[simp] theorem setupFallsDue_frame (place : Fin 24) (s : State) :
    (setupFallsDue place s).1.pending = s.pending ∧ (setupFallsDue place s).1.agenda = s.agenda ∧
    (setupFallsDue place s).1.now = s.now ∧ (setupFallsDue place s).1.lines = s.lines ∧
    (setupFallsDue place s).1.uli = s.uli ∧ (setupFallsDue place s).1.ports = s.ports ∧
    (setupFallsDue place s).1.polls = s.polls ∧ (setupFallsDue place s).1.slots = s.slots ∧
    (setupFallsDue place s).1.ppc = s.ppc ∧ (setupFallsDue place s).1.classifier = s.classifier ∧
    (setupFallsDue place s).1.bays = s.bays ∧ (setupFallsDue place s).1.brc = s.brc ∧
    (setupFallsDue place s).1.mtu = s.mtu ∧ (setupFallsDue place s).1.sru = s.sru ∧
    (setupFallsDue place s).1.ntq = s.ntq ∧ (setupFallsDue place s).1.smi = s.smi := by
  generalize h : setupFallsDue place s = r
  unfold setupFallsDue at h
  try dsimp only at h
  subst h; simp

@[simp] theorem admissionFallsDue_frame (place : Fin 24) (s : State) :
    (admissionFallsDue place s).1.pending = s.pending ∧ (admissionFallsDue place s).1.agenda = s.agenda ∧
    (admissionFallsDue place s).1.now = s.now ∧ (admissionFallsDue place s).1.lines = s.lines ∧
    (admissionFallsDue place s).1.uli = s.uli ∧ (admissionFallsDue place s).1.ports = s.ports ∧
    (admissionFallsDue place s).1.polls = s.polls ∧ (admissionFallsDue place s).1.slots = s.slots ∧
    (admissionFallsDue place s).1.ppc = s.ppc ∧ (admissionFallsDue place s).1.classifier = s.classifier ∧
    (admissionFallsDue place s).1.bays = s.bays ∧ (admissionFallsDue place s).1.brc = s.brc ∧
    (admissionFallsDue place s).1.mtu = s.mtu ∧ (admissionFallsDue place s).1.sru = s.sru ∧
    (admissionFallsDue place s).1.ntq = s.ntq ∧ (admissionFallsDue place s).1.smi = s.smi := by
  generalize h : admissionFallsDue place s = r
  unfold admissionFallsDue at h
  try dsimp only at h
  subst h; simp

@[simp] theorem setupEvent_frame (seg : Seg) (s : State) :
    (setupEvent seg s).1.pending = s.pending ∧ (setupEvent seg s).1.agenda = s.agenda ∧
    (setupEvent seg s).1.now = s.now ∧ (setupEvent seg s).1.lines = s.lines ∧ (setupEvent seg s).1.uli = s.uli ∧
    (setupEvent seg s).1.ports = s.ports ∧ (setupEvent seg s).1.slots = s.slots ∧ (setupEvent seg s).1.ppc = s.ppc ∧
    (setupEvent seg s).1.classifier = s.classifier ∧ (setupEvent seg s).1.bays = s.bays ∧
    (setupEvent seg s).1.brc = s.brc ∧ (setupEvent seg s).1.mtu = s.mtu ∧ (setupEvent seg s).1.sru = s.sru ∧
    (setupEvent seg s).1.ntq = s.ntq ∧ (setupEvent seg s).1.smi = s.smi := by
  generalize h : setupEvent seg s = r
  unfold setupEvent at h
  try dsimp only at h
  subst h; simp

@[simp] theorem pollOnBay_frame (bay : Bay) (old new : BayState) (s : State) :
    (pollOnBay bay old new s).1.pending = s.pending ∧ (pollOnBay bay old new s).1.agenda = s.agenda ∧
    (pollOnBay bay old new s).1.now = s.now ∧ (pollOnBay bay old new s).1.lines = s.lines ∧
    (pollOnBay bay old new s).1.uli = s.uli ∧ (pollOnBay bay old new s).1.ports = s.ports ∧
    (pollOnBay bay old new s).1.slots = s.slots ∧ (pollOnBay bay old new s).1.ppc = s.ppc ∧
    (pollOnBay bay old new s).1.classifier = s.classifier ∧ (pollOnBay bay old new s).1.bays = s.bays ∧
    (pollOnBay bay old new s).1.brc = s.brc ∧ (pollOnBay bay old new s).1.mtu = s.mtu ∧
    (pollOnBay bay old new s).1.sru = s.sru ∧ (pollOnBay bay old new s).1.ntq = s.ntq ∧
    (pollOnBay bay old new s).1.smi = s.smi := by
  generalize h : pollOnBay bay old new s = r
  unfold pollOnBay at h
  try dsimp only at h
  (repeat' split at h) <;> subst h <;> simp

@[simp] theorem beginAdmission_frame (bay : Bay) (s : State) :
    (beginAdmission bay s).1.pending = s.pending ∧ (beginAdmission bay s).1.agenda = s.agenda ∧
    (beginAdmission bay s).1.now = s.now ∧ (beginAdmission bay s).1.lines = s.lines ∧
    (beginAdmission bay s).1.uli = s.uli ∧ (beginAdmission bay s).1.ports = s.ports ∧
    (beginAdmission bay s).1.slots = s.slots ∧ (beginAdmission bay s).1.ppc = s.ppc ∧
    (beginAdmission bay s).1.classifier = s.classifier ∧ (beginAdmission bay s).1.bays = s.bays ∧
    (beginAdmission bay s).1.brc = s.brc ∧ (beginAdmission bay s).1.mtu = s.mtu ∧
    (beginAdmission bay s).1.sru = s.sru ∧ (beginAdmission bay s).1.ntq = s.ntq ∧
    (beginAdmission bay s).1.smi = s.smi := by
  generalize h : beginAdmission bay s = r
  unfold beginAdmission at h
  try dsimp only at h
  subst h; simp

@[simp] theorem runAdmissionAgain_frame (place : Fin 24) (s : State) :
    (runAdmissionAgain place s).1.pending = s.pending ∧ (runAdmissionAgain place s).1.agenda = s.agenda ∧
    (runAdmissionAgain place s).1.now = s.now ∧ (runAdmissionAgain place s).1.lines = s.lines ∧
    (runAdmissionAgain place s).1.uli = s.uli ∧ (runAdmissionAgain place s).1.ports = s.ports ∧
    (runAdmissionAgain place s).1.polls = s.polls ∧ (runAdmissionAgain place s).1.slots = s.slots ∧
    (runAdmissionAgain place s).1.ppc = s.ppc ∧ (runAdmissionAgain place s).1.classifier = s.classifier ∧
    (runAdmissionAgain place s).1.bays = s.bays ∧ (runAdmissionAgain place s).1.brc = s.brc ∧
    (runAdmissionAgain place s).1.mtu = s.mtu ∧ (runAdmissionAgain place s).1.sru = s.sru ∧
    (runAdmissionAgain place s).1.ntq = s.ntq ∧ (runAdmissionAgain place s).1.smi = s.smi := by
  generalize h : runAdmissionAgain place s = r
  unfold runAdmissionAgain at h
  try dsimp only at h
  (repeat' split at h) <;> subst h <;> simp

@[simp] theorem State.orphanPolls_frame (s : State) (test : Fin 24 → Bool) :
    (State.orphanPolls s test).pending = s.pending ∧ (State.orphanPolls s test).agenda = s.agenda ∧
    (State.orphanPolls s test).now = s.now ∧ (State.orphanPolls s test).lines = s.lines ∧
    (State.orphanPolls s test).uli = s.uli ∧ (State.orphanPolls s test).polls = s.polls ∧
    (State.orphanPolls s test).slots = s.slots ∧ (State.orphanPolls s test).ppc = s.ppc ∧
    (State.orphanPolls s test).classifier = s.classifier ∧ (State.orphanPolls s test).bays = s.bays ∧
    (State.orphanPolls s test).brc = s.brc ∧ (State.orphanPolls s test).mtu = s.mtu ∧
    (State.orphanPolls s test).sru = s.sru ∧ (State.orphanPolls s test).ntq = s.ntq ∧
    (State.orphanPolls s test).smi = s.smi := by
  generalize h : State.orphanPolls s test = r
  unfold State.orphanPolls at h
  try dsimp only at h
  subst h; simp

@[simp] theorem switchPolls_frame (old : Image) (s : State) :
    (switchPolls old s).1.pending = s.pending ∧ (switchPolls old s).1.agenda = s.agenda ∧
    (switchPolls old s).1.now = s.now ∧ (switchPolls old s).1.lines = s.lines ∧ (switchPolls old s).1.uli = s.uli ∧
    (switchPolls old s).1.slots = s.slots ∧ (switchPolls old s).1.ppc = s.ppc ∧
    (switchPolls old s).1.classifier = s.classifier ∧ (switchPolls old s).1.bays = s.bays ∧
    (switchPolls old s).1.brc = s.brc ∧ (switchPolls old s).1.mtu = s.mtu ∧ (switchPolls old s).1.sru = s.sru ∧
    (switchPolls old s).1.ntq = s.ntq ∧ (switchPolls old s).1.smi = s.smi := by
  generalize h : switchPolls old s = r
  unfold switchPolls at h
  try dsimp only at h
  subst h; simp

@[simp] theorem startPolls_frame (s : State) :
    (startPolls s).1.pending = s.pending ∧ (startPolls s).1.agenda = s.agenda ∧ (startPolls s).1.now = s.now ∧
    (startPolls s).1.lines = s.lines ∧ (startPolls s).1.uli = s.uli ∧ (startPolls s).1.slots = s.slots ∧
    (startPolls s).1.ppc = s.ppc ∧ (startPolls s).1.classifier = s.classifier ∧ (startPolls s).1.bays = s.bays ∧
    (startPolls s).1.brc = s.brc ∧ (startPolls s).1.mtu = s.mtu ∧ (startPolls s).1.sru = s.sru ∧
    (startPolls s).1.ntq = s.ntq ∧ (startPolls s).1.smi = s.smi := by
  generalize h : startPolls s = r
  unfold startPolls at h
  try dsimp only at h
  subst h; simp

end Sys2Proof.Machine
end

