-- ==== Sys2Proof/Laws/PowerFrames.lean ====
section
/-!
SUPPORT. What the Power Path Controller and the bay controllers leave unchanged: for each operation one lemma that
names every part of the state it does not touch.
-/

namespace Sys2Proof.Machine

@[simp] theorem bayGoto_frame (bay : Bay) (new : BayState) (r : BayRec) (notices : List Task) (s : State) :
    (bayGoto bay new r notices s).1.pending = s.pending ∧ (bayGoto bay new r notices s).1.agenda = s.agenda ∧
    (bayGoto bay new r notices s).1.now = s.now ∧ (bayGoto bay new r notices s).1.lines = s.lines ∧
    (bayGoto bay new r notices s).1.uli = s.uli ∧ (bayGoto bay new r notices s).1.ports = s.ports ∧
    (bayGoto bay new r notices s).1.polls = s.polls ∧ (bayGoto bay new r notices s).1.slots = s.slots ∧
    (bayGoto bay new r notices s).1.ppc = s.ppc ∧ (bayGoto bay new r notices s).1.classifier = s.classifier ∧
    (bayGoto bay new r notices s).1.brc = s.brc ∧ (bayGoto bay new r notices s).1.mtu = s.mtu ∧
    (bayGoto bay new r notices s).1.sru = s.sru ∧ (bayGoto bay new r notices s).1.ntq = s.ntq ∧
    (bayGoto bay new r notices s).1.smi = s.smi := by
  generalize h : bayGoto bay new r notices s = r
  unfold bayGoto at h
  try dsimp only at h
  subst h; simp

@[simp] theorem toFaulted_frame (bay : Bay) (reason : FaultReason) (r : BayRec) (notices : List Task) (s : State) :
    (toFaulted bay reason r notices s).1.pending = s.pending ∧
    (toFaulted bay reason r notices s).1.agenda = s.agenda ∧ (toFaulted bay reason r notices s).1.now = s.now ∧
    (toFaulted bay reason r notices s).1.lines = s.lines ∧ (toFaulted bay reason r notices s).1.uli = s.uli ∧
    (toFaulted bay reason r notices s).1.ports = s.ports ∧ (toFaulted bay reason r notices s).1.polls = s.polls ∧
    (toFaulted bay reason r notices s).1.slots = s.slots ∧ (toFaulted bay reason r notices s).1.ppc = s.ppc ∧
    (toFaulted bay reason r notices s).1.classifier = s.classifier ∧
    (toFaulted bay reason r notices s).1.brc = s.brc ∧ (toFaulted bay reason r notices s).1.mtu = s.mtu ∧
    (toFaulted bay reason r notices s).1.sru = s.sru ∧ (toFaulted bay reason r notices s).1.ntq = s.ntq ∧
    (toFaulted bay reason r notices s).1.smi = s.smi := by
  generalize h : toFaulted bay reason r notices s = r
  unfold toFaulted at h
  try dsimp only at h
  subst h; simp

@[simp] theorem toReady_frame (bay : Bay) (r : BayRec) (s : State) :
    (toReady bay r s).1.pending = s.pending ∧ (toReady bay r s).1.agenda = s.agenda ∧
    (toReady bay r s).1.now = s.now ∧ (toReady bay r s).1.lines = s.lines ∧ (toReady bay r s).1.uli = s.uli ∧
    (toReady bay r s).1.ports = s.ports ∧ (toReady bay r s).1.polls = s.polls ∧ (toReady bay r s).1.slots = s.slots ∧
    (toReady bay r s).1.ppc = s.ppc ∧ (toReady bay r s).1.classifier = s.classifier ∧
    (toReady bay r s).1.brc = s.brc ∧ (toReady bay r s).1.mtu = s.mtu ∧ (toReady bay r s).1.sru = s.sru ∧
    (toReady bay r s).1.ntq = s.ntq ∧ (toReady bay r s).1.smi = s.smi := by
  generalize h : toReady bay r s = r
  unfold toReady at h
  try dsimp only at h
  (repeat' split at h) <;> subst h <;> simp

@[simp] theorem onSwitchOn_frame (bay : Bay) (s : State) :
    (onSwitchOn bay s).1.pending = s.pending ∧ (onSwitchOn bay s).1.agenda = s.agenda ∧
    (onSwitchOn bay s).1.now = s.now ∧ (onSwitchOn bay s).1.lines = s.lines ∧ (onSwitchOn bay s).1.uli = s.uli ∧
    (onSwitchOn bay s).1.ports = s.ports ∧ (onSwitchOn bay s).1.polls = s.polls ∧
    (onSwitchOn bay s).1.slots = s.slots ∧ (onSwitchOn bay s).1.ppc = s.ppc ∧
    (onSwitchOn bay s).1.classifier = s.classifier ∧ (onSwitchOn bay s).1.brc = s.brc ∧
    (onSwitchOn bay s).1.mtu = s.mtu ∧ (onSwitchOn bay s).1.sru = s.sru ∧ (onSwitchOn bay s).1.ntq = s.ntq ∧
    (onSwitchOn bay s).1.smi = s.smi := by
  generalize h : onSwitchOn bay s = r
  unfold onSwitchOn at h
  try dsimp only at h
  (repeat' split at h) <;> subst h <;> simp

@[simp] theorem onSwitchOff_frame (bay : Bay) (s : State) :
    (onSwitchOff bay s).1.pending = s.pending ∧ (onSwitchOff bay s).1.agenda = s.agenda ∧
    (onSwitchOff bay s).1.now = s.now ∧ (onSwitchOff bay s).1.lines = s.lines ∧ (onSwitchOff bay s).1.uli = s.uli ∧
    (onSwitchOff bay s).1.ports = s.ports ∧ (onSwitchOff bay s).1.polls = s.polls ∧
    (onSwitchOff bay s).1.slots = s.slots ∧ (onSwitchOff bay s).1.ppc = s.ppc ∧
    (onSwitchOff bay s).1.classifier = s.classifier ∧ (onSwitchOff bay s).1.brc = s.brc ∧
    (onSwitchOff bay s).1.mtu = s.mtu ∧ (onSwitchOff bay s).1.sru = s.sru ∧ (onSwitchOff bay s).1.ntq = s.ntq ∧
    (onSwitchOff bay s).1.smi = s.smi := by
  generalize h : onSwitchOff bay s = r
  unfold onSwitchOff at h
  try dsimp only at h
  (repeat' split at h) <;> subst h <;> simp

@[simp] theorem afterInput_frame (trigger : Bool) (s : State) :
    (afterInput trigger s).1.pending = s.pending ∧ (afterInput trigger s).1.agenda = s.agenda ∧
    (afterInput trigger s).1.now = s.now ∧ (afterInput trigger s).1.lines = s.lines ∧
    (afterInput trigger s).1.uli = s.uli ∧ (afterInput trigger s).1.ports = s.ports ∧
    (afterInput trigger s).1.polls = s.polls ∧ (afterInput trigger s).1.slots = s.slots ∧
    (afterInput trigger s).1.classifier = s.classifier ∧ (afterInput trigger s).1.bays = s.bays ∧
    (afterInput trigger s).1.brc = s.brc ∧ (afterInput trigger s).1.mtu = s.mtu ∧
    (afterInput trigger s).1.sru = s.sru ∧ (afterInput trigger s).1.ntq = s.ntq ∧
    (afterInput trigger s).1.smi = s.smi := by
  generalize h : afterInput trigger s = r
  unfold afterInput at h
  try dsimp only at h
  (repeat' split at h) <;> subst h <;> simp

@[simp] theorem State.leaveOn_frame (s : State) (x : Src) (sw : Switch) :
    (State.leaveOn s x sw).pending = s.pending ∧ (State.leaveOn s x sw).agenda = s.agenda ∧
    (State.leaveOn s x sw).now = s.now ∧ (State.leaveOn s x sw).lines = s.lines ∧
    (State.leaveOn s x sw).uli = s.uli ∧ (State.leaveOn s x sw).ports = s.ports ∧
    (State.leaveOn s x sw).polls = s.polls ∧ (State.leaveOn s x sw).slots = s.slots ∧
    (State.leaveOn s x sw).classifier = s.classifier ∧ (State.leaveOn s x sw).bays = s.bays ∧
    (State.leaveOn s x sw).brc = s.brc ∧ (State.leaveOn s x sw).mtu = s.mtu ∧ (State.leaveOn s x sw).sru = s.sru ∧
    (State.leaveOn s x sw).ntq = s.ntq ∧ (State.leaveOn s x sw).smi = s.smi := by
  generalize h : State.leaveOn s x sw = r
  unfold State.leaveOn at h
  try dsimp only at h
  subst h; simp

@[simp] theorem commandOn_frame (x : Src) (s : State) :
    (commandOn x s).1.pending = s.pending ∧ (commandOn x s).1.agenda = s.agenda ∧ (commandOn x s).1.now = s.now ∧
    (commandOn x s).1.lines = s.lines ∧ (commandOn x s).1.uli = s.uli ∧ (commandOn x s).1.ports = s.ports ∧
    (commandOn x s).1.polls = s.polls ∧ (commandOn x s).1.slots = s.slots ∧
    (commandOn x s).1.classifier = s.classifier ∧ (commandOn x s).1.brc = s.brc ∧ (commandOn x s).1.mtu = s.mtu ∧
    (commandOn x s).1.sru = s.sru ∧ (commandOn x s).1.ntq = s.ntq ∧ (commandOn x s).1.smi = s.smi := by
  generalize h : commandOn x s = r
  unfold commandOn tellBay at h
  try dsimp only at h
  (repeat' split at h) <;> subst h <;> simp

@[simp] theorem commandOff_frame (x : Src) (sw : Switch) (s : State) :
    (commandOff x sw s).1.pending = s.pending ∧ (commandOff x sw s).1.agenda = s.agenda ∧
    (commandOff x sw s).1.now = s.now ∧ (commandOff x sw s).1.lines = s.lines ∧ (commandOff x sw s).1.uli = s.uli ∧
    (commandOff x sw s).1.ports = s.ports ∧ (commandOff x sw s).1.polls = s.polls ∧
    (commandOff x sw s).1.slots = s.slots ∧ (commandOff x sw s).1.classifier = s.classifier ∧
    (commandOff x sw s).1.brc = s.brc ∧ (commandOff x sw s).1.mtu = s.mtu ∧ (commandOff x sw s).1.sru = s.sru ∧
    (commandOff x sw s).1.ntq = s.ntq ∧ (commandOff x sw s).1.smi = s.smi := by
  generalize h : commandOff x sw s = r
  unfold commandOff tellBay at h
  try dsimp only at h
  (repeat' split at h) <;> subst h <;> simp

@[simp] theorem restSource_frame (x : Option Src) (s : State) :
    (restSource x s).1.pending = s.pending ∧ (restSource x s).1.agenda = s.agenda ∧ (restSource x s).1.now = s.now ∧
    (restSource x s).1.lines = s.lines ∧ (restSource x s).1.uli = s.uli ∧ (restSource x s).1.ports = s.ports ∧
    (restSource x s).1.polls = s.polls ∧ (restSource x s).1.slots = s.slots ∧
    (restSource x s).1.classifier = s.classifier ∧ (restSource x s).1.brc = s.brc ∧ (restSource x s).1.mtu = s.mtu ∧
    (restSource x s).1.sru = s.sru ∧ (restSource x s).1.ntq = s.ntq ∧ (restSource x s).1.smi = s.smi := by
  generalize h : restSource x s = r
  unfold restSource at h
  try dsimp only at h
  (repeat' split at h) <;> subst h <;> simp

@[simp] theorem beginAttempt_frame (kind : WalkKind) (target : Src) (rest : List Src) (s : State) :
    (beginAttempt kind target rest s).1.pending = s.pending ∧ (beginAttempt kind target rest s).1.agenda = s.agenda ∧
    (beginAttempt kind target rest s).1.now = s.now ∧ (beginAttempt kind target rest s).1.lines = s.lines ∧
    (beginAttempt kind target rest s).1.uli = s.uli ∧ (beginAttempt kind target rest s).1.ports = s.ports ∧
    (beginAttempt kind target rest s).1.polls = s.polls ∧ (beginAttempt kind target rest s).1.slots = s.slots ∧
    (beginAttempt kind target rest s).1.classifier = s.classifier ∧ (beginAttempt kind target rest s).1.brc = s.brc ∧
    (beginAttempt kind target rest s).1.mtu = s.mtu ∧ (beginAttempt kind target rest s).1.sru = s.sru ∧
    (beginAttempt kind target rest s).1.ntq = s.ntq ∧ (beginAttempt kind target rest s).1.smi = s.smi := by
  generalize h : beginAttempt kind target rest s = r
  unfold beginAttempt at h
  try dsimp only at h
  subst h; simp

@[simp] theorem State.heldBack_frame (s : State) (kind : WalkKind) :
    (State.heldBack s kind).pending = s.pending ∧ (State.heldBack s kind).agenda = s.agenda ∧
    (State.heldBack s kind).now = s.now ∧ (State.heldBack s kind).lines = s.lines ∧
    (State.heldBack s kind).uli = s.uli ∧ (State.heldBack s kind).ports = s.ports ∧
    (State.heldBack s kind).polls = s.polls ∧ (State.heldBack s kind).slots = s.slots ∧
    (State.heldBack s kind).classifier = s.classifier ∧ (State.heldBack s kind).bays = s.bays ∧
    (State.heldBack s kind).brc = s.brc ∧ (State.heldBack s kind).mtu = s.mtu ∧ (State.heldBack s kind).sru = s.sru ∧
    (State.heldBack s kind).ntq = s.ntq ∧ (State.heldBack s kind).smi = s.smi := by
  generalize h : State.heldBack s kind = r
  unfold State.heldBack at h
  try dsimp only at h
  (repeat' split at h) <;> subst h <;> simp

@[simp] theorem endWalk_frame (kind : WalkKind) (s : State) :
    (endWalk kind s).1.pending = s.pending ∧ (endWalk kind s).1.agenda = s.agenda ∧ (endWalk kind s).1.now = s.now ∧
    (endWalk kind s).1.lines = s.lines ∧ (endWalk kind s).1.uli = s.uli ∧ (endWalk kind s).1.ports = s.ports ∧
    (endWalk kind s).1.polls = s.polls ∧ (endWalk kind s).1.slots = s.slots ∧ (endWalk kind s).1.ppc = s.ppc ∧
    (endWalk kind s).1.classifier = s.classifier ∧ (endWalk kind s).1.bays = s.bays ∧
    (endWalk kind s).1.brc = s.brc ∧ (endWalk kind s).1.mtu = s.mtu ∧ (endWalk kind s).1.sru = s.sru ∧
    (endWalk kind s).1.ntq = s.ntq ∧ (endWalk kind s).1.smi = s.smi := by
  generalize h : endWalk kind s = r
  unfold endWalk at h
  try dsimp only at h
  (repeat' split at h) <;> subst h <;> simp

@[simp] theorem walkOn_frame (kind : WalkKind) (candidates : List Src) (s : State) :
    (walkOn kind candidates s).1.pending = s.pending ∧ (walkOn kind candidates s).1.agenda = s.agenda ∧
    (walkOn kind candidates s).1.now = s.now ∧ (walkOn kind candidates s).1.lines = s.lines ∧
    (walkOn kind candidates s).1.uli = s.uli ∧ (walkOn kind candidates s).1.ports = s.ports ∧
    (walkOn kind candidates s).1.polls = s.polls ∧ (walkOn kind candidates s).1.slots = s.slots ∧
    (walkOn kind candidates s).1.classifier = s.classifier ∧ (walkOn kind candidates s).1.brc = s.brc ∧
    (walkOn kind candidates s).1.mtu = s.mtu ∧ (walkOn kind candidates s).1.sru = s.sru ∧
    (walkOn kind candidates s).1.ntq = s.ntq ∧ (walkOn kind candidates s).1.smi = s.smi := by
  generalize h : walkOn kind candidates s = r
  unfold walkOn at h
  try dsimp only at h
  (repeat' split at h) <;> subst h <;> simp

@[simp] theorem State.closeAttempt_frame (s : State) (result : MoveResult) :
    (State.closeAttempt s result).pending = s.pending ∧ (State.closeAttempt s result).agenda = s.agenda ∧
    (State.closeAttempt s result).now = s.now ∧ (State.closeAttempt s result).lines = s.lines ∧
    (State.closeAttempt s result).uli = s.uli ∧ (State.closeAttempt s result).ports = s.ports ∧
    (State.closeAttempt s result).polls = s.polls ∧ (State.closeAttempt s result).slots = s.slots ∧
    (State.closeAttempt s result).classifier = s.classifier ∧ (State.closeAttempt s result).bays = s.bays ∧
    (State.closeAttempt s result).brc = s.brc ∧ (State.closeAttempt s result).mtu = s.mtu ∧
    (State.closeAttempt s result).sru = s.sru ∧ (State.closeAttempt s result).ntq = s.ntq ∧
    (State.closeAttempt s result).smi = s.smi := by
  generalize h : State.closeAttempt s result = r
  unfold State.closeAttempt at h
  try dsimp only at h
  subst h; simp

@[simp] theorem State.moveTold_frame (s : State) :
    (State.moveTold s).pending = s.pending ∧ (State.moveTold s).agenda = s.agenda ∧ (State.moveTold s).now = s.now ∧
    (State.moveTold s).lines = s.lines ∧ (State.moveTold s).uli = s.uli ∧ (State.moveTold s).ports = s.ports ∧
    (State.moveTold s).polls = s.polls ∧ (State.moveTold s).slots = s.slots ∧
    (State.moveTold s).classifier = s.classifier ∧ (State.moveTold s).bays = s.bays ∧
    (State.moveTold s).brc = s.brc ∧ (State.moveTold s).mtu = s.mtu ∧ (State.moveTold s).sru = s.sru ∧
    (State.moveTold s).ntq = s.ntq ∧ (State.moveTold s).smi = s.smi := by
  generalize h : State.moveTold s = r
  unfold State.moveTold at h
  try dsimp only at h
  subst h; simp

@[simp] theorem State.carriesFrom_frame (s : State) (x : Src) :
    (State.carriesFrom s x).pending = s.pending ∧ (State.carriesFrom s x).agenda = s.agenda ∧
    (State.carriesFrom s x).now = s.now ∧ (State.carriesFrom s x).lines = s.lines ∧
    (State.carriesFrom s x).uli = s.uli ∧ (State.carriesFrom s x).ports = s.ports ∧
    (State.carriesFrom s x).polls = s.polls ∧ (State.carriesFrom s x).slots = s.slots ∧
    (State.carriesFrom s x).classifier = s.classifier ∧ (State.carriesFrom s x).bays = s.bays ∧
    (State.carriesFrom s x).brc = s.brc ∧ (State.carriesFrom s x).mtu = s.mtu ∧ (State.carriesFrom s x).sru = s.sru ∧
    (State.carriesFrom s x).ntq = s.ntq ∧ (State.carriesFrom s x).smi = s.smi := by
  generalize h : State.carriesFrom s x = r
  unfold State.carriesFrom at h
  try dsimp only at h
  subst h; simp

@[simp] theorem leaveOld_frame (old : Option Src) (lost : Bool) (s : State) :
    (leaveOld old lost s).1.pending = s.pending ∧ (leaveOld old lost s).1.agenda = s.agenda ∧
    (leaveOld old lost s).1.now = s.now ∧ (leaveOld old lost s).1.lines = s.lines ∧
    (leaveOld old lost s).1.uli = s.uli ∧ (leaveOld old lost s).1.ports = s.ports ∧
    (leaveOld old lost s).1.polls = s.polls ∧ (leaveOld old lost s).1.slots = s.slots ∧
    (leaveOld old lost s).1.classifier = s.classifier ∧ (leaveOld old lost s).1.brc = s.brc ∧
    (leaveOld old lost s).1.mtu = s.mtu ∧ (leaveOld old lost s).1.sru = s.sru ∧ (leaveOld old lost s).1.ntq = s.ntq ∧
    (leaveOld old lost s).1.smi = s.smi := by
  generalize h : leaveOld old lost s = r
  unfold leaveOld at h
  try dsimp only at h
  (repeat' split at h) <;> subst h <;> simp

@[simp] theorem completeAttempt_frame (result : MoveResult) (severity : Severity) (lost : Bool) (s : State) :
    (completeAttempt result severity lost s).1.pending = s.pending ∧
    (completeAttempt result severity lost s).1.agenda = s.agenda ∧
    (completeAttempt result severity lost s).1.now = s.now ∧
    (completeAttempt result severity lost s).1.lines = s.lines ∧
    (completeAttempt result severity lost s).1.uli = s.uli ∧
    (completeAttempt result severity lost s).1.ports = s.ports ∧
    (completeAttempt result severity lost s).1.polls = s.polls ∧
    (completeAttempt result severity lost s).1.slots = s.slots ∧
    (completeAttempt result severity lost s).1.classifier = s.classifier ∧
    (completeAttempt result severity lost s).1.brc = s.brc ∧ (completeAttempt result severity lost s).1.mtu = s.mtu ∧
    (completeAttempt result severity lost s).1.sru = s.sru ∧ (completeAttempt result severity lost s).1.smi = s.smi := by
  generalize h : completeAttempt result severity lost s = r
  unfold completeAttempt at h
  try dsimp only at h
  (repeat' split at h) <;> subst h <;> simp

@[simp] theorem confirmAttempt_frame (s : State) :
    (confirmAttempt s).1.pending = s.pending ∧ (confirmAttempt s).1.agenda = s.agenda ∧
    (confirmAttempt s).1.now = s.now ∧ (confirmAttempt s).1.lines = s.lines ∧ (confirmAttempt s).1.uli = s.uli ∧
    (confirmAttempt s).1.ports = s.ports ∧ (confirmAttempt s).1.polls = s.polls ∧
    (confirmAttempt s).1.slots = s.slots ∧ (confirmAttempt s).1.classifier = s.classifier ∧
    (confirmAttempt s).1.brc = s.brc ∧ (confirmAttempt s).1.mtu = s.mtu ∧ (confirmAttempt s).1.sru = s.sru ∧
    (confirmAttempt s).1.smi = s.smi := by
  generalize h : confirmAttempt s = r
  unfold confirmAttempt at h
  try dsimp only at h
  (repeat' split at h) <;> subst h <;> simp

@[simp] theorem State.bridgeStopFor_frame (s : State) (target : Src) :
    (State.bridgeStopFor s target).pending = s.pending ∧ (State.bridgeStopFor s target).agenda = s.agenda ∧
    (State.bridgeStopFor s target).now = s.now ∧ (State.bridgeStopFor s target).lines = s.lines ∧
    (State.bridgeStopFor s target).uli = s.uli ∧ (State.bridgeStopFor s target).ports = s.ports ∧
    (State.bridgeStopFor s target).polls = s.polls ∧ (State.bridgeStopFor s target).slots = s.slots ∧
    (State.bridgeStopFor s target).classifier = s.classifier ∧ (State.bridgeStopFor s target).bays = s.bays ∧
    (State.bridgeStopFor s target).brc = s.brc ∧ (State.bridgeStopFor s target).mtu = s.mtu ∧
    (State.bridgeStopFor s target).sru = s.sru ∧ (State.bridgeStopFor s target).ntq = s.ntq ∧
    (State.bridgeStopFor s target).smi = s.smi := by
  generalize h : State.bridgeStopFor s target = r
  unfold State.bridgeStopFor at h
  try dsimp only at h
  (repeat' split at h) <;> subst h <;> simp

@[simp] theorem failAttempt_frame (a : Attempt) (sw : Switch) (result : MoveResult) (s : State) :
    (failAttempt a sw result s).1.pending = s.pending ∧ (failAttempt a sw result s).1.agenda = s.agenda ∧
    (failAttempt a sw result s).1.now = s.now ∧ (failAttempt a sw result s).1.lines = s.lines ∧
    (failAttempt a sw result s).1.uli = s.uli ∧ (failAttempt a sw result s).1.ports = s.ports ∧
    (failAttempt a sw result s).1.polls = s.polls ∧ (failAttempt a sw result s).1.slots = s.slots ∧
    (failAttempt a sw result s).1.classifier = s.classifier ∧ (failAttempt a sw result s).1.brc = s.brc ∧
    (failAttempt a sw result s).1.mtu = s.mtu ∧ (failAttempt a sw result s).1.sru = s.sru ∧
    (failAttempt a sw result s).1.ntq = s.ntq ∧ (failAttempt a sw result s).1.smi = s.smi := by
  generalize h : failAttempt a sw result s = r
  unfold failAttempt at h
  try dsimp only at h
  subst h; simp

@[simp] theorem State.takeDueSupply_frame (s : State) :
    (State.takeDueSupply s).pending = s.pending ∧ (State.takeDueSupply s).agenda = s.agenda ∧
    (State.takeDueSupply s).now = s.now ∧ (State.takeDueSupply s).lines = s.lines ∧
    (State.takeDueSupply s).uli = s.uli ∧ (State.takeDueSupply s).ports = s.ports ∧
    (State.takeDueSupply s).polls = s.polls ∧ (State.takeDueSupply s).slots = s.slots ∧
    (State.takeDueSupply s).classifier = s.classifier ∧ (State.takeDueSupply s).bays = s.bays ∧
    (State.takeDueSupply s).brc = s.brc ∧ (State.takeDueSupply s).mtu = s.mtu ∧ (State.takeDueSupply s).sru = s.sru ∧
    (State.takeDueSupply s).ntq = s.ntq ∧ (State.takeDueSupply s).smi = s.smi := by
  generalize h : State.takeDueSupply s = r
  unfold State.takeDueSupply at h
  try dsimp only at h
  subst h; simp

@[simp] theorem resumeWalk_frame (a : Attempt) (told : List Task) (s : State) :
    (resumeWalk a told s).1.pending = s.pending ∧ (resumeWalk a told s).1.agenda = s.agenda ∧
    (resumeWalk a told s).1.now = s.now ∧ (resumeWalk a told s).1.lines = s.lines ∧
    (resumeWalk a told s).1.uli = s.uli ∧ (resumeWalk a told s).1.ports = s.ports ∧
    (resumeWalk a told s).1.polls = s.polls ∧ (resumeWalk a told s).1.slots = s.slots ∧
    (resumeWalk a told s).1.classifier = s.classifier ∧ (resumeWalk a told s).1.bays = s.bays ∧
    (resumeWalk a told s).1.brc = s.brc ∧ (resumeWalk a told s).1.mtu = s.mtu ∧ (resumeWalk a told s).1.sru = s.sru ∧
    (resumeWalk a told s).1.ntq = s.ntq ∧ (resumeWalk a told s).1.smi = s.smi := by
  generalize h : resumeWalk a told s = r
  unfold resumeWalk at h
  try dsimp only at h
  subst h; simp

@[simp] theorem goOn_frame (kind : WalkKind) (rest : List Src) (s : State) :
    (goOn kind rest s).1.pending = s.pending ∧ (goOn kind rest s).1.agenda = s.agenda ∧
    (goOn kind rest s).1.now = s.now ∧ (goOn kind rest s).1.lines = s.lines ∧ (goOn kind rest s).1.uli = s.uli ∧
    (goOn kind rest s).1.ports = s.ports ∧ (goOn kind rest s).1.polls = s.polls ∧
    (goOn kind rest s).1.slots = s.slots ∧ (goOn kind rest s).1.classifier = s.classifier ∧
    (goOn kind rest s).1.bays = s.bays ∧ (goOn kind rest s).1.brc = s.brc ∧ (goOn kind rest s).1.mtu = s.mtu ∧
    (goOn kind rest s).1.sru = s.sru ∧ (goOn kind rest s).1.ntq = s.ntq ∧ (goOn kind rest s).1.smi = s.smi := by
  generalize h : goOn kind rest s = r
  unfold goOn at h
  try dsimp only at h
  (repeat' split at h) <;> subst h <;> simp

@[simp] theorem expireConfirm_frame (s : State) :
    (expireConfirm s).1.pending = s.pending ∧ (expireConfirm s).1.agenda = s.agenda ∧
    (expireConfirm s).1.now = s.now ∧ (expireConfirm s).1.lines = s.lines ∧ (expireConfirm s).1.uli = s.uli ∧
    (expireConfirm s).1.ports = s.ports ∧ (expireConfirm s).1.polls = s.polls ∧ (expireConfirm s).1.slots = s.slots ∧
    (expireConfirm s).1.classifier = s.classifier ∧ (expireConfirm s).1.brc = s.brc ∧
    (expireConfirm s).1.mtu = s.mtu ∧ (expireConfirm s).1.sru = s.sru ∧ (expireConfirm s).1.smi = s.smi := by
  generalize h : expireConfirm s = r
  unfold expireConfirm at h
  try dsimp only at h
  (repeat' split at h) <;> subst h <;> simp

@[simp] theorem startSelection_frame (s : State) :
    (startSelection s).1.pending = s.pending ∧ (startSelection s).1.agenda = s.agenda ∧
    (startSelection s).1.now = s.now ∧ (startSelection s).1.lines = s.lines ∧ (startSelection s).1.uli = s.uli ∧
    (startSelection s).1.ports = s.ports ∧ (startSelection s).1.polls = s.polls ∧
    (startSelection s).1.slots = s.slots ∧ (startSelection s).1.classifier = s.classifier ∧
    (startSelection s).1.bays = s.bays ∧ (startSelection s).1.brc = s.brc ∧ (startSelection s).1.mtu = s.mtu ∧
    (startSelection s).1.sru = s.sru ∧ (startSelection s).1.ntq = s.ntq ∧ (startSelection s).1.smi = s.smi := by
  generalize h : startSelection s = r
  unfold startSelection at h
  try dsimp only at h
  (repeat' split at h) <;> subst h <;> simp

@[simp] theorem reselect_frame (s : State) :
    (reselect s).1.pending = s.pending ∧ (reselect s).1.agenda = s.agenda ∧ (reselect s).1.now = s.now ∧
    (reselect s).1.lines = s.lines ∧ (reselect s).1.uli = s.uli ∧ (reselect s).1.ports = s.ports ∧
    (reselect s).1.polls = s.polls ∧ (reselect s).1.slots = s.slots ∧ (reselect s).1.classifier = s.classifier ∧
    (reselect s).1.bays = s.bays ∧ (reselect s).1.brc = s.brc ∧ (reselect s).1.mtu = s.mtu ∧
    (reselect s).1.sru = s.sru ∧ (reselect s).1.ntq = s.ntq ∧ (reselect s).1.smi = s.smi := by
  generalize h : reselect s = r
  unfold reselect at h
  try dsimp only at h
  (repeat' split at h) <;> subst h <;> simp

@[simp] theorem checkAlternates_frame (s : State) :
    (checkAlternates s).1.pending = s.pending ∧ (checkAlternates s).1.agenda = s.agenda ∧
    (checkAlternates s).1.now = s.now ∧ (checkAlternates s).1.lines = s.lines ∧ (checkAlternates s).1.uli = s.uli ∧
    (checkAlternates s).1.ports = s.ports ∧ (checkAlternates s).1.polls = s.polls ∧
    (checkAlternates s).1.slots = s.slots ∧ (checkAlternates s).1.classifier = s.classifier ∧
    (checkAlternates s).1.bays = s.bays ∧ (checkAlternates s).1.brc = s.brc ∧ (checkAlternates s).1.mtu = s.mtu ∧
    (checkAlternates s).1.sru = s.sru ∧ (checkAlternates s).1.ntq = s.ntq ∧ (checkAlternates s).1.smi = s.smi := by
  generalize h : checkAlternates s = r
  unfold checkAlternates at h
  try dsimp only at h
  (repeat' split at h) <;> subst h <;> simp

@[simp] theorem onTrigger_frame (s : State) :
    (onTrigger s).1.pending = s.pending ∧ (onTrigger s).1.agenda = s.agenda ∧ (onTrigger s).1.now = s.now ∧
    (onTrigger s).1.lines = s.lines ∧ (onTrigger s).1.uli = s.uli ∧ (onTrigger s).1.ports = s.ports ∧
    (onTrigger s).1.polls = s.polls ∧ (onTrigger s).1.slots = s.slots ∧ (onTrigger s).1.classifier = s.classifier ∧
    (onTrigger s).1.bays = s.bays ∧ (onTrigger s).1.brc = s.brc ∧ (onTrigger s).1.mtu = s.mtu ∧
    (onTrigger s).1.sru = s.sru ∧ (onTrigger s).1.ntq = s.ntq ∧ (onTrigger s).1.smi = s.smi := by
  generalize h : onTrigger s = r
  unfold onTrigger at h
  try dsimp only at h
  (repeat' split at h) <;> subst h <;> simp

@[simp] theorem bridgeAttempt_frame (s : State) :
    (bridgeAttempt s).1.pending = s.pending ∧ (bridgeAttempt s).1.agenda = s.agenda ∧
    (bridgeAttempt s).1.now = s.now ∧ (bridgeAttempt s).1.lines = s.lines ∧ (bridgeAttempt s).1.uli = s.uli ∧
    (bridgeAttempt s).1.ports = s.ports ∧ (bridgeAttempt s).1.polls = s.polls ∧ (bridgeAttempt s).1.slots = s.slots ∧
    (bridgeAttempt s).1.classifier = s.classifier ∧ (bridgeAttempt s).1.brc = s.brc ∧
    (bridgeAttempt s).1.mtu = s.mtu ∧ (bridgeAttempt s).1.sru = s.sru ∧ (bridgeAttempt s).1.ntq = s.ntq ∧
    (bridgeAttempt s).1.smi = s.smi := by
  generalize h : bridgeAttempt s = r
  unfold bridgeAttempt at h
  try dsimp only at h
  subst h; simp

@[simp] theorem State.releasePending_frame (s : State) :
    (State.releasePending s).pending = s.pending ∧ (State.releasePending s).agenda = s.agenda ∧
    (State.releasePending s).now = s.now ∧ (State.releasePending s).lines = s.lines ∧
    (State.releasePending s).uli = s.uli ∧ (State.releasePending s).ports = s.ports ∧
    (State.releasePending s).polls = s.polls ∧ (State.releasePending s).slots = s.slots ∧
    (State.releasePending s).classifier = s.classifier ∧ (State.releasePending s).bays = s.bays ∧
    (State.releasePending s).brc = s.brc ∧ (State.releasePending s).mtu = s.mtu ∧
    (State.releasePending s).sru = s.sru ∧ (State.releasePending s).ntq = s.ntq ∧
    (State.releasePending s).smi = s.smi := by
  generalize h : State.releasePending s = r
  unfold State.releasePending at h
  try dsimp only at h
  subst h; simp

@[simp] theorem takeWaiting_frame (s : State) :
    (takeWaiting s).1.pending = s.pending ∧ (takeWaiting s).1.agenda = s.agenda ∧ (takeWaiting s).1.now = s.now ∧
    (takeWaiting s).1.lines = s.lines ∧ (takeWaiting s).1.uli = s.uli ∧ (takeWaiting s).1.ports = s.ports ∧
    (takeWaiting s).1.polls = s.polls ∧ (takeWaiting s).1.slots = s.slots ∧
    (takeWaiting s).1.classifier = s.classifier ∧ (takeWaiting s).1.brc = s.brc ∧ (takeWaiting s).1.mtu = s.mtu ∧
    (takeWaiting s).1.sru = s.sru ∧ (takeWaiting s).1.ntq = s.ntq ∧ (takeWaiting s).1.smi = s.smi := by
  generalize h : takeWaiting s = r
  unfold takeWaiting at h
  try dsimp only at h
  (repeat' split at h) <;> subst h <;> simp

@[simp] theorem onReleaseRequest_frame (bay : Bay) (origin : Origin) (s : State) :
    (onReleaseRequest bay origin s).1.pending = s.pending ∧ (onReleaseRequest bay origin s).1.agenda = s.agenda ∧
    (onReleaseRequest bay origin s).1.now = s.now ∧ (onReleaseRequest bay origin s).1.lines = s.lines ∧
    (onReleaseRequest bay origin s).1.uli = s.uli ∧ (onReleaseRequest bay origin s).1.ports = s.ports ∧
    (onReleaseRequest bay origin s).1.polls = s.polls ∧ (onReleaseRequest bay origin s).1.slots = s.slots ∧
    (onReleaseRequest bay origin s).1.classifier = s.classifier ∧ (onReleaseRequest bay origin s).1.bays = s.bays ∧
    (onReleaseRequest bay origin s).1.brc = s.brc ∧ (onReleaseRequest bay origin s).1.mtu = s.mtu ∧
    (onReleaseRequest bay origin s).1.sru = s.sru ∧ (onReleaseRequest bay origin s).1.ntq = s.ntq ∧
    (onReleaseRequest bay origin s).1.smi = s.smi := by
  generalize h : onReleaseRequest bay origin s = r
  unfold onReleaseRequest at h
  try dsimp only at h
  (repeat' split at h) <;> subst h <;> simp

@[simp] theorem leaveForTakeover_frame (lost : Src) (s : State) :
    (leaveForTakeover lost s).1.pending = s.pending ∧ (leaveForTakeover lost s).1.agenda = s.agenda ∧
    (leaveForTakeover lost s).1.now = s.now ∧ (leaveForTakeover lost s).1.lines = s.lines ∧
    (leaveForTakeover lost s).1.uli = s.uli ∧ (leaveForTakeover lost s).1.ports = s.ports ∧
    (leaveForTakeover lost s).1.polls = s.polls ∧ (leaveForTakeover lost s).1.slots = s.slots ∧
    (leaveForTakeover lost s).1.classifier = s.classifier ∧ (leaveForTakeover lost s).1.brc = s.brc ∧
    (leaveForTakeover lost s).1.mtu = s.mtu ∧ (leaveForTakeover lost s).1.sru = s.sru ∧
    (leaveForTakeover lost s).1.ntq = s.ntq ∧ (leaveForTakeover lost s).1.smi = s.smi := by
  generalize h : leaveForTakeover lost s = r
  unfold leaveForTakeover at h
  try dsimp only at h
  (repeat' split at h) <;> subst h <;> simp

@[simp] theorem takeOver_frame (lost target : Src) (urgent : Bool) (s : State) :
    (takeOver lost target urgent s).1.pending = s.pending ∧ (takeOver lost target urgent s).1.agenda = s.agenda ∧
    (takeOver lost target urgent s).1.now = s.now ∧ (takeOver lost target urgent s).1.lines = s.lines ∧
    (takeOver lost target urgent s).1.uli = s.uli ∧ (takeOver lost target urgent s).1.ports = s.ports ∧
    (takeOver lost target urgent s).1.polls = s.polls ∧ (takeOver lost target urgent s).1.slots = s.slots ∧
    (takeOver lost target urgent s).1.classifier = s.classifier ∧ (takeOver lost target urgent s).1.brc = s.brc ∧
    (takeOver lost target urgent s).1.mtu = s.mtu ∧ (takeOver lost target urgent s).1.sru = s.sru ∧
    (takeOver lost target urgent s).1.smi = s.smi := by
  generalize h : takeOver lost target urgent s = r
  unfold takeOver at h
  try dsimp only at h
  (repeat' split at h) <;> subst h <;> simp

@[simp] theorem noAlternate_frame (lost : Src) (s : State) :
    (noAlternate lost s).1.pending = s.pending ∧ (noAlternate lost s).1.agenda = s.agenda ∧
    (noAlternate lost s).1.now = s.now ∧ (noAlternate lost s).1.lines = s.lines ∧
    (noAlternate lost s).1.uli = s.uli ∧ (noAlternate lost s).1.ports = s.ports ∧
    (noAlternate lost s).1.polls = s.polls ∧ (noAlternate lost s).1.slots = s.slots ∧
    (noAlternate lost s).1.classifier = s.classifier ∧ (noAlternate lost s).1.bays = s.bays ∧
    (noAlternate lost s).1.brc = s.brc ∧ (noAlternate lost s).1.mtu = s.mtu ∧ (noAlternate lost s).1.sru = s.sru ∧
    (noAlternate lost s).1.smi = s.smi := by
  generalize h : noAlternate lost s = r
  unfold noAlternate at h
  try dsimp only at h
  (repeat' split at h) <;> subst h <;> simp

@[simp] theorem onTakeover_frame (lost : Src) (urgent : Bool) (s : State) :
    (onTakeover lost urgent s).1.pending = s.pending ∧ (onTakeover lost urgent s).1.agenda = s.agenda ∧
    (onTakeover lost urgent s).1.now = s.now ∧ (onTakeover lost urgent s).1.lines = s.lines ∧
    (onTakeover lost urgent s).1.uli = s.uli ∧ (onTakeover lost urgent s).1.ports = s.ports ∧
    (onTakeover lost urgent s).1.polls = s.polls ∧ (onTakeover lost urgent s).1.slots = s.slots ∧
    (onTakeover lost urgent s).1.classifier = s.classifier ∧ (onTakeover lost urgent s).1.brc = s.brc ∧
    (onTakeover lost urgent s).1.mtu = s.mtu ∧ (onTakeover lost urgent s).1.sru = s.sru ∧
    (onTakeover lost urgent s).1.smi = s.smi := by
  generalize h : onTakeover lost urgent s = r
  unfold onTakeover at h
  try dsimp only at h
  (repeat' split at h) <;> subst h <;> simp

@[simp] theorem repeatedTakeover_frame (lost : Src) (s : State) :
    (repeatedTakeover lost s).1.pending = s.pending ∧ (repeatedTakeover lost s).1.agenda = s.agenda ∧
    (repeatedTakeover lost s).1.now = s.now ∧ (repeatedTakeover lost s).1.lines = s.lines ∧
    (repeatedTakeover lost s).1.uli = s.uli ∧ (repeatedTakeover lost s).1.ports = s.ports ∧
    (repeatedTakeover lost s).1.polls = s.polls ∧ (repeatedTakeover lost s).1.slots = s.slots ∧
    (repeatedTakeover lost s).1.classifier = s.classifier ∧ (repeatedTakeover lost s).1.brc = s.brc ∧
    (repeatedTakeover lost s).1.mtu = s.mtu ∧ (repeatedTakeover lost s).1.sru = s.sru ∧
    (repeatedTakeover lost s).1.smi = s.smi := by
  generalize h : repeatedTakeover lost s = r
  unfold repeatedTakeover at h
  try dsimp only at h
  (repeat' split at h) <;> subst h <;> simp

@[simp] theorem loseTarget_frame (a : Attempt) (urgent trigger : Bool) (s : State) :
    (loseTarget a urgent trigger s).1.pending = s.pending ∧ (loseTarget a urgent trigger s).1.agenda = s.agenda ∧
    (loseTarget a urgent trigger s).1.now = s.now ∧ (loseTarget a urgent trigger s).1.lines = s.lines ∧
    (loseTarget a urgent trigger s).1.uli = s.uli ∧ (loseTarget a urgent trigger s).1.ports = s.ports ∧
    (loseTarget a urgent trigger s).1.polls = s.polls ∧ (loseTarget a urgent trigger s).1.slots = s.slots ∧
    (loseTarget a urgent trigger s).1.classifier = s.classifier ∧ (loseTarget a urgent trigger s).1.brc = s.brc ∧
    (loseTarget a urgent trigger s).1.mtu = s.mtu ∧ (loseTarget a urgent trigger s).1.sru = s.sru ∧
    (loseTarget a urgent trigger s).1.smi = s.smi := by
  generalize h : loseTarget a urgent trigger s = r
  unfold loseTarget at h
  try dsimp only at h
  (repeat' split at h) <;> subst h <;> simp

@[simp] theorem onLoss_frame (x : Src) (urgent trigger : Bool) (s : State) :
    (onLoss x urgent trigger s).1.pending = s.pending ∧ (onLoss x urgent trigger s).1.agenda = s.agenda ∧
    (onLoss x urgent trigger s).1.now = s.now ∧ (onLoss x urgent trigger s).1.lines = s.lines ∧
    (onLoss x urgent trigger s).1.uli = s.uli ∧ (onLoss x urgent trigger s).1.ports = s.ports ∧
    (onLoss x urgent trigger s).1.polls = s.polls ∧ (onLoss x urgent trigger s).1.slots = s.slots ∧
    (onLoss x urgent trigger s).1.classifier = s.classifier ∧ (onLoss x urgent trigger s).1.brc = s.brc ∧
    (onLoss x urgent trigger s).1.mtu = s.mtu ∧ (onLoss x urgent trigger s).1.sru = s.sru ∧
    (onLoss x urgent trigger s).1.smi = s.smi := by
  generalize h : onLoss x urgent trigger s = r
  unfold onLoss at h
  try dsimp only at h
  (repeat' split at h) <;> subst h <;> simp

@[simp] theorem State.setIdleSwitch_frame (s : State) (x : Src) (sw : Switch) :
    (State.setIdleSwitch s x sw).pending = s.pending ∧ (State.setIdleSwitch s x sw).agenda = s.agenda ∧
    (State.setIdleSwitch s x sw).now = s.now ∧ (State.setIdleSwitch s x sw).lines = s.lines ∧
    (State.setIdleSwitch s x sw).uli = s.uli ∧ (State.setIdleSwitch s x sw).ports = s.ports ∧
    (State.setIdleSwitch s x sw).polls = s.polls ∧ (State.setIdleSwitch s x sw).slots = s.slots ∧
    (State.setIdleSwitch s x sw).classifier = s.classifier ∧ (State.setIdleSwitch s x sw).bays = s.bays ∧
    (State.setIdleSwitch s x sw).brc = s.brc ∧ (State.setIdleSwitch s x sw).mtu = s.mtu ∧
    (State.setIdleSwitch s x sw).sru = s.sru ∧ (State.setIdleSwitch s x sw).ntq = s.ntq ∧
    (State.setIdleSwitch s x sw).smi = s.smi := by
  generalize h : State.setIdleSwitch s x sw = r
  unfold State.setIdleSwitch at h
  try dsimp only at h
  (repeat' split at h) <;> subst h <;> simp

@[simp] theorem onDcin_frame (high : Bool) (s : State) :
    (onDcin high s).1.pending = s.pending ∧ (onDcin high s).1.agenda = s.agenda ∧ (onDcin high s).1.now = s.now ∧
    (onDcin high s).1.uli = s.uli ∧ (onDcin high s).1.ports = s.ports ∧ (onDcin high s).1.polls = s.polls ∧
    (onDcin high s).1.slots = s.slots ∧ (onDcin high s).1.classifier = s.classifier ∧ (onDcin high s).1.brc = s.brc ∧
    (onDcin high s).1.mtu = s.mtu ∧ (onDcin high s).1.sru = s.sru ∧ (onDcin high s).1.smi = s.smi := by
  generalize h : onDcin high s = r
  unfold onDcin at h
  try dsimp only at h
  (repeat' split at h) <;> subst h <;> simp

@[simp] theorem State.setHeldOff_frame (s : State) (x : Src) (held : Bool) :
    (State.setHeldOff s x held).pending = s.pending ∧ (State.setHeldOff s x held).agenda = s.agenda ∧
    (State.setHeldOff s x held).now = s.now ∧ (State.setHeldOff s x held).lines = s.lines ∧
    (State.setHeldOff s x held).uli = s.uli ∧ (State.setHeldOff s x held).ports = s.ports ∧
    (State.setHeldOff s x held).polls = s.polls ∧ (State.setHeldOff s x held).slots = s.slots ∧
    (State.setHeldOff s x held).classifier = s.classifier ∧ (State.setHeldOff s x held).bays = s.bays ∧
    (State.setHeldOff s x held).brc = s.brc ∧ (State.setHeldOff s x held).mtu = s.mtu ∧
    (State.setHeldOff s x held).sru = s.sru ∧ (State.setHeldOff s x held).ntq = s.ntq ∧
    (State.setHeldOff s x held).smi = s.smi := by
  generalize h : State.setHeldOff s x held = r
  unfold State.setHeldOff at h
  try dsimp only at h
  subst h; simp

@[simp] theorem State.enterSwitch_frame (s : State) (bay : Bay) :
    (State.enterSwitch s bay).pending = s.pending ∧ (State.enterSwitch s bay).agenda = s.agenda ∧
    (State.enterSwitch s bay).now = s.now ∧ (State.enterSwitch s bay).lines = s.lines ∧
    (State.enterSwitch s bay).uli = s.uli ∧ (State.enterSwitch s bay).ports = s.ports ∧
    (State.enterSwitch s bay).polls = s.polls ∧ (State.enterSwitch s bay).slots = s.slots ∧
    (State.enterSwitch s bay).classifier = s.classifier ∧ (State.enterSwitch s bay).bays = s.bays ∧
    (State.enterSwitch s bay).brc = s.brc ∧ (State.enterSwitch s bay).mtu = s.mtu ∧
    (State.enterSwitch s bay).sru = s.sru ∧ (State.enterSwitch s bay).ntq = s.ntq ∧
    (State.enterSwitch s bay).smi = s.smi := by
  generalize h : State.enterSwitch s bay = r
  unfold State.enterSwitch at h
  try dsimp only at h
  (repeat' split at h) <;> subst h <;> simp

@[simp] theorem State.emptySource_frame (s : State) (bay : Bay) :
    (State.emptySource s bay).pending = s.pending ∧ (State.emptySource s bay).agenda = s.agenda ∧
    (State.emptySource s bay).now = s.now ∧ (State.emptySource s bay).lines = s.lines ∧
    (State.emptySource s bay).uli = s.uli ∧ (State.emptySource s bay).ports = s.ports ∧
    (State.emptySource s bay).polls = s.polls ∧ (State.emptySource s bay).slots = s.slots ∧
    (State.emptySource s bay).classifier = s.classifier ∧ (State.emptySource s bay).bays = s.bays ∧
    (State.emptySource s bay).brc = s.brc ∧ (State.emptySource s bay).mtu = s.mtu ∧
    (State.emptySource s bay).sru = s.sru ∧ (State.emptySource s bay).ntq = s.ntq ∧
    (State.emptySource s bay).smi = s.smi := by
  generalize h : State.emptySource s bay = r
  unfold State.emptySource at h
  try dsimp only at h
  (repeat' split at h) <;> subst h <;> simp

@[simp] theorem powerOnBay_frame (bay : Bay) (old new : BayState) (s : State) :
    (powerOnBay bay old new s).1.pending = s.pending ∧ (powerOnBay bay old new s).1.agenda = s.agenda ∧
    (powerOnBay bay old new s).1.now = s.now ∧ (powerOnBay bay old new s).1.lines = s.lines ∧
    (powerOnBay bay old new s).1.uli = s.uli ∧ (powerOnBay bay old new s).1.ports = s.ports ∧
    (powerOnBay bay old new s).1.polls = s.polls ∧ (powerOnBay bay old new s).1.slots = s.slots ∧
    (powerOnBay bay old new s).1.classifier = s.classifier ∧ (powerOnBay bay old new s).1.brc = s.brc ∧
    (powerOnBay bay old new s).1.mtu = s.mtu ∧ (powerOnBay bay old new s).1.sru = s.sru ∧
    (powerOnBay bay old new s).1.smi = s.smi := by
  generalize h : powerOnBay bay old new s = r
  unfold powerOnBay at h
  try dsimp only at h
  (repeat' split at h) <;> subst h <;> simp

@[simp] theorem addBridgeCause_frame (why : Int) (s : State) :
    (addBridgeCause why s).pending = s.pending ∧ (addBridgeCause why s).agenda = s.agenda ∧
    (addBridgeCause why s).now = s.now ∧ (addBridgeCause why s).lines = s.lines ∧
    (addBridgeCause why s).uli = s.uli ∧ (addBridgeCause why s).ports = s.ports ∧
    (addBridgeCause why s).polls = s.polls ∧ (addBridgeCause why s).slots = s.slots ∧
    (addBridgeCause why s).classifier = s.classifier ∧ (addBridgeCause why s).bays = s.bays ∧
    (addBridgeCause why s).brc = s.brc ∧ (addBridgeCause why s).mtu = s.mtu ∧ (addBridgeCause why s).sru = s.sru ∧
    (addBridgeCause why s).smi = s.smi := by
  generalize h : addBridgeCause why s = r
  unfold addBridgeCause at h
  try dsimp only at h
  (repeat' split at h) <;> subst h <;> simp

@[simp] theorem checkBridge_frame (s : State) :
    (checkBridge s).pending = s.pending ∧ (checkBridge s).agenda = s.agenda ∧ (checkBridge s).now = s.now ∧
    (checkBridge s).lines = s.lines ∧ (checkBridge s).uli = s.uli ∧ (checkBridge s).ports = s.ports ∧
    (checkBridge s).polls = s.polls ∧ (checkBridge s).slots = s.slots ∧ (checkBridge s).classifier = s.classifier ∧
    (checkBridge s).bays = s.bays ∧ (checkBridge s).brc = s.brc ∧ (checkBridge s).mtu = s.mtu ∧
    (checkBridge s).sru = s.sru ∧ (checkBridge s).smi = s.smi := by
  generalize h : checkBridge s = r
  unfold checkBridge at h
  try dsimp only at h
  (repeat' split at h) <;> subst h <;> simp

@[simp] theorem State.restoreStandby_frame (s : State) (bay : Bay) :
    (State.restoreStandby s bay).pending = s.pending ∧ (State.restoreStandby s bay).agenda = s.agenda ∧
    (State.restoreStandby s bay).now = s.now ∧ (State.restoreStandby s bay).lines = s.lines ∧
    (State.restoreStandby s bay).uli = s.uli ∧ (State.restoreStandby s bay).ports = s.ports ∧
    (State.restoreStandby s bay).polls = s.polls ∧ (State.restoreStandby s bay).slots = s.slots ∧
    (State.restoreStandby s bay).classifier = s.classifier ∧ (State.restoreStandby s bay).bays = s.bays ∧
    (State.restoreStandby s bay).brc = s.brc ∧ (State.restoreStandby s bay).mtu = s.mtu ∧
    (State.restoreStandby s bay).sru = s.sru ∧ (State.restoreStandby s bay).ntq = s.ntq ∧
    (State.restoreStandby s bay).smi = s.smi := by
  generalize h : State.restoreStandby s bay = r
  unfold State.restoreStandby at h
  try dsimp only at h
  (repeat' split at h) <;> subst h <;> simp

@[simp] theorem State.holdOff_frame (s : State) (bay : Bay) (held : Bool) :
    (State.holdOff s bay held).pending = s.pending ∧ (State.holdOff s bay held).agenda = s.agenda ∧
    (State.holdOff s bay held).now = s.now ∧ (State.holdOff s bay held).lines = s.lines ∧
    (State.holdOff s bay held).uli = s.uli ∧ (State.holdOff s bay held).ports = s.ports ∧
    (State.holdOff s bay held).polls = s.polls ∧ (State.holdOff s bay held).slots = s.slots ∧
    (State.holdOff s bay held).classifier = s.classifier ∧ (State.holdOff s bay held).bays = s.bays ∧
    (State.holdOff s bay held).brc = s.brc ∧ (State.holdOff s bay held).mtu = s.mtu ∧
    (State.holdOff s bay held).sru = s.sru ∧ (State.holdOff s bay held).ntq = s.ntq ∧
    (State.holdOff s bay held).smi = s.smi := by
  generalize h : State.holdOff s bay held = r
  unfold State.holdOff at h
  try dsimp only at h
  (repeat' split at h) <;> subst h <;> simp

/-- What the held-off mark does to the sources: the bay's own takes the mark, and its switch, unless it is ON, goes OFF under
it and to STANDBY in READY and SUSPECT without it. -/
theorem State.holdOff_source (s : State) (bay : Bay) (held : Bool) (x : Src) :
    (s.holdOff bay held).source x = if x = baySrc bay then
      { s.source x with
        heldOff := held
        sw := if (s.source x).sw = .on then .on else if held then .off
          else if (s.bay bay).state = .ready ∨ (s.bay bay).state = .suspect then .standby else (s.source x).sw }
      else s.source x := by
  have bay_eq : ∀ r, (s.setSource (baySrc bay) r).bay bay = s.bay bay := fun _ => rfl
  unfold State.holdOff State.restoreStandby State.setIdleSwitch State.setHeldOff State.setSwitch
  rcases eq_or_ne x (baySrc bay) with rfl | hx
  · cases held <;> by_cases hon : (s.source (baySrc bay)).sw = .on <;>
      by_cases hb : (s.bay bay).state = .ready ∨ (s.bay bay).state = .suspect <;> simp [bay_eq, hon, hb, standbyOrOff]
  · cases held <;> simp only [if_neg hx, Bool.false_eq_true, if_true, if_false] <;> (repeat' split) <;>
      simp [State.setSource_source_ne, hx]

@[simp] theorem packTooHot_frame (bay : Bay) (s : State) :
    (packTooHot bay s).1.pending = s.pending ∧ (packTooHot bay s).1.agenda = s.agenda ∧
    (packTooHot bay s).1.now = s.now ∧ (packTooHot bay s).1.lines = s.lines ∧ (packTooHot bay s).1.uli = s.uli ∧
    (packTooHot bay s).1.ports = s.ports ∧ (packTooHot bay s).1.polls = s.polls ∧
    (packTooHot bay s).1.slots = s.slots ∧ (packTooHot bay s).1.classifier = s.classifier ∧
    (packTooHot bay s).1.brc = s.brc ∧ (packTooHot bay s).1.mtu = s.mtu ∧ (packTooHot bay s).1.sru = s.sru ∧
    (packTooHot bay s).1.smi = s.smi := by
  generalize h : packTooHot bay s = r
  unfold packTooHot at h
  try dsimp only at h
  (repeat' split at h) <;> subst h <;> simp

@[simp] theorem State.dropNoAlternate_frame (s : State) :
    (State.dropNoAlternate s).pending = s.pending ∧ (State.dropNoAlternate s).agenda = s.agenda ∧
    (State.dropNoAlternate s).now = s.now ∧ (State.dropNoAlternate s).lines = s.lines ∧
    (State.dropNoAlternate s).uli = s.uli ∧ (State.dropNoAlternate s).ports = s.ports ∧
    (State.dropNoAlternate s).polls = s.polls ∧ (State.dropNoAlternate s).slots = s.slots ∧
    (State.dropNoAlternate s).classifier = s.classifier ∧ (State.dropNoAlternate s).bays = s.bays ∧
    (State.dropNoAlternate s).brc = s.brc ∧ (State.dropNoAlternate s).mtu = s.mtu ∧
    (State.dropNoAlternate s).sru = s.sru ∧ (State.dropNoAlternate s).ntq = s.ntq ∧
    (State.dropNoAlternate s).smi = s.smi := by
  generalize h : State.dropNoAlternate s = r
  unfold State.dropNoAlternate at h
  try dsimp only at h
  (repeat' split at h) <;> subst h <;> simp

@[simp] theorem packCool_frame (bay : Bay) (s : State) :
    (packCool bay s).1.pending = s.pending ∧ (packCool bay s).1.agenda = s.agenda ∧ (packCool bay s).1.now = s.now ∧
    (packCool bay s).1.lines = s.lines ∧ (packCool bay s).1.uli = s.uli ∧ (packCool bay s).1.ports = s.ports ∧
    (packCool bay s).1.polls = s.polls ∧ (packCool bay s).1.slots = s.slots ∧
    (packCool bay s).1.classifier = s.classifier ∧ (packCool bay s).1.bays = s.bays ∧
    (packCool bay s).1.brc = s.brc ∧ (packCool bay s).1.mtu = s.mtu ∧ (packCool bay s).1.sru = s.sru ∧
    (packCool bay s).1.ntq = s.ntq ∧ (packCool bay s).1.smi = s.smi := by
  generalize h : packCool bay s = r
  unfold packCool at h
  try dsimp only at h
  subst h; simp

@[simp] theorem temperatureWritten_frame (bay : Bay) (s : State) :
    (temperatureWritten bay s).1.pending = s.pending ∧ (temperatureWritten bay s).1.agenda = s.agenda ∧
    (temperatureWritten bay s).1.now = s.now ∧ (temperatureWritten bay s).1.lines = s.lines ∧
    (temperatureWritten bay s).1.uli = s.uli ∧ (temperatureWritten bay s).1.ports = s.ports ∧
    (temperatureWritten bay s).1.polls = s.polls ∧ (temperatureWritten bay s).1.slots = s.slots ∧
    (temperatureWritten bay s).1.classifier = s.classifier ∧ (temperatureWritten bay s).1.brc = s.brc ∧
    (temperatureWritten bay s).1.mtu = s.mtu ∧ (temperatureWritten bay s).1.sru = s.sru ∧
    (temperatureWritten bay s).1.smi = s.smi := by
  generalize h : temperatureWritten bay s = r
  unfold temperatureWritten at h
  try dsimp only at h
  (repeat' split at h) <;> subst h <;> simp

@[simp] theorem powerOnWrite_frame (slot : Fin 32) (old : Slot) (s : State) :
    (powerOnWrite slot old s).1.pending = s.pending ∧ (powerOnWrite slot old s).1.agenda = s.agenda ∧
    (powerOnWrite slot old s).1.now = s.now ∧ (powerOnWrite slot old s).1.lines = s.lines ∧
    (powerOnWrite slot old s).1.uli = s.uli ∧ (powerOnWrite slot old s).1.ports = s.ports ∧
    (powerOnWrite slot old s).1.polls = s.polls ∧ (powerOnWrite slot old s).1.slots = s.slots ∧
    (powerOnWrite slot old s).1.classifier = s.classifier ∧ (powerOnWrite slot old s).1.brc = s.brc ∧
    (powerOnWrite slot old s).1.mtu = s.mtu ∧ (powerOnWrite slot old s).1.sru = s.sru ∧
    (powerOnWrite slot old s).1.smi = s.smi := by
  generalize h : powerOnWrite slot old s = r
  unfold powerOnWrite at h
  try dsimp only at h
  (repeat' split at h) <;> subst h <;> simp

@[simp] theorem powerOnLapse_frame (slot : Fin 32) (s : State) :
    (powerOnLapse slot s).1.pending = s.pending ∧ (powerOnLapse slot s).1.agenda = s.agenda ∧
    (powerOnLapse slot s).1.now = s.now ∧ (powerOnLapse slot s).1.lines = s.lines ∧
    (powerOnLapse slot s).1.uli = s.uli ∧ (powerOnLapse slot s).1.ports = s.ports ∧
    (powerOnLapse slot s).1.polls = s.polls ∧ (powerOnLapse slot s).1.slots = s.slots ∧
    (powerOnLapse slot s).1.classifier = s.classifier ∧ (powerOnLapse slot s).1.bays = s.bays ∧
    (powerOnLapse slot s).1.brc = s.brc ∧ (powerOnLapse slot s).1.mtu = s.mtu ∧ (powerOnLapse slot s).1.sru = s.sru ∧
    (powerOnLapse slot s).1.ntq = s.ntq ∧ (powerOnLapse slot s).1.smi = s.smi := by
  generalize h : powerOnLapse slot s = r
  unfold powerOnLapse at h
  try dsimp only at h
  (repeat' split at h) <;> subst h <;> simp

@[simp] theorem expireStartup_frame (s : State) :
    (expireStartup s).1.pending = s.pending ∧ (expireStartup s).1.agenda = s.agenda ∧
    (expireStartup s).1.now = s.now ∧ (expireStartup s).1.lines = s.lines ∧ (expireStartup s).1.uli = s.uli ∧
    (expireStartup s).1.ports = s.ports ∧ (expireStartup s).1.polls = s.polls ∧ (expireStartup s).1.slots = s.slots ∧
    (expireStartup s).1.classifier = s.classifier ∧ (expireStartup s).1.brc = s.brc ∧
    (expireStartup s).1.mtu = s.mtu ∧ (expireStartup s).1.sru = s.sru ∧ (expireStartup s).1.ntq = s.ntq ∧
    (expireStartup s).1.smi = s.smi := by
  generalize h : expireStartup s = r
  unfold expireStartup at h
  try dsimp only at h
  (repeat' split at h) <;> subst h <;> simp

@[simp] theorem expireDwell_frame (s : State) :
    (expireDwell s).1.pending = s.pending ∧ (expireDwell s).1.agenda = s.agenda ∧ (expireDwell s).1.now = s.now ∧
    (expireDwell s).1.lines = s.lines ∧ (expireDwell s).1.uli = s.uli ∧ (expireDwell s).1.ports = s.ports ∧
    (expireDwell s).1.polls = s.polls ∧ (expireDwell s).1.slots = s.slots ∧
    (expireDwell s).1.classifier = s.classifier ∧ (expireDwell s).1.bays = s.bays ∧ (expireDwell s).1.brc = s.brc ∧
    (expireDwell s).1.mtu = s.mtu ∧ (expireDwell s).1.sru = s.sru ∧ (expireDwell s).1.ntq = s.ntq ∧
    (expireDwell s).1.smi = s.smi := by
  generalize h : expireDwell s = r
  unfold expireDwell at h
  try dsimp only at h
  (repeat' split at h) <;> subst h <;> simp

@[simp] theorem expireBridge_frame (s : State) :
    (expireBridge s).1.pending = s.pending ∧ (expireBridge s).1.agenda = s.agenda ∧ (expireBridge s).1.now = s.now ∧
    (expireBridge s).1.lines = s.lines ∧ (expireBridge s).1.uli = s.uli ∧ (expireBridge s).1.ports = s.ports ∧
    (expireBridge s).1.polls = s.polls ∧ (expireBridge s).1.slots = s.slots ∧
    (expireBridge s).1.classifier = s.classifier ∧ (expireBridge s).1.bays = s.bays ∧
    (expireBridge s).1.brc = s.brc ∧ (expireBridge s).1.mtu = s.mtu ∧ (expireBridge s).1.sru = s.sru ∧
    (expireBridge s).1.smi = s.smi := by
  generalize h : expireBridge s = r
  unfold expireBridge at h
  try dsimp only at h
  (repeat' split at h) <;> subst h <;> simp

@[simp] theorem onFeedback_frame (x : Src) (conducting : Bool) (s : State) :
    (onFeedback x conducting s).1.pending = s.pending ∧ (onFeedback x conducting s).1.agenda = s.agenda ∧
    (onFeedback x conducting s).1.now = s.now ∧ (onFeedback x conducting s).1.uli = s.uli ∧
    (onFeedback x conducting s).1.ports = s.ports ∧ (onFeedback x conducting s).1.polls = s.polls ∧
    (onFeedback x conducting s).1.slots = s.slots ∧ (onFeedback x conducting s).1.ppc = s.ppc ∧
    (onFeedback x conducting s).1.classifier = s.classifier ∧ (onFeedback x conducting s).1.bays = s.bays ∧
    (onFeedback x conducting s).1.brc = s.brc ∧ (onFeedback x conducting s).1.mtu = s.mtu ∧
    (onFeedback x conducting s).1.sru = s.sru ∧ (onFeedback x conducting s).1.ntq = s.ntq ∧
    (onFeedback x conducting s).1.smi = s.smi := by
  generalize h : onFeedback x conducting s = r
  unfold onFeedback at h
  try dsimp only at h
  (repeat' split at h) <;> subst h <;> simp

@[simp] theorem giveUpAttempt_frame (s : State) :
    (giveUpAttempt s).1.pending = s.pending ∧ (giveUpAttempt s).1.agenda = s.agenda ∧
    (giveUpAttempt s).1.now = s.now ∧ (giveUpAttempt s).1.lines = s.lines ∧ (giveUpAttempt s).1.uli = s.uli ∧
    (giveUpAttempt s).1.ports = s.ports ∧ (giveUpAttempt s).1.polls = s.polls ∧ (giveUpAttempt s).1.slots = s.slots ∧
    (giveUpAttempt s).1.classifier = s.classifier ∧ (giveUpAttempt s).1.brc = s.brc ∧
    (giveUpAttempt s).1.mtu = s.mtu ∧ (giveUpAttempt s).1.sru = s.sru ∧ (giveUpAttempt s).1.ntq = s.ntq ∧
    (giveUpAttempt s).1.smi = s.smi := by
  generalize h : giveUpAttempt s = r
  unfold giveUpAttempt at h
  try dsimp only at h
  (repeat' split at h) <;> subst h <;> simp

@[simp] theorem powerOnFlag_frame (set : Bool) (s : State) :
    (powerOnFlag set s).1.pending = s.pending ∧ (powerOnFlag set s).1.agenda = s.agenda ∧
    (powerOnFlag set s).1.now = s.now ∧ (powerOnFlag set s).1.lines = s.lines ∧ (powerOnFlag set s).1.uli = s.uli ∧
    (powerOnFlag set s).1.ports = s.ports ∧ (powerOnFlag set s).1.polls = s.polls ∧
    (powerOnFlag set s).1.slots = s.slots ∧ (powerOnFlag set s).1.classifier = s.classifier ∧
    (powerOnFlag set s).1.brc = s.brc ∧ (powerOnFlag set s).1.mtu = s.mtu ∧ (powerOnFlag set s).1.sru = s.sru ∧
    (powerOnFlag set s).1.ntq = s.ntq ∧ (powerOnFlag set s).1.smi = s.smi := by
  generalize h : powerOnFlag set s = r
  unfold powerOnFlag at h
  try dsimp only at h
  (repeat' split at h) <;> subst h <;> simp

@[simp] theorem State.reholdBay_frame (s : State) (bay : Bay) :
    (State.reholdBay s bay).pending = s.pending ∧ (State.reholdBay s bay).agenda = s.agenda ∧
    (State.reholdBay s bay).now = s.now ∧ (State.reholdBay s bay).lines = s.lines ∧
    (State.reholdBay s bay).uli = s.uli ∧ (State.reholdBay s bay).ports = s.ports ∧
    (State.reholdBay s bay).polls = s.polls ∧ (State.reholdBay s bay).slots = s.slots ∧
    (State.reholdBay s bay).classifier = s.classifier ∧ (State.reholdBay s bay).bays = s.bays ∧
    (State.reholdBay s bay).brc = s.brc ∧ (State.reholdBay s bay).mtu = s.mtu ∧ (State.reholdBay s bay).sru = s.sru ∧
    (State.reholdBay s bay).ntq = s.ntq ∧ (State.reholdBay s bay).smi = s.smi := by
  generalize h : State.reholdBay s bay = r
  unfold State.reholdBay at h
  try dsimp only at h
  subst h; simp

@[simp] theorem supplyPowerSwitch_frame (s : State) :
    (supplyPowerSwitch s).1.pending = s.pending ∧ (supplyPowerSwitch s).1.agenda = s.agenda ∧
    (supplyPowerSwitch s).1.now = s.now ∧ (supplyPowerSwitch s).1.lines = s.lines ∧
    (supplyPowerSwitch s).1.uli = s.uli ∧ (supplyPowerSwitch s).1.ports = s.ports ∧
    (supplyPowerSwitch s).1.polls = s.polls ∧ (supplyPowerSwitch s).1.slots = s.slots ∧
    (supplyPowerSwitch s).1.classifier = s.classifier ∧ (supplyPowerSwitch s).1.bays = s.bays ∧
    (supplyPowerSwitch s).1.brc = s.brc ∧ (supplyPowerSwitch s).1.mtu = s.mtu ∧ (supplyPowerSwitch s).1.sru = s.sru ∧
    (supplyPowerSwitch s).1.smi = s.smi := by
  generalize h : supplyPowerSwitch s = r
  unfold supplyPowerSwitch at h
  try dsimp only at h
  subst h; simp

@[simp] theorem openPowerPath_frame (s : State) :
    (openPowerPath s).1.pending = s.pending ∧ (openPowerPath s).1.agenda = s.agenda ∧
    (openPowerPath s).1.now = s.now ∧ (openPowerPath s).1.lines = s.lines ∧ (openPowerPath s).1.uli = s.uli ∧
    (openPowerPath s).1.ports = s.ports ∧ (openPowerPath s).1.polls = s.polls ∧ (openPowerPath s).1.slots = s.slots ∧
    (openPowerPath s).1.classifier = s.classifier ∧ (openPowerPath s).1.bays = s.bays ∧
    (openPowerPath s).1.brc = s.brc ∧ (openPowerPath s).1.mtu = s.mtu ∧ (openPowerPath s).1.sru = s.sru ∧
    (openPowerPath s).1.ntq = s.ntq ∧ (openPowerPath s).1.smi = s.smi := by
  generalize h : openPowerPath s = r
  unfold openPowerPath at h
  try dsimp only at h
  subst h; simp

@[simp] theorem toReleased_frame (bay : Bay) (r : BayRec) (s : State) :
    (toReleased bay r s).1.pending = s.pending ∧ (toReleased bay r s).1.agenda = s.agenda ∧
    (toReleased bay r s).1.now = s.now ∧ (toReleased bay r s).1.lines = s.lines ∧
    (toReleased bay r s).1.uli = s.uli ∧ (toReleased bay r s).1.ports = s.ports ∧
    (toReleased bay r s).1.polls = s.polls ∧ (toReleased bay r s).1.slots = s.slots ∧
    (toReleased bay r s).1.ppc = s.ppc ∧ (toReleased bay r s).1.classifier = s.classifier ∧
    (toReleased bay r s).1.brc = s.brc ∧ (toReleased bay r s).1.mtu = s.mtu ∧ (toReleased bay r s).1.sru = s.sru ∧
    (toReleased bay r s).1.ntq = s.ntq ∧ (toReleased bay r s).1.smi = s.smi := by
  generalize h : toReleased bay r s = r
  unfold toReleased at h
  try dsimp only at h
  subst h; simp

@[simp] theorem toReleasing_frame (bay : Bay) (origin : Origin) (s : State) :
    (toReleasing bay origin s).1.pending = s.pending ∧ (toReleasing bay origin s).1.agenda = s.agenda ∧
    (toReleasing bay origin s).1.now = s.now ∧ (toReleasing bay origin s).1.lines = s.lines ∧
    (toReleasing bay origin s).1.uli = s.uli ∧ (toReleasing bay origin s).1.ports = s.ports ∧
    (toReleasing bay origin s).1.polls = s.polls ∧ (toReleasing bay origin s).1.slots = s.slots ∧
    (toReleasing bay origin s).1.ppc = s.ppc ∧ (toReleasing bay origin s).1.classifier = s.classifier ∧
    (toReleasing bay origin s).1.brc = s.brc ∧ (toReleasing bay origin s).1.mtu = s.mtu ∧
    (toReleasing bay origin s).1.sru = s.sru ∧ (toReleasing bay origin s).1.ntq = s.ntq ∧
    (toReleasing bay origin s).1.smi = s.smi := by
  generalize h : toReleasing bay origin s = r
  unfold toReleasing at h
  try dsimp only at h
  subst h; simp

@[simp] theorem toIdentifying_frame (bay : Bay) (s : State) :
    (toIdentifying bay s).1.pending = s.pending ∧ (toIdentifying bay s).1.agenda = s.agenda ∧
    (toIdentifying bay s).1.now = s.now ∧ (toIdentifying bay s).1.lines = s.lines ∧
    (toIdentifying bay s).1.uli = s.uli ∧ (toIdentifying bay s).1.ports = s.ports ∧
    (toIdentifying bay s).1.polls = s.polls ∧ (toIdentifying bay s).1.slots = s.slots ∧
    (toIdentifying bay s).1.ppc = s.ppc ∧ (toIdentifying bay s).1.classifier = s.classifier ∧
    (toIdentifying bay s).1.brc = s.brc ∧ (toIdentifying bay s).1.mtu = s.mtu ∧ (toIdentifying bay s).1.sru = s.sru ∧
    (toIdentifying bay s).1.ntq = s.ntq ∧ (toIdentifying bay s).1.smi = s.smi := by
  generalize h : toIdentifying bay s = r
  unfold toIdentifying at h
  try dsimp only at h
  subst h; simp

@[simp] theorem failAdmission_frame (bay : Bay) (reason : FaultReason) (arg2 : Int) (s : State) :
    (failAdmission bay reason arg2 s).1.pending = s.pending ∧ (failAdmission bay reason arg2 s).1.agenda = s.agenda ∧
    (failAdmission bay reason arg2 s).1.now = s.now ∧ (failAdmission bay reason arg2 s).1.lines = s.lines ∧
    (failAdmission bay reason arg2 s).1.uli = s.uli ∧ (failAdmission bay reason arg2 s).1.ports = s.ports ∧
    (failAdmission bay reason arg2 s).1.polls = s.polls ∧ (failAdmission bay reason arg2 s).1.slots = s.slots ∧
    (failAdmission bay reason arg2 s).1.ppc = s.ppc ∧ (failAdmission bay reason arg2 s).1.classifier = s.classifier ∧
    (failAdmission bay reason arg2 s).1.brc = s.brc ∧ (failAdmission bay reason arg2 s).1.mtu = s.mtu ∧
    (failAdmission bay reason arg2 s).1.sru = s.sru ∧ (failAdmission bay reason arg2 s).1.ntq = s.ntq ∧
    (failAdmission bay reason arg2 s).1.smi = s.smi := by
  generalize h : failAdmission bay reason arg2 s = r
  unfold failAdmission at h
  try dsimp only at h
  subst h; simp

@[simp] theorem onReport_frame (bay : Bay) (place : Fin 24) (outcome : TxOutcome) (results : List (Fin 32 × DescResult)) (s : State) :
    (onReport bay place outcome results s).1.pending = s.pending ∧
    (onReport bay place outcome results s).1.agenda = s.agenda ∧
    (onReport bay place outcome results s).1.now = s.now ∧ (onReport bay place outcome results s).1.lines = s.lines ∧
    (onReport bay place outcome results s).1.uli = s.uli ∧ (onReport bay place outcome results s).1.ports = s.ports ∧
    (onReport bay place outcome results s).1.polls = s.polls ∧
    (onReport bay place outcome results s).1.slots = s.slots ∧ (onReport bay place outcome results s).1.ppc = s.ppc ∧
    (onReport bay place outcome results s).1.classifier = s.classifier ∧
    (onReport bay place outcome results s).1.brc = s.brc ∧ (onReport bay place outcome results s).1.mtu = s.mtu ∧
    (onReport bay place outcome results s).1.sru = s.sru ∧ (onReport bay place outcome results s).1.ntq = s.ntq ∧
    (onReport bay place outcome results s).1.smi = s.smi := by
  generalize h : onReport bay place outcome results s = r
  unfold onReport at h
  try dsimp only at h
  (repeat' split at h) <;> subst h <;> simp

@[simp] theorem checkAdmission_frame (bay : Bay) (s : State) :
    (checkAdmission bay s).1.pending = s.pending ∧ (checkAdmission bay s).1.agenda = s.agenda ∧
    (checkAdmission bay s).1.now = s.now ∧ (checkAdmission bay s).1.lines = s.lines ∧
    (checkAdmission bay s).1.uli = s.uli ∧ (checkAdmission bay s).1.ports = s.ports ∧
    (checkAdmission bay s).1.polls = s.polls ∧ (checkAdmission bay s).1.slots = s.slots ∧
    (checkAdmission bay s).1.ppc = s.ppc ∧ (checkAdmission bay s).1.classifier = s.classifier ∧
    (checkAdmission bay s).1.brc = s.brc ∧ (checkAdmission bay s).1.mtu = s.mtu ∧
    (checkAdmission bay s).1.sru = s.sru ∧ (checkAdmission bay s).1.ntq = s.ntq ∧
    (checkAdmission bay s).1.smi = s.smi := by
  generalize h : checkAdmission bay s = r
  unfold checkAdmission at h
  try dsimp only at h
  (repeat' split at h) <;> subst h <;> simp

@[simp] theorem onIdentifyExpiry_frame (bay : Bay) (s : State) :
    (onIdentifyExpiry bay s).1.pending = s.pending ∧ (onIdentifyExpiry bay s).1.agenda = s.agenda ∧
    (onIdentifyExpiry bay s).1.now = s.now ∧ (onIdentifyExpiry bay s).1.lines = s.lines ∧
    (onIdentifyExpiry bay s).1.uli = s.uli ∧ (onIdentifyExpiry bay s).1.ports = s.ports ∧
    (onIdentifyExpiry bay s).1.polls = s.polls ∧ (onIdentifyExpiry bay s).1.slots = s.slots ∧
    (onIdentifyExpiry bay s).1.ppc = s.ppc ∧ (onIdentifyExpiry bay s).1.classifier = s.classifier ∧
    (onIdentifyExpiry bay s).1.brc = s.brc ∧ (onIdentifyExpiry bay s).1.mtu = s.mtu ∧
    (onIdentifyExpiry bay s).1.sru = s.sru ∧ (onIdentifyExpiry bay s).1.ntq = s.ntq ∧
    (onIdentifyExpiry bay s).1.smi = s.smi := by
  generalize h : onIdentifyExpiry bay s = r
  unfold onIdentifyExpiry at h
  try dsimp only at h
  (repeat' split at h) <;> subst h <;> simp

@[simp] theorem restartAdmission_frame (bay : Bay) (s : State) :
    (restartAdmission bay s).1.pending = s.pending ∧ (restartAdmission bay s).1.agenda = s.agenda ∧
    (restartAdmission bay s).1.now = s.now ∧ (restartAdmission bay s).1.lines = s.lines ∧
    (restartAdmission bay s).1.uli = s.uli ∧ (restartAdmission bay s).1.ports = s.ports ∧
    (restartAdmission bay s).1.polls = s.polls ∧ (restartAdmission bay s).1.slots = s.slots ∧
    (restartAdmission bay s).1.ppc = s.ppc ∧ (restartAdmission bay s).1.classifier = s.classifier ∧
    (restartAdmission bay s).1.brc = s.brc ∧ (restartAdmission bay s).1.mtu = s.mtu ∧
    (restartAdmission bay s).1.sru = s.sru ∧ (restartAdmission bay s).1.ntq = s.ntq ∧
    (restartAdmission bay s).1.smi = s.smi := by
  generalize h : restartAdmission bay s = r
  unfold restartAdmission at h
  try dsimp only at h
  (repeat' split at h) <;> subst h <;> simp

@[simp] theorem State.readWord_frame (s : State) (bay : Bay) (value : Int) :
    (State.readWord s bay value).pending = s.pending ∧ (State.readWord s bay value).agenda = s.agenda ∧
    (State.readWord s bay value).now = s.now ∧ (State.readWord s bay value).lines = s.lines ∧
    (State.readWord s bay value).uli = s.uli ∧ (State.readWord s bay value).ports = s.ports ∧
    (State.readWord s bay value).polls = s.polls ∧ (State.readWord s bay value).slots = s.slots ∧
    (State.readWord s bay value).ppc = s.ppc ∧ (State.readWord s bay value).classifier = s.classifier ∧
    (State.readWord s bay value).brc = s.brc ∧ (State.readWord s bay value).mtu = s.mtu ∧
    (State.readWord s bay value).sru = s.sru ∧ (State.readWord s bay value).ntq = s.ntq ∧
    (State.readWord s bay value).smi = s.smi := by
  generalize h : State.readWord s bay value = r
  unfold State.readWord at h
  try dsimp only at h
  subst h; simp

@[simp] theorem actOnWord_frame (bay : Bay) (value : Int) (s : State) :
    (actOnWord bay value s).1.pending = s.pending ∧ (actOnWord bay value s).1.agenda = s.agenda ∧
    (actOnWord bay value s).1.now = s.now ∧ (actOnWord bay value s).1.lines = s.lines ∧
    (actOnWord bay value s).1.uli = s.uli ∧ (actOnWord bay value s).1.ports = s.ports ∧
    (actOnWord bay value s).1.polls = s.polls ∧ (actOnWord bay value s).1.slots = s.slots ∧
    (actOnWord bay value s).1.ppc = s.ppc ∧ (actOnWord bay value s).1.classifier = s.classifier ∧
    (actOnWord bay value s).1.brc = s.brc ∧ (actOnWord bay value s).1.mtu = s.mtu ∧
    (actOnWord bay value s).1.sru = s.sru ∧ (actOnWord bay value s).1.ntq = s.ntq ∧
    (actOnWord bay value s).1.smi = s.smi := by
  generalize h : actOnWord bay value s = r
  unfold actOnWord at h
  try dsimp only at h
  (repeat' split at h) <;> subst h <;> simp

@[simp] theorem onStatusWord_frame (bay : Bay) (value : Int) (s : State) :
    (onStatusWord bay value s).1.pending = s.pending ∧ (onStatusWord bay value s).1.agenda = s.agenda ∧
    (onStatusWord bay value s).1.now = s.now ∧ (onStatusWord bay value s).1.lines = s.lines ∧
    (onStatusWord bay value s).1.uli = s.uli ∧ (onStatusWord bay value s).1.ports = s.ports ∧
    (onStatusWord bay value s).1.polls = s.polls ∧ (onStatusWord bay value s).1.slots = s.slots ∧
    (onStatusWord bay value s).1.ppc = s.ppc ∧ (onStatusWord bay value s).1.classifier = s.classifier ∧
    (onStatusWord bay value s).1.brc = s.brc ∧ (onStatusWord bay value s).1.mtu = s.mtu ∧
    (onStatusWord bay value s).1.sru = s.sru ∧ (onStatusWord bay value s).1.ntq = s.ntq ∧
    (onStatusWord bay value s).1.smi = s.smi := by
  generalize h : onStatusWord bay value s = r
  unfold onStatusWord at h
  try dsimp only at h
  subst h; simp

@[simp] theorem onReleaseDone_frame (bay : Bay) (s : State) :
    (onReleaseDone bay s).1.pending = s.pending ∧ (onReleaseDone bay s).1.agenda = s.agenda ∧
    (onReleaseDone bay s).1.now = s.now ∧ (onReleaseDone bay s).1.lines = s.lines ∧
    (onReleaseDone bay s).1.uli = s.uli ∧ (onReleaseDone bay s).1.ports = s.ports ∧
    (onReleaseDone bay s).1.polls = s.polls ∧ (onReleaseDone bay s).1.slots = s.slots ∧
    (onReleaseDone bay s).1.ppc = s.ppc ∧ (onReleaseDone bay s).1.classifier = s.classifier ∧
    (onReleaseDone bay s).1.brc = s.brc ∧ (onReleaseDone bay s).1.mtu = s.mtu ∧ (onReleaseDone bay s).1.sru = s.sru ∧
    (onReleaseDone bay s).1.ntq = s.ntq ∧ (onReleaseDone bay s).1.smi = s.smi := by
  generalize h : onReleaseDone bay s = r
  unfold onReleaseDone at h
  try dsimp only at h
  (repeat' split at h) <;> subst h <;> simp

@[simp] theorem onReleaseBlocked_frame (bay : Bay) (s : State) :
    (onReleaseBlocked bay s).1.pending = s.pending ∧ (onReleaseBlocked bay s).1.agenda = s.agenda ∧
    (onReleaseBlocked bay s).1.now = s.now ∧ (onReleaseBlocked bay s).1.lines = s.lines ∧
    (onReleaseBlocked bay s).1.uli = s.uli ∧ (onReleaseBlocked bay s).1.ports = s.ports ∧
    (onReleaseBlocked bay s).1.polls = s.polls ∧ (onReleaseBlocked bay s).1.slots = s.slots ∧
    (onReleaseBlocked bay s).1.ppc = s.ppc ∧ (onReleaseBlocked bay s).1.classifier = s.classifier ∧
    (onReleaseBlocked bay s).1.brc = s.brc ∧ (onReleaseBlocked bay s).1.mtu = s.mtu ∧
    (onReleaseBlocked bay s).1.sru = s.sru ∧ (onReleaseBlocked bay s).1.ntq = s.ntq ∧
    (onReleaseBlocked bay s).1.smi = s.smi := by
  generalize h : onReleaseBlocked bay s = r
  unfold onReleaseBlocked at h
  try dsimp only at h
  (repeat' split at h) <;> subst h <;> simp

@[simp] theorem onAlternate_frame (bay : Bay) (s : State) :
    (onAlternate bay s).1.pending = s.pending ∧ (onAlternate bay s).1.agenda = s.agenda ∧
    (onAlternate bay s).1.now = s.now ∧ (onAlternate bay s).1.lines = s.lines ∧ (onAlternate bay s).1.uli = s.uli ∧
    (onAlternate bay s).1.ports = s.ports ∧ (onAlternate bay s).1.polls = s.polls ∧
    (onAlternate bay s).1.slots = s.slots ∧ (onAlternate bay s).1.ppc = s.ppc ∧
    (onAlternate bay s).1.classifier = s.classifier ∧ (onAlternate bay s).1.brc = s.brc ∧
    (onAlternate bay s).1.mtu = s.mtu ∧ (onAlternate bay s).1.sru = s.sru ∧ (onAlternate bay s).1.ntq = s.ntq ∧
    (onAlternate bay s).1.smi = s.smi := by
  generalize h : onAlternate bay s = r
  unfold onAlternate at h
  try dsimp only at h
  (repeat' split at h) <;> subst h <;> simp

@[simp] theorem onFlagCleared_frame (bay : Bay) (s : State) :
    (onFlagCleared bay s).1.pending = s.pending ∧ (onFlagCleared bay s).1.agenda = s.agenda ∧
    (onFlagCleared bay s).1.now = s.now ∧ (onFlagCleared bay s).1.lines = s.lines ∧
    (onFlagCleared bay s).1.uli = s.uli ∧ (onFlagCleared bay s).1.ports = s.ports ∧
    (onFlagCleared bay s).1.polls = s.polls ∧ (onFlagCleared bay s).1.slots = s.slots ∧
    (onFlagCleared bay s).1.ppc = s.ppc ∧ (onFlagCleared bay s).1.classifier = s.classifier ∧
    (onFlagCleared bay s).1.brc = s.brc ∧ (onFlagCleared bay s).1.mtu = s.mtu ∧ (onFlagCleared bay s).1.sru = s.sru ∧
    (onFlagCleared bay s).1.ntq = s.ntq ∧ (onFlagCleared bay s).1.smi = s.smi := by
  generalize h : onFlagCleared bay s = r
  unfold onFlagCleared at h
  try dsimp only at h
  (repeat' split at h) <;> subst h <;> simp

@[simp] theorem onLine_frame (bay : Bay) (line : BayLine) (active : Bool) (s : State) :
    (onLine bay line active s).pending = s.pending ∧ (onLine bay line active s).agenda = s.agenda ∧
    (onLine bay line active s).now = s.now ∧ (onLine bay line active s).lines = s.lines ∧
    (onLine bay line active s).uli = s.uli ∧ (onLine bay line active s).ports = s.ports ∧
    (onLine bay line active s).polls = s.polls ∧ (onLine bay line active s).slots = s.slots ∧
    (onLine bay line active s).ppc = s.ppc ∧ (onLine bay line active s).classifier = s.classifier ∧
    (onLine bay line active s).brc = s.brc ∧ (onLine bay line active s).mtu = s.mtu ∧
    (onLine bay line active s).sru = s.sru ∧ (onLine bay line active s).ntq = s.ntq ∧
    (onLine bay line active s).smi = s.smi := by
  generalize h : onLine bay line active s = r
  unfold onLine at h
  try dsimp only at h
  (repeat' split at h) <;> subst h <;> simp

@[simp] theorem latchCloses_frame (bay : Bay) (s : State) :
    (latchCloses bay s).1.pending = s.pending ∧ (latchCloses bay s).1.agenda = s.agenda ∧
    (latchCloses bay s).1.now = s.now ∧ (latchCloses bay s).1.lines = s.lines ∧ (latchCloses bay s).1.uli = s.uli ∧
    (latchCloses bay s).1.ports = s.ports ∧ (latchCloses bay s).1.polls = s.polls ∧
    (latchCloses bay s).1.slots = s.slots ∧ (latchCloses bay s).1.ppc = s.ppc ∧
    (latchCloses bay s).1.classifier = s.classifier ∧ (latchCloses bay s).1.brc = s.brc ∧
    (latchCloses bay s).1.mtu = s.mtu ∧ (latchCloses bay s).1.sru = s.sru ∧ (latchCloses bay s).1.ntq = s.ntq ∧
    (latchCloses bay s).1.smi = s.smi := by
  generalize h : latchCloses bay s = r
  unfold latchCloses at h
  try dsimp only at h
  (repeat' split at h) <;> subst h <;> simp

@[simp] theorem latchOpensAdmitted_frame (bay : Bay) (s : State) :
    (latchOpensAdmitted bay s).1.pending = s.pending ∧ (latchOpensAdmitted bay s).1.agenda = s.agenda ∧
    (latchOpensAdmitted bay s).1.now = s.now ∧ (latchOpensAdmitted bay s).1.lines = s.lines ∧
    (latchOpensAdmitted bay s).1.uli = s.uli ∧ (latchOpensAdmitted bay s).1.ports = s.ports ∧
    (latchOpensAdmitted bay s).1.polls = s.polls ∧ (latchOpensAdmitted bay s).1.slots = s.slots ∧
    (latchOpensAdmitted bay s).1.ppc = s.ppc ∧ (latchOpensAdmitted bay s).1.classifier = s.classifier ∧
    (latchOpensAdmitted bay s).1.brc = s.brc ∧ (latchOpensAdmitted bay s).1.mtu = s.mtu ∧
    (latchOpensAdmitted bay s).1.sru = s.sru ∧ (latchOpensAdmitted bay s).1.ntq = s.ntq ∧
    (latchOpensAdmitted bay s).1.smi = s.smi := by
  generalize h : latchOpensAdmitted bay s = r
  unfold latchOpensAdmitted at h
  try dsimp only at h
  (repeat' split at h) <;> subst h <;> simp

@[simp] theorem latchOpens_frame (bay : Bay) (s : State) :
    (latchOpens bay s).1.pending = s.pending ∧ (latchOpens bay s).1.agenda = s.agenda ∧
    (latchOpens bay s).1.now = s.now ∧ (latchOpens bay s).1.lines = s.lines ∧ (latchOpens bay s).1.uli = s.uli ∧
    (latchOpens bay s).1.ports = s.ports ∧ (latchOpens bay s).1.polls = s.polls ∧
    (latchOpens bay s).1.slots = s.slots ∧ (latchOpens bay s).1.ppc = s.ppc ∧
    (latchOpens bay s).1.classifier = s.classifier ∧ (latchOpens bay s).1.brc = s.brc ∧
    (latchOpens bay s).1.mtu = s.mtu ∧ (latchOpens bay s).1.sru = s.sru ∧ (latchOpens bay s).1.ntq = s.ntq ∧
    (latchOpens bay s).1.smi = s.smi := by
  generalize h : latchOpens bay s = r
  unfold latchOpens at h
  try dsimp only at h
  (repeat' split at h) <;> subst h <;> simp

@[simp] theorem onLatch_frame (bay : Bay) (s : State) :
    (onLatch bay s).1.pending = s.pending ∧ (onLatch bay s).1.agenda = s.agenda ∧ (onLatch bay s).1.now = s.now ∧
    (onLatch bay s).1.lines = s.lines ∧ (onLatch bay s).1.uli = s.uli ∧ (onLatch bay s).1.ports = s.ports ∧
    (onLatch bay s).1.polls = s.polls ∧ (onLatch bay s).1.slots = s.slots ∧ (onLatch bay s).1.ppc = s.ppc ∧
    (onLatch bay s).1.classifier = s.classifier ∧ (onLatch bay s).1.brc = s.brc ∧ (onLatch bay s).1.mtu = s.mtu ∧
    (onLatch bay s).1.sru = s.sru ∧ (onLatch bay s).1.ntq = s.ntq ∧ (onLatch bay s).1.smi = s.smi := by
  generalize h : onLatch bay s = r
  unfold onLatch at h
  try dsimp only at h
  (repeat' split at h) <;> subst h <;> simp

@[simp] theorem toSeated_frame (bay : Bay) (s : State) :
    (toSeated bay s).1.pending = s.pending ∧ (toSeated bay s).1.agenda = s.agenda ∧ (toSeated bay s).1.now = s.now ∧
    (toSeated bay s).1.lines = s.lines ∧ (toSeated bay s).1.uli = s.uli ∧ (toSeated bay s).1.ports = s.ports ∧
    (toSeated bay s).1.polls = s.polls ∧ (toSeated bay s).1.slots = s.slots ∧ (toSeated bay s).1.ppc = s.ppc ∧
    (toSeated bay s).1.classifier = s.classifier ∧ (toSeated bay s).1.brc = s.brc ∧ (toSeated bay s).1.mtu = s.mtu ∧
    (toSeated bay s).1.sru = s.sru ∧ (toSeated bay s).1.ntq = s.ntq ∧ (toSeated bay s).1.smi = s.smi := by
  generalize h : toSeated bay s = r
  unfold toSeated at h
  try dsimp only at h
  (repeat' split at h) <;> subst h <;> simp

@[simp] theorem toEmpty_frame (bay : Bay) (s : State) :
    (toEmpty bay s).1.pending = s.pending ∧ (toEmpty bay s).1.agenda = s.agenda ∧ (toEmpty bay s).1.now = s.now ∧
    (toEmpty bay s).1.lines = s.lines ∧ (toEmpty bay s).1.uli = s.uli ∧ (toEmpty bay s).1.ports = s.ports ∧
    (toEmpty bay s).1.polls = s.polls ∧ (toEmpty bay s).1.slots = s.slots ∧ (toEmpty bay s).1.ppc = s.ppc ∧
    (toEmpty bay s).1.classifier = s.classifier ∧ (toEmpty bay s).1.brc = s.brc ∧ (toEmpty bay s).1.mtu = s.mtu ∧
    (toEmpty bay s).1.sru = s.sru ∧ (toEmpty bay s).1.ntq = s.ntq ∧ (toEmpty bay s).1.smi = s.smi := by
  generalize h : toEmpty bay s = r
  unfold toEmpty at h
  try dsimp only at h
  (repeat' split at h) <;> subst h <;> simp

@[simp] theorem onPresence_frame (bay : Bay) (s : State) :
    (onPresence bay s).1.pending = s.pending ∧ (onPresence bay s).1.agenda = s.agenda ∧
    (onPresence bay s).1.now = s.now ∧ (onPresence bay s).1.lines = s.lines ∧ (onPresence bay s).1.uli = s.uli ∧
    (onPresence bay s).1.ports = s.ports ∧ (onPresence bay s).1.polls = s.polls ∧
    (onPresence bay s).1.slots = s.slots ∧ (onPresence bay s).1.ppc = s.ppc ∧
    (onPresence bay s).1.classifier = s.classifier ∧ (onPresence bay s).1.brc = s.brc ∧
    (onPresence bay s).1.mtu = s.mtu ∧ (onPresence bay s).1.sru = s.sru ∧ (onPresence bay s).1.ntq = s.ntq ∧
    (onPresence bay s).1.smi = s.smi := by
  generalize h : onPresence bay s = r
  unfold onPresence at h
  try dsimp only at h
  (repeat' split at h) <;> subst h <;> simp

@[simp] theorem onSeatExpiry_frame (bay : Bay) (s : State) :
    (onSeatExpiry bay s).1.pending = s.pending ∧ (onSeatExpiry bay s).1.agenda = s.agenda ∧
    (onSeatExpiry bay s).1.now = s.now ∧ (onSeatExpiry bay s).1.lines = s.lines ∧
    (onSeatExpiry bay s).1.uli = s.uli ∧ (onSeatExpiry bay s).1.ports = s.ports ∧
    (onSeatExpiry bay s).1.polls = s.polls ∧ (onSeatExpiry bay s).1.slots = s.slots ∧
    (onSeatExpiry bay s).1.ppc = s.ppc ∧ (onSeatExpiry bay s).1.classifier = s.classifier ∧
    (onSeatExpiry bay s).1.brc = s.brc ∧ (onSeatExpiry bay s).1.mtu = s.mtu ∧ (onSeatExpiry bay s).1.sru = s.sru ∧
    (onSeatExpiry bay s).1.ntq = s.ntq ∧ (onSeatExpiry bay s).1.smi = s.smi := by
  generalize h : onSeatExpiry bay s = r
  unfold onSeatExpiry at h
  try dsimp only at h
  (repeat' split at h) <;> subst h <;> simp

@[simp] theorem openBayLines_frame (bay : Bay) (s : State) :
    (openBayLines bay s).1.pending = s.pending ∧ (openBayLines bay s).1.agenda = s.agenda ∧
    (openBayLines bay s).1.now = s.now ∧ (openBayLines bay s).1.lines = s.lines ∧
    (openBayLines bay s).1.uli = s.uli ∧ (openBayLines bay s).1.ports = s.ports ∧
    (openBayLines bay s).1.polls = s.polls ∧ (openBayLines bay s).1.slots = s.slots ∧
    (openBayLines bay s).1.ppc = s.ppc ∧ (openBayLines bay s).1.classifier = s.classifier ∧
    (openBayLines bay s).1.brc = s.brc ∧ (openBayLines bay s).1.mtu = s.mtu ∧ (openBayLines bay s).1.sru = s.sru ∧
    (openBayLines bay s).1.ntq = s.ntq ∧ (openBayLines bay s).1.smi = s.smi := by
  generalize h : openBayLines bay s = r
  unfold openBayLines at h
  try dsimp only at h
  (repeat' split at h) <;> subst h <;> simp

@[simp] theorem supplyBaySwitch_frame (bay : Bay) (s : State) :
    (supplyBaySwitch bay s).1.pending = s.pending ∧ (supplyBaySwitch bay s).1.agenda = s.agenda ∧
    (supplyBaySwitch bay s).1.now = s.now ∧ (supplyBaySwitch bay s).1.lines = s.lines ∧
    (supplyBaySwitch bay s).1.uli = s.uli ∧ (supplyBaySwitch bay s).1.ports = s.ports ∧
    (supplyBaySwitch bay s).1.polls = s.polls ∧ (supplyBaySwitch bay s).1.slots = s.slots ∧
    (supplyBaySwitch bay s).1.ppc = s.ppc ∧ (supplyBaySwitch bay s).1.classifier = s.classifier ∧
    (supplyBaySwitch bay s).1.brc = s.brc ∧ (supplyBaySwitch bay s).1.mtu = s.mtu ∧
    (supplyBaySwitch bay s).1.sru = s.sru ∧ (supplyBaySwitch bay s).1.ntq = s.ntq ∧
    (supplyBaySwitch bay s).1.smi = s.smi := by
  generalize h : supplyBaySwitch bay s = r
  unfold supplyBaySwitch at h
  try dsimp only at h
  subst h; simp

end Sys2Proof.Machine
end

