-- ==== Sys2Proof/Laws/UnitFrames.lean ====
section
/-!
SUPPORT. What the classifier, the Brightness Controller and the Motion Unit leave unchanged: for each operation one lemma that
names every part of the state it does not touch.
-/

namespace Sys2Proof.Machine

@[simp] theorem evaluateClass_frame (s : State) :
    (evaluateClass s).1.pending = s.pending ∧ (evaluateClass s).1.agenda = s.agenda ∧
    (evaluateClass s).1.now = s.now ∧ (evaluateClass s).1.lines = s.lines ∧ (evaluateClass s).1.uli = s.uli ∧
    (evaluateClass s).1.ports = s.ports ∧ (evaluateClass s).1.polls = s.polls ∧ (evaluateClass s).1.slots = s.slots ∧
    (evaluateClass s).1.ppc = s.ppc ∧ (evaluateClass s).1.bays = s.bays ∧ (evaluateClass s).1.brc = s.brc ∧
    (evaluateClass s).1.mtu = s.mtu ∧ (evaluateClass s).1.sru = s.sru ∧ (evaluateClass s).1.smi = s.smi := by
  generalize h : evaluateClass s = r
  unfold evaluateClass at h
  try dsimp only at h
  (repeat' split at h) <;> subst h <;> simp

@[simp] theorem recomputeEnergy_frame (s : State) :
    (recomputeEnergy s).1.pending = s.pending ∧ (recomputeEnergy s).1.agenda = s.agenda ∧
    (recomputeEnergy s).1.now = s.now ∧ (recomputeEnergy s).1.lines = s.lines ∧ (recomputeEnergy s).1.uli = s.uli ∧
    (recomputeEnergy s).1.ports = s.ports ∧ (recomputeEnergy s).1.polls = s.polls ∧
    (recomputeEnergy s).1.slots = s.slots ∧ (recomputeEnergy s).1.ppc = s.ppc ∧ (recomputeEnergy s).1.bays = s.bays ∧
    (recomputeEnergy s).1.brc = s.brc ∧ (recomputeEnergy s).1.mtu = s.mtu ∧ (recomputeEnergy s).1.sru = s.sru ∧
    (recomputeEnergy s).1.smi = s.smi := by
  generalize h : recomputeEnergy s = r
  unfold recomputeEnergy at h
  try dsimp only at h
  subst h; simp

@[simp] theorem supplyClassSwitch_frame (s : State) :
    (supplyClassSwitch s).1.pending = s.pending ∧ (supplyClassSwitch s).1.agenda = s.agenda ∧
    (supplyClassSwitch s).1.now = s.now ∧ (supplyClassSwitch s).1.lines = s.lines ∧
    (supplyClassSwitch s).1.uli = s.uli ∧ (supplyClassSwitch s).1.ports = s.ports ∧
    (supplyClassSwitch s).1.polls = s.polls ∧ (supplyClassSwitch s).1.slots = s.slots ∧
    (supplyClassSwitch s).1.ppc = s.ppc ∧ (supplyClassSwitch s).1.bays = s.bays ∧
    (supplyClassSwitch s).1.brc = s.brc ∧ (supplyClassSwitch s).1.mtu = s.mtu ∧ (supplyClassSwitch s).1.sru = s.sru ∧
    (supplyClassSwitch s).1.smi = s.smi := by
  generalize h : supplyClassSwitch s = r
  unfold supplyClassSwitch at h
  try dsimp only at h
  subst h; simp

@[simp] theorem recomputeCeiling_frame (s : State) :
    (recomputeCeiling s).1.pending = s.pending ∧ (recomputeCeiling s).1.agenda = s.agenda ∧
    (recomputeCeiling s).1.now = s.now ∧ (recomputeCeiling s).1.lines = s.lines ∧
    (recomputeCeiling s).1.uli = s.uli ∧ (recomputeCeiling s).1.ports = s.ports ∧
    (recomputeCeiling s).1.polls = s.polls ∧ (recomputeCeiling s).1.slots = s.slots ∧
    (recomputeCeiling s).1.ppc = s.ppc ∧ (recomputeCeiling s).1.classifier = s.classifier ∧
    (recomputeCeiling s).1.bays = s.bays ∧ (recomputeCeiling s).1.mtu = s.mtu ∧ (recomputeCeiling s).1.sru = s.sru ∧
    (recomputeCeiling s).1.ntq = s.ntq ∧ (recomputeCeiling s).1.smi = s.smi := by
  generalize h : recomputeCeiling s = r
  unfold recomputeCeiling at h
  try dsimp only at h
  (repeat' split at h) <;> subst h <;> simp

@[simp] theorem openBrightness_frame (s : State) :
    (openBrightness s).1.pending = s.pending ∧ (openBrightness s).1.agenda = s.agenda ∧
    (openBrightness s).1.now = s.now ∧ (openBrightness s).1.lines = s.lines ∧ (openBrightness s).1.uli = s.uli ∧
    (openBrightness s).1.ports = s.ports ∧ (openBrightness s).1.polls = s.polls ∧
    (openBrightness s).1.slots = s.slots ∧ (openBrightness s).1.ppc = s.ppc ∧
    (openBrightness s).1.classifier = s.classifier ∧ (openBrightness s).1.bays = s.bays ∧
    (openBrightness s).1.mtu = s.mtu ∧ (openBrightness s).1.sru = s.sru ∧ (openBrightness s).1.ntq = s.ntq ∧
    (openBrightness s).1.smi = s.smi := by
  generalize h : openBrightness s = r
  unfold openBrightness at h
  try dsimp only at h
  subst h; simp

@[simp] theorem acceptBrightness_frame (mode : BrightMode) (level : Nat) (bias : Int) (s : State) :
    (acceptBrightness mode level bias s).1.pending = s.pending ∧
    (acceptBrightness mode level bias s).1.agenda = s.agenda ∧ (acceptBrightness mode level bias s).1.now = s.now ∧
    (acceptBrightness mode level bias s).1.lines = s.lines ∧ (acceptBrightness mode level bias s).1.uli = s.uli ∧
    (acceptBrightness mode level bias s).1.ports = s.ports ∧ (acceptBrightness mode level bias s).1.polls = s.polls ∧
    (acceptBrightness mode level bias s).1.slots = s.slots ∧ (acceptBrightness mode level bias s).1.ppc = s.ppc ∧
    (acceptBrightness mode level bias s).1.classifier = s.classifier ∧
    (acceptBrightness mode level bias s).1.bays = s.bays ∧ (acceptBrightness mode level bias s).1.mtu = s.mtu ∧
    (acceptBrightness mode level bias s).1.sru = s.sru ∧ (acceptBrightness mode level bias s).1.ntq = s.ntq ∧
    (acceptBrightness mode level bias s).1.smi = s.smi := by
  generalize h : acceptBrightness mode level bias s = r
  unfold acceptBrightness at h
  try dsimp only at h
  subst h; simp

@[simp] theorem captureLevel_frame (code : Nat) (s : State) :
    (captureLevel code s).1.pending = s.pending ∧ (captureLevel code s).1.agenda = s.agenda ∧
    (captureLevel code s).1.now = s.now ∧ (captureLevel code s).1.lines = s.lines ∧
    (captureLevel code s).1.uli = s.uli ∧ (captureLevel code s).1.ports = s.ports ∧
    (captureLevel code s).1.polls = s.polls ∧ (captureLevel code s).1.slots = s.slots ∧
    (captureLevel code s).1.ppc = s.ppc ∧ (captureLevel code s).1.classifier = s.classifier ∧
    (captureLevel code s).1.bays = s.bays ∧ (captureLevel code s).1.mtu = s.mtu ∧
    (captureLevel code s).1.sru = s.sru ∧ (captureLevel code s).1.smi = s.smi := by
  generalize h : captureLevel code s = r
  unfold captureLevel at h
  try dsimp only at h
  (repeat' split at h) <;> subst h <;> simp

@[simp] theorem driverDone_frame (segment : Nat) (code : Nat) (outcome : TxOutcome) (s : State) :
    (driverDone segment code outcome s).pending = s.pending ∧ (driverDone segment code outcome s).agenda = s.agenda ∧
    (driverDone segment code outcome s).now = s.now ∧ (driverDone segment code outcome s).lines = s.lines ∧
    (driverDone segment code outcome s).uli = s.uli ∧ (driverDone segment code outcome s).ports = s.ports ∧
    (driverDone segment code outcome s).polls = s.polls ∧ (driverDone segment code outcome s).slots = s.slots ∧
    (driverDone segment code outcome s).ppc = s.ppc ∧ (driverDone segment code outcome s).classifier = s.classifier ∧
    (driverDone segment code outcome s).bays = s.bays ∧ (driverDone segment code outcome s).mtu = s.mtu ∧
    (driverDone segment code outcome s).sru = s.sru ∧ (driverDone segment code outcome s).smi = s.smi := by
  generalize h : driverDone segment code outcome s = r
  unfold driverDone at h
  try dsimp only at h
  (repeat' split at h) <;> subst h <;> simp

@[simp] theorem State.recode_frame (s : State) (code : Nat) :
    (State.recode s code).pending = s.pending ∧ (State.recode s code).agenda = s.agenda ∧
    (State.recode s code).now = s.now ∧ (State.recode s code).lines = s.lines ∧ (State.recode s code).uli = s.uli ∧
    (State.recode s code).polls = s.polls ∧ (State.recode s code).slots = s.slots ∧
    (State.recode s code).ppc = s.ppc ∧ (State.recode s code).classifier = s.classifier ∧
    (State.recode s code).bays = s.bays ∧ (State.recode s code).mtu = s.mtu ∧ (State.recode s code).sru = s.sru ∧
    (State.recode s code).ntq = s.ntq ∧ (State.recode s code).smi = s.smi := by
  generalize h : State.recode s code = r
  unfold State.recode at h
  try dsimp only at h
  subst h; simp

@[simp] theorem placeDriver_frame (s : State) :
    (placeDriver s).1.pending = s.pending ∧ (placeDriver s).1.agenda = s.agenda ∧ (placeDriver s).1.now = s.now ∧
    (placeDriver s).1.lines = s.lines ∧ (placeDriver s).1.uli = s.uli ∧ (placeDriver s).1.ports = s.ports ∧
    (placeDriver s).1.polls = s.polls ∧ (placeDriver s).1.slots = s.slots ∧ (placeDriver s).1.ppc = s.ppc ∧
    (placeDriver s).1.classifier = s.classifier ∧ (placeDriver s).1.bays = s.bays ∧ (placeDriver s).1.mtu = s.mtu ∧
    (placeDriver s).1.sru = s.sru ∧ (placeDriver s).1.smi = s.smi := by
  generalize h : placeDriver s = r
  unfold placeDriver at h
  try dsimp only at h
  (repeat' split at h) <;> subst h <;> simp

@[simp] theorem writeOut_frame (s : State) :
    (writeOut s).1.pending = s.pending ∧ (writeOut s).1.agenda = s.agenda ∧ (writeOut s).1.now = s.now ∧
    (writeOut s).1.lines = s.lines ∧ (writeOut s).1.uli = s.uli ∧ (writeOut s).1.polls = s.polls ∧
    (writeOut s).1.slots = s.slots ∧ (writeOut s).1.ppc = s.ppc ∧ (writeOut s).1.classifier = s.classifier ∧
    (writeOut s).1.bays = s.bays ∧ (writeOut s).1.mtu = s.mtu ∧ (writeOut s).1.sru = s.sru ∧
    (writeOut s).1.smi = s.smi := by
  generalize h : writeOut s = r
  unfold writeOut at h
  try dsimp only at h
  (repeat' split at h) <;> subst h <;> simp

@[simp] theorem alsNotice_frame (was : Brc) (a : Option Nat) (s : State) :
    (alsNotice was a s).pending = s.pending ∧ (alsNotice was a s).agenda = s.agenda ∧
    (alsNotice was a s).now = s.now ∧ (alsNotice was a s).lines = s.lines ∧ (alsNotice was a s).uli = s.uli ∧
    (alsNotice was a s).ports = s.ports ∧ (alsNotice was a s).polls = s.polls ∧ (alsNotice was a s).slots = s.slots ∧
    (alsNotice was a s).ppc = s.ppc ∧ (alsNotice was a s).classifier = s.classifier ∧
    (alsNotice was a s).bays = s.bays ∧ (alsNotice was a s).brc = s.brc ∧ (alsNotice was a s).mtu = s.mtu ∧
    (alsNotice was a s).sru = s.sru ∧ (alsNotice was a s).smi = s.smi := by
  generalize h : alsNotice was a s = r
  unfold alsNotice at h
  try dsimp only at h
  (repeat' split at h) <;> subst h <;> simp

@[simp] theorem limitNotice_frame (was : Brc) (p : Light) (s : State) :
    (limitNotice was p s).pending = s.pending ∧ (limitNotice was p s).agenda = s.agenda ∧
    (limitNotice was p s).now = s.now ∧ (limitNotice was p s).lines = s.lines ∧ (limitNotice was p s).uli = s.uli ∧
    (limitNotice was p s).ports = s.ports ∧ (limitNotice was p s).polls = s.polls ∧
    (limitNotice was p s).slots = s.slots ∧ (limitNotice was p s).ppc = s.ppc ∧
    (limitNotice was p s).classifier = s.classifier ∧ (limitNotice was p s).bays = s.bays ∧
    (limitNotice was p s).brc = s.brc ∧ (limitNotice was p s).mtu = s.mtu ∧ (limitNotice was p s).sru = s.sru ∧
    (limitNotice was p s).smi = s.smi := by
  generalize h : limitNotice was p s = r
  unfold limitNotice at h
  try dsimp only at h
  (repeat' split at h) <;> subst h <;> simp

@[simp] theorem fullStep_frame (s : State) :
    (fullStep s).1.pending = s.pending ∧ (fullStep s).1.agenda = s.agenda ∧ (fullStep s).1.now = s.now ∧
    (fullStep s).1.lines = s.lines ∧ (fullStep s).1.uli = s.uli ∧ (fullStep s).1.polls = s.polls ∧
    (fullStep s).1.slots = s.slots ∧ (fullStep s).1.ppc = s.ppc ∧ (fullStep s).1.classifier = s.classifier ∧
    (fullStep s).1.bays = s.bays ∧ (fullStep s).1.mtu = s.mtu ∧ (fullStep s).1.sru = s.sru ∧
    (fullStep s).1.smi = s.smi := by
  generalize h : fullStep s = r
  unfold fullStep at h
  try dsimp only at h
  subst h; simp

@[simp] theorem brightnessStep_frame (s : State) :
    (brightnessStep s).1.pending = s.pending ∧ (brightnessStep s).1.agenda = s.agenda ∧
    (brightnessStep s).1.now = s.now ∧ (brightnessStep s).1.lines = s.lines ∧ (brightnessStep s).1.uli = s.uli ∧
    (brightnessStep s).1.polls = s.polls ∧ (brightnessStep s).1.slots = s.slots ∧ (brightnessStep s).1.ppc = s.ppc ∧
    (brightnessStep s).1.classifier = s.classifier ∧ (brightnessStep s).1.bays = s.bays ∧
    (brightnessStep s).1.mtu = s.mtu ∧ (brightnessStep s).1.sru = s.sru ∧ (brightnessStep s).1.smi = s.smi := by
  generalize h : brightnessStep s = r
  unfold brightnessStep at h
  try dsimp only at h
  (repeat' split at h) <;> subst h <;> simp

@[simp] theorem onStepTimer_frame (s : State) :
    (onStepTimer s).1.pending = s.pending ∧ (onStepTimer s).1.agenda = s.agenda ∧ (onStepTimer s).1.now = s.now ∧
    (onStepTimer s).1.lines = s.lines ∧ (onStepTimer s).1.uli = s.uli ∧ (onStepTimer s).1.polls = s.polls ∧
    (onStepTimer s).1.slots = s.slots ∧ (onStepTimer s).1.ppc = s.ppc ∧ (onStepTimer s).1.classifier = s.classifier ∧
    (onStepTimer s).1.bays = s.bays ∧ (onStepTimer s).1.mtu = s.mtu ∧ (onStepTimer s).1.sru = s.sru ∧
    (onStepTimer s).1.smi = s.smi := by
  generalize h : onStepTimer s = r
  unfold onStepTimer at h
  try dsimp only at h
  (repeat' split at h) <;> subst h <;> simp

@[simp] theorem resetBrightness_frame (s : State) :
    (resetBrightness s).1.pending = s.pending ∧ (resetBrightness s).1.agenda = s.agenda ∧
    (resetBrightness s).1.now = s.now ∧ (resetBrightness s).1.lines = s.lines ∧ (resetBrightness s).1.uli = s.uli ∧
    (resetBrightness s).1.ports = s.ports ∧ (resetBrightness s).1.polls = s.polls ∧
    (resetBrightness s).1.slots = s.slots ∧ (resetBrightness s).1.ppc = s.ppc ∧
    (resetBrightness s).1.classifier = s.classifier ∧ (resetBrightness s).1.bays = s.bays ∧
    (resetBrightness s).1.mtu = s.mtu ∧ (resetBrightness s).1.sru = s.sru ∧ (resetBrightness s).1.ntq = s.ntq ∧
    (resetBrightness s).1.smi = s.smi := by
  generalize h : resetBrightness s = r
  unfold resetBrightness at h
  try dsimp only at h
  subst h; simp

@[simp] theorem placeMotionRead_frame (s : State) :
    (placeMotionRead s).1.pending = s.pending ∧ (placeMotionRead s).1.agenda = s.agenda ∧
    (placeMotionRead s).1.now = s.now ∧ (placeMotionRead s).1.lines = s.lines ∧ (placeMotionRead s).1.uli = s.uli ∧
    (placeMotionRead s).1.ports = s.ports ∧ (placeMotionRead s).1.polls = s.polls ∧
    (placeMotionRead s).1.slots = s.slots ∧ (placeMotionRead s).1.ppc = s.ppc ∧
    (placeMotionRead s).1.classifier = s.classifier ∧ (placeMotionRead s).1.bays = s.bays ∧
    (placeMotionRead s).1.brc = s.brc ∧ (placeMotionRead s).1.sru = s.sru ∧ (placeMotionRead s).1.ntq = s.ntq ∧
    (placeMotionRead s).1.smi = s.smi := by
  generalize h : placeMotionRead s = r
  unfold placeMotionRead at h
  try dsimp only at h
  (repeat' split at h) <;> subst h <;> simp

@[simp] theorem onAccWm_frame (asserted : Bool) (s : State) :
    (onAccWm asserted s).1.pending = s.pending ∧ (onAccWm asserted s).1.agenda = s.agenda ∧
    (onAccWm asserted s).1.now = s.now ∧ (onAccWm asserted s).1.uli = s.uli ∧
    (onAccWm asserted s).1.ports = s.ports ∧ (onAccWm asserted s).1.polls = s.polls ∧
    (onAccWm asserted s).1.slots = s.slots ∧ (onAccWm asserted s).1.ppc = s.ppc ∧
    (onAccWm asserted s).1.classifier = s.classifier ∧ (onAccWm asserted s).1.bays = s.bays ∧
    (onAccWm asserted s).1.brc = s.brc ∧ (onAccWm asserted s).1.mtu = s.mtu ∧ (onAccWm asserted s).1.sru = s.sru ∧
    (onAccWm asserted s).1.ntq = s.ntq ∧ (onAccWm asserted s).1.smi = s.smi := by
  generalize h : onAccWm asserted s = r
  unfold onAccWm at h
  try dsimp only at h
  subst h; simp

@[simp] theorem onRetryTimer_frame (s : State) :
    (onRetryTimer s).1.pending = s.pending ∧ (onRetryTimer s).1.agenda = s.agenda ∧ (onRetryTimer s).1.now = s.now ∧
    (onRetryTimer s).1.lines = s.lines ∧ (onRetryTimer s).1.uli = s.uli ∧ (onRetryTimer s).1.ports = s.ports ∧
    (onRetryTimer s).1.polls = s.polls ∧ (onRetryTimer s).1.slots = s.slots ∧ (onRetryTimer s).1.ppc = s.ppc ∧
    (onRetryTimer s).1.classifier = s.classifier ∧ (onRetryTimer s).1.bays = s.bays ∧
    (onRetryTimer s).1.brc = s.brc ∧ (onRetryTimer s).1.sru = s.sru ∧ (onRetryTimer s).1.ntq = s.ntq ∧
    (onRetryTimer s).1.smi = s.smi := by
  generalize h : onRetryTimer s = r
  unfold onRetryTimer at h
  try dsimp only at h
  (repeat' split at h) <;> subst h <;> simp

@[simp] theorem motionDone_frame (outcome : TxOutcome) (data : List Byte) (s : State) :
    (motionDone outcome data s).1.pending = s.pending ∧ (motionDone outcome data s).1.agenda = s.agenda ∧
    (motionDone outcome data s).1.now = s.now ∧ (motionDone outcome data s).1.lines = s.lines ∧
    (motionDone outcome data s).1.uli = s.uli ∧ (motionDone outcome data s).1.ports = s.ports ∧
    (motionDone outcome data s).1.polls = s.polls ∧ (motionDone outcome data s).1.slots = s.slots ∧
    (motionDone outcome data s).1.ppc = s.ppc ∧ (motionDone outcome data s).1.classifier = s.classifier ∧
    (motionDone outcome data s).1.bays = s.bays ∧ (motionDone outcome data s).1.brc = s.brc ∧
    (motionDone outcome data s).1.sru = s.sru ∧ (motionDone outcome data s).1.ntq = s.ntq ∧
    (motionDone outcome data s).1.smi = s.smi := by
  generalize h : motionDone outcome data s = r
  unfold motionDone at h
  try dsimp only at h
  (repeat' split at h) <;> subst h <;> simp

@[simp] theorem parkExpires_frame (s : State) :
    (parkExpires s).pending = s.pending ∧ (parkExpires s).agenda = s.agenda ∧ (parkExpires s).now = s.now ∧
    (parkExpires s).lines = s.lines ∧ (parkExpires s).uli = s.uli ∧ (parkExpires s).ports = s.ports ∧
    (parkExpires s).polls = s.polls ∧ (parkExpires s).slots = s.slots ∧ (parkExpires s).ppc = s.ppc ∧
    (parkExpires s).classifier = s.classifier ∧ (parkExpires s).bays = s.bays ∧ (parkExpires s).brc = s.brc ∧
    (parkExpires s).sru = s.sru ∧ (parkExpires s).ntq = s.ntq ∧ (parkExpires s).smi = s.smi := by
  generalize h : parkExpires s = r
  unfold parkExpires at h
  try dsimp only at h
  (repeat' split at h) <;> subst h <;> simp

@[simp] theorem shockExpires_frame (s : State) :
    (shockExpires s).1.pending = s.pending ∧ (shockExpires s).1.agenda = s.agenda ∧ (shockExpires s).1.now = s.now ∧
    (shockExpires s).1.lines = s.lines ∧ (shockExpires s).1.uli = s.uli ∧ (shockExpires s).1.ports = s.ports ∧
    (shockExpires s).1.polls = s.polls ∧ (shockExpires s).1.slots = s.slots ∧ (shockExpires s).1.ppc = s.ppc ∧
    (shockExpires s).1.classifier = s.classifier ∧ (shockExpires s).1.bays = s.bays ∧
    (shockExpires s).1.brc = s.brc ∧ (shockExpires s).1.sru = s.sru ∧ (shockExpires s).1.ntq = s.ntq ∧
    (shockExpires s).1.smi = s.smi := by
  generalize h : shockExpires s = r
  unfold shockExpires at h
  try dsimp only at h
  (repeat' split at h) <;> subst h <;> simp

@[simp] theorem enterFalling_frame (start : Time) (q : Sample) (s : State) :
    (enterFalling start q s).1.pending = s.pending ∧ (enterFalling start q s).1.agenda = s.agenda ∧
    (enterFalling start q s).1.now = s.now ∧ (enterFalling start q s).1.lines = s.lines ∧
    (enterFalling start q s).1.uli = s.uli ∧ (enterFalling start q s).1.ports = s.ports ∧
    (enterFalling start q s).1.polls = s.polls ∧ (enterFalling start q s).1.slots = s.slots ∧
    (enterFalling start q s).1.ppc = s.ppc ∧ (enterFalling start q s).1.classifier = s.classifier ∧
    (enterFalling start q s).1.bays = s.bays ∧ (enterFalling start q s).1.brc = s.brc ∧
    (enterFalling start q s).1.sru = s.sru ∧ (enterFalling start q s).1.smi = s.smi := by
  generalize h : enterFalling start q s = r
  unfold enterFalling at h
  try dsimp only at h
  subst h; simp

@[simp] theorem enterImpact_frame (q : Sample) (s : State) :
    (enterImpact q s).1.pending = s.pending ∧ (enterImpact q s).1.agenda = s.agenda ∧
    (enterImpact q s).1.now = s.now ∧ (enterImpact q s).1.lines = s.lines ∧ (enterImpact q s).1.uli = s.uli ∧
    (enterImpact q s).1.ports = s.ports ∧ (enterImpact q s).1.polls = s.polls ∧ (enterImpact q s).1.slots = s.slots ∧
    (enterImpact q s).1.ppc = s.ppc ∧ (enterImpact q s).1.classifier = s.classifier ∧
    (enterImpact q s).1.bays = s.bays ∧ (enterImpact q s).1.brc = s.brc ∧ (enterImpact q s).1.sru = s.sru ∧
    (enterImpact q s).1.smi = s.smi := by
  generalize h : enterImpact q s = r
  unfold enterImpact at h
  try dsimp only at h
  (repeat' split at h) <;> subst h <;> simp

@[simp] theorem knock_frame (q : Sample) (s : State) :
    (knock q s).1.pending = s.pending ∧ (knock q s).1.agenda = s.agenda ∧ (knock q s).1.now = s.now ∧
    (knock q s).1.lines = s.lines ∧ (knock q s).1.uli = s.uli ∧ (knock q s).1.ports = s.ports ∧
    (knock q s).1.polls = s.polls ∧ (knock q s).1.slots = s.slots ∧ (knock q s).1.ppc = s.ppc ∧
    (knock q s).1.classifier = s.classifier ∧ (knock q s).1.bays = s.bays ∧ (knock q s).1.brc = s.brc ∧
    (knock q s).1.sru = s.sru ∧ (knock q s).1.smi = s.smi := by
  generalize h : knock q s = r
  unfold knock at h
  try dsimp only at h
  subst h; simp

@[simp] theorem loseSensor_frame (s : State) :
    (loseSensor s).pending = s.pending ∧ (loseSensor s).agenda = s.agenda ∧ (loseSensor s).now = s.now ∧
    (loseSensor s).lines = s.lines ∧ (loseSensor s).uli = s.uli ∧ (loseSensor s).ports = s.ports ∧
    (loseSensor s).polls = s.polls ∧ (loseSensor s).slots = s.slots ∧ (loseSensor s).ppc = s.ppc ∧
    (loseSensor s).classifier = s.classifier ∧ (loseSensor s).bays = s.bays ∧ (loseSensor s).brc = s.brc ∧
    (loseSensor s).sru = s.sru ∧ (loseSensor s).smi = s.smi := by
  generalize h : loseSensor s = r
  unfold loseSensor at h
  try dsimp only at h
  subst h; simp

@[simp] theorem enterNormal_frame (t : Time) (s : State) :
    (enterNormal t s).1.pending = s.pending ∧ (enterNormal t s).1.agenda = s.agenda ∧
    (enterNormal t s).1.now = s.now ∧ (enterNormal t s).1.lines = s.lines ∧ (enterNormal t s).1.uli = s.uli ∧
    (enterNormal t s).1.ports = s.ports ∧ (enterNormal t s).1.polls = s.polls ∧ (enterNormal t s).1.slots = s.slots ∧
    (enterNormal t s).1.ppc = s.ppc ∧ (enterNormal t s).1.classifier = s.classifier ∧
    (enterNormal t s).1.bays = s.bays ∧ (enterNormal t s).1.brc = s.brc ∧ (enterNormal t s).1.sru = s.sru ∧
    (enterNormal t s).1.smi = s.smi := by
  generalize h : enterNormal t s = r
  unfold enterNormal at h
  try dsimp only at h
  (repeat' split at h) <;> subst h <;> simp

@[simp] theorem sensorReturns_frame (t : Time) (s : State) :
    (sensorReturns t s).pending = s.pending ∧ (sensorReturns t s).agenda = s.agenda ∧
    (sensorReturns t s).now = s.now ∧ (sensorReturns t s).lines = s.lines ∧ (sensorReturns t s).uli = s.uli ∧
    (sensorReturns t s).ports = s.ports ∧ (sensorReturns t s).polls = s.polls ∧ (sensorReturns t s).slots = s.slots ∧
    (sensorReturns t s).ppc = s.ppc ∧ (sensorReturns t s).classifier = s.classifier ∧
    (sensorReturns t s).bays = s.bays ∧ (sensorReturns t s).brc = s.brc ∧ (sensorReturns t s).sru = s.sru ∧
    (sensorReturns t s).ntq = s.ntq ∧ (sensorReturns t s).smi = s.smi := by
  generalize h : sensorReturns t s = r
  unfold sensorReturns at h
  try dsimp only at h
  subst h; simp

@[simp] theorem offerRecord_frame (r : DropRec) (s : State) :
    (offerRecord r s).pending = s.pending ∧ (offerRecord r s).agenda = s.agenda ∧ (offerRecord r s).now = s.now ∧
    (offerRecord r s).lines = s.lines ∧ (offerRecord r s).uli = s.uli ∧ (offerRecord r s).ports = s.ports ∧
    (offerRecord r s).polls = s.polls ∧ (offerRecord r s).slots = s.slots ∧ (offerRecord r s).ppc = s.ppc ∧
    (offerRecord r s).classifier = s.classifier ∧ (offerRecord r s).bays = s.bays ∧ (offerRecord r s).brc = s.brc ∧
    (offerRecord r s).sru = s.sru ∧ (offerRecord r s).smi = s.smi := by
  generalize h : offerRecord r s = r
  unfold offerRecord at h
  try dsimp only at h
  (repeat' split at h) <;> subst h <;> simp

@[simp] theorem closeRecord_frame (followed : Bool) (t : Time) (s : State) :
    (closeRecord followed t s).pending = s.pending ∧ (closeRecord followed t s).agenda = s.agenda ∧
    (closeRecord followed t s).now = s.now ∧ (closeRecord followed t s).lines = s.lines ∧
    (closeRecord followed t s).uli = s.uli ∧ (closeRecord followed t s).ports = s.ports ∧
    (closeRecord followed t s).polls = s.polls ∧ (closeRecord followed t s).slots = s.slots ∧
    (closeRecord followed t s).ppc = s.ppc ∧ (closeRecord followed t s).classifier = s.classifier ∧
    (closeRecord followed t s).bays = s.bays ∧ (closeRecord followed t s).brc = s.brc ∧
    (closeRecord followed t s).sru = s.sru ∧ (closeRecord followed t s).smi = s.smi := by
  generalize h : closeRecord followed t s = r
  unfold closeRecord at h
  try dsimp only at h
  (repeat' split at h) <;> subst h <;> simp

@[simp] theorem actNormal_frame (c : SampleClass) (q : Sample) (s : State) :
    (actNormal c q s).1.pending = s.pending ∧ (actNormal c q s).1.agenda = s.agenda ∧
    (actNormal c q s).1.now = s.now ∧ (actNormal c q s).1.lines = s.lines ∧ (actNormal c q s).1.uli = s.uli ∧
    (actNormal c q s).1.ports = s.ports ∧ (actNormal c q s).1.polls = s.polls ∧ (actNormal c q s).1.slots = s.slots ∧
    (actNormal c q s).1.ppc = s.ppc ∧ (actNormal c q s).1.classifier = s.classifier ∧
    (actNormal c q s).1.bays = s.bays ∧ (actNormal c q s).1.brc = s.brc ∧ (actNormal c q s).1.sru = s.sru ∧
    (actNormal c q s).1.smi = s.smi := by
  generalize h : actNormal c q s = r
  unfold actNormal at h
  try dsimp only at h
  (repeat' split at h) <;> subst h <;> simp

@[simp] theorem actFalling_frame (c : SampleClass) (q : Sample) (s : State) :
    (actFalling c q s).1.pending = s.pending ∧ (actFalling c q s).1.agenda = s.agenda ∧
    (actFalling c q s).1.now = s.now ∧ (actFalling c q s).1.lines = s.lines ∧ (actFalling c q s).1.uli = s.uli ∧
    (actFalling c q s).1.ports = s.ports ∧ (actFalling c q s).1.polls = s.polls ∧
    (actFalling c q s).1.slots = s.slots ∧ (actFalling c q s).1.ppc = s.ppc ∧
    (actFalling c q s).1.classifier = s.classifier ∧ (actFalling c q s).1.bays = s.bays ∧
    (actFalling c q s).1.brc = s.brc ∧ (actFalling c q s).1.sru = s.sru ∧ (actFalling c q s).1.smi = s.smi := by
  generalize h : actFalling c q s = r
  unfold actFalling at h
  try dsimp only at h
  (repeat' split at h) <;> subst h <;> simp

@[simp] theorem actImpact_frame (c : SampleClass) (q : Sample) (s : State) :
    (actImpact c q s).1.pending = s.pending ∧ (actImpact c q s).1.agenda = s.agenda ∧
    (actImpact c q s).1.now = s.now ∧ (actImpact c q s).1.lines = s.lines ∧ (actImpact c q s).1.uli = s.uli ∧
    (actImpact c q s).1.ports = s.ports ∧ (actImpact c q s).1.polls = s.polls ∧ (actImpact c q s).1.slots = s.slots ∧
    (actImpact c q s).1.ppc = s.ppc ∧ (actImpact c q s).1.classifier = s.classifier ∧
    (actImpact c q s).1.bays = s.bays ∧ (actImpact c q s).1.brc = s.brc ∧ (actImpact c q s).1.sru = s.sru ∧
    (actImpact c q s).1.ntq = s.ntq ∧ (actImpact c q s).1.smi = s.smi := by
  generalize h : actImpact c q s = r
  unfold actImpact at h
  try dsimp only at h
  subst h; simp

@[simp] theorem actSettling_frame (c : SampleClass) (q : Sample) (s : State) :
    (actSettling c q s).1.pending = s.pending ∧ (actSettling c q s).1.agenda = s.agenda ∧
    (actSettling c q s).1.now = s.now ∧ (actSettling c q s).1.lines = s.lines ∧ (actSettling c q s).1.uli = s.uli ∧
    (actSettling c q s).1.ports = s.ports ∧ (actSettling c q s).1.polls = s.polls ∧
    (actSettling c q s).1.slots = s.slots ∧ (actSettling c q s).1.ppc = s.ppc ∧
    (actSettling c q s).1.classifier = s.classifier ∧ (actSettling c q s).1.bays = s.bays ∧
    (actSettling c q s).1.brc = s.brc ∧ (actSettling c q s).1.sru = s.sru ∧ (actSettling c q s).1.smi = s.smi := by
  generalize h : actSettling c q s = r
  unfold actSettling at h
  try dsimp only at h
  (repeat' split at h) <;> subst h <;> simp

@[simp] theorem actSample_frame (c : SampleClass) (q : Sample) (s : State) :
    (actSample c q s).1.pending = s.pending ∧ (actSample c q s).1.agenda = s.agenda ∧
    (actSample c q s).1.now = s.now ∧ (actSample c q s).1.lines = s.lines ∧ (actSample c q s).1.uli = s.uli ∧
    (actSample c q s).1.ports = s.ports ∧ (actSample c q s).1.polls = s.polls ∧ (actSample c q s).1.slots = s.slots ∧
    (actSample c q s).1.ppc = s.ppc ∧ (actSample c q s).1.classifier = s.classifier ∧
    (actSample c q s).1.bays = s.bays ∧ (actSample c q s).1.brc = s.brc ∧ (actSample c q s).1.sru = s.sru ∧
    (actSample c q s).1.smi = s.smi := by
  generalize h : actSample c q s = r
  unfold actSample at h
  try dsimp only at h
  (repeat' split at h) <;> subst h <;> simp

@[simp] theorem actOn_frame (x y z : Int) (t : Time) (s : State) :
    (actOn x y z t s).1.pending = s.pending ∧ (actOn x y z t s).1.agenda = s.agenda ∧
    (actOn x y z t s).1.now = s.now ∧ (actOn x y z t s).1.lines = s.lines ∧ (actOn x y z t s).1.uli = s.uli ∧
    (actOn x y z t s).1.ports = s.ports ∧ (actOn x y z t s).1.polls = s.polls ∧ (actOn x y z t s).1.slots = s.slots ∧
    (actOn x y z t s).1.ppc = s.ppc ∧ (actOn x y z t s).1.classifier = s.classifier ∧
    (actOn x y z t s).1.bays = s.bays ∧ (actOn x y z t s).1.brc = s.brc ∧ (actOn x y z t s).1.sru = s.sru ∧
    (actOn x y z t s).1.smi = s.smi := by
  generalize h : actOn x y z t s = r
  unfold actOn at h
  try dsimp only at h
  subst h; simp

@[simp] theorem takeSample_frame (x y z : Int) (t : Time) (s : State) :
    (takeSample x y z t s).1.pending = s.pending ∧ (takeSample x y z t s).1.agenda = s.agenda ∧
    (takeSample x y z t s).1.now = s.now ∧ (takeSample x y z t s).1.lines = s.lines ∧
    (takeSample x y z t s).1.uli = s.uli ∧ (takeSample x y z t s).1.ports = s.ports ∧
    (takeSample x y z t s).1.polls = s.polls ∧ (takeSample x y z t s).1.slots = s.slots ∧
    (takeSample x y z t s).1.ppc = s.ppc ∧ (takeSample x y z t s).1.classifier = s.classifier ∧
    (takeSample x y z t s).1.bays = s.bays ∧ (takeSample x y z t s).1.brc = s.brc ∧
    (takeSample x y z t s).1.sru = s.sru ∧ (takeSample x y z t s).1.smi = s.smi := by
  generalize h : takeSample x y z t s = r
  unfold takeSample at h
  try dsimp only at h
  (repeat' split at h) <;> subst h <;> simp

@[simp] theorem onSampleLoss_frame (s : State) :
    (onSampleLoss s).1.pending = s.pending ∧ (onSampleLoss s).1.agenda = s.agenda ∧ (onSampleLoss s).1.now = s.now ∧
    (onSampleLoss s).1.lines = s.lines ∧ (onSampleLoss s).1.uli = s.uli ∧ (onSampleLoss s).1.ports = s.ports ∧
    (onSampleLoss s).1.polls = s.polls ∧ (onSampleLoss s).1.slots = s.slots ∧ (onSampleLoss s).1.ppc = s.ppc ∧
    (onSampleLoss s).1.classifier = s.classifier ∧ (onSampleLoss s).1.bays = s.bays ∧
    (onSampleLoss s).1.brc = s.brc ∧ (onSampleLoss s).1.sru = s.sru ∧ (onSampleLoss s).1.smi = s.smi := by
  generalize h : onSampleLoss s = r
  unfold onSampleLoss at h
  try dsimp only at h
  (repeat' split at h) <;> subst h <;> simp

@[simp] theorem onFallLimit_frame (s : State) :
    (onFallLimit s).1.pending = s.pending ∧ (onFallLimit s).1.agenda = s.agenda ∧ (onFallLimit s).1.now = s.now ∧
    (onFallLimit s).1.lines = s.lines ∧ (onFallLimit s).1.uli = s.uli ∧ (onFallLimit s).1.ports = s.ports ∧
    (onFallLimit s).1.polls = s.polls ∧ (onFallLimit s).1.slots = s.slots ∧ (onFallLimit s).1.ppc = s.ppc ∧
    (onFallLimit s).1.classifier = s.classifier ∧ (onFallLimit s).1.bays = s.bays ∧ (onFallLimit s).1.brc = s.brc ∧
    (onFallLimit s).1.sru = s.sru ∧ (onFallLimit s).1.ntq = s.ntq ∧ (onFallLimit s).1.smi = s.smi := by
  generalize h : onFallLimit s = r
  unfold onFallLimit at h
  try dsimp only at h
  (repeat' split at h) <;> subst h <;> simp

@[simp] theorem onSettleLimit_frame (s : State) :
    (onSettleLimit s).1.pending = s.pending ∧ (onSettleLimit s).1.agenda = s.agenda ∧
    (onSettleLimit s).1.now = s.now ∧ (onSettleLimit s).1.lines = s.lines ∧ (onSettleLimit s).1.uli = s.uli ∧
    (onSettleLimit s).1.ports = s.ports ∧ (onSettleLimit s).1.polls = s.polls ∧ (onSettleLimit s).1.slots = s.slots ∧
    (onSettleLimit s).1.ppc = s.ppc ∧ (onSettleLimit s).1.classifier = s.classifier ∧
    (onSettleLimit s).1.bays = s.bays ∧ (onSettleLimit s).1.brc = s.brc ∧ (onSettleLimit s).1.sru = s.sru ∧
    (onSettleLimit s).1.smi = s.smi := by
  generalize h : onSettleLimit s = r
  unfold onSettleLimit at h
  try dsimp only at h
  (repeat' split at h) <;> subst h <;> simp

@[simp] theorem openMotionUnit_frame (s : State) :
    (openMotionUnit s).1.pending = s.pending ∧ (openMotionUnit s).1.agenda = s.agenda ∧
    (openMotionUnit s).1.now = s.now ∧ (openMotionUnit s).1.lines = s.lines ∧ (openMotionUnit s).1.uli = s.uli ∧
    (openMotionUnit s).1.ports = s.ports ∧ (openMotionUnit s).1.polls = s.polls ∧
    (openMotionUnit s).1.slots = s.slots ∧ (openMotionUnit s).1.ppc = s.ppc ∧
    (openMotionUnit s).1.classifier = s.classifier ∧ (openMotionUnit s).1.bays = s.bays ∧
    (openMotionUnit s).1.brc = s.brc ∧ (openMotionUnit s).1.sru = s.sru ∧ (openMotionUnit s).1.ntq = s.ntq ∧
    (openMotionUnit s).1.smi = s.smi := by
  generalize h : openMotionUnit s = r
  unfold openMotionUnit at h
  try dsimp only at h
  subst h; simp

@[simp] theorem takeMotionTable_frame (s : State) :
    (takeMotionTable s).1.pending = s.pending ∧ (takeMotionTable s).1.agenda = s.agenda ∧
    (takeMotionTable s).1.now = s.now ∧ (takeMotionTable s).1.lines = s.lines ∧ (takeMotionTable s).1.uli = s.uli ∧
    (takeMotionTable s).1.ports = s.ports ∧ (takeMotionTable s).1.polls = s.polls ∧
    (takeMotionTable s).1.slots = s.slots ∧ (takeMotionTable s).1.ppc = s.ppc ∧
    (takeMotionTable s).1.classifier = s.classifier ∧ (takeMotionTable s).1.bays = s.bays ∧
    (takeMotionTable s).1.brc = s.brc ∧ (takeMotionTable s).1.ntq = s.ntq ∧ (takeMotionTable s).1.smi = s.smi := by
  generalize h : takeMotionTable s = r
  unfold takeMotionTable at h
  try dsimp only at h
  (repeat' split at h) <;> subst h <;> simp

end Sys2Proof.Machine
end

