-- ==== Sys2Proof/Laws/HostFrames.lean ====
section
/-!
SUPPORT. What the Upstream Link Interface, the Service Request Unit and the Settings Memory Interface leave unchanged: for each operation one lemma that
names every part of the state it does not touch.
-/

namespace Sys2Proof.Machine

@[simp] theorem State.record_frame (s : State) (addr : Addr) (cmd : Option Byte) (dir : Dir) (outcome : TxOutcome) :
    (State.record s addr cmd dir outcome).pending = s.pending ∧
    (State.record s addr cmd dir outcome).agenda = s.agenda ∧ (State.record s addr cmd dir outcome).now = s.now ∧
    (State.record s addr cmd dir outcome).lines = s.lines ∧ (State.record s addr cmd dir outcome).ports = s.ports ∧
    (State.record s addr cmd dir outcome).polls = s.polls ∧ (State.record s addr cmd dir outcome).slots = s.slots ∧
    (State.record s addr cmd dir outcome).ppc = s.ppc ∧
    (State.record s addr cmd dir outcome).classifier = s.classifier ∧
    (State.record s addr cmd dir outcome).bays = s.bays ∧ (State.record s addr cmd dir outcome).brc = s.brc ∧
    (State.record s addr cmd dir outcome).mtu = s.mtu ∧ (State.record s addr cmd dir outcome).sru = s.sru ∧
    (State.record s addr cmd dir outcome).ntq = s.ntq ∧ (State.record s addr cmd dir outcome).smi = s.smi := by
  generalize h : State.record s addr cmd dir outcome = r
  unfold State.record at h
  try dsimp only at h
  subst h; simp

@[simp] theorem State.refuse_frame (s : State) (t : UpTxn) (dir : Dir) (outcome : TxOutcome) :
    (State.refuse s t dir outcome).pending = s.pending ∧ (State.refuse s t dir outcome).agenda = s.agenda ∧
    (State.refuse s t dir outcome).now = s.now ∧ (State.refuse s t dir outcome).lines = s.lines ∧
    (State.refuse s t dir outcome).ports = s.ports ∧ (State.refuse s t dir outcome).polls = s.polls ∧
    (State.refuse s t dir outcome).slots = s.slots ∧ (State.refuse s t dir outcome).ppc = s.ppc ∧
    (State.refuse s t dir outcome).classifier = s.classifier ∧ (State.refuse s t dir outcome).bays = s.bays ∧
    (State.refuse s t dir outcome).brc = s.brc ∧ (State.refuse s t dir outcome).mtu = s.mtu ∧
    (State.refuse s t dir outcome).sru = s.sru ∧ (State.refuse s t dir outcome).ntq = s.ntq ∧
    (State.refuse s t dir outcome).smi = s.smi := by
  generalize h : State.refuse s t dir outcome = r
  unfold State.refuse at h
  try dsimp only at h
  subst h; simp

@[simp] theorem State.markUsed_frame (s : State) (e : RouteSnap) :
    (State.markUsed s e).pending = s.pending ∧ (State.markUsed s e).agenda = s.agenda ∧
    (State.markUsed s e).now = s.now ∧ (State.markUsed s e).lines = s.lines ∧ (State.markUsed s e).uli = s.uli ∧
    (State.markUsed s e).ports = s.ports ∧ (State.markUsed s e).polls = s.polls ∧
    (State.markUsed s e).slots = s.slots ∧ (State.markUsed s e).ppc = s.ppc ∧
    (State.markUsed s e).classifier = s.classifier ∧ (State.markUsed s e).bays = s.bays ∧
    (State.markUsed s e).brc = s.brc ∧ (State.markUsed s e).mtu = s.mtu ∧ (State.markUsed s e).ntq = s.ntq ∧
    (State.markUsed s e).smi = s.smi := by
  generalize h : State.markUsed s e = r
  unfold State.markUsed at h
  try dsimp only at h
  (repeat' split at h) <;> subst h <;> simp

@[simp] theorem openMatched_frame (addr : Addr) (e : RouteSnap) (s : State) :
    (openMatched addr e s).pending = s.pending ∧ (openMatched addr e s).agenda = s.agenda ∧
    (openMatched addr e s).now = s.now ∧ (openMatched addr e s).lines = s.lines ∧
    (openMatched addr e s).ports = s.ports ∧ (openMatched addr e s).polls = s.polls ∧
    (openMatched addr e s).slots = s.slots ∧ (openMatched addr e s).ppc = s.ppc ∧
    (openMatched addr e s).classifier = s.classifier ∧ (openMatched addr e s).bays = s.bays ∧
    (openMatched addr e s).brc = s.brc ∧ (openMatched addr e s).mtu = s.mtu ∧ (openMatched addr e s).sru = s.sru ∧
    (openMatched addr e s).ntq = s.ntq ∧ (openMatched addr e s).smi = s.smi := by
  generalize h : openMatched addr e s = r
  unfold openMatched at h
  try dsimp only at h
  (repeat' split at h) <;> subst h <;> simp

@[simp] theorem openTransaction_frame (addr : Addr) (read : Bool) (s : State) :
    (openTransaction addr read s).pending = s.pending ∧ (openTransaction addr read s).agenda = s.agenda ∧
    (openTransaction addr read s).now = s.now ∧ (openTransaction addr read s).lines = s.lines ∧
    (openTransaction addr read s).ports = s.ports ∧ (openTransaction addr read s).polls = s.polls ∧
    (openTransaction addr read s).slots = s.slots ∧ (openTransaction addr read s).ppc = s.ppc ∧
    (openTransaction addr read s).classifier = s.classifier ∧ (openTransaction addr read s).bays = s.bays ∧
    (openTransaction addr read s).brc = s.brc ∧ (openTransaction addr read s).mtu = s.mtu ∧
    (openTransaction addr read s).ntq = s.ntq ∧ (openTransaction addr read s).smi = s.smi := by
  generalize h : openTransaction addr read s = r
  unfold openTransaction at h
  try dsimp only at h
  (repeat' split at h) <;> subst h <;> simp

@[simp] theorem onFirstAddress_frame (addr : Addr) (read : Bool) (s : State) :
    (onFirstAddress addr read s).pending = s.pending ∧ (onFirstAddress addr read s).agenda = s.agenda ∧
    (onFirstAddress addr read s).now = s.now ∧ (onFirstAddress addr read s).lines = s.lines ∧
    (onFirstAddress addr read s).ports = s.ports ∧ (onFirstAddress addr read s).polls = s.polls ∧
    (onFirstAddress addr read s).slots = s.slots ∧ (onFirstAddress addr read s).ppc = s.ppc ∧
    (onFirstAddress addr read s).classifier = s.classifier ∧ (onFirstAddress addr read s).bays = s.bays ∧
    (onFirstAddress addr read s).brc = s.brc ∧ (onFirstAddress addr read s).mtu = s.mtu ∧
    (onFirstAddress addr read s).ntq = s.ntq ∧ (onFirstAddress addr read s).smi = s.smi := by
  generalize h : onFirstAddress addr read s = r
  unfold onFirstAddress at h
  try dsimp only at h
  (repeat' split at h) <;> subst h <;> simp

@[simp] theorem onCommand_frame (byte : Byte) (s : State) :
    (onCommand byte s).pending = s.pending ∧ (onCommand byte s).agenda = s.agenda ∧ (onCommand byte s).now = s.now ∧
    (onCommand byte s).lines = s.lines ∧ (onCommand byte s).ports = s.ports ∧ (onCommand byte s).polls = s.polls ∧
    (onCommand byte s).slots = s.slots ∧ (onCommand byte s).ppc = s.ppc ∧
    (onCommand byte s).classifier = s.classifier ∧ (onCommand byte s).bays = s.bays ∧
    (onCommand byte s).brc = s.brc ∧ (onCommand byte s).mtu = s.mtu ∧ (onCommand byte s).sru = s.sru ∧
    (onCommand byte s).ntq = s.ntq ∧ (onCommand byte s).smi = s.smi := by
  generalize h : onCommand byte s = r
  unfold onCommand at h
  try dsimp only at h
  (repeat' split at h) <;> subst h <;> simp

@[simp] theorem State.takeByte_frame (s : State) (t : UpTxn) (byte : Byte) :
    (State.takeByte s t byte).pending = s.pending ∧ (State.takeByte s t byte).agenda = s.agenda ∧
    (State.takeByte s t byte).now = s.now ∧ (State.takeByte s t byte).lines = s.lines ∧
    (State.takeByte s t byte).ports = s.ports ∧ (State.takeByte s t byte).polls = s.polls ∧
    (State.takeByte s t byte).slots = s.slots ∧ (State.takeByte s t byte).ppc = s.ppc ∧
    (State.takeByte s t byte).classifier = s.classifier ∧ (State.takeByte s t byte).bays = s.bays ∧
    (State.takeByte s t byte).brc = s.brc ∧ (State.takeByte s t byte).mtu = s.mtu ∧
    (State.takeByte s t byte).sru = s.sru ∧ (State.takeByte s t byte).ntq = s.ntq ∧
    (State.takeByte s t byte).smi = s.smi := by
  generalize h : State.takeByte s t byte = r
  unfold State.takeByte at h
  try dsimp only at h
  subst h; simp

@[simp] theorem firstByte_frame (t : UpTxn) (e : RouteSnap) (cmd byte : Byte) (s : State) :
    (firstByte t e cmd byte s).pending = s.pending ∧ (firstByte t e cmd byte s).agenda = s.agenda ∧
    (firstByte t e cmd byte s).now = s.now ∧ (firstByte t e cmd byte s).lines = s.lines ∧
    (firstByte t e cmd byte s).ports = s.ports ∧ (firstByte t e cmd byte s).polls = s.polls ∧
    (firstByte t e cmd byte s).slots = s.slots ∧ (firstByte t e cmd byte s).ppc = s.ppc ∧
    (firstByte t e cmd byte s).classifier = s.classifier ∧ (firstByte t e cmd byte s).bays = s.bays ∧
    (firstByte t e cmd byte s).brc = s.brc ∧ (firstByte t e cmd byte s).mtu = s.mtu ∧
    (firstByte t e cmd byte s).sru = s.sru ∧ (firstByte t e cmd byte s).ntq = s.ntq ∧
    (firstByte t e cmd byte s).smi = s.smi := by
  generalize h : firstByte t e cmd byte s = r
  unfold firstByte at h
  try dsimp only at h
  (repeat' split at h) <;> subst h <;> simp

@[simp] theorem laterByte_frame (t : UpTxn) (byte : Byte) (s : State) :
    (laterByte t byte s).1.pending = s.pending ∧ (laterByte t byte s).1.agenda = s.agenda ∧
    (laterByte t byte s).1.now = s.now ∧ (laterByte t byte s).1.lines = s.lines ∧
    (laterByte t byte s).1.ports = s.ports ∧ (laterByte t byte s).1.polls = s.polls ∧
    (laterByte t byte s).1.slots = s.slots ∧ (laterByte t byte s).1.ppc = s.ppc ∧
    (laterByte t byte s).1.classifier = s.classifier ∧ (laterByte t byte s).1.bays = s.bays ∧
    (laterByte t byte s).1.brc = s.brc ∧ (laterByte t byte s).1.mtu = s.mtu ∧ (laterByte t byte s).1.sru = s.sru ∧
    (laterByte t byte s).1.ntq = s.ntq ∧ (laterByte t byte s).1.smi = s.smi := by
  generalize h : laterByte t byte s = r
  unfold laterByte at h
  try dsimp only at h
  (repeat' split at h) <;> subst h <;> simp

@[simp] theorem onDataByte_frame (byte : Byte) (s : State) :
    (onDataByte byte s).1.pending = s.pending ∧ (onDataByte byte s).1.agenda = s.agenda ∧
    (onDataByte byte s).1.now = s.now ∧ (onDataByte byte s).1.lines = s.lines ∧
    (onDataByte byte s).1.ports = s.ports ∧ (onDataByte byte s).1.polls = s.polls ∧
    (onDataByte byte s).1.slots = s.slots ∧ (onDataByte byte s).1.ppc = s.ppc ∧
    (onDataByte byte s).1.classifier = s.classifier ∧ (onDataByte byte s).1.bays = s.bays ∧
    (onDataByte byte s).1.mtu = s.mtu ∧ (onDataByte byte s).1.sru = s.sru ∧ (onDataByte byte s).1.smi = s.smi := by
  generalize h : onDataByte byte s = r
  unfold onDataByte at h
  try dsimp only at h
  (repeat' split at h) <;> subst h <;> simp

@[simp] theorem onByteRelease_frame (s : State) :
    (onByteRelease s).pending = s.pending ∧ (onByteRelease s).agenda = s.agenda ∧ (onByteRelease s).now = s.now ∧
    (onByteRelease s).lines = s.lines ∧ (onByteRelease s).ports = s.ports ∧ (onByteRelease s).polls = s.polls ∧
    (onByteRelease s).slots = s.slots ∧ (onByteRelease s).ppc = s.ppc ∧ (onByteRelease s).classifier = s.classifier ∧
    (onByteRelease s).bays = s.bays ∧ (onByteRelease s).brc = s.brc ∧ (onByteRelease s).mtu = s.mtu ∧
    (onByteRelease s).sru = s.sru ∧ (onByteRelease s).ntq = s.ntq ∧ (onByteRelease s).smi = s.smi := by
  generalize h : onByteRelease s = r
  unfold onByteRelease at h
  try dsimp only at h
  (repeat' split at h) <;> subst h <;> simp

@[simp] theorem onByteLimit_frame (s : State) :
    (onByteLimit s).pending = s.pending ∧ (onByteLimit s).agenda = s.agenda ∧ (onByteLimit s).now = s.now ∧
    (onByteLimit s).lines = s.lines ∧ (onByteLimit s).ports = s.ports ∧ (onByteLimit s).polls = s.polls ∧
    (onByteLimit s).slots = s.slots ∧ (onByteLimit s).ppc = s.ppc ∧ (onByteLimit s).classifier = s.classifier ∧
    (onByteLimit s).bays = s.bays ∧ (onByteLimit s).brc = s.brc ∧ (onByteLimit s).mtu = s.mtu ∧
    (onByteLimit s).sru = s.sru ∧ (onByteLimit s).ntq = s.ntq ∧ (onByteLimit s).smi = s.smi := by
  generalize h : onByteLimit s = r
  unfold onByteLimit at h
  try dsimp only at h
  (repeat' split at h) <;> subst h <;> simp

@[simp] theorem endRecorded_frame (t : UpTxn) (e : RouteSnap) (o : TxOutcome) (s : State) :
    (endRecorded t e o s).pending = s.pending ∧ (endRecorded t e o s).agenda = s.agenda ∧
    (endRecorded t e o s).now = s.now ∧ (endRecorded t e o s).lines = s.lines ∧
    (endRecorded t e o s).ports = s.ports ∧ (endRecorded t e o s).polls = s.polls ∧
    (endRecorded t e o s).slots = s.slots ∧ (endRecorded t e o s).ppc = s.ppc ∧
    (endRecorded t e o s).classifier = s.classifier ∧ (endRecorded t e o s).bays = s.bays ∧
    (endRecorded t e o s).brc = s.brc ∧ (endRecorded t e o s).mtu = s.mtu ∧ (endRecorded t e o s).sru = s.sru ∧
    (endRecorded t e o s).smi = s.smi := by
  generalize h : endRecorded t e o s = r
  unfold endRecorded at h
  try dsimp only at h
  subst h; simp

@[simp] theorem endPassWrite_frame (t : UpTxn) (e : RouteSnap) (cmd : Byte) (s : State) :
    (endPassWrite t e cmd s).1.pending = s.pending ∧ (endPassWrite t e cmd s).1.agenda = s.agenda ∧
    (endPassWrite t e cmd s).1.now = s.now ∧ (endPassWrite t e cmd s).1.lines = s.lines ∧
    (endPassWrite t e cmd s).1.ports = s.ports ∧ (endPassWrite t e cmd s).1.polls = s.polls ∧
    (endPassWrite t e cmd s).1.slots = s.slots ∧ (endPassWrite t e cmd s).1.ppc = s.ppc ∧
    (endPassWrite t e cmd s).1.classifier = s.classifier ∧ (endPassWrite t e cmd s).1.bays = s.bays ∧
    (endPassWrite t e cmd s).1.mtu = s.mtu ∧ (endPassWrite t e cmd s).1.sru = s.sru ∧
    (endPassWrite t e cmd s).1.smi = s.smi := by
  generalize h : endPassWrite t e cmd s = r
  unfold endPassWrite at h
  try dsimp only at h
  (repeat' split at h) <;> subst h <;> simp

@[simp] theorem endWritePhase_frame (t : UpTxn) (s : State) :
    (endWritePhase t s).1.pending = s.pending ∧ (endWritePhase t s).1.agenda = s.agenda ∧
    (endWritePhase t s).1.now = s.now ∧ (endWritePhase t s).1.lines = s.lines ∧
    (endWritePhase t s).1.ports = s.ports ∧ (endWritePhase t s).1.polls = s.polls ∧
    (endWritePhase t s).1.slots = s.slots ∧ (endWritePhase t s).1.ppc = s.ppc ∧
    (endWritePhase t s).1.classifier = s.classifier ∧ (endWritePhase t s).1.bays = s.bays ∧
    (endWritePhase t s).1.mtu = s.mtu ∧ (endWritePhase t s).1.sru = s.sru ∧ (endWritePhase t s).1.smi = s.smi := by
  generalize h : endWritePhase t s = r
  unfold endWritePhase at h
  try dsimp only at h
  (repeat' split at h) <;> subst h <;> simp

@[simp] theorem endAddressPhase_frame (t : UpTxn) (s : State) :
    (endAddressPhase t s).pending = s.pending ∧ (endAddressPhase t s).agenda = s.agenda ∧
    (endAddressPhase t s).now = s.now ∧ (endAddressPhase t s).lines = s.lines ∧
    (endAddressPhase t s).ports = s.ports ∧ (endAddressPhase t s).polls = s.polls ∧
    (endAddressPhase t s).slots = s.slots ∧ (endAddressPhase t s).ppc = s.ppc ∧
    (endAddressPhase t s).classifier = s.classifier ∧ (endAddressPhase t s).bays = s.bays ∧
    (endAddressPhase t s).brc = s.brc ∧ (endAddressPhase t s).mtu = s.mtu ∧ (endAddressPhase t s).sru = s.sru ∧
    (endAddressPhase t s).ntq = s.ntq ∧ (endAddressPhase t s).smi = s.smi := by
  generalize h : endAddressPhase t s = r
  unfold endAddressPhase at h
  try dsimp only at h
  (repeat' split at h) <;> subst h <;> simp

@[simp] theorem onStop_frame (s : State) :
    (onStop s).1.pending = s.pending ∧ (onStop s).1.agenda = s.agenda ∧ (onStop s).1.now = s.now ∧
    (onStop s).1.lines = s.lines ∧ (onStop s).1.ports = s.ports ∧ (onStop s).1.polls = s.polls ∧
    (onStop s).1.slots = s.slots ∧ (onStop s).1.ppc = s.ppc ∧ (onStop s).1.classifier = s.classifier ∧
    (onStop s).1.bays = s.bays ∧ (onStop s).1.mtu = s.mtu ∧ (onStop s).1.sru = s.sru ∧ (onStop s).1.smi = s.smi := by
  generalize h : onStop s = r
  unfold onStop at h
  try dsimp only at h
  (repeat' split at h) <;> subst h <;> simp

@[simp] theorem answerNow_frame (t : UpTxn) (e : RouteSnap) (cmd : Byte) (outcome : TxOutcome) (bytes : List Byte) (s : State) :
    (answerNow t e cmd outcome bytes s).pending = s.pending ∧ (answerNow t e cmd outcome bytes s).agenda = s.agenda ∧
    (answerNow t e cmd outcome bytes s).now = s.now ∧ (answerNow t e cmd outcome bytes s).lines = s.lines ∧
    (answerNow t e cmd outcome bytes s).ports = s.ports ∧ (answerNow t e cmd outcome bytes s).polls = s.polls ∧
    (answerNow t e cmd outcome bytes s).slots = s.slots ∧ (answerNow t e cmd outcome bytes s).ppc = s.ppc ∧
    (answerNow t e cmd outcome bytes s).classifier = s.classifier ∧
    (answerNow t e cmd outcome bytes s).bays = s.bays ∧ (answerNow t e cmd outcome bytes s).brc = s.brc ∧
    (answerNow t e cmd outcome bytes s).mtu = s.mtu ∧ (answerNow t e cmd outcome bytes s).sru = s.sru ∧
    (answerNow t e cmd outcome bytes s).ntq = s.ntq ∧ (answerNow t e cmd outcome bytes s).smi = s.smi := by
  generalize h : answerNow t e cmd outcome bytes s = r
  unfold answerNow at h
  try dsimp only at h
  subst h; simp

@[simp] theorem answerGated_frame (t : UpTxn) (e : RouteSnap) (cmd : Byte) (s : State) :
    (answerGated t e cmd s).pending = s.pending ∧ (answerGated t e cmd s).agenda = s.agenda ∧
    (answerGated t e cmd s).now = s.now ∧ (answerGated t e cmd s).lines = s.lines ∧
    (answerGated t e cmd s).ports = s.ports ∧ (answerGated t e cmd s).polls = s.polls ∧
    (answerGated t e cmd s).slots = s.slots ∧ (answerGated t e cmd s).ppc = s.ppc ∧
    (answerGated t e cmd s).classifier = s.classifier ∧ (answerGated t e cmd s).bays = s.bays ∧
    (answerGated t e cmd s).brc = s.brc ∧ (answerGated t e cmd s).mtu = s.mtu ∧ (answerGated t e cmd s).sru = s.sru ∧
    (answerGated t e cmd s).ntq = s.ntq ∧ (answerGated t e cmd s).smi = s.smi := by
  generalize h : answerGated t e cmd s = r
  unfold answerGated at h
  try dsimp only at h
  (repeat' split at h) <;> subst h <;> simp

@[simp] theorem State.holdRead_frame (s : State) (t : UpTxn) :
    (State.holdRead s t).pending = s.pending ∧ (State.holdRead s t).agenda = s.agenda ∧
    (State.holdRead s t).now = s.now ∧ (State.holdRead s t).lines = s.lines ∧ (State.holdRead s t).ports = s.ports ∧
    (State.holdRead s t).polls = s.polls ∧ (State.holdRead s t).slots = s.slots ∧ (State.holdRead s t).ppc = s.ppc ∧
    (State.holdRead s t).classifier = s.classifier ∧ (State.holdRead s t).bays = s.bays ∧
    (State.holdRead s t).brc = s.brc ∧ (State.holdRead s t).mtu = s.mtu ∧ (State.holdRead s t).sru = s.sru ∧
    (State.holdRead s t).ntq = s.ntq ∧ (State.holdRead s t).smi = s.smi := by
  generalize h : State.holdRead s t = r
  unfold State.holdRead at h
  try dsimp only at h
  subst h; simp

@[simp] theorem turnToRead_frame (t : UpTxn) (e : RouteSnap) (cmd : Byte) (s : State) :
    (turnToRead t e cmd s).pending = s.pending ∧ (turnToRead t e cmd s).agenda = s.agenda ∧
    (turnToRead t e cmd s).now = s.now ∧ (turnToRead t e cmd s).lines = s.lines ∧
    (turnToRead t e cmd s).ports = s.ports ∧ (turnToRead t e cmd s).polls = s.polls ∧
    (turnToRead t e cmd s).slots = s.slots ∧ (turnToRead t e cmd s).ppc = s.ppc ∧
    (turnToRead t e cmd s).classifier = s.classifier ∧ (turnToRead t e cmd s).bays = s.bays ∧
    (turnToRead t e cmd s).brc = s.brc ∧ (turnToRead t e cmd s).mtu = s.mtu ∧ (turnToRead t e cmd s).sru = s.sru ∧
    (turnToRead t e cmd s).ntq = s.ntq ∧ (turnToRead t e cmd s).smi = s.smi := by
  generalize h : turnToRead t e cmd s = r
  unfold turnToRead at h
  try dsimp only at h
  (repeat' split at h) <;> subst h <;> simp

@[simp] theorem answerResponse_frame (s : State) :
    (answerResponse s).pending = s.pending ∧ (answerResponse s).agenda = s.agenda ∧ (answerResponse s).now = s.now ∧
    (answerResponse s).lines = s.lines ∧ (answerResponse s).ports = s.ports ∧ (answerResponse s).polls = s.polls ∧
    (answerResponse s).slots = s.slots ∧ (answerResponse s).ppc = s.ppc ∧
    (answerResponse s).classifier = s.classifier ∧ (answerResponse s).bays = s.bays ∧
    (answerResponse s).brc = s.brc ∧ (answerResponse s).mtu = s.mtu ∧ (answerResponse s).sru = s.sru ∧
    (answerResponse s).ntq = s.ntq ∧ (answerResponse s).smi = s.smi := by
  generalize h : answerResponse s = r
  unfold answerResponse at h
  try dsimp only at h
  subst h; simp

@[simp] theorem turnToResponse_frame (t : UpTxn) (s : State) :
    (turnToResponse t s).pending = s.pending ∧ (turnToResponse t s).agenda = s.agenda ∧
    (turnToResponse t s).now = s.now ∧ (turnToResponse t s).lines = s.lines ∧ (turnToResponse t s).ports = s.ports ∧
    (turnToResponse t s).polls = s.polls ∧ (turnToResponse t s).slots = s.slots ∧ (turnToResponse t s).ppc = s.ppc ∧
    (turnToResponse t s).classifier = s.classifier ∧ (turnToResponse t s).bays = s.bays ∧
    (turnToResponse t s).brc = s.brc ∧ (turnToResponse t s).mtu = s.mtu ∧ (turnToResponse t s).sru = s.sru ∧
    (turnToResponse t s).ntq = s.ntq ∧ (turnToResponse t s).smi = s.smi := by
  generalize h : turnToResponse t s = r
  unfold turnToResponse at h
  try dsimp only at h
  (repeat' split at h) <;> subst h <;> simp

@[simp] theorem turnRead_frame (t : UpTxn) (s : State) :
    (turnRead t s).pending = s.pending ∧ (turnRead t s).agenda = s.agenda ∧ (turnRead t s).now = s.now ∧
    (turnRead t s).lines = s.lines ∧ (turnRead t s).ports = s.ports ∧ (turnRead t s).polls = s.polls ∧
    (turnRead t s).slots = s.slots ∧ (turnRead t s).ppc = s.ppc ∧ (turnRead t s).classifier = s.classifier ∧
    (turnRead t s).bays = s.bays ∧ (turnRead t s).brc = s.brc ∧ (turnRead t s).mtu = s.mtu ∧
    (turnRead t s).sru = s.sru ∧ (turnRead t s).ntq = s.ntq ∧ (turnRead t s).smi = s.smi := by
  generalize h : turnRead t s = r
  unfold turnRead at h
  try dsimp only at h
  (repeat' split at h) <;> subst h <;> simp

@[simp] theorem thenOpen_fst (a : Act) (addr : Addr) (read : Bool) : (thenOpen a addr read).1 = a.1 := rfl

@[simp] theorem onRepeatedStart_frame (addr : Addr) (read : Bool) (s : State) :
    (onRepeatedStart addr read s).1.pending = s.pending ∧ (onRepeatedStart addr read s).1.agenda = s.agenda ∧
    (onRepeatedStart addr read s).1.now = s.now ∧ (onRepeatedStart addr read s).1.lines = s.lines ∧
    (onRepeatedStart addr read s).1.ports = s.ports ∧ (onRepeatedStart addr read s).1.polls = s.polls ∧
    (onRepeatedStart addr read s).1.slots = s.slots ∧ (onRepeatedStart addr read s).1.ppc = s.ppc ∧
    (onRepeatedStart addr read s).1.classifier = s.classifier ∧ (onRepeatedStart addr read s).1.bays = s.bays ∧
    (onRepeatedStart addr read s).1.mtu = s.mtu ∧ (onRepeatedStart addr read s).1.sru = s.sru ∧
    (onRepeatedStart addr read s).1.smi = s.smi := by
  generalize h : onRepeatedStart addr read s = r
  unfold onRepeatedStart at h
  try dsimp only at h
  (repeat' split at h) <;> subst h <;> simp

@[simp] theorem onReadHandin_frame (s : State) :
    (onReadHandin s).1.pending = s.pending ∧ (onReadHandin s).1.agenda = s.agenda ∧ (onReadHandin s).1.now = s.now ∧
    (onReadHandin s).1.lines = s.lines ∧ (onReadHandin s).1.ports = s.ports ∧ (onReadHandin s).1.polls = s.polls ∧
    (onReadHandin s).1.slots = s.slots ∧ (onReadHandin s).1.ppc = s.ppc ∧
    (onReadHandin s).1.classifier = s.classifier ∧ (onReadHandin s).1.bays = s.bays ∧
    (onReadHandin s).1.brc = s.brc ∧ (onReadHandin s).1.mtu = s.mtu ∧ (onReadHandin s).1.sru = s.sru ∧
    (onReadHandin s).1.ntq = s.ntq ∧ (onReadHandin s).1.smi = s.smi := by
  generalize h : onReadHandin s = r
  unfold onReadHandin at h
  try dsimp only at h
  (repeat' split at h) <;> subst h <;> simp

@[simp] theorem State.leaveInLane_frame (s : State) (t : UpTxn) (e : RouteSnap) :
    (State.leaveInLane s t e).pending = s.pending ∧ (State.leaveInLane s t e).agenda = s.agenda ∧
    (State.leaveInLane s t e).now = s.now ∧ (State.leaveInLane s t e).lines = s.lines ∧
    (State.leaveInLane s t e).uli = s.uli ∧ (State.leaveInLane s t e).polls = s.polls ∧
    (State.leaveInLane s t e).slots = s.slots ∧ (State.leaveInLane s t e).ppc = s.ppc ∧
    (State.leaveInLane s t e).classifier = s.classifier ∧ (State.leaveInLane s t e).bays = s.bays ∧
    (State.leaveInLane s t e).brc = s.brc ∧ (State.leaveInLane s t e).mtu = s.mtu ∧
    (State.leaveInLane s t e).sru = s.sru ∧ (State.leaveInLane s t e).ntq = s.ntq ∧
    (State.leaveInLane s t e).smi = s.smi := by
  generalize h : State.leaveInLane s t e = r
  unfold State.leaveInLane at h
  try dsimp only at h
  (repeat' split at h) <;> subst h <;> simp

@[simp] theorem onReadLimit_frame (s : State) :
    (onReadLimit s).pending = s.pending ∧ (onReadLimit s).agenda = s.agenda ∧ (onReadLimit s).now = s.now ∧
    (onReadLimit s).lines = s.lines ∧ (onReadLimit s).polls = s.polls ∧ (onReadLimit s).slots = s.slots ∧
    (onReadLimit s).ppc = s.ppc ∧ (onReadLimit s).classifier = s.classifier ∧ (onReadLimit s).bays = s.bays ∧
    (onReadLimit s).brc = s.brc ∧ (onReadLimit s).mtu = s.mtu ∧ (onReadLimit s).sru = s.sru ∧
    (onReadLimit s).ntq = s.ntq ∧ (onReadLimit s).smi = s.smi := by
  generalize h : onReadLimit s = r
  unfold onReadLimit at h
  try dsimp only at h
  (repeat' split at h) <;> subst h <;> simp

@[simp] theorem answerRead_frame (t : LaneTxn) (outcome : TxOutcome) (data : List Byte) (trailer : Byte) (s : State) :
    (answerRead t outcome data trailer s).pending = s.pending ∧
    (answerRead t outcome data trailer s).agenda = s.agenda ∧ (answerRead t outcome data trailer s).now = s.now ∧
    (answerRead t outcome data trailer s).lines = s.lines ∧ (answerRead t outcome data trailer s).ports = s.ports ∧
    (answerRead t outcome data trailer s).polls = s.polls ∧ (answerRead t outcome data trailer s).slots = s.slots ∧
    (answerRead t outcome data trailer s).ppc = s.ppc ∧
    (answerRead t outcome data trailer s).classifier = s.classifier ∧
    (answerRead t outcome data trailer s).bays = s.bays ∧ (answerRead t outcome data trailer s).brc = s.brc ∧
    (answerRead t outcome data trailer s).mtu = s.mtu ∧ (answerRead t outcome data trailer s).sru = s.sru ∧
    (answerRead t outcome data trailer s).ntq = s.ntq ∧ (answerRead t outcome data trailer s).smi = s.smi := by
  generalize h : answerRead t outcome data trailer s = r
  unfold answerRead at h
  try dsimp only at h
  (repeat' split at h) <;> subst h <;> simp

@[simp] theorem laneDone_frame (t : LaneTxn) (outcome : TxOutcome) (data : List Byte) (trailer : Byte) (s : State) :
    (laneDone t outcome data trailer s).1.pending = s.pending ∧
    (laneDone t outcome data trailer s).1.agenda = s.agenda ∧ (laneDone t outcome data trailer s).1.now = s.now ∧
    (laneDone t outcome data trailer s).1.lines = s.lines ∧ (laneDone t outcome data trailer s).1.ports = s.ports ∧
    (laneDone t outcome data trailer s).1.polls = s.polls ∧ (laneDone t outcome data trailer s).1.slots = s.slots ∧
    (laneDone t outcome data trailer s).1.ppc = s.ppc ∧
    (laneDone t outcome data trailer s).1.classifier = s.classifier ∧
    (laneDone t outcome data trailer s).1.bays = s.bays ∧ (laneDone t outcome data trailer s).1.brc = s.brc ∧
    (laneDone t outcome data trailer s).1.mtu = s.mtu ∧ (laneDone t outcome data trailer s).1.sru = s.sru ∧
    (laneDone t outcome data trailer s).1.smi = s.smi := by
  generalize h : laneDone t outcome data trailer s = r
  unfold laneDone at h
  try dsimp only at h
  (repeat' split at h) <;> subst h <;> simp

@[simp] theorem onReadoutByte_frame (s : State) :
    (onReadoutByte s).pending = s.pending ∧ (onReadoutByte s).agenda = s.agenda ∧ (onReadoutByte s).now = s.now ∧
    (onReadoutByte s).lines = s.lines ∧ (onReadoutByte s).ports = s.ports ∧ (onReadoutByte s).polls = s.polls ∧
    (onReadoutByte s).slots = s.slots ∧ (onReadoutByte s).ppc = s.ppc ∧ (onReadoutByte s).classifier = s.classifier ∧
    (onReadoutByte s).bays = s.bays ∧ (onReadoutByte s).brc = s.brc ∧ (onReadoutByte s).mtu = s.mtu ∧
    (onReadoutByte s).sru = s.sru ∧ (onReadoutByte s).ntq = s.ntq ∧ (onReadoutByte s).smi = s.smi := by
  generalize h : onReadoutByte s = r
  unfold onReadoutByte at h
  try dsimp only at h
  (repeat' split at h) <;> subst h <;> simp

@[simp] theorem releaseWaiting_frame (s : State) :
    (releaseWaiting s).pending = s.pending ∧ (releaseWaiting s).agenda = s.agenda ∧ (releaseWaiting s).now = s.now ∧
    (releaseWaiting s).lines = s.lines ∧ (releaseWaiting s).ports = s.ports ∧ (releaseWaiting s).polls = s.polls ∧
    (releaseWaiting s).slots = s.slots ∧ (releaseWaiting s).ppc = s.ppc ∧
    (releaseWaiting s).classifier = s.classifier ∧ (releaseWaiting s).bays = s.bays ∧
    (releaseWaiting s).brc = s.brc ∧ (releaseWaiting s).mtu = s.mtu ∧ (releaseWaiting s).sru = s.sru ∧
    (releaseWaiting s).ntq = s.ntq ∧ (releaseWaiting s).smi = s.smi := by
  generalize h : releaseWaiting s = r
  unfold releaseWaiting at h
  try dsimp only at h
  (repeat' split at h) <;> subst h <;> simp

@[simp] theorem onWaitingLimit_frame (s : State) :
    (onWaitingLimit s).pending = s.pending ∧ (onWaitingLimit s).agenda = s.agenda ∧ (onWaitingLimit s).now = s.now ∧
    (onWaitingLimit s).lines = s.lines ∧ (onWaitingLimit s).ports = s.ports ∧ (onWaitingLimit s).polls = s.polls ∧
    (onWaitingLimit s).slots = s.slots ∧ (onWaitingLimit s).ppc = s.ppc ∧
    (onWaitingLimit s).classifier = s.classifier ∧ (onWaitingLimit s).bays = s.bays ∧
    (onWaitingLimit s).brc = s.brc ∧ (onWaitingLimit s).mtu = s.mtu ∧ (onWaitingLimit s).sru = s.sru ∧
    (onWaitingLimit s).ntq = s.ntq ∧ (onWaitingLimit s).smi = s.smi := by
  generalize h : onWaitingLimit s = r
  unfold onWaitingLimit at h
  try dsimp only at h
  (repeat' split at h) <;> subst h <;> simp

@[simp] theorem abandon_frame (dir : Dir) (s : State) :
    (abandon dir s).pending = s.pending ∧ (abandon dir s).agenda = s.agenda ∧ (abandon dir s).now = s.now ∧
    (abandon dir s).lines = s.lines ∧ (abandon dir s).ports = s.ports ∧ (abandon dir s).polls = s.polls ∧
    (abandon dir s).slots = s.slots ∧ (abandon dir s).ppc = s.ppc ∧ (abandon dir s).classifier = s.classifier ∧
    (abandon dir s).bays = s.bays ∧ (abandon dir s).brc = s.brc ∧ (abandon dir s).mtu = s.mtu ∧
    (abandon dir s).sru = s.sru ∧ (abandon dir s).ntq = s.ntq ∧ (abandon dir s).smi = s.smi := by
  generalize h : abandon dir s = r
  unfold abandon at h
  try dsimp only at h
  (repeat' split at h) <;> subst h <;> simp

@[simp] theorem onStall_frame (s : State) :
    (onStall s).pending = s.pending ∧ (onStall s).agenda = s.agenda ∧ (onStall s).now = s.now ∧
    (onStall s).lines = s.lines ∧ (onStall s).ports = s.ports ∧ (onStall s).polls = s.polls ∧
    (onStall s).slots = s.slots ∧ (onStall s).ppc = s.ppc ∧ (onStall s).classifier = s.classifier ∧
    (onStall s).bays = s.bays ∧ (onStall s).brc = s.brc ∧ (onStall s).mtu = s.mtu ∧ (onStall s).sru = s.sru ∧
    (onStall s).ntq = s.ntq ∧ (onStall s).smi = s.smi := by
  generalize h : onStall s = r
  unfold onStall at h
  try dsimp only at h
  (repeat' split at h) <;> subst h <;> simp

@[simp] theorem State.writeEnd_frame (s : State) (code : Byte) (status : Status) (payload : List Byte) :
    (State.writeEnd s code status payload).pending = s.pending ∧
    (State.writeEnd s code status payload).agenda = s.agenda ∧ (State.writeEnd s code status payload).now = s.now ∧
    (State.writeEnd s code status payload).lines = s.lines ∧ (State.writeEnd s code status payload).ports = s.ports ∧
    (State.writeEnd s code status payload).polls = s.polls ∧ (State.writeEnd s code status payload).slots = s.slots ∧
    (State.writeEnd s code status payload).ppc = s.ppc ∧
    (State.writeEnd s code status payload).classifier = s.classifier ∧
    (State.writeEnd s code status payload).bays = s.bays ∧ (State.writeEnd s code status payload).brc = s.brc ∧
    (State.writeEnd s code status payload).mtu = s.mtu ∧ (State.writeEnd s code status payload).ntq = s.ntq ∧
    (State.writeEnd s code status payload).smi = s.smi := by
  generalize h : State.writeEnd s code status payload = r
  unfold State.writeEnd at h
  try dsimp only at h
  (repeat' split at h) <;> subst h <;> simp

@[simp] theorem onBackgroundEnd_frame (status : Status) (payload : List Byte) (s : State) :
    (onBackgroundEnd status payload s).pending = s.pending ∧ (onBackgroundEnd status payload s).agenda = s.agenda ∧
    (onBackgroundEnd status payload s).now = s.now ∧ (onBackgroundEnd status payload s).lines = s.lines ∧
    (onBackgroundEnd status payload s).ports = s.ports ∧ (onBackgroundEnd status payload s).polls = s.polls ∧
    (onBackgroundEnd status payload s).slots = s.slots ∧ (onBackgroundEnd status payload s).ppc = s.ppc ∧
    (onBackgroundEnd status payload s).classifier = s.classifier ∧ (onBackgroundEnd status payload s).bays = s.bays ∧
    (onBackgroundEnd status payload s).brc = s.brc ∧ (onBackgroundEnd status payload s).mtu = s.mtu ∧
    (onBackgroundEnd status payload s).ntq = s.ntq ∧ (onBackgroundEnd status payload s).smi = s.smi := by
  generalize h : onBackgroundEnd status payload s = r
  unfold onBackgroundEnd at h
  try dsimp only at h
  subst h; simp

@[simp] theorem onSwapEnd_frame (bay : Bay) (s : State) :
    (onSwapEnd bay s).pending = s.pending ∧ (onSwapEnd bay s).agenda = s.agenda ∧ (onSwapEnd bay s).now = s.now ∧
    (onSwapEnd bay s).lines = s.lines ∧ (onSwapEnd bay s).ports = s.ports ∧ (onSwapEnd bay s).polls = s.polls ∧
    (onSwapEnd bay s).slots = s.slots ∧ (onSwapEnd bay s).ppc = s.ppc ∧ (onSwapEnd bay s).classifier = s.classifier ∧
    (onSwapEnd bay s).bays = s.bays ∧ (onSwapEnd bay s).brc = s.brc ∧ (onSwapEnd bay s).mtu = s.mtu ∧
    (onSwapEnd bay s).ntq = s.ntq ∧ (onSwapEnd bay s).smi = s.smi := by
  generalize h : onSwapEnd bay s = r
  unfold onSwapEnd at h
  try dsimp only at h
  (repeat' split at h) <;> subst h <;> simp

@[simp] theorem failCommit_frame (c : CommitRec) (status : Status) (payload : List Byte) (arg2 : Int) (s : State) :
    (failCommit c status payload arg2 s).1.pending = s.pending ∧
    (failCommit c status payload arg2 s).1.agenda = s.agenda ∧ (failCommit c status payload arg2 s).1.now = s.now ∧
    (failCommit c status payload arg2 s).1.lines = s.lines ∧ (failCommit c status payload arg2 s).1.uli = s.uli ∧
    (failCommit c status payload arg2 s).1.ports = s.ports ∧ (failCommit c status payload arg2 s).1.polls = s.polls ∧
    (failCommit c status payload arg2 s).1.slots = s.slots ∧ (failCommit c status payload arg2 s).1.ppc = s.ppc ∧
    (failCommit c status payload arg2 s).1.classifier = s.classifier ∧
    (failCommit c status payload arg2 s).1.bays = s.bays ∧ (failCommit c status payload arg2 s).1.brc = s.brc ∧
    (failCommit c status payload arg2 s).1.mtu = s.mtu ∧ (failCommit c status payload arg2 s).1.sru = s.sru ∧
    (failCommit c status payload arg2 s).1.ntq = s.ntq ∧ (failCommit c status payload arg2 s).1.smi = s.smi := by
  generalize h : failCommit c status payload arg2 s = r
  unfold failCommit at h
  try dsimp only at h
  subst h; simp

@[simp] theorem onValidationEnd_frame (s : State) :
    (onValidationEnd s).1.pending = s.pending ∧ (onValidationEnd s).1.agenda = s.agenda ∧
    (onValidationEnd s).1.now = s.now ∧ (onValidationEnd s).1.lines = s.lines ∧ (onValidationEnd s).1.uli = s.uli ∧
    (onValidationEnd s).1.ports = s.ports ∧ (onValidationEnd s).1.polls = s.polls ∧
    (onValidationEnd s).1.slots = s.slots ∧ (onValidationEnd s).1.ppc = s.ppc ∧
    (onValidationEnd s).1.classifier = s.classifier ∧ (onValidationEnd s).1.bays = s.bays ∧
    (onValidationEnd s).1.brc = s.brc ∧ (onValidationEnd s).1.mtu = s.mtu ∧ (onValidationEnd s).1.ntq = s.ntq ∧
    (onValidationEnd s).1.smi = s.smi := by
  generalize h : onValidationEnd s = r
  unfold onValidationEnd at h
  try dsimp only at h
  (repeat' split at h) <;> subst h <;> simp

@[simp] theorem State.forceSupply_frame (s : State) :
    s.forceSupply.pending = s.pending ∧ s.forceSupply.agenda = s.agenda ∧ s.forceSupply.now = s.now ∧
    s.forceSupply.lines = s.lines ∧ s.forceSupply.uli = s.uli ∧ s.forceSupply.ports = s.ports ∧
    s.forceSupply.polls = s.polls ∧ s.forceSupply.slots = s.slots ∧ s.forceSupply.classifier = s.classifier ∧
    s.forceSupply.bays = s.bays ∧ s.forceSupply.brc = s.brc ∧ s.forceSupply.mtu = s.mtu ∧ s.forceSupply.ntq = s.ntq ∧
    s.forceSupply.smi = s.smi := by
  simp [State.forceSupply]

@[simp] theorem State.forceMotion_frame (s : State) :
    s.forceMotion.pending = s.pending ∧ s.forceMotion.agenda = s.agenda ∧ s.forceMotion.now = s.now ∧
    s.forceMotion.lines = s.lines ∧ s.forceMotion.uli = s.uli ∧ s.forceMotion.ports = s.ports ∧
    s.forceMotion.polls = s.polls ∧ s.forceMotion.slots = s.slots ∧ s.forceMotion.ppc = s.ppc ∧
    s.forceMotion.classifier = s.classifier ∧ s.forceMotion.bays = s.bays ∧ s.forceMotion.brc = s.brc ∧
    s.forceMotion.ntq = s.ntq ∧ s.forceMotion.smi = s.smi := by
  simp [State.forceMotion]

@[simp] theorem State.forceTables_frame (mask : Byte) (s : State) :
    (s.forceTables mask).pending = s.pending ∧ (s.forceTables mask).agenda = s.agenda ∧
    (s.forceTables mask).now = s.now ∧ (s.forceTables mask).lines = s.lines ∧ (s.forceTables mask).uli = s.uli ∧
    (s.forceTables mask).ports = s.ports ∧ (s.forceTables mask).polls = s.polls ∧
    (s.forceTables mask).slots = s.slots ∧ (s.forceTables mask).classifier = s.classifier ∧
    (s.forceTables mask).bays = s.bays ∧ (s.forceTables mask).brc = s.brc ∧ (s.forceTables mask).ntq = s.ntq ∧
    (s.forceTables mask).smi = s.smi := by
  unfold State.forceTables
  dsimp only
  (repeat' split) <;> simp

/-- Taking force changes the images in force, and what the controllers still have to be told. -/
@[simp] theorem State.forceTables_sru (mask : Byte) (s : State) :
    (s.forceTables mask).sru.committed = s.sru.committed ∧ (s.forceTables mask).sru.staging = s.sru.staging ∧
    (s.forceTables mask).sru.generation = s.sru.generation ∧ (s.forceTables mask).sru.background = s.sru.background ∧
    (s.forceTables mask).sru.response = s.sru.response := by
  unfold State.forceTables
  dsimp only
  (repeat' split) <;> simp [State.forceSupply, State.forceMotion]

@[simp] theorem takeSupplyTable_frame (s : State) :
    (takeSupplyTable s).1.pending = s.pending ∧ (takeSupplyTable s).1.agenda = s.agenda ∧
    (takeSupplyTable s).1.now = s.now ∧ (takeSupplyTable s).1.lines = s.lines ∧ (takeSupplyTable s).1.uli = s.uli ∧
    (takeSupplyTable s).1.ports = s.ports ∧ (takeSupplyTable s).1.polls = s.polls ∧
    (takeSupplyTable s).1.slots = s.slots ∧
    (takeSupplyTable s).1.classifier = s.classifier ∧ (takeSupplyTable s).1.bays = s.bays ∧
    (takeSupplyTable s).1.brc = s.brc ∧ (takeSupplyTable s).1.mtu = s.mtu ∧ (takeSupplyTable s).1.ntq = s.ntq ∧
    (takeSupplyTable s).1.smi = s.smi := by
  generalize h : takeSupplyTable s = r
  unfold takeSupplyTable at h
  try dsimp only at h
  subst h; simp

@[simp] theorem State.takeLoad_frame (s : State) (answered : Bool) :
    (State.takeLoad s answered).pending = s.pending ∧ (State.takeLoad s answered).agenda = s.agenda ∧
    (State.takeLoad s answered).now = s.now ∧ (State.takeLoad s answered).lines = s.lines ∧
    (State.takeLoad s answered).uli = s.uli ∧ (State.takeLoad s answered).ports = s.ports ∧
    (State.takeLoad s answered).polls = s.polls ∧ (State.takeLoad s answered).slots = s.slots ∧
    (State.takeLoad s answered).ppc = s.ppc ∧ (State.takeLoad s answered).classifier = s.classifier ∧
    (State.takeLoad s answered).bays = s.bays ∧ (State.takeLoad s answered).brc = s.brc ∧
    (State.takeLoad s answered).mtu = s.mtu := by
  generalize h : State.takeLoad s answered = r
  unfold State.takeLoad at h
  try dsimp only at h
  (repeat' split at h) <;> subst h <;> simp

@[simp] theorem openTraffic_frame (answered : Bool) (s : State) :
    (openTraffic answered s).1.pending = s.pending ∧ (openTraffic answered s).1.agenda = s.agenda ∧
    (openTraffic answered s).1.now = s.now ∧ (openTraffic answered s).1.lines = s.lines ∧
    (openTraffic answered s).1.ports = s.ports ∧ (openTraffic answered s).1.polls = s.polls ∧
    (openTraffic answered s).1.slots = s.slots ∧ (openTraffic answered s).1.ppc = s.ppc ∧
    (openTraffic answered s).1.classifier = s.classifier ∧ (openTraffic answered s).1.bays = s.bays ∧
    (openTraffic answered s).1.brc = s.brc ∧ (openTraffic answered s).1.mtu = s.mtu := by
  generalize h : openTraffic answered s = r
  unfold openTraffic at h
  try dsimp only at h
  subst h; simp

@[simp] theorem State.supplyReload_frame (s : State) :
    s.supplyReload.1.pending = s.pending ∧
    s.supplyReload.1.agenda = s.agenda ∧
    s.supplyReload.1.now = s.now ∧
    s.supplyReload.1.lines = s.lines ∧
    s.supplyReload.1.uli = s.uli ∧
    s.supplyReload.1.ports = s.ports ∧
    s.supplyReload.1.polls = s.polls ∧
    s.supplyReload.1.slots = s.slots ∧
    s.supplyReload.1.classifier = s.classifier ∧
    s.supplyReload.1.bays = s.bays ∧
    s.supplyReload.1.brc = s.brc ∧
    s.supplyReload.1.mtu = s.mtu ∧
    s.supplyReload.1.ntq = s.ntq ∧
    s.supplyReload.1.smi = s.smi := by
  unfold State.supplyReload
  split <;> simp

@[simp] theorem actReset_frame (answered : Bool) (s : State) :
    (actReset answered s).1.pending = s.pending ∧ (actReset answered s).1.agenda = s.agenda ∧
    (actReset answered s).1.now = s.now ∧ (actReset answered s).1.lines = s.lines ∧
    (actReset answered s).1.ports = s.ports ∧ (actReset answered s).1.polls = s.polls ∧
    (actReset answered s).1.slots = s.slots ∧ (actReset answered s).1.classifier = s.classifier ∧
    (actReset answered s).1.bays = s.bays ∧ (actReset answered s).1.brc = s.brc := by
  generalize h : actReset answered s = r
  unfold actReset at h
  try dsimp only at h
  subst h; simp

@[simp] theorem onLoadEnd_frame (answered : Bool) (s : State) :
    (onLoadEnd answered s).1.pending = s.pending ∧ (onLoadEnd answered s).1.agenda = s.agenda ∧
    (onLoadEnd answered s).1.now = s.now ∧ (onLoadEnd answered s).1.lines = s.lines ∧
    (onLoadEnd answered s).1.ports = s.ports ∧ (onLoadEnd answered s).1.polls = s.polls ∧
    (onLoadEnd answered s).1.slots = s.slots ∧ (onLoadEnd answered s).1.classifier = s.classifier ∧
    (onLoadEnd answered s).1.bays = s.bays ∧ (onLoadEnd answered s).1.brc = s.brc := by
  generalize h : onLoadEnd answered s = r
  unfold onLoadEnd at h
  try dsimp only at h
  (repeat' split at h) <;> subst h <;> simp

@[simp] theorem onResetDone_frame (s : State) :
    (onResetDone s).pending = s.pending ∧ (onResetDone s).agenda = s.agenda ∧ (onResetDone s).now = s.now ∧
    (onResetDone s).lines = s.lines ∧ (onResetDone s).ports = s.ports ∧ (onResetDone s).polls = s.polls ∧
    (onResetDone s).slots = s.slots ∧ (onResetDone s).ppc = s.ppc ∧ (onResetDone s).classifier = s.classifier ∧
    (onResetDone s).bays = s.bays ∧ (onResetDone s).brc = s.brc ∧ (onResetDone s).mtu = s.mtu ∧
    (onResetDone s).ntq = s.ntq ∧ (onResetDone s).smi = s.smi := by
  generalize h : onResetDone s = r
  unfold onResetDone at h
  try dsimp only at h
  (repeat' split at h) <;> subst h <;> simp

@[simp] theorem savePage_frame (r : SaveRec) (acknowledged : Bool) (held : List Byte) (s : State) :
    (savePage r acknowledged held s).1.pending = s.pending ∧ (savePage r acknowledged held s).1.agenda = s.agenda ∧
    (savePage r acknowledged held s).1.now = s.now ∧ (savePage r acknowledged held s).1.lines = s.lines ∧
    (savePage r acknowledged held s).1.uli = s.uli ∧ (savePage r acknowledged held s).1.ports = s.ports ∧
    (savePage r acknowledged held s).1.polls = s.polls ∧ (savePage r acknowledged held s).1.slots = s.slots ∧
    (savePage r acknowledged held s).1.ppc = s.ppc ∧ (savePage r acknowledged held s).1.classifier = s.classifier ∧
    (savePage r acknowledged held s).1.bays = s.bays ∧ (savePage r acknowledged held s).1.brc = s.brc ∧
    (savePage r acknowledged held s).1.mtu = s.mtu ∧ (savePage r acknowledged held s).1.sru = s.sru ∧
    (savePage r acknowledged held s).1.ntq = s.ntq := by
  generalize h : savePage r acknowledged held s = r
  unfold savePage at h
  try dsimp only at h
  (repeat' split at h) <;> subst h <;> simp

@[simp] theorem onSavePage_frame (acknowledged : Bool) (held : List Byte) (s : State) :
    (onSavePage acknowledged held s).1.pending = s.pending ∧ (onSavePage acknowledged held s).1.agenda = s.agenda ∧
    (onSavePage acknowledged held s).1.now = s.now ∧ (onSavePage acknowledged held s).1.lines = s.lines ∧
    (onSavePage acknowledged held s).1.uli = s.uli ∧ (onSavePage acknowledged held s).1.ports = s.ports ∧
    (onSavePage acknowledged held s).1.polls = s.polls ∧ (onSavePage acknowledged held s).1.slots = s.slots ∧
    (onSavePage acknowledged held s).1.ppc = s.ppc ∧ (onSavePage acknowledged held s).1.classifier = s.classifier ∧
    (onSavePage acknowledged held s).1.bays = s.bays ∧ (onSavePage acknowledged held s).1.brc = s.brc ∧
    (onSavePage acknowledged held s).1.mtu = s.mtu ∧ (onSavePage acknowledged held s).1.sru = s.sru ∧
    (onSavePage acknowledged held s).1.ntq = s.ntq := by
  generalize h : onSavePage acknowledged held s = r
  unfold onSavePage at h
  try dsimp only at h
  (repeat' split at h) <;> subst h <;> simp

@[simp] theorem onRawPage_frame (s : State) :
    (onRawPage s).pending = s.pending ∧ (onRawPage s).agenda = s.agenda ∧ (onRawPage s).now = s.now ∧
    (onRawPage s).lines = s.lines ∧ (onRawPage s).uli = s.uli ∧ (onRawPage s).ports = s.ports ∧
    (onRawPage s).polls = s.polls ∧ (onRawPage s).slots = s.slots ∧ (onRawPage s).ppc = s.ppc ∧
    (onRawPage s).classifier = s.classifier ∧ (onRawPage s).bays = s.bays ∧ (onRawPage s).brc = s.brc ∧
    (onRawPage s).mtu = s.mtu ∧ (onRawPage s).sru = s.sru ∧ (onRawPage s).ntq = s.ntq := by
  generalize h : onRawPage s = r
  unfold onRawPage at h
  try dsimp only at h
  (repeat' split at h) <;> subst h <;> simp

@[simp] theorem State.clearMarks_frame (s : State) (place : Fin 24) :
    (State.clearMarks s place).pending = s.pending ∧ (State.clearMarks s place).agenda = s.agenda ∧
    (State.clearMarks s place).now = s.now ∧ (State.clearMarks s place).lines = s.lines ∧
    (State.clearMarks s place).uli = s.uli ∧ (State.clearMarks s place).ports = s.ports ∧
    (State.clearMarks s place).slots = s.slots ∧ (State.clearMarks s place).ppc = s.ppc ∧
    (State.clearMarks s place).classifier = s.classifier ∧ (State.clearMarks s place).bays = s.bays ∧
    (State.clearMarks s place).brc = s.brc ∧ (State.clearMarks s place).mtu = s.mtu ∧
    (State.clearMarks s place).sru = s.sru ∧ (State.clearMarks s place).ntq = s.ntq ∧
    (State.clearMarks s place).smi = s.smi := by
  generalize h : State.clearMarks s place = r
  unfold State.clearMarks at h
  try dsimp only at h
  subst h; simp

@[simp] theorem State.setLog_frame (s : State) (i : Fin 4) (r : Option DropRec) :
    (State.setLog s i r).pending = s.pending ∧ (State.setLog s i r).agenda = s.agenda ∧
    (State.setLog s i r).now = s.now ∧ (State.setLog s i r).lines = s.lines ∧ (State.setLog s i r).uli = s.uli ∧
    (State.setLog s i r).ports = s.ports ∧ (State.setLog s i r).polls = s.polls ∧
    (State.setLog s i r).slots = s.slots ∧ (State.setLog s i r).ppc = s.ppc ∧
    (State.setLog s i r).classifier = s.classifier ∧ (State.setLog s i r).bays = s.bays ∧
    (State.setLog s i r).brc = s.brc ∧ (State.setLog s i r).sru = s.sru ∧ (State.setLog s i r).ntq = s.ntq ∧
    (State.setLog s i r).smi = s.smi := by
  generalize h : State.setLog s i r = r
  unfold State.setLog at h
  try dsimp only at h
  subst h; simp

@[simp] theorem serviceWrite_frame (code tag : Byte) (p : List Byte) (s : State) :
    (serviceWrite code tag p s).1.pending = s.pending ∧ (serviceWrite code tag p s).1.agenda = s.agenda ∧
    (serviceWrite code tag p s).1.now = s.now ∧ (serviceWrite code tag p s).1.lines = s.lines ∧
    (serviceWrite code tag p s).1.ports = s.ports ∧ (serviceWrite code tag p s).1.polls = s.polls ∧
    (serviceWrite code tag p s).1.slots = s.slots ∧ (serviceWrite code tag p s).1.ppc = s.ppc ∧
    (serviceWrite code tag p s).1.classifier = s.classifier ∧ (serviceWrite code tag p s).1.bays = s.bays ∧
    (serviceWrite code tag p s).1.brc = s.brc ∧ (serviceWrite code tag p s).1.mtu = s.mtu ∧
    (serviceWrite code tag p s).1.sru = s.sru ∧ (serviceWrite code tag p s).1.ntq = s.ntq ∧
    (serviceWrite code tag p s).1.smi = s.smi := by
  generalize h : serviceWrite code tag p s = r
  unfold serviceWrite at h
  try dsimp only at h
  (repeat' split at h) <;> subst h <;> simp

@[simp] theorem onResponseRead_frame (cmd : Byte) (s : State) :
    (onResponseRead cmd s).pending = s.pending ∧ (onResponseRead cmd s).agenda = s.agenda ∧
    (onResponseRead cmd s).now = s.now ∧ (onResponseRead cmd s).lines = s.lines ∧
    (onResponseRead cmd s).ports = s.ports ∧ (onResponseRead cmd s).polls = s.polls ∧
    (onResponseRead cmd s).slots = s.slots ∧ (onResponseRead cmd s).ppc = s.ppc ∧
    (onResponseRead cmd s).classifier = s.classifier ∧ (onResponseRead cmd s).bays = s.bays ∧
    (onResponseRead cmd s).brc = s.brc ∧ (onResponseRead cmd s).mtu = s.mtu ∧ (onResponseRead cmd s).sru = s.sru ∧
    (onResponseRead cmd s).ntq = s.ntq ∧ (onResponseRead cmd s).smi = s.smi := by
  generalize h : onResponseRead cmd s = r
  unfold onResponseRead at h
  try dsimp only at h
  (repeat' split at h) <;> subst h <;> simp

@[simp] theorem alone_frame (s : State) :
    (alone s).1.pending = s.pending ∧ (alone s).1.agenda = s.agenda ∧ (alone s).1.now = s.now ∧
    (alone s).1.lines = s.lines ∧ (alone s).1.uli = s.uli ∧ (alone s).1.ports = s.ports ∧
    (alone s).1.polls = s.polls ∧ (alone s).1.slots = s.slots ∧ (alone s).1.ppc = s.ppc ∧
    (alone s).1.classifier = s.classifier ∧ (alone s).1.bays = s.bays ∧ (alone s).1.brc = s.brc ∧
    (alone s).1.mtu = s.mtu ∧ (alone s).1.sru = s.sru ∧ (alone s).1.ntq = s.ntq ∧ (alone s).1.smi = s.smi := by
  generalize h : alone s = r
  unfold alone at h
  try dsimp only at h
  subst h; simp

@[simp] theorem tellWritten_frame (slot : Fin 32) (old : Slot) (s : State) :
    (tellWritten slot old s).1.pending = s.pending ∧ (tellWritten slot old s).1.agenda = s.agenda ∧
    (tellWritten slot old s).1.now = s.now ∧ (tellWritten slot old s).1.lines = s.lines ∧
    (tellWritten slot old s).1.uli = s.uli ∧ (tellWritten slot old s).1.ports = s.ports ∧
    (tellWritten slot old s).1.polls = s.polls ∧ (tellWritten slot old s).1.slots = s.slots ∧
    (tellWritten slot old s).1.classifier = s.classifier ∧ (tellWritten slot old s).1.brc = s.brc ∧
    (tellWritten slot old s).1.mtu = s.mtu ∧ (tellWritten slot old s).1.sru = s.sru ∧
    (tellWritten slot old s).1.smi = s.smi := by
  generalize h : tellWritten slot old s = r
  unfold tellWritten at h
  try dsimp only at h
  subst h; simp

@[simp] theorem tellLapsed_frame (slot : Fin 32) (s : State) :
    (tellLapsed slot s).1.pending = s.pending ∧ (tellLapsed slot s).1.agenda = s.agenda ∧
    (tellLapsed slot s).1.now = s.now ∧ (tellLapsed slot s).1.lines = s.lines ∧ (tellLapsed slot s).1.uli = s.uli ∧
    (tellLapsed slot s).1.ports = s.ports ∧ (tellLapsed slot s).1.polls = s.polls ∧
    (tellLapsed slot s).1.slots = s.slots ∧ (tellLapsed slot s).1.classifier = s.classifier ∧
    (tellLapsed slot s).1.bays = s.bays ∧ (tellLapsed slot s).1.brc = s.brc ∧ (tellLapsed slot s).1.mtu = s.mtu ∧
    (tellLapsed slot s).1.sru = s.sru ∧ (tellLapsed slot s).1.ntq = s.ntq ∧ (tellLapsed slot s).1.smi = s.smi := by
  generalize h : tellLapsed slot s = r
  unfold tellLapsed at h
  try dsimp only at h
  subst h; simp

end Sys2Proof.Machine
end

