-- ==== Sys2Proof/Laws/Commands.lean ====
section
/-!
SUPPORT. What a command and a step can do, said once: every command but POWER_ON_RESET is the handling of its first change,
and a property that first changes and handlings keep is kept by every step.
-/

namespace Sys2Proof.Machine

/-- The first change of a command's handling, with the work it starts. -/
def commandAct (c : Instr) (x : State) : Act :=
  match c with
  | .powerOnReset => alone x
  | .settingsLoadEnd answered => onLoadEnd answered x
  | .firstAddressByte addr read => alone (onFirstAddress addr read x)
  | .commandByte byte => alone (onCommand byte x)
  | .writeDataByte byte => onDataByte byte x
  | .heldByteRelease => alone (onByteRelease x)
  | .dataHoldStretchLimit => alone (onByteLimit x)
  | .stopCondition => onStop x
  | .repeatedStart addr read => onRepeatedStart addr read x
  | .heldReadLaneHandin => onReadHandin x
  | .heldReadStretchLimit => alone (onReadLimit x)
  | .readoutByte => alone (onReadoutByte x)
  | .hostStallLimit => alone (onStall x)
  | .responseRead => alone (onResponseRead 0xF0 x)
  | .waitingResponseRead => alone (onResponseRead 0xF1 x)
  | .waitingReadLimit => alone (onWaitingLimit x)
  | .unknownRequest code tag payload => serviceWrite code tag payload x
  | .identify tag payload => serviceWrite 0x01 tag payload x
  | .stageWrite tag payload => serviceWrite 0x02 tag payload x
  | .stageRead tag payload => serviceWrite 0x03 tag payload x
  | .tableRead tag payload => serviceWrite 0x04 tag payload x
  | .discard tag payload => serviceWrite 0x05 tag payload x
  | .commit tag payload => serviceWrite 0x06 tag payload x
  | .commitValidationEnd => onValidationEnd x
  | .commitSwitch => onCommitSwitch x
  | .commitLimitExpiry => onCommitLimit x
  | .saveSettings tag payload => serviceWrite 0x07 tag payload x
  | .savePageDone acknowledged held => onSavePage acknowledged held x
  | .settingsRead tag payload answered => serviceWrite 0x08 tag payload (x.setSmi { x.smi with answers := answered })
  | .settingsWrite tag payload => serviceWrite 0x09 tag payload x
  | .rawWritePageDone => alone (onRawPage x)
  | .fetchNotices tag payload => serviceWrite 0x10 tag payload x
  | .setAlertLevel tag payload => serviceWrite 0x11 tag payload x
  | .readTelemetry tag payload => serviceWrite 0x20 tag payload x
  | .readBay tag payload => serviceWrite 0x21 tag payload x
  | .readPower tag payload => serviceWrite 0x22 tag payload x
  | .readBrightness tag payload => serviceWrite 0x23 tag payload x
  | .setBrightness tag payload => serviceWrite 0x24 tag payload x
  | .requestSwap tag payload => serviceWrite 0x25 tag payload x
  | .retryBay tag payload => serviceWrite 0x26 tag payload x
  | .readDrop tag payload => serviceWrite 0x30 tag payload x
  | .clearDrop tag payload => serviceWrite 0x31 tag payload x
  | .readMotion tag payload => serviceWrite 0x32 tag payload x
  | .readPollStatus tag payload => serviceWrite 0x40 tag payload x
  | .readLinkStatus tag payload => serviceWrite 0x41 tag payload x
  | .clearIndicators tag payload => serviceWrite 0x42 tag payload x
  | .softReset tag payload => serviceWrite 0x7F tag payload x
  | .portTransactionComplete seg answer => completeRunning seg answer x
  | .transactionTimeLimit seg => timeOutRunning seg x
  | .recoveryEnd seg => endRecovery seg x
  | .suspensionExpiry seg => endSuspension seg x
  | .periodicDue place => periodicFallsDue place x
  | .setupRunDue place => setupFallsDue place x
  | .admitRunDue place => admissionFallsDue place x
  | .slotStale slot => if x.expired slot then makeStale slot x else alone x
  | .lineLevelChange bay line active => alone (onLine bay line active x)
  | .latchChange bay => onLatch bay x
  | .presenceRise bay => if (x.bay bay).presenceFilter.line then onPresence bay x else alone x
  | .presenceFall bay => if (x.bay bay).presenceFilter.line then alone x else onPresence bay x
  | .seatTimerExpiry bay => onSeatExpiry bay x
  | .identifyTimerExpiry bay => onIdentifyExpiry bay x
  | .dcinOkChange high => onDcin high x
  | .feedbackConducting src conducting => onFeedback src conducting x
  | .confirmTimerExpiry => expireConfirm x
  | .startupLimitExpiry => expireStartup x
  | .dwellTimerExpiry => expireDwell x
  | .bridgeTimerExpiry => expireBridge x
  | .stepTimerExpiry => onStepTimer x
  | .accWmChange asserted => onAccWm asserted x
  | .motionRetryTimer => onRetryTimer x
  | .sampleLossExpiry => onSampleLoss x
  | .fallLimitExpiry => onFallLimit x
  | .settleLimitExpiry => onSettleLimit x
  | .parkHoldExpiry => alone (parkExpires x)
  | .shockHoldExpiry => shockExpires x

/-- Every command but POWER_ON_RESET is the handling of its first change. -/
theorem exec_eq {c : Instr} (h : c ≠ .powerOnReset) (s : State) : exec c s = .next (perform (commandAct c) s) := by
  cases c <;> first | rfl | exact absurd rfl h

/-- What a command can answer: the state after power-on reset, or the state its handling leaves. -/
theorem exec_cases {c : Instr} {s t : State} (h : exec c s = .next t) :
    (c = .powerOnReset ∧ t = State.afterReset s.pending s.lines
      { a := s.bays.a.latchFilter.line, b := s.bays.b.latchFilter.line }
      { a := s.bays.a.presenceFilter.line, b := s.bays.b.presenceFilter.line } s.smi.memory s.smi.answers) ∨
    (c ≠ .powerOnReset ∧ t = perform (commandAct c) s) := by
  by_cases hc : c = .powerOnReset
  · subst hc
    exact .inl ⟨rfl, (Host.Outcome.next.inj h).symm⟩
  · rw [exec_eq hc] at h
    exact .inr ⟨hc, (Host.Outcome.next.inj h).symm⟩

/-- A property kept by power-on reset, by every first change and by every handling is kept by every command. -/
theorem exec_keeps (P : State → Prop) (leftover : ∀ s ts, P s → P { s with agenda := ts })
    (kept : ∀ t s, P s → P (handle t s).1) (acts : ∀ c s, P s → P (commandAct c s).1)
    (reset : ∀ s a b, P s → P (State.afterReset s.pending s.lines a b s.smi.memory s.smi.answers)) {c : Instr}
    {s t : State} (hp : P s) (h : exec c s = .next t) : P t := by
  rcases exec_cases h with ⟨-, rfl⟩ | ⟨-, rfl⟩
  · exact reset s _ _ hp
  · exact perform_keeps P leftover kept _ (acts c) s hp

/-- A property of that kind that reads neither the queue of commands nor the timebase is kept by every step. -/
theorem step_keeps (P : State → Prop) (leftover : ∀ s ts, P s → P { s with agenda := ts })
    (queue : ∀ s cs, P s → P { s with pending := cs }) (timebase : ∀ s n, P s → P { s with now := n })
    (kept : ∀ t s, P s → P (handle t s).1) (acts : ∀ c s, P s → P (commandAct c s).1)
    (reset : ∀ s a b, P s → P (State.afterReset s.pending s.lines a b s.smi.memory s.smi.answers))
    {s t : State} (hp : P s) (h : step s = .next t) : P t := by
  unfold step at h
  split at h
  · exact exec_keeps P leftover kept acts reset (queue s _ hp) h
  · cases h
    exact perform_keeps P leftover kept _ (fun _ h => h) _ (timebase s _ hp)

/-! ## What requests and handlings leave unchanged -/

@[simp] theorem State.mapPorts_frame (s : State) (segs : List Seg) (f : Port → Port) :
    (s.mapPorts segs f).pending = s.pending ∧ (s.mapPorts segs f).agenda = s.agenda ∧
    (s.mapPorts segs f).now = s.now ∧ (s.mapPorts segs f).lines = s.lines ∧ (s.mapPorts segs f).uli = s.uli ∧
    (s.mapPorts segs f).polls = s.polls ∧ (s.mapPorts segs f).slots = s.slots ∧ (s.mapPorts segs f).ppc = s.ppc ∧
    (s.mapPorts segs f).classifier = s.classifier ∧ (s.mapPorts segs f).bays = s.bays ∧
    (s.mapPorts segs f).brc = s.brc ∧ (s.mapPorts segs f).mtu = s.mtu ∧ (s.mapPorts segs f).sru = s.sru ∧
    (s.mapPorts segs f).ntq = s.ntq ∧ (s.mapPorts segs f).smi = s.smi := by
  refine ⟨?_, ?_, ?_, ?_, ?_, ?_, ?_, ?_, ?_, ?_, ?_, ?_, ?_, ?_, ?_⟩ <;>
    exact foldl_keeps _ _ (fun s i => by simp) _ _

/-- What an answer to a request leaves unchanged (R173, R174). -/
@[simp] theorem Request.act_frame (r : Request) (p : List Byte) (s : State) :
    (r.act p s).state.pending = s.pending ∧ (r.act p s).state.agenda = s.agenda ∧ (r.act p s).state.now = s.now ∧
    (r.act p s).state.lines = s.lines ∧ (r.act p s).state.uli = s.uli ∧ (r.act p s).state.slots = s.slots ∧
    (r.act p s).state.ppc = s.ppc ∧ (r.act p s).state.classifier = s.classifier := by
  generalize h : r.act p s = a
  cases r <;>
    simp only [Request.act, requestIdentify, requestStageWrite, requestStageRead, requestTableRead, requestDiscard,
      requestCommit, requestSave, requestSettingsRead, requestSettingsWrite, requestFetch, requestAlertLevel,
      requestTelemetry, requestReadBay, requestReadPower, requestReadBrightness, requestBrightness, requestSwapOf,
      requestRetry, requestReadDrop, requestClearDrop, requestReadMotion, requestReadPoll, requestReadLink,
      requestClearIndicators, requestReset, readImageRun, longRead, firstPart, laterPart, acceptCommit] at h <;>
    (repeat' split at h) <;> subst h <;>
    simp [refusal, reading, acting, State.clearMarks, State.setLog]

/-! ## The tables and the memory in force -/

/-- What every handling leaves unchanged of the tables and of the private memory: the generation, the committed images
apart from the indicators of ROUTES, the load result and the memory's bytes. -/
structure SameSettings (s t : State) : Prop where
  generation : t.sru.generation = s.sru.generation
  guards : t.sru.committed.guards = s.sru.committed.guards
  polls : t.sru.committed.polls = s.sru.committed.polls
  snoops : t.sru.committed.snoops = s.sru.committed.snoops
  slots : t.sru.committed.slots = s.sru.committed.slots
  light : t.sru.committed.light = s.sru.committed.light
  supply : t.sru.committed.supply = s.sru.committed.supply
  motion : t.sru.committed.motion = s.sru.committed.motion
  result : t.smi.result = s.smi.result
  memory : t.smi.memory = s.smi.memory

/-- An operation that changes neither the service unit nor the settings interface keeps the settings. -/
theorem SameSettings.of_eq {s t : State} (hs : t.sru = s.sru) (hm : t.smi = s.smi) : SameSettings s t := by
  constructor <;> simp [hs, hm]

theorem SameSettings.trans {s t u : State} (h : SameSettings s t) (k : SameSettings t u) : SameSettings s u := by
  constructor <;> simp [k.1, k.2, k.3, k.4, k.5, k.6, k.7, k.8, k.9, k.10, h.1, h.2, h.3, h.4, h.5, h.6, h.7, h.8, h.9, h.10]

/-- An answer to a request keeps the settings (R178, R195: a staging image and the activity change at most). -/
theorem Request.act_settings (r : Request) (p : List Byte) (s : State) : SameSettings s (r.act p s).state := by
  generalize h : r.act p s = a
  cases r <;>
    simp only [Request.act, requestIdentify, requestStageWrite, requestStageRead, requestTableRead, requestDiscard,
      requestCommit, requestSave, requestSettingsRead, requestSettingsWrite, requestFetch, requestAlertLevel,
      requestTelemetry, requestReadBay, requestReadPower, requestReadBrightness, requestBrightness, requestSwapOf,
      requestRetry, requestReadDrop, requestClearDrop, requestReadMotion, requestReadPoll, requestReadLink,
      requestClearIndicators, requestReset, readImageRun, longRead, firstPart, laterPart, acceptCommit] at h <;>
    (repeat' split at h) <;> subst h <;> constructor <;>
    simp [refusal, reading, acting, State.clearMarks, State.setLog]

theorem respond_settings (code tag : Byte) (a : Answer) : SameSettings a.state (respond code tag a).1 := by
  constructor <;> simp [respond]

theorem decodeRequest_settings (code tag : Byte) (p : List Byte) (s : State) :
    SameSettings s (decodeRequest code tag p s).1 := by
  have refused : ∀ status, SameSettings s (refusal status s).state := fun _ => .of_eq rfl rfl
  have answered : ∀ r, SameSettings s (answerOf r p s).state := fun r => by
    unfold answerOf
    (repeat' split) <;> first | exact refused _ | exact Request.act_settings r p s
  unfold decodeRequest
  split
  · exact (answered _).trans (respond_settings code tag _)
  · exact (refused _).trans (respond_settings code tag _)

theorem State.writeEnd_settings (code : Byte) (status : Status) (payload : List Byte) (s : State) :
    SameSettings s (s.writeEnd code status payload) := by
  unfold State.writeEnd
  dsimp only
  split <;> constructor <;> simp

theorem onBackgroundEnd_settings (status : Status) (payload : List Byte) (s : State) :
    SameSettings s (onBackgroundEnd status payload s) :=
  SameSettings.trans (t := s.setSru { s.sru with background := .none }) (by constructor <;> rfl)
    (State.writeEnd_settings ..)

theorem onSwapEnd_settings (bay : Bay) (s : State) : SameSettings s (onSwapEnd bay s) := by
  unfold onSwapEnd
  (repeat' split) <;> first | exact onBackgroundEnd_settings .. | exact .of_eq rfl rfl

theorem onResetDone_settings (s : State) : SameSettings s (onResetDone s) :=
  SameSettings.trans (t := s.setSru { s.sru with resetPending := false, gaveUp := false }) (by constructor <;> rfl)
    (State.writeEnd_settings ..)

theorem markWritten_settings (t : LaneTxn) (s : State) : SameSettings s (markWritten t s) := by
  unfold markWritten
  (repeat' split) <;> constructor <;> rfl

theorem State.markUsed_settings (s : State) (e : RouteSnap) : SameSettings s (s.markUsed e) := by
  unfold State.markUsed
  (repeat' split) <;> constructor <;> rfl

theorem onFirstAddress_settings (addr : Addr) (read : Bool) (s : State) :
    SameSettings s (onFirstAddress addr read s) := by
  have opened : SameSettings s (openTransaction addr read s) := by
    unfold openTransaction
    dsimp only
    (repeat' split) <;>
      first
      | (refine .of_eq ?_ ?_ <;> (simp; done))
      | (refine SameSettings.trans (State.markUsed_settings s ‹RouteSnap›) (.of_eq ?_ ?_) <;> simp)
  unfold onFirstAddress
  split <;> first | exact opened | exact .of_eq (by simp) (by simp)

theorem atBoundary_settings (seg : Seg) (s : State) : SameSettings s (atBoundary seg s).1 := by
  have placed : ∀ p, SameSettings s (s.setPort seg p) := fun p => .of_eq rfl rfl
  generalize h : atBoundary seg s = r
  unfold atBoundary at h
  dsimp only at h
  (repeat' split at h) <;> subst h <;>
    first
    | exact (placed _).trans (markWritten_settings _ _)
    | exact .of_eq (by simp) (by simp)

theorem takeMotionTable_settings (s : State) : SameSettings s (takeMotionTable s).1 := by
  unfold takeMotionTable
  split <;> constructor <;> simp

theorem takeSupplyTable_settings (s : State) : SameSettings s (takeSupplyTable s).1 := by
  constructor <;> simp [takeSupplyTable, State.forceSupply]

@[simp] theorem engineDone_frame (seg : Seg) (t : EngTxn) (outcome : TxOutcome) (reason : Option AbsentReason)
    (data : List Byte) (s : State) :
    (engineDone seg t outcome reason data s).1.pending = s.pending ∧ (engineDone seg t outcome reason data s).1.agenda = s.agenda ∧
    (engineDone seg t outcome reason data s).1.now = s.now ∧ (engineDone seg t outcome reason data s).1.lines = s.lines ∧
    (engineDone seg t outcome reason data s).1.uli = s.uli ∧ (engineDone seg t outcome reason data s).1.ports = s.ports ∧
    (engineDone seg t outcome reason data s).1.slots = s.slots ∧ (engineDone seg t outcome reason data s).1.ppc = s.ppc ∧
    (engineDone seg t outcome reason data s).1.classifier = s.classifier ∧
    (engineDone seg t outcome reason data s).1.bays = s.bays ∧ (engineDone seg t outcome reason data s).1.sru = s.sru ∧
    (engineDone seg t outcome reason data s).1.smi = s.smi := by
  unfold engineDone
  split <;> simp [alone]

theorem engineDone_settings (seg : Seg) (t : EngTxn) (outcome : TxOutcome) (reason : Option AbsentReason)
    (data : List Byte) (s : State) : SameSettings s (engineDone seg t outcome reason data s).1 := .of_eq (by simp) (by simp)

/-- Every handling keeps the settings: the committed images change at a load and at a commit switch alone (R181, R191),
apart from the indicators of ROUTES, and the private memory at a page (R194, R195). -/
theorem handle_settings (t : Task) (s : State) : SameSettings s (handle t s).1 := by
  cases t
  case openTxn addr read => exact onFirstAddress_settings addr read s
  case request code tag payload => exact decodeRequest_settings code tag payload s
  case malformed code tag =>
    exact SameSettings.trans (t := (refusal .badLength s).state) (.of_eq rfl rfl) (respond_settings code tag _)
  case boundary seg => exact atBoundary_settings seg s
  case engineDone seg x outcome reason data => exact engineDone_settings seg x outcome reason data s
  case swapEnd bay => exact onSwapEnd_settings bay s
  case backgroundEnd status payload => exact onBackgroundEnd_settings status payload s
  case resetDone => exact onResetDone_settings s
  case motionSwitch => exact takeMotionTable_settings s
  case supplySwitch => exact takeSupplyTable_settings s
  case flagChanged => exact .of_eq rfl rfl
  all_goals exact .of_eq (by simp [handle, alone]) (by simp [handle, alone])

@[simp] theorem respond_frame (code tag : Byte) (a : Answer) :
    (respond code tag a).1.pending = a.state.pending ∧ (respond code tag a).1.agenda = a.state.agenda ∧
    (respond code tag a).1.now = a.state.now ∧ (respond code tag a).1.lines = a.state.lines ∧
    (respond code tag a).1.uli = a.state.uli ∧ (respond code tag a).1.ports = a.state.ports ∧
    (respond code tag a).1.polls = a.state.polls ∧ (respond code tag a).1.slots = a.state.slots ∧
    (respond code tag a).1.ppc = a.state.ppc ∧ (respond code tag a).1.classifier = a.state.classifier ∧
    (respond code tag a).1.bays = a.state.bays ∧ (respond code tag a).1.brc = a.state.brc ∧
    (respond code tag a).1.mtu = a.state.mtu ∧ (respond code tag a).1.ntq = a.state.ntq ∧
    (respond code tag a).1.smi = a.state.smi := by
  simp [respond]

@[simp] theorem decodeRequest_frame (code tag : Byte) (p : List Byte) (s : State) :
    (decodeRequest code tag p s).1.pending = s.pending ∧ (decodeRequest code tag p s).1.agenda = s.agenda ∧
    (decodeRequest code tag p s).1.now = s.now ∧ (decodeRequest code tag p s).1.lines = s.lines ∧
    (decodeRequest code tag p s).1.uli = s.uli ∧ (decodeRequest code tag p s).1.slots = s.slots ∧
    (decodeRequest code tag p s).1.ppc = s.ppc ∧ (decodeRequest code tag p s).1.classifier = s.classifier := by
  generalize h : decodeRequest code tag p s = r
  unfold decodeRequest answerOf at h
  (repeat' split at h) <;> subst h <;> simp [refusal]

/-- Every handling leaves the queue of commands, the timebase and the input lines as they are. -/
@[simp] theorem handle_frame (t : Task) (s : State) :
    (handle t s).1.pending = s.pending ∧ (handle t s).1.now = s.now ∧ (handle t s).1.lines = s.lines := by
  cases t <;> simp [handle, alone, decodeMalformed, refusal, takeSupplyTable]

@[simp] theorem switchCommit_frame (c : CommitRec) (s : State) :
    (switchCommit c s).1.pending = s.pending ∧ (switchCommit c s).1.now = s.now ∧
    (switchCommit c s).1.lines = s.lines ∧ (switchCommit c s).1.uli = s.uli ∧ (switchCommit c s).1.polls = s.polls ∧
    (switchCommit c s).1.slots = s.slots ∧
    (switchCommit c s).1.classifier = s.classifier ∧ (switchCommit c s).1.bays = s.bays ∧
    (switchCommit c s).1.brc = s.brc ∧ (switchCommit c s).1.ntq = s.ntq ∧ (switchCommit c s).1.smi = s.smi := by
  simp [switchCommit]

@[simp] theorem onCommitSwitch_frame (s : State) :
    (onCommitSwitch s).1.pending = s.pending ∧ (onCommitSwitch s).1.now = s.now ∧
    (onCommitSwitch s).1.lines = s.lines ∧ (onCommitSwitch s).1.uli = s.uli ∧ (onCommitSwitch s).1.polls = s.polls ∧
    (onCommitSwitch s).1.slots = s.slots ∧
    (onCommitSwitch s).1.classifier = s.classifier ∧ (onCommitSwitch s).1.bays = s.bays ∧
    (onCommitSwitch s).1.brc = s.brc ∧ (onCommitSwitch s).1.ntq = s.ntq ∧ (onCommitSwitch s).1.smi = s.smi := by
  unfold onCommitSwitch
  (repeat' split) <;> simp

@[simp] theorem onCommitLimit_frame (s : State) :
    (onCommitLimit s).1.pending = s.pending ∧ (onCommitLimit s).1.now = s.now ∧
    (onCommitLimit s).1.lines = s.lines ∧ (onCommitLimit s).1.uli = s.uli ∧ (onCommitLimit s).1.polls = s.polls ∧
    (onCommitLimit s).1.slots = s.slots ∧
    (onCommitLimit s).1.classifier = s.classifier ∧ (onCommitLimit s).1.bays = s.bays ∧
    (onCommitLimit s).1.brc = s.brc ∧ (onCommitLimit s).1.ntq = s.ntq ∧ (onCommitLimit s).1.smi = s.smi := by
  unfold onCommitLimit
  (repeat' split) <;> simp

/-- A command's first change leaves the queue of commands and the timebase as they are. -/
@[simp] theorem commandAct_frame (c : Instr) (s : State) :
    (commandAct c s).1.pending = s.pending ∧ (commandAct c s).1.now = s.now := by
  cases c <;> first
    | simp [commandAct, alone, makeStale]; done
    | (simp only [commandAct]; split <;> simp [alone, makeStale])

end Sys2Proof.Machine
end

