-- ==== Sys2Proof/Laws/Ends.lean ====
section
/-!
SUPPORT. What an end does, said once: the end of an operation in its response record and in the read held for it (R175,
R176), the end of a commit hold at ports that begin nothing (R42), and the Power Path Controller's record after an emergency
takeover from the ON source (R85).
-/

namespace Sys2Proof.Machine

/-! ## The response record -/

/-- Bytes that fit are padded behind. -/
theorem pad32_short (bytes : List Byte) (h : bytes.length ≤ 32) :
    pad32 bytes = bytes ++ List.replicate (32 - bytes.length) 0xFF := by
  unfold pad32
  apply List.ext_getElem
  · simp; omega
  · intro i h1 h2
    simp only [List.length_map, List.length_range] at h1
    simp only [List.getElem_map, List.getElem_range, List.getD_eq_getElem?_getD]
    by_cases hi : i < bytes.length
    · simp [hi]
    · rw [List.getElem_append_right (by omega)]
      simp [List.getElem?_eq_none (by omega : bytes.length ≤ i)]

/-- The end of an operation while a waiting read is held: written into its own record, with which the read is answered;
nothing, where the record belongs to another (R175, R176). -/
theorem writeEnd_released (s : State) (r : Response) (h : s.waitsFor r) (code : Byte) (status : Status)
    (payload : List Byte) (hp : payload.length ≤ 28) :
    (r.code = code → s.writeEnd code status payload = s.released r status payload) ∧
    (r.code ≠ code → s.writeEnd code status payload = s) := by
  obtain ⟨hph, ⟨t, ht, hn⟩, hr, hc⟩ := h
  constructor
  · intro hk
    have := pad32_short ([BitVec.ofNat 8 payload.length, r.code, r.tag, BitVec.ofNat 8 (statusCode status)] ++ payload)
      (by simp; omega)
    simp [State.writeEnd, hr, endResponse, hc, hk, State.setSru, releaseWaiting, State.heldService, hph, ht, hn,
      answerResponse, responseBuffer, State.released, State.answering, State.setUli, Uli.toReadout] at this ⊢
    rw [this]
  · intro hk
    have : s.setSru { s.sru with response := some r } = s := by rw [← hr]; rfl
    simp [State.writeEnd, hr, endResponse, hc, hk, this]

/-- A background operation ends while a waiting read is held for its record. -/
theorem backgroundEnd_released (s : State) (r : Response) (h : s.waitsFor r) (status : Status)
    (payload : List Byte) (hp : payload.length ≤ 28) (hc : r.code = backgroundCode s.sru.background) :
    handle (.backgroundEnd status payload) s =
      (State.released { s with sru := { s.sru with background := .none } } r status payload, []) := by
  have hf : State.waitsFor { s with sru := { s.sru with background := .none } } r := h
  have := (writeEnd_released _ r hf _ status payload hp).1 hc
  simp only [handle, alone, onBackgroundEnd, State.setSru]
  rw [this]

/-! ## Ports that begin nothing -/

/-- A port without its commit hold. -/
def Port.freed (p : Port) : Port := { p with mark := .none }

/-- A port replaced by itself. -/
theorem State.setPort_id (s : State) (seg : Seg) : s.setPort seg (s.port seg) = s := by
  cases seg <;> rfl

/-- Without a commit hold no port becomes READY (R42). -/
theorem Port.readyMark_none (p : Port) (h : p.mark = .none) : { p with mark := p.readyMark } = p := by
  cases p; simp_all [Port.readyMark]

/-- A boundary at a port that begins nothing (R32). -/
theorem boundary_rests (seg : Seg) (s : State) (h : (s.port seg).rests) (hm : (s.port seg).mark = .none) :
    handle (.boundary seg) s = (s, []) := by
  simp only [handle, atBoundary]
  by_cases hi : (s.port seg).state = .idle
  · obtain ⟨hq, hl⟩ := h.resolve_left (by simp [hi])
    have hs : (s.port seg).select = none := by simp [Port.select, hq, hl, firstOf, hm]
    rw [Port.readyMark_none _ hm, hs, State.setPort_id]
    simp [hi]
  · simp [hi]

/-- The end of a port's hold leaves every port that begins nothing such a port. -/
theorem rests_setPort (s : State) (seg g : Seg) (h : (s.port g).rests) :
    ((s.setPort seg (s.port seg).freed).port g).rests := by
  by_cases e : g = seg
  · subst e; rw [State.setPort_port_self]; exact h
  · rw [State.setPort_port_ne _ _ e]; exact h

/-- The ends of the holds of a failed commit, at ports that begin nothing: the marks alone change. -/
theorem run_unholds (segs : List Seg) : ∀ (s : State) (rest : List Task) (fuel : Nat),
    (∀ g ∈ segs, (s.port g).rests) → 2 * segs.length ≤ fuel → ∃ n, fuel - 2 * segs.length ≤ n ∧
    run fuel (segs.map Task.unhold ++ rest) s = run n rest (s.mapPorts segs Port.freed) := by
  induction segs with
  | nil => intro s rest fuel _ _; exact ⟨fuel, by simp, rfl⟩
  | cons g gs ih =>
    intro s rest fuel h hf
    simp only [List.length_cons] at hf
    obtain ⟨f, rfl⟩ : ∃ f, fuel = f + 2 := ⟨fuel - 2, by omega⟩
    have hs : ∀ x ∈ gs, ((s.setPort g (s.port g).freed).port x).rests := fun x hx =>
      rests_setPort s g x (h x (List.mem_cons_of_mem _ hx))
    have hg := rests_setPort s g g (h g (List.mem_cons_self ..))
    have hb := boundary_rests g _ hg (by simp [State.setPort_port_self, Port.freed])
    have hu : handle (.unhold g) s = (s.setPort g (s.port g).freed, boundaryIfIdle (s.port g) g) := rfl
    simp only [List.map_cons, List.cons_append]
    rw [run_cons, hu]
    by_cases hi : (s.port g).state = .idle
    · obtain ⟨n, hn, e⟩ := ih _ rest f hs (by omega)
      refine ⟨n, by simp; omega, ?_⟩
      simp only [boundaryIfIdle, hi, ↓reduceIte, List.cons_append, List.nil_append]
      rw [run_cons, hb, List.nil_append, e]; rfl
    · obtain ⟨n, hn, e⟩ := ih _ rest (f + 1) hs (by omega)
      refine ⟨n, by simp; omega, ?_⟩
      simp only [boundaryIfIdle, hi, List.nil_append, ↓reduceIte]
      rw [e]; rfl

/-- The boundaries after a switch, at ports that begin nothing. -/
theorem run_boundaries (segs : List Seg) : ∀ (s : State) (fuel : Nat),
    (∀ g ∈ segs, (s.port g).rests ∧ (s.port g).mark = .none) → segs.length ≤ fuel →
    run fuel (segs.map Task.boundary) s = s := by
  induction segs with
  | nil => intro s fuel _ _; simp
  | cons g gs ih =>
    intro s fuel h hf
    simp only [List.length_cons] at hf
    obtain ⟨f, rfl⟩ : ∃ f, fuel = f + 1 := ⟨fuel - 1, by omega⟩
    have hg := h g (List.mem_cons_self ..)
    rw [List.map_cons, run_cons, boundary_rests g s hg.1 hg.2]
    exact ih s f (fun x hx => h x (List.mem_cons_of_mem _ hx)) (by omega)

/-- A port of a commit after the end of its holds. -/
theorem mapPorts_port (segs : List Seg) : ∀ (s : State) (g : Seg),
    g ∈ segs ∨ (s.port g).mark = .none → (s.port g).rests →
    ((s.mapPorts segs Port.freed).port g).rests ∧ ((s.mapPorts segs Port.freed).port g).mark = .none := by
  induction segs with
  | nil => intro s g h hr; exact ⟨hr, h.resolve_left (by simp)⟩
  | cons x xs ih =>
    intro s g h hr
    have : (s.mapPorts (x :: xs) Port.freed) = (s.setPort x (s.port x).freed).mapPorts xs Port.freed := rfl
    rw [this]
    refine ih _ g ?_ (rests_setPort s x g hr)
    by_cases e : g = x
    · subst e; right; simp [State.setPort_port_self, Port.freed]
    · rw [State.setPort_port_ne _ _ e]
      rcases h with h | h
      · exact .inl ((List.mem_cons.1 h).resolve_left e)
      · exact .inr h

/-- The segments of a commit are those it holds. -/
theorem segments_mem (c : CommitRec) (g : Seg) : g ∈ c.segments ↔ c.held.get g = true := by
  simp only [CommitRec.segments, List.mem_filter]
  constructor
  · exact fun h => h.2
  · intro h; refine ⟨?_, h⟩; cases g <;> decide

/-- They are at most four. -/
theorem segments_length (c : CommitRec) : c.segments.length ≤ 4 := List.length_filter_le _ _

/-- A change of ports leaves a held waiting read. -/
theorem waitsFor_mapPorts (s : State) (r : Response) (segs : List Seg) (f : Port → Port) (h : s.waitsFor r) :
    (s.mapPorts segs f).waitsFor r := by simpa [State.waitsFor] using h

/-- A change of ports and one of the Service Request Unit, in either order. -/
theorem mapPorts_sru (f : Port → Port) (segs : List Seg) : ∀ (s : State) (x : Sru),
    State.mapPorts { s with sru := x } segs f = { s.mapPorts segs f with sru := x } := by
  induction segs with
  | nil => intro s x; rfl
  | cons g gs ih =>
    intro s x
    show State.mapPorts (State.setPort { s with sru := x } g _) gs f = { State.mapPorts (s.setPort g _) gs f with sru := x }
    rw [← ih]; cases g <;> rfl

/-! ## An emergency takeover -/

/-- A source that leaves ON: what its bay is told changes nothing of the Power Path Controller. -/
@[simp] theorem commandOff_ppc (x : Src) (sw : Switch) (s : State) :
    (commandOff x sw s).1.ppc = (s.leaveOn x sw).ppc := by
  cases x <;> simp [commandOff, tellBay, srcBay]

/-- A source that is commanded ON: what its bay is told changes nothing of the Power Path Controller. -/
@[simp] theorem commandOn_ppc (x : Src) (s : State) : (commandOn x s).1.ppc = (s.setSwitch x .on).ppc := by
  cases x <;> simp [commandOn, tellBay, srcBay]

/-- The Power Path Controller after a takeover from the ON source (R79, R81, R85, R88). -/
theorem takeOver_lost_ppc (x c : Src) (urgent : Bool) (s : State) (ho : s.ppc.onSrc = some x) :
    (takeOver x c urgent s).1.ppc =
      let s1 := ((s.leaveOn x .off).setSwitch c .on).carriesFrom c
      { s1.ppc.nowOn c (s.dwellStart c) with
        moving := true
        bridge := if c = .br then s.bridgeStart .br else none
        record := some (takeoverRecord x c s.now)
        waitRelease := match s.ppc.onSrc.bind srcBay with
          | some bay => s.ppc.waitRelease.set bay none
          | none => s.ppc.waitRelease } := by
  have e : ∀ u v : State, u.ppc = v.ppc → u.now = v.now → (u.carriesFrom c).ppc = (v.carriesFrom c).ppc := by
    intro u v h1 h2
    simp [State.carriesFrom, State.source, h1, h2]
  have e2 : ∀ u v : State, u.ppc = v.ppc → (u.setSwitch c .on).ppc = (v.setSwitch c .on).ppc := by
    intro u v h1
    simp [State.setSwitch, State.source, h1]
  have k : ((commandOn c (leaveForTakeover x s).1).1.carriesFrom c).ppc =
      (((s.leaveOn x .off).setSwitch c .on).carriesFrom c).ppc := by
    apply e
    · rw [commandOn_ppc]
      apply e2
      simp [leaveForTakeover, ho]
    · simp [State.setSwitch]
  simp only [takeOver, State.notify_ppc]
  rw [k]
  all_goals (cases s.ppc.onSrc.bind srcBay <;> rfl)

end Sys2Proof.Machine
end

