-- ==== Sys2Proof/Laws/Notices.lean ====
section
/-!
SUPPORT. What the notice queue can do (R185 to R190): outside requests and resets every handling only posts to it, each
post keeps its bound and ALERT_N, and no post takes an URGENT record out.
-/

namespace Sys2Proof.Machine

/-- One queue comes from another by posts alone. -/
inductive Posts (q : Ntq) : Ntq → Prop
  | refl : Posts q q
  | post {r : Ntq} (now : Time) (p : Post) : Posts q r → Posts q (r.post now p)

theorem Posts.of_eq {q r : Ntq} (h : r = q) : Posts q r := h ▸ .refl

theorem Posts.trans {q r x : Ntq} (h : Posts q r) (k : Posts r x) : Posts q x := by
  induction k with
  | refl => exact h
  | post now p _ ih => exact .post now p ih

/-- A property that every post keeps. -/
theorem Posts.keeps (P : Ntq → Prop) (post : ∀ q now p, P q → P (q.post now p)) {q r : Ntq} (h : Posts q r) (hq : P q) :
    P r := by
  induction h with
  | refl => exact hq
  | post now p _ ih => exact post _ now p ih

theorem changeFirst_length (test : Notice → Bool) (f : Notice → Notice) (l : List Notice) :
    (changeFirst test f l).length = l.length := by
  induction l with
  | nil => rfl
  | cons n ns ih => rw [changeFirst]; split <;> simp [ih]

@[simp] theorem changeNewest_length (test : Notice → Bool) (f : Notice → Notice) (l : List Notice) :
    (changeNewest test f l).length = l.length := by simp [changeNewest, changeFirst_length]

/-- A record of a changed queue: one that was there, changed or not. -/
theorem mem_changeNewest {test : Notice → Bool} {f : Notice → Notice} {l : List Notice} {n : Notice} (h : n ∈ l) :
    n ∈ changeNewest test f l ∨ f n ∈ changeNewest test f l := by
  have first : ∀ l : List Notice, n ∈ l → n ∈ changeFirst test f l ∨ f n ∈ changeFirst test f l := by
    intro l
    induction l with
    | nil => intro h; cases h
    | cons m ms ih =>
      intro h
      rw [changeFirst]
      rcases List.mem_cons.1 h with rfl | h
      · split <;> simp
      · split
        · exact .inl (List.mem_cons_of_mem _ h)
        · exact (ih h).imp (List.mem_cons_of_mem _) (List.mem_cons_of_mem _)
  simpa [changeNewest] using first l.reverse (by simpa using h)

/-- A post never makes the queue longer than 16 records (R186, R187). -/
theorem Ntq.post_length (q : Ntq) (now : Time) (p : Post) (h : q.queue.length ≤ noticeLimit) :
    (q.post now p).queue.length ≤ noticeLimit := by
  have drop : ∀ test : Notice → Bool, q.queue.any test = true → (dropOldest test q.queue).length + 1 ≤ noticeLimit := by
    intro test ht
    rw [dropOldest, List.length_eraseP, if_pos ht]
    have : 0 < q.queue.length := by
      cases hq : q.queue with
      | nil => simp [hq] at ht
      | cons => simp
    omega
  unfold Ntq.post Ntq.alert postFull
  dsimp only
  (repeat' split) <;> first
    | (simp only [List.length_append, List.length_singleton]; omega)
    | (simp only [List.length_append, List.length_singleton]; exact drop _ (by assumption))
    | simpa using h

/-- After a post ALERT_N follows the queue (R190). -/
theorem Ntq.post_alert (q : Ntq) (now : Time) (p : Post) :
    (q.post now p).alertLow = (q.post now p).queue.any fun n => atOrAbove (q.post now p).alertLevel n.severity := rfl

/-- A post takes no URGENT record out (R186, R187). -/
theorem Ntq.post_urgent (q : Ntq) (now : Time) (p : Post) {n : Notice} (hn : n ∈ q.queue) (hu : n.severity = .urgent) :
    ∃ m ∈ (q.post now p).queue, m.seq = n.seq ∧ m.severity = .urgent := by
  have kept : ∀ l : List Notice, n ∈ l → ∃ m ∈ l, m.seq = n.seq ∧ m.severity = .urgent := fun l h => ⟨n, h, rfl, hu⟩
  have changed : ∀ (test : Notice → Bool) (f : Notice → Notice), (f n).seq = n.seq → (f n).severity = .urgent →
      ∃ m ∈ changeNewest test f q.queue, m.seq = n.seq ∧ m.severity = .urgent := fun test f h1 h2 => by
    rcases mem_changeNewest (test := test) (f := f) hn with h | h
    · exact kept _ h
    · exact ⟨f n, h, h1, h2⟩
  have rest : ∀ test : Notice → Bool, test n = false → n ∈ dropOldest test q.queue := fun test h =>
    (List.mem_eraseP_of_neg (by simp [h])).2 hn
  have merged : (mergeInto now p n).severity = .urgent := by
    simp only [mergeInto, maxSeverity, hu]
    cases p.severity <;> decide
  unfold Ntq.post Ntq.alert postFull
  dsimp only
  (repeat' split) <;> first
    | exact kept _ (List.mem_append_left _ hn)
    | exact kept _ hn
    | exact changed _ _ rfl merged
    | exact changed _ _ rfl hu
    | exact kept _ (List.mem_append_left _ (rest _ (by simp [hu])))

/-- A notice is one post. -/
theorem notify_posts {s : State} {q : Ntq} (p : Post) (h : Posts q s.ntq) : Posts q (s.notify p).ntq := .post _ _ h

theorem addBridgeCause_posts (why : Int) (s : State) : Posts s.ntq (addBridgeCause why s).ntq := by
  unfold addBridgeCause
  split
  · exact .refl
  · exact notify_posts _ .refl

theorem checkBridge_posts (s : State) : Posts s.ntq (checkBridge s).ntq := by
  unfold checkBridge
  split
  · exact addBridgeCause_posts ..
  · exact .refl

theorem expireBridge_posts (s : State) : Posts s.ntq (expireBridge s).1.ntq := by
  unfold expireBridge
  split
  · exact .refl
  · exact addBridgeCause_posts 1 { s with ppc := { s.ppc with bridge := none } }

theorem completeAttempt_posts (result : MoveResult) (severity : Severity) (lost : Bool) (s : State) :
    Posts s.ntq (completeAttempt result severity lost s).1.ntq := by
  unfold completeAttempt
  split
  · exact .refl
  · exact notify_posts _ (.of_eq (by simp))

theorem onTakeover_posts (lost : Src) (urgent : Bool) (s : State) : Posts s.ntq (onTakeover lost urgent s).1.ntq := by
  have moved : ∀ target u, Posts s.ntq (takeOver lost target u s).1.ntq := fun target u => by
    unfold takeOver
    exact notify_posts _ (.of_eq (by simp))
  have none : Posts s.ntq (noAlternate lost s).1.ntq := by
    unfold noAlternate
    split
    · exact .refl
    · exact notify_posts _ .refl
  unfold onTakeover
  (repeat' split) <;> first | exact moved _ _ | exact none | exact .of_eq (by simp)

theorem loseTarget_posts (a : Attempt) (urgent trigger : Bool) (s : State) :
    Posts s.ntq (loseTarget a urgent trigger s).1.ntq := by
  have failed : Posts s.ntq (failAttempt a .off .aborted s).1.ntq := .of_eq (by simp)
  unfold loseTarget
  dsimp only
  split
  · exact .of_eq (by simp [resumeWalk])
  · exact failed
  · exact failed.trans (onTakeover_posts ..)
  · exact failed.trans (onTakeover_posts ..)

theorem confirmAttempt_posts (s : State) : Posts s.ntq (confirmAttempt s).1.ntq := by
  unfold confirmAttempt
  split
  · exact completeAttempt_posts ..
  · exact .refl

theorem repeatedTakeover_posts (lost : Src) (s : State) : Posts s.ntq (repeatedTakeover lost s).1.ntq := by
  unfold repeatedTakeover
  split
  · exact onTakeover_posts ..
  · exact .refl

theorem onLoss_posts (x : Src) (urgent trigger : Bool) (s : State) : Posts s.ntq (onLoss x urgent trigger s).1.ntq := by
  unfold onLoss
  (repeat' split) <;> first
    | exact loseTarget_posts ..
    | exact completeAttempt_posts ..
    | exact onTakeover_posts ..
    | exact .refl

theorem onDcin_posts (high : Bool) (s : State) : Posts s.ntq (onDcin high s).1.ntq := by
  unfold onDcin
  dsimp only
  (repeat' split) <;> first
    | exact Posts.trans (.of_eq (by simp)) (onLoss_posts ..)
    | exact .of_eq (by simp)

theorem powerOnBay_posts (bay : Bay) (old new : BayState) (s : State) : Posts s.ntq (powerOnBay bay old new s).1.ntq := by
  unfold powerOnBay
  dsimp only
  (repeat' split) <;> first
    | exact Posts.trans (.of_eq (by simp)) (onLoss_posts ..)
    | exact .of_eq (by simp)

theorem packTooHot_posts (bay : Bay) (s : State) : Posts s.ntq (packTooHot bay s).1.ntq := by
  unfold packTooHot
  dsimp only
  split
  · exact Posts.trans (.of_eq (by simp)) (onLoss_posts ..)
  · exact .of_eq (by simp)

theorem tellWritten_posts (slot : Fin 32) (old : Slot) (s : State) : Posts s.ntq (tellWritten slot old s).1.ntq := by
  have heat : ∀ bay, Posts s.ntq (temperatureWritten bay s).1.ntq := fun bay => by
    unfold temperatureWritten
    split
    · exact packTooHot_posts ..
    · exact .of_eq (by simp)
  have bridge : Posts s.ntq (afterInput false (checkBridge s)).1.ntq :=
    Posts.trans (checkBridge_posts s) (.of_eq (by simp))
  unfold tellWritten powerOnWrite
  dsimp only
  split <;> first | exact heat _ | exact bridge | exact .of_eq (by simp)

theorem evaluateClass_posts {s : State} {n : Ntq} (h : Posts n s.ntq) : Posts n (evaluateClass s).1.ntq := by
  unfold evaluateClass
  dsimp only
  split
  · exact h
  · exact notify_posts _ h

theorem countImplausible_posts (source : SlotSource) (place : Nat) (slot : Fin 32) (v : Int) (s : State) :
    Posts s.ntq (countImplausible source place slot v s).ntq := by
  unfold countImplausible
  dsimp only
  split
  · exact notify_posts _ .refl
  · exact .refl

theorem runDescriptor_posts (source : SlotSource) (place : Nat) (d : Descriptor) (data : List Byte) (s : State) :
    Posts s.ntq (runDescriptor source place d data s).1.ntq := by
  unfold runDescriptor
  split <;> first | exact countImplausible_posts .. | exact .refl

theorem driverDone_posts (segment code : Nat) (outcome : TxOutcome) (s : State) :
    Posts s.ntq (driverDone segment code outcome s).ntq := by
  unfold driverDone
  dsimp only
  split
  · exact notify_posts _ .refl
  · exact .refl

theorem engineDone_posts (seg : Seg) (t : EngTxn) (outcome : TxOutcome) (reason : Option AbsentReason)
    (data : List Byte) (s : State) : Posts s.ntq (engineDone seg t outcome reason data s).1.ntq := by
  unfold engineDone
  split <;> first | exact driverDone_posts .. | exact .of_eq (by simp)

theorem laneDone_posts (t : LaneTxn) (outcome : TxOutcome) (data : List Byte) (trailer : Byte) (s : State) :
    Posts s.ntq (laneDone t outcome data trailer s).1.ntq := by
  unfold laneDone
  dsimp only
  (repeat' split) <;> first | exact notify_posts _ (.of_eq (by simp)) | exact .of_eq (by simp)

theorem writeOut_posts (s : State) : Posts s.ntq (writeOut s).1.ntq := by
  unfold writeOut placeDriver
  (repeat' split) <;> first | exact driverDone_posts .. | exact .of_eq (by simp)

theorem fullStep_posts (s : State) : Posts s.ntq (fullStep s).1.ntq := by
  unfold fullStep alsNotice limitNotice
  refine Posts.trans ?_ (writeOut_posts _)
  dsimp only
  (repeat' split) <;> first
    | exact notify_posts _ (notify_posts _ .refl)
    | exact notify_posts _ .refl
    | exact .refl

theorem brightnessStep_posts (s : State) : Posts s.ntq (brightnessStep s).1.ntq := by
  unfold brightnessStep
  dsimp only
  (repeat' split)
  · exact .refl
  · exact .refl
  · exact fullStep_posts { s with brc := { s.brc with step := some (timerNow s s.light.period) } }

theorem captureLevel_posts (code : Nat) (s : State) : Posts s.ntq (captureLevel code s).1.ntq := by
  unfold captureLevel
  dsimp only
  split
  · exact .refl
  · exact notify_posts _ .refl

theorem endWritePhase_posts (t : UpTxn) (s : State) : Posts s.ntq (endWritePhase t s).1.ntq := by
  unfold endWritePhase endPassWrite
  dsimp only
  (repeat' split) <;> first
    | exact notify_posts _ (.of_eq (by simp))
    | exact Posts.trans (.of_eq (by simp)) (captureLevel_posts ..)
    | exact .of_eq (by simp)

theorem onStop_posts (s : State) : Posts s.ntq (onStop s).1.ntq := by
  unfold onStop
  (repeat' split) <;> first | exact endWritePhase_posts .. | exact .of_eq (by simp)

theorem onRepeatedStart_posts (addr : Addr) (read : Bool) (s : State) :
    Posts s.ntq (onRepeatedStart addr read s).1.ntq := by
  unfold onRepeatedStart thenOpen
  (repeat' split) <;> first | exact endWritePhase_posts .. | exact .of_eq (by simp)

theorem loseSensor_posts (s : State) : Posts s.ntq (loseSensor s).ntq := notify_posts _ .refl

theorem offerRecord_posts (r : DropRec) (s : State) : Posts s.ntq (offerRecord r s).ntq := by
  unfold offerRecord
  split <;> exact notify_posts _ .refl

theorem closeRecord_posts (followed : Bool) (t : Time) {s : State} {n : Ntq} (h : Posts n s.ntq) :
    Posts n (closeRecord followed t s).ntq := by
  unfold closeRecord
  split
  · exact h
  · exact h.trans (offerRecord_posts _ s)

theorem enterNormal_posts (t : Time) {s : State} {n : Ntq} (h : Posts n s.ntq) : Posts n (enterNormal t s).1.ntq := by
  unfold enterNormal
  dsimp only
  split
  · exact h.trans (loseSensor_posts (s.setMtu _))
  · exact h

theorem enterFalling_posts (start : Time) (q : Sample) {s : State} {n : Ntq} (h : Posts n s.ntq) :
    Posts n (enterFalling start q s).1.ntq := notify_posts _ h

theorem enterImpact_posts (q : Sample) {s : State} {n : Ntq} (h : Posts n s.ntq) : Posts n (enterImpact q s).1.ntq := by
  unfold enterImpact
  dsimp only
  split
  · exact h
  · exact notify_posts _ h

theorem knock_posts (q : Sample) {s : State} {n : Ntq} (h : Posts n s.ntq) : Posts n (knock q s).1.ntq :=
  enterImpact_posts q h

theorem actNormal_posts (c : SampleClass) (q : Sample) (s : State) : Posts s.ntq (actNormal c q s).1.ntq := by
  unfold actNormal
  dsimp only
  (repeat' split)
  · exact enterFalling_posts _ _ .refl
  · exact .refl
  · exact knock_posts _ .refl
  · exact .refl
  · exact .refl

theorem actFalling_posts (c : SampleClass) (q : Sample) (s : State) : Posts s.ntq (actFalling c q s).1.ntq := by
  unfold actFalling
  split
  · exact .refl
  · exact enterImpact_posts _ .refl
  · exact .refl
  · exact .refl

theorem actImpact_posts (c : SampleClass) (q : Sample) (s : State) : Posts s.ntq (actImpact c q s).1.ntq := .refl

theorem actSettling_posts (c : SampleClass) (q : Sample) (s : State) : Posts s.ntq (actSettling c q s).1.ntq := by
  unfold actSettling
  dsimp only
  (repeat' split)
  · exact enterNormal_posts _ (closeRecord_posts _ _ .refl)
  · exact .refl
  · exact enterFalling_posts _ _ (closeRecord_posts _ _ .refl)
  · exact .refl
  · exact knock_posts _ (closeRecord_posts _ _ .refl)
  · exact .refl

theorem actSample_posts (c : SampleClass) (q : Sample) {s : State} {n : Ntq} (h : Posts n s.ntq) :
    Posts n (actSample c q s).1.ntq := by
  refine h.trans ?_
  unfold actSample
  split
  · exact actNormal_posts ..
  · exact actFalling_posts ..
  · exact actImpact_posts ..
  · exact actSettling_posts ..
  · exact .refl

theorem takeSample_posts (x y z : Int) (t : Time) (s : State) : Posts s.ntq (takeSample x y z t s).1.ntq := by
  unfold takeSample actOn
  dsimp only
  split
  · exact .refl
  · exact actSample_posts _ _ .refl

theorem recomputeEnergy_posts (s : State) : Posts s.ntq (recomputeEnergy s).1.ntq := by
  unfold recomputeEnergy
  exact evaluateClass_posts .refl

theorem supplyClassSwitch_posts (s : State) : Posts s.ntq (supplyClassSwitch s).1.ntq := by
  unfold supplyClassSwitch
  exact evaluateClass_posts .refl

theorem supplyPowerSwitch_posts (s : State) : Posts s.ntq (supplyPowerSwitch s).1.ntq := by
  unfold supplyPowerSwitch
  exact Posts.trans (.of_eq (by simp)) (expireBridge_posts _)

/-- A task is a request. -/
def isRequest : Task → Bool
  | .request _ _ _ => true
  | _ => false

/-- Every handling but a request's only posts notices. -/
theorem handle_posts (t : Task) (s : State) (ht : isRequest t = false) : Posts s.ntq (handle t s).1.ntq := by
  cases t <;> simp only [handle, alone]
  case request => simp [isRequest] at ht
  case post => exact notify_posts _ .refl
  case laneDone => exact laneDone_posts ..
  case engineDone => exact engineDone_posts ..
  case descriptor => exact runDescriptor_posts ..
  case slotWritten => exact tellWritten_posts ..
  case powerBay => exact powerOnBay_posts ..
  case confirm => exact confirmAttempt_posts s
  case takeover => exact repeatedTakeover_posts ..
  case bridgeCheck => exact checkBridge_posts s
  case energy => exact recomputeEnergy_posts s
  case classify => exact evaluateClass_posts .refl
  case supplyClass => exact supplyClassSwitch_posts s
  case brightStep => exact brightnessStep_posts s
  case sample => exact takeSample_posts ..
  case supplyPower => exact supplyPowerSwitch_posts s
  case malformed => exact .refl
  all_goals exact .of_eq (by simp)

theorem onSampleLoss_posts (s : State) : Posts s.ntq (onSampleLoss s).1.ntq := by
  unfold onSampleLoss
  dsimp only
  (repeat' split) <;> first | exact .refl | exact loseSensor_posts (s.setMtu _)

theorem onSettleLimit_posts (s : State) : Posts s.ntq (onSettleLimit s).1.ntq := by
  unfold onSettleLimit
  split
  · exact enterNormal_posts _ (closeRecord_posts _ _ .refl)
  · exact .refl

theorem expireConfirm_posts (s : State) : Posts s.ntq (expireConfirm s).1.ntq := by
  unfold expireConfirm
  (repeat' split)
  · exact .refl
  · exact .refl
  · exact notify_posts _ (.of_eq (by simp))

theorem endSuspension_posts (seg : Seg) (s : State) : Posts s.ntq (endSuspension seg s).1.ntq := by
  unfold endSuspension
  dsimp only
  split
  · exact .refl
  · exact notify_posts _ .refl

/-- Every command's first change only posts notices, but at the load of SOFT_RESET, which empties the queue (R184). -/
theorem commandAct_posts (c : Instr) (s : State) (hc : ∀ answered, c ≠ .settingsLoadEnd answered) :
    Posts s.ntq (commandAct c s).1.ntq := by
  cases c <;> simp only [commandAct, alone]
  case settingsLoadEnd => exact absurd rfl (hc _)
  case writeDataByte => exact .of_eq (by unfold onDataByte laterByte firstByte; (repeat' split) <;> simp)
  case stopCondition => exact onStop_posts s
  case repeatedStart => exact onRepeatedStart_posts ..
  case suspensionExpiry => exact endSuspension_posts ..
  case slotStale => split <;> exact .refl
  case presenceRise => split <;> exact .of_eq (by simp)
  case presenceFall => split <;> exact .of_eq (by simp)
  case dcinOkChange => exact onDcin_posts ..
  case confirmTimerExpiry => exact expireConfirm_posts s
  case bridgeTimerExpiry => exact expireBridge_posts s
  case stepTimerExpiry =>
    unfold onStepTimer
    split
    · exact brightnessStep_posts s
    · exact .refl
  case sampleLossExpiry => exact onSampleLoss_posts s
  case settleLimitExpiry => exact onSettleLimit_posts s
  all_goals exact .of_eq (by simp)

end Sys2Proof.Machine
end

