-- ==== Sys2Proof/Laws/Engaged.lean ====
section
/-!
SUPPORT. What waits while a confirm is awaited and a driver write executes (R77, R83, R84, R144): the triggers, the release
requests, and the classifier's and the Brightness Controller's work then change marks and records of their own blocks alone.
-/

namespace Sys2Proof.Machine

/-- The tasks that only wait, or work on their own block's record, in such a state. -/
def waits : Task → Bool
  | .trigger => true
  | .alternates => true
  | .reselect => true
  | .settled => true
  | .energy => true
  | .classify => true
  | .ceiling => true
  | .brightStep => true
  | .post _ => true
  | .releaseRequest _ _ => true
  | _ => false

/-- What those tasks leave as it is. -/
structure Waited (s t : State) : Prop where
  pending : t.pending = s.pending
  now : t.now = s.now
  lines : t.lines = s.lines
  uli : t.uli = s.uli
  ports : t.ports = s.ports
  polls : t.polls = s.polls
  slots : t.slots = s.slots
  bays : t.bays = s.bays
  mtu : t.mtu = s.mtu
  sru : t.sru = s.sru
  smi : t.smi = s.smi
  attempt : t.ppc.attempt = s.ppc.attempt
  onSrc : t.ppc.onSrc = s.ppc.onSrc
  sources : t.ppc.sources = s.ppc.sources
  record : t.ppc.record = s.ppc.record
  write : t.brc.write = s.brc.write
  mode : t.brc.mode = s.brc.mode
  bias : t.brc.bias = s.brc.bias
  manual : t.brc.manual = s.brc.manual
  hold : t.brc.hold = s.brc.hold
  written : t.brc.written = s.brc.written

theorem Waited.refl (s : State) : Waited s s := by constructor <;> rfl

theorem Waited.trans {s t u : State} (h : Waited s t) (k : Waited t u) : Waited s u :=
  { pending := k.pending.trans h.pending, now := k.now.trans h.now, lines := k.lines.trans h.lines
    uli := k.uli.trans h.uli, ports := k.ports.trans h.ports, polls := k.polls.trans h.polls
    slots := k.slots.trans h.slots, bays := k.bays.trans h.bays, mtu := k.mtu.trans h.mtu, sru := k.sru.trans h.sru
    smi := k.smi.trans h.smi, attempt := k.attempt.trans h.attempt, onSrc := k.onSrc.trans h.onSrc
    sources := k.sources.trans h.sources, record := k.record.trans h.record, write := k.write.trans h.write
    mode := k.mode.trans h.mode, bias := k.bias.trans h.bias, manual := k.manual.trans h.manual
    hold := k.hold.trans h.hold, written := k.written.trans h.written }

/-- The state is one in which they wait. -/
def Waiting (s : State) : Prop := s.ppc.attempt.isSome = true ∧ ∃ code, s.brc.write = .executing code

theorem Waiting.of_waited {s t : State} (h : Waiting s) (k : Waited s t) : Waiting t := by
  obtain ⟨h1, code, h2⟩ := h
  exact ⟨by rw [k.attempt]; exact h1, code, by rw [k.write]; exact h2⟩

theorem notify_waited (s : State) (p : Post) : Waited s (s.notify p) := by constructor <;> rfl

theorem evaluateClass_waited (s : State) : Waited s (evaluateClass s).1 := by
  unfold evaluateClass
  dsimp only
  split <;> constructor <;> rfl

theorem alsNotice_waited (b : Brc) (a : Option Nat) (s : State) : Waited s (alsNotice b a s) := by
  unfold alsNotice
  split
  · exact notify_waited ..
  · exact .refl s

theorem limitNotice_waited (b : Brc) (p : Light) (s : State) : Waited s (limitNotice b p s) := by
  unfold limitNotice
  split
  · exact notify_waited ..
  · exact .refl s

/-- A change of the brightness record that keeps its settings and its write record. -/
theorem setBrc_waited (s : State) (b : Brc) (h1 : b.write = s.brc.write) (h2 : b.mode = s.brc.mode)
    (h3 : b.bias = s.brc.bias) (h4 : b.manual = s.brc.manual) (h5 : b.hold = s.brc.hold)
    (h6 : b.written = s.brc.written) : Waited s { s with brc := b } := by
  constructor <;> first | rfl | assumption

theorem writeOut_executing {s : State} {code : Nat} (h : s.brc.write = .executing code) : writeOut s = (s, []) := by
  simp [writeOut, h]

theorem fullStep_waited {s : State} {code : Nat} (h : s.brc.write = .executing code) :
    Waited s (fullStep s).1 ∧ (fullStep s).2 = [] := by
  unfold fullStep
  dsimp only
  have w1 : Waited s { s with brc := Brc.measured { s.brc with awaitingLight := false } s.light s.ambientLux } := by
    apply setBrc_waited <;> cases s.ambientLux <;> rfl
  have w2 := w1.trans (alsNotice_waited { s.brc with awaitingLight := false } s.ambientLux _)
  generalize alsNotice _ _ _ = s1 at w2
  have w3 := w2.trans (setBrc_waited s1 (s1.brc.leveled s.light) rfl rfl rfl rfl rfl rfl)
  have w4 := w3.trans (limitNotice_waited { s.brc with awaitingLight := false } s.light _)
  generalize limitNotice _ _ _ = s2 at w4
  rw [writeOut_executing (w4.write.trans h)]
  exact ⟨w4, rfl⟩

theorem brightnessStep_waited {s : State} {code : Nat} (h : s.brc.write = .executing code) :
    Waited s (brightnessStep s).1 ∧ (brightnessStep s).2 = [] := by
  unfold brightnessStep
  dsimp only
  have w := setBrc_waited s { s.brc with step := some (timerNow s s.light.period) } rfl rfl rfl rfl rfl rfl
  (repeat' split)
  · exact ⟨.refl s, rfl⟩
  · exact ⟨w, rfl⟩
  · have k := fullStep_waited (s := { s with brc := { s.brc with step := some (timerNow s s.light.period) } }) h
    exact ⟨w.trans k.1, k.2⟩

/-- A waiting task changes no block but its own, and starts only tasks that wait. -/
theorem handle_waited {t : Task} {s : State} (ht : waits t = true) (h : Waiting s) :
    Waited s (handle t s).1 ∧ ∀ u ∈ (handle t s).2, waits u = true := by
  obtain ⟨ha, code, hw⟩ := h
  have he : s.ppc.engaged = true := by simp [Ppc.engaged, ha]
  cases t <;> simp only [waits, Bool.false_eq_true] at ht
  case post p => exact ⟨notify_waited s p, by simp [handle, alone]⟩
  case trigger =>
    simp only [handle, onTrigger]
    split
    · exact ⟨.refl s, by simp⟩
    · refine ⟨.refl s, ?_⟩
      have : s.repeatTakeover = [] := by
        unfold State.repeatTakeover
        split
        · simp [tasksIf, he]
        · rfl
      simp [this, waits]
  case settled => simp [handle, takeWaiting, he, Waited.refl]
  case releaseRequest bay origin =>
    simp only [handle, onReleaseRequest, he, Bool.true_or, if_true]
    split
    · exact ⟨.refl s, by simp⟩
    · exact ⟨by constructor <;> rfl, by simp⟩
  case reselect =>
    simp only [handle, reselect, State.reselectionWaits, he, Bool.true_or, if_true]
    exact ⟨by constructor <;> rfl, by simp⟩
  case alternates =>
    simp only [handle, checkAlternates, he, if_true]
    exact ⟨by constructor <;> rfl, by simp⟩
  case energy =>
    simp only [handle, recomputeEnergy]
    refine ⟨Waited.trans (t := { s with classifier := _ }) (by constructor <;> rfl) (evaluateClass_waited _), ?_⟩
    unfold evaluateClass
    dsimp only
    split <;> simp [waits]
  case classify =>
    refine ⟨evaluateClass_waited s, ?_⟩
    simp only [handle, evaluateClass]
    split <;> simp [waits]
  case ceiling =>
    simp only [handle, recomputeCeiling]
    (repeat' split)
    · exact ⟨.refl s, by simp⟩
    · exact ⟨.refl s, by simp⟩
    · exact ⟨setBrc_waited s _ rfl rfl rfl rfl rfl rfl, by simp [waits]⟩
  case brightStep =>
    have k := brightnessStep_waited hw
    exact ⟨k.1, by simp [handle, k.2]⟩

/-- A run of waiting tasks leaves every other block as it is. -/
theorem run_waited (fuel : Nat) (ts : List Task) (s : State) (ht : ∀ t ∈ ts, waits t = true) (h : Waiting s) :
    Waited s (run fuel ts s) :=
  run_keeps_class (fun u => Waited s u) (fun t => waits t = true)
    (fun _ _ k => k.trans (by constructor <;> rfl))
    (fun _ _ ht k => k.trans (handle_waited ht (h.of_waited k)).1)
    (fun _ _ ht k => (handle_waited ht (h.of_waited k)).2) fuel ts s ht (.refl s)

end Sys2Proof.Machine
end

