-- ==== Sys2Proof/Laws/Memory.lean ====
section
/-!
SUPPORT. The private settings memory (R195): every write keeps its canonical form, a byte written is read back, and every
other byte reads as before.
-/

namespace Sys2Proof.Machine

/-- The addresses of the cells rise strictly. -/
abbrev Rising (m : List Host.Cell) : Prop := m.Pairwise fun c d => c.1 < d.1

theorem cellsRise_iff : ∀ m : List Host.Cell, cellsRise m = true ↔ Rising m
  | [] => by simp [cellsRise]
  | [c] => by simp [cellsRise]
  | c :: d :: cs => by
    have ih := cellsRise_iff (d :: cs)
    simp only [cellsRise, Bool.and_eq_true, decide_eq_true_eq, ih, List.pairwise_cons, List.mem_cons]
    constructor
    · rintro ⟨h, hd, hcs⟩
      refine ⟨fun x hx => ?_, hd, hcs⟩
      rcases hx with rfl | hx
      · exact h
      · exact lt_trans h (hd x hx)
    · rintro ⟨h, hd, hcs⟩
      exact ⟨h d (Or.inl rfl), hd, hcs⟩

/-- The canonical form as a proposition. -/
theorem memoryWf_iff (m : List Host.Cell) :
    memoryWf m = true ↔ Rising m ∧ ∀ c ∈ m, c.1 < memorySize ∧ c.2 ≠ memoryDefault c.1 := by
  simp [memoryWf, cellsRise_iff]

/-- Nothing listed is the canonical form of the memory as shipped (R192). -/
theorem memoryWf_nil : memoryWf [] = true := rfl

/-- Nothing is listed under an address that has been taken out. -/
theorem lookup_eraseCell_self (m : List Host.Cell) (a : Nat) : (eraseCell m a).lookup a = none := by
  induction m with
  | nil => rfl
  | cons c cs ih =>
    obtain ⟨k, v⟩ := c
    by_cases h : k = a
    · simpa [eraseCell, h] using ih
    · have hf : eraseCell ((k, v) :: cs) a = (k, v) :: eraseCell cs a := by simp [eraseCell, h]
      have ha : (a == k) = false := by simpa using Ne.symm h
      rw [hf, List.lookup_cons, ha]
      exact ih

/-- Taking an address out leaves every other address listed as it was. -/
theorem lookup_eraseCell_of_ne (m : List Host.Cell) {a x : Nat} (hx : x ≠ a) :
    (eraseCell m a).lookup x = m.lookup x := by
  induction m with
  | nil => rfl
  | cons c cs ih =>
    obtain ⟨k, v⟩ := c
    by_cases h : k = a
    · subst h
      have hk : (x == k) = false := by simpa using hx
      have hf : eraseCell ((k, v) :: cs) k = eraseCell cs k := by simp [eraseCell]
      rw [hf, ih, List.lookup_cons, hk]
    · have hf : eraseCell ((k, v) :: cs) a = (k, v) :: eraseCell cs a := by simp [eraseCell, h]
      rw [hf, List.lookup_cons, List.lookup_cons, ih]

/-- A cell is found after it was put in, where its address was not listed. -/
theorem lookup_insertCell_self (a : Nat) (b : Byte) (m : List Host.Cell) (h : m.lookup a = none) :
    (insertCell (a, b) m).lookup a = some b := by
  induction m with
  | nil => simp [insertCell]
  | cons c cs ih =>
    obtain ⟨k, v⟩ := c
    rw [List.lookup_cons] at h
    by_cases hk : a == k
    · simp [hk] at h
    · simp only [hk] at h
      rw [insertCell]
      split
      · simp
      · rw [List.lookup_cons]
        simpa [hk] using ih h

/-- Putting a cell in leaves every other address listed as it was. -/
theorem lookup_insertCell_of_ne (a : Nat) (b : Byte) (m : List Host.Cell) {x : Nat} (hx : x ≠ a) :
    (insertCell (a, b) m).lookup x = m.lookup x := by
  have hxa : (x == a) = false := by simpa using hx
  induction m with
  | nil => simp [insertCell, List.lookup_cons, hxa]
  | cons c cs ih =>
    obtain ⟨k, v⟩ := c
    rw [insertCell]
    split
    · rw [List.lookup_cons, hxa]
    · rw [List.lookup_cons, List.lookup_cons, ih]

/-- A byte written is read back. -/
theorem readCell_writeCell_self (m : List Host.Cell) (a : Nat) (b : Byte) : readCell (writeCell m a b) a = b := by
  unfold readCell writeCell
  by_cases h : b = memoryDefault a
  · simp [h, lookup_eraseCell_self]
  · simp [h, lookup_insertCell_self _ _ _ (lookup_eraseCell_self m a)]

/-- A write leaves every other byte as it reads. -/
theorem readCell_writeCell_of_ne (m : List Host.Cell) {a x : Nat} (b : Byte) (hx : x ≠ a) :
    readCell (writeCell m a b) x = readCell m x := by
  unfold readCell writeCell
  by_cases h : b = memoryDefault a
  · simp [h, lookup_eraseCell_of_ne m hx]
  · simp [h, lookup_insertCell_of_ne _ _ _ hx, lookup_eraseCell_of_ne m hx]

theorem mem_insertCell (c d : Host.Cell) (m : List Host.Cell) : d ∈ insertCell c m ↔ d = c ∨ d ∈ m := by
  induction m with
  | nil => simp [insertCell]
  | cons e es ih =>
    rw [insertCell]
    split
    · simp
    · simp only [List.mem_cons, ih]
      tauto

theorem rising_insertCell (c : Host.Cell) (m : List Host.Cell) (h : Rising m) (hc : ∀ d ∈ m, d.1 ≠ c.1) :
    Rising (insertCell c m) := by
  induction m with
  | nil => simp [insertCell]
  | cons e es ih =>
    have he : ∀ d ∈ es, e.1 < d.1 := fun d hd => List.rel_of_pairwise_cons h hd
    rw [insertCell]
    split
    · rename_i hlt
      refine List.pairwise_cons.2 ⟨fun d hd => ?_, h⟩
      rcases List.mem_cons.1 hd with rfl | hd
      · exact hlt
      · exact lt_trans hlt (he d hd)
    · rename_i hlt
      refine List.pairwise_cons.2 ⟨fun d hd => ?_, ih h.of_cons fun d hd => hc d (List.mem_cons_of_mem _ hd)⟩
      rcases (mem_insertCell c d es).1 hd with rfl | hd
      · have := hc e List.mem_cons_self
        omega
      · exact he d hd

/-- A write inside the memory keeps the canonical form. -/
theorem memoryWf_writeCell {m : List Host.Cell} {a : Nat} (b : Byte) (h : memoryWf m = true) (ha : a < memorySize) :
    memoryWf (writeCell m a b) = true := by
  rw [memoryWf_iff] at h ⊢
  have hr : Rising (eraseCell m a) := h.1.filter _
  have hm : ∀ c ∈ eraseCell m a, c.1 < memorySize ∧ c.2 ≠ memoryDefault c.1 :=
    fun c hc => h.2 c (List.mem_filter.1 hc).1
  have hn : ∀ c ∈ eraseCell m a, c.1 ≠ a := fun c hc => by simpa using (List.mem_filter.1 hc).2
  unfold writeCell
  split
  · exact ⟨hr, hm⟩
  · rename_i hb
    refine ⟨rising_insertCell _ _ hr hn, fun c hc => ?_⟩
    rcases (mem_insertCell _ _ _).1 hc with rfl | hc
    · exact ⟨ha, hb⟩
    · exact hm c hc

/-- A run of bytes keeps the canonical form; what lies beyond the memory is not written. -/
theorem memoryWf_writeRun (bytes : List Byte) : ∀ {m : List Host.Cell} {a : Nat}, memoryWf m = true →
    memoryWf (writeRun m a bytes) = true := by
  induction bytes with
  | nil => exact fun h => h
  | cons b bs ih =>
    intro m a h
    rw [writeRun]
    refine ih ?_
    split
    · rename_i ha
      exact memoryWf_writeCell b h ha
    · exact h

/-- A run of bytes leaves every byte outside it as it reads. -/
theorem readCell_writeRun_outside (bytes : List Byte) : ∀ (m : List Host.Cell) (a x : Nat),
    (x < a ∨ a + bytes.length ≤ x) → readCell (writeRun m a bytes) x = readCell m x := by
  induction bytes with
  | nil => exact fun _ _ _ _ => rfl
  | cons b bs ih =>
    intro m a x hx
    simp only [List.length_cons] at hx
    rw [writeRun, ih _ _ _ (by omega)]
    split
    · exact readCell_writeCell_of_ne m b (by omega)
    · rfl

/-- A run of bytes written inside the memory is read back. -/
theorem readCell_writeRun_inside (bytes : List Byte) : ∀ (m : List Host.Cell) (a k : Nat) (hk : k < bytes.length),
    a + k < memorySize → readCell (writeRun m a bytes) (a + k) = bytes[k] := by
  induction bytes with
  | nil => exact fun _ _ _ hk => absurd hk (by simp)
  | cons b bs ih =>
    intro m a k hk ha
    rw [writeRun]
    cases k with
    | zero =>
      have ha' : a < memorySize := by simpa using ha
      simpa [ha', readCell_writeCell_self] using
        readCell_writeRun_outside bs (if a < memorySize then writeCell m a b else m) (a + 1) a (by omega)
    | succ k =>
      have := ih (if a < memorySize then writeCell m a b else m) (a + 1) k (by simpa using hk) (by omega)
      rw [show a + (k + 1) = a + 1 + k by omega, this]
      rfl

end Sys2Proof.Machine
end

