-- ==== Sys2Proof/Laws/PerInstr.lean ====
section
/-!
SUPPORT. One statement for every command, proved constructor by constructor: the service write a request command stands for
fits the link (R173), and it names a request exactly when the command is not UNKNOWN_REQUEST (R174).
-/

namespace Sys2Proof.Laws

open Sys2Proof.Machine

/-- The codes of the well-formedness check are the codes the Service Request Unit decodes (Table 12-1). -/
theorem requestOf_isSome : ∀ code : Byte, (requestOf code).isSome = requestCodes.contains code := by
  decide +kernel

/-- The service write of a request command: its code, and its payload. -/
def serviceParts : Instr → Option (Byte × List Byte)
  | .powerOnReset => none
  | .settingsLoadEnd _ => none
  | .firstAddressByte _ _ => none
  | .commandByte _ => none
  | .writeDataByte _ => none
  | .heldByteRelease => none
  | .dataHoldStretchLimit => none
  | .stopCondition => none
  | .repeatedStart _ _ => none
  | .heldReadLaneHandin => none
  | .heldReadStretchLimit => none
  | .readoutByte => none
  | .hostStallLimit => none
  | .responseRead => none
  | .waitingResponseRead => none
  | .waitingReadLimit => none
  | .unknownRequest code _ payload => some (code, payload)
  | .identify _ payload => some (0x01, payload)
  | .stageWrite _ payload => some (0x02, payload)
  | .stageRead _ payload => some (0x03, payload)
  | .tableRead _ payload => some (0x04, payload)
  | .discard _ payload => some (0x05, payload)
  | .commit _ payload => some (0x06, payload)
  | .commitValidationEnd => none
  | .commitSwitch => none
  | .commitLimitExpiry => none
  | .saveSettings _ payload => some (0x07, payload)
  | .savePageDone _ _ => none
  | .settingsRead _ payload _ => some (0x08, payload)
  | .settingsWrite _ payload => some (0x09, payload)
  | .rawWritePageDone => none
  | .fetchNotices _ payload => some (0x10, payload)
  | .setAlertLevel _ payload => some (0x11, payload)
  | .readTelemetry _ payload => some (0x20, payload)
  | .readBay _ payload => some (0x21, payload)
  | .readPower _ payload => some (0x22, payload)
  | .readBrightness _ payload => some (0x23, payload)
  | .setBrightness _ payload => some (0x24, payload)
  | .requestSwap _ payload => some (0x25, payload)
  | .retryBay _ payload => some (0x26, payload)
  | .readDrop _ payload => some (0x30, payload)
  | .clearDrop _ payload => some (0x31, payload)
  | .readMotion _ payload => some (0x32, payload)
  | .readPollStatus _ payload => some (0x40, payload)
  | .readLinkStatus _ payload => some (0x41, payload)
  | .clearIndicators _ payload => some (0x42, payload)
  | .softReset _ payload => some (0x7F, payload)
  | .portTransactionComplete _ _ => none
  | .transactionTimeLimit _ => none
  | .recoveryEnd _ => none
  | .suspensionExpiry _ => none
  | .periodicDue _ => none
  | .setupRunDue _ => none
  | .admitRunDue _ => none
  | .slotStale _ => none
  | .lineLevelChange _ _ _ => none
  | .latchChange _ => none
  | .presenceRise _ => none
  | .presenceFall _ => none
  | .seatTimerExpiry _ => none
  | .identifyTimerExpiry _ => none
  | .dcinOkChange _ => none
  | .feedbackConducting _ _ => none
  | .confirmTimerExpiry => none
  | .startupLimitExpiry => none
  | .dwellTimerExpiry => none
  | .bridgeTimerExpiry => none
  | .stepTimerExpiry => none
  | .accWmChange _ => none
  | .motionRetryTimer => none
  | .sampleLossExpiry => none
  | .fallLimitExpiry => none
  | .settleLimitExpiry => none
  | .parkHoldExpiry => none
  | .shockHoldExpiry => none

/-- The command is the unknown request. -/
def isUnknown : Instr → Bool
  | .powerOnReset => false
  | .settingsLoadEnd _ => false
  | .firstAddressByte _ _ => false
  | .commandByte _ => false
  | .writeDataByte _ => false
  | .heldByteRelease => false
  | .dataHoldStretchLimit => false
  | .stopCondition => false
  | .repeatedStart _ _ => false
  | .heldReadLaneHandin => false
  | .heldReadStretchLimit => false
  | .readoutByte => false
  | .hostStallLimit => false
  | .responseRead => false
  | .waitingResponseRead => false
  | .waitingReadLimit => false
  | .unknownRequest _ _ _ => true
  | .identify _ _ => false
  | .stageWrite _ _ => false
  | .stageRead _ _ => false
  | .tableRead _ _ => false
  | .discard _ _ => false
  | .commit _ _ => false
  | .commitValidationEnd => false
  | .commitSwitch => false
  | .commitLimitExpiry => false
  | .saveSettings _ _ => false
  | .savePageDone _ _ => false
  | .settingsRead _ _ _ => false
  | .settingsWrite _ _ => false
  | .rawWritePageDone => false
  | .fetchNotices _ _ => false
  | .setAlertLevel _ _ => false
  | .readTelemetry _ _ => false
  | .readBay _ _ => false
  | .readPower _ _ => false
  | .readBrightness _ _ => false
  | .setBrightness _ _ => false
  | .requestSwap _ _ => false
  | .retryBay _ _ => false
  | .readDrop _ _ => false
  | .clearDrop _ _ => false
  | .readMotion _ _ => false
  | .readPollStatus _ _ => false
  | .readLinkStatus _ _ => false
  | .clearIndicators _ _ => false
  | .softReset _ _ => false
  | .portTransactionComplete _ _ => false
  | .transactionTimeLimit _ => false
  | .recoveryEnd _ => false
  | .suspensionExpiry _ => false
  | .periodicDue _ => false
  | .setupRunDue _ => false
  | .admitRunDue _ => false
  | .slotStale _ => false
  | .lineLevelChange _ _ _ => false
  | .latchChange _ => false
  | .presenceRise _ => false
  | .presenceFall _ => false
  | .seatTimerExpiry _ => false
  | .identifyTimerExpiry _ => false
  | .dcinOkChange _ => false
  | .feedbackConducting _ _ => false
  | .confirmTimerExpiry => false
  | .startupLimitExpiry => false
  | .dwellTimerExpiry => false
  | .bridgeTimerExpiry => false
  | .stepTimerExpiry => false
  | .accWmChange _ => false
  | .motionRetryTimer => false
  | .sampleLossExpiry => false
  | .fallLimitExpiry => false
  | .settleLimitExpiry => false
  | .parkHoldExpiry => false
  | .shockHoldExpiry => false

/-- A well-formed request command carries at most 31 payload bytes, and its code names a request exactly when it is not
the unknown request. -/
def Form.Statement (i : Instr) : Prop :=
  i.wellFormed = true → ∀ code payload, serviceParts i = some (code, payload) →
    payload.length ≤ 31 ∧ (requestOf code).isSome = !isUnknown i

/-- A command that is no service write. -/
theorem form_of_none {i : Instr} (h : serviceParts i = none) : Form.Statement i := by
  intro _ code payload e
  simp [h] at e

/-- A request of Table 12-1. -/
theorem form_of_request {i : Instr} {c : Byte} {p : List Byte} (h : serviceParts i = some (c, p))
    (hw : i.wellFormed = payloadFits p) (hu : isUnknown i = false) (hc : requestCodes.contains c = true) :
    Form.Statement i := by
  intro w code payload e
  rw [h] at e
  obtain ⟨rfl, rfl⟩ : c = code ∧ p = payload := by simpa using e
  rw [hw] at w
  exact ⟨by simpa [payloadFits] using w, by rw [requestOf_isSome, hc, hu]; rfl⟩

theorem Form.powerOnReset : Form.Statement .powerOnReset :=
  form_of_none rfl

theorem Form.settingsLoadEnd (answered : Bool) : Form.Statement (.settingsLoadEnd answered) :=
  form_of_none rfl

theorem Form.firstAddressByte (addr : Addr) (read : Bool) : Form.Statement (.firstAddressByte addr read) :=
  form_of_none rfl

theorem Form.commandByte (byte : Byte) : Form.Statement (.commandByte byte) :=
  form_of_none rfl

theorem Form.writeDataByte (byte : Byte) : Form.Statement (.writeDataByte byte) :=
  form_of_none rfl

theorem Form.heldByteRelease : Form.Statement .heldByteRelease :=
  form_of_none rfl

theorem Form.dataHoldStretchLimit : Form.Statement .dataHoldStretchLimit :=
  form_of_none rfl

theorem Form.stopCondition : Form.Statement .stopCondition :=
  form_of_none rfl

theorem Form.repeatedStart (addr : Addr) (read : Bool) : Form.Statement (.repeatedStart addr read) :=
  form_of_none rfl

theorem Form.heldReadLaneHandin : Form.Statement .heldReadLaneHandin :=
  form_of_none rfl

theorem Form.heldReadStretchLimit : Form.Statement .heldReadStretchLimit :=
  form_of_none rfl

theorem Form.readoutByte : Form.Statement .readoutByte :=
  form_of_none rfl

theorem Form.hostStallLimit : Form.Statement .hostStallLimit :=
  form_of_none rfl

theorem Form.responseRead : Form.Statement .responseRead :=
  form_of_none rfl

theorem Form.waitingResponseRead : Form.Statement .waitingResponseRead :=
  form_of_none rfl

theorem Form.waitingReadLimit : Form.Statement .waitingReadLimit :=
  form_of_none rfl

theorem Form.unknownRequest (code tag : Byte) (payload : List Byte) : Form.Statement (.unknownRequest code tag payload) := by
  intro w code' payload' e
  obtain ⟨rfl, rfl⟩ : code = code' ∧ payload = payload' := by simpa [serviceParts] using e
  have hw : requestCodes.contains code = false ∧ payloadFits payload = true := by
    simpa [Instr.wellFormed] using w
  exact ⟨by simpa [payloadFits] using hw.2, by rw [requestOf_isSome, hw.1]; rfl⟩

theorem Form.identify (tag : Byte) (payload : List Byte) : Form.Statement (.identify tag payload) :=
  form_of_request rfl rfl rfl rfl

theorem Form.stageWrite (tag : Byte) (payload : List Byte) : Form.Statement (.stageWrite tag payload) :=
  form_of_request rfl rfl rfl rfl

theorem Form.stageRead (tag : Byte) (payload : List Byte) : Form.Statement (.stageRead tag payload) :=
  form_of_request rfl rfl rfl rfl

theorem Form.tableRead (tag : Byte) (payload : List Byte) : Form.Statement (.tableRead tag payload) :=
  form_of_request rfl rfl rfl rfl

theorem Form.discard (tag : Byte) (payload : List Byte) : Form.Statement (.discard tag payload) :=
  form_of_request rfl rfl rfl rfl

theorem Form.commit (tag : Byte) (payload : List Byte) : Form.Statement (.commit tag payload) :=
  form_of_request rfl rfl rfl rfl

theorem Form.commitValidationEnd : Form.Statement .commitValidationEnd :=
  form_of_none rfl

theorem Form.commitSwitch : Form.Statement .commitSwitch :=
  form_of_none rfl

theorem Form.commitLimitExpiry : Form.Statement .commitLimitExpiry :=
  form_of_none rfl

theorem Form.saveSettings (tag : Byte) (payload : List Byte) : Form.Statement (.saveSettings tag payload) :=
  form_of_request rfl rfl rfl rfl

theorem Form.savePageDone (acknowledged : Bool) (held : List Byte) : Form.Statement (.savePageDone acknowledged held) :=
  form_of_none rfl

theorem Form.settingsRead (tag : Byte) (payload : List Byte) (answered : Bool) : Form.Statement (.settingsRead tag payload answered) :=
  form_of_request rfl rfl rfl rfl

theorem Form.settingsWrite (tag : Byte) (payload : List Byte) : Form.Statement (.settingsWrite tag payload) :=
  form_of_request rfl rfl rfl rfl

theorem Form.rawWritePageDone : Form.Statement .rawWritePageDone :=
  form_of_none rfl

theorem Form.fetchNotices (tag : Byte) (payload : List Byte) : Form.Statement (.fetchNotices tag payload) :=
  form_of_request rfl rfl rfl rfl

theorem Form.setAlertLevel (tag : Byte) (payload : List Byte) : Form.Statement (.setAlertLevel tag payload) :=
  form_of_request rfl rfl rfl rfl

theorem Form.readTelemetry (tag : Byte) (payload : List Byte) : Form.Statement (.readTelemetry tag payload) :=
  form_of_request rfl rfl rfl rfl

theorem Form.readBay (tag : Byte) (payload : List Byte) : Form.Statement (.readBay tag payload) :=
  form_of_request rfl rfl rfl rfl

theorem Form.readPower (tag : Byte) (payload : List Byte) : Form.Statement (.readPower tag payload) :=
  form_of_request rfl rfl rfl rfl

theorem Form.readBrightness (tag : Byte) (payload : List Byte) : Form.Statement (.readBrightness tag payload) :=
  form_of_request rfl rfl rfl rfl

theorem Form.setBrightness (tag : Byte) (payload : List Byte) : Form.Statement (.setBrightness tag payload) :=
  form_of_request rfl rfl rfl rfl

theorem Form.requestSwap (tag : Byte) (payload : List Byte) : Form.Statement (.requestSwap tag payload) :=
  form_of_request rfl rfl rfl rfl

theorem Form.retryBay (tag : Byte) (payload : List Byte) : Form.Statement (.retryBay tag payload) :=
  form_of_request rfl rfl rfl rfl

theorem Form.readDrop (tag : Byte) (payload : List Byte) : Form.Statement (.readDrop tag payload) :=
  form_of_request rfl rfl rfl rfl

theorem Form.clearDrop (tag : Byte) (payload : List Byte) : Form.Statement (.clearDrop tag payload) :=
  form_of_request rfl rfl rfl rfl

theorem Form.readMotion (tag : Byte) (payload : List Byte) : Form.Statement (.readMotion tag payload) :=
  form_of_request rfl rfl rfl rfl

theorem Form.readPollStatus (tag : Byte) (payload : List Byte) : Form.Statement (.readPollStatus tag payload) :=
  form_of_request rfl rfl rfl rfl

theorem Form.readLinkStatus (tag : Byte) (payload : List Byte) : Form.Statement (.readLinkStatus tag payload) :=
  form_of_request rfl rfl rfl rfl

theorem Form.clearIndicators (tag : Byte) (payload : List Byte) : Form.Statement (.clearIndicators tag payload) :=
  form_of_request rfl rfl rfl rfl

theorem Form.softReset (tag : Byte) (payload : List Byte) : Form.Statement (.softReset tag payload) :=
  form_of_request rfl rfl rfl rfl

theorem Form.portTransactionComplete (seg : Seg) (answer : DeviceAnswer) : Form.Statement (.portTransactionComplete seg answer) :=
  form_of_none rfl

theorem Form.transactionTimeLimit (seg : Seg) : Form.Statement (.transactionTimeLimit seg) :=
  form_of_none rfl

theorem Form.recoveryEnd (seg : Seg) : Form.Statement (.recoveryEnd seg) :=
  form_of_none rfl

theorem Form.suspensionExpiry (seg : Seg) : Form.Statement (.suspensionExpiry seg) :=
  form_of_none rfl

theorem Form.periodicDue (place : Fin 24) : Form.Statement (.periodicDue place) :=
  form_of_none rfl

theorem Form.setupRunDue (place : Fin 24) : Form.Statement (.setupRunDue place) :=
  form_of_none rfl

theorem Form.admitRunDue (place : Fin 24) : Form.Statement (.admitRunDue place) :=
  form_of_none rfl

theorem Form.slotStale (slot : Fin 32) : Form.Statement (.slotStale slot) :=
  form_of_none rfl

theorem Form.lineLevelChange (bay : Bay) (line : BayLine) (active : Bool) : Form.Statement (.lineLevelChange bay line active) :=
  form_of_none rfl

theorem Form.latchChange (bay : Bay) : Form.Statement (.latchChange bay) :=
  form_of_none rfl

theorem Form.presenceRise (bay : Bay) : Form.Statement (.presenceRise bay) :=
  form_of_none rfl

theorem Form.presenceFall (bay : Bay) : Form.Statement (.presenceFall bay) :=
  form_of_none rfl

theorem Form.seatTimerExpiry (bay : Bay) : Form.Statement (.seatTimerExpiry bay) :=
  form_of_none rfl

theorem Form.identifyTimerExpiry (bay : Bay) : Form.Statement (.identifyTimerExpiry bay) :=
  form_of_none rfl

theorem Form.dcinOkChange (high : Bool) : Form.Statement (.dcinOkChange high) :=
  form_of_none rfl

theorem Form.feedbackConducting (src : Src) (conducting : Bool) : Form.Statement (.feedbackConducting src conducting) :=
  form_of_none rfl

theorem Form.confirmTimerExpiry : Form.Statement .confirmTimerExpiry :=
  form_of_none rfl

theorem Form.startupLimitExpiry : Form.Statement .startupLimitExpiry :=
  form_of_none rfl

theorem Form.dwellTimerExpiry : Form.Statement .dwellTimerExpiry :=
  form_of_none rfl

theorem Form.bridgeTimerExpiry : Form.Statement .bridgeTimerExpiry :=
  form_of_none rfl

theorem Form.stepTimerExpiry : Form.Statement .stepTimerExpiry :=
  form_of_none rfl

theorem Form.accWmChange (asserted : Bool) : Form.Statement (.accWmChange asserted) :=
  form_of_none rfl

theorem Form.motionRetryTimer : Form.Statement .motionRetryTimer :=
  form_of_none rfl

theorem Form.sampleLossExpiry : Form.Statement .sampleLossExpiry :=
  form_of_none rfl

theorem Form.fallLimitExpiry : Form.Statement .fallLimitExpiry :=
  form_of_none rfl

theorem Form.settleLimitExpiry : Form.Statement .settleLimitExpiry :=
  form_of_none rfl

theorem Form.parkHoldExpiry : Form.Statement .parkHoldExpiry :=
  form_of_none rfl

theorem Form.shockHoldExpiry : Form.Statement .shockHoldExpiry :=
  form_of_none rfl

end Sys2Proof.Laws
end

