-- ==== Sys2Proof/Tests/Slice0.lean ====
section
/-!
SUPPORT. Tests: ill-formed commands are refused; worked values of the spec; and, for each statement with hypotheses, a
state and operands that meet them, clause by clause.
-/

namespace Sys2Proof.Tests
open Sys2Proof.Machine

-- One theorem after the other: a kernel evaluation waits for those before it, and each waiting one would hold a thread.
set_option Elab.async false

/-! ## Small states -/

/-- Traffic is open, nothing is under way, and the Brightness Controller works. -/
def calm : State :=
  { State.reset with
    now := 1000
    uli := { Uli.reset with phase := .idle, lastActivity := 900 }
    brc := { Brc.reset with
      ceiling := some 300, level := some 200, awaitingLight := false, step := some { start := 900, dur := 100 } }
    smi := { State.reset.smi with activity := .idle, result := some .valid } }

/-- A route entry on SP3 without rules. -/
def plain : RouteSnap where
  key := some 0x29
  seg := .sp3
  down := 0x29
  engineOnly := false
  writeProtect := false
  checked := false
  gate := none
  rules := []
  standIn := none

/-- The same entry behind the gate of bay A, which is EMPTY in `calm`. -/
def gated : RouteSnap := { plain with seg := .sp1, gate := some .a }

/-- The same entry with one rule over every command. -/
def ruled (action : GuardAction) : RouteSnap :=
  { plain with rules := [{ low := 0x00, high := 0xFF, dir := .both, action := action, mask := 0, fill := [] }] }

/-- An open pass-through transaction. -/
def openTxn (e : RouteSnap) (cmd : Option Byte) (data : List Byte) : UpTxn :=
  { addr := 0x29, snap := some e, cmd := cmd, data := data, inLane := false }

/-- `calm` with the link in a phase. -/
def inPhase (phase : Phase) (t : Option UpTxn) : State := { calm with uli := { calm.uli with phase := phase, txn := t } }

/-- A pass-lane transaction. -/
def laneTxn (write : Bool) (key : Option Byte) : LaneTxn :=
  { snap := { plain with key := key }, addr := 0x29, cmd := 0x01, write := write, data := [], trailer := none
    recorded := false }

/-- An attempt to DC is awaited, and a driver write executes. -/
def awaiting : State :=
  { calm with
    ppc := { calm.ppc with
      managed := true
      onSrc := some .br
      record := some
        { origin := some .br, target := .dc, reason := .dcArrival, start := 998, finish := none, result := none }
      attempt := some
        { kind := .policy, target := .dc, old := some .br, reason := .dcArrival
          confirm := { start := 995, dur := 5 }, rest := [] } }
    brc := { calm.brc with write := .executing 500 } }

/-- A bay in a state, with its latch. -/
def withBay (s : State) (bay : Bay) (state : BayState) (latchClosed : Bool) : State :=
  s.setBay bay { s.bay bay with state := state, latchClosed := latchClosed, present := true }

/-- `calm` with a port replaced. -/
def withPort (seg : Seg) (f : Port → Port) : State := calm.setPort seg (f (calm.port seg))

/-- A notice in the queue. -/
def notice (kind : NoticeKind) (severity : Severity) : Notice :=
  { seq := 7, time := 5, kind := kind, severity := severity, subject := 0, repeats := 1, arg1 := 0, arg2 := 0 }

/-- `calm` with notices queued. -/
def queued (q : List Notice) : State := { calm with ntq := Ntq.alert { calm.ntq with queue := q } }

/-- A drop record. -/
def drop (read : Bool) : DropRec :=
  { seq := 1, kind := .drop, followed := false, start := 900, freeFall := 40, parkToImpact := some 3, peak := 400000
    peakCode := 9000, axis := .plusX, impacts := 1, settle := 0, snap := none, before := [], peakTrace := 1500
    after := [], read := read }

/-- The motion state with an open record, as R162 to R164 have it. -/
def moving (state : MotionState) : State :=
  { calm with mtu := { calm.mtu with
      state := state, entry := 900, openRec := some (drop false), park := true, shockHold := true, starved := false } }

/-- A bay's pack carries the load, and the Power Path Controller awaits nothing. -/
def onPack (s : State) (bay : Bay) : State :=
  let s1 := withBay s bay .active true
  let s2 := s1.setSource (baySrc bay) { s1.source (baySrc bay) with sw := .on, onSince := some 500 }
  { s2 with ppc := { s2.ppc with managed := true, onSrc := some (baySrc bay) } }

/-- A slot FRESH since now. -/
def withFresh (s : State) (slot : Fin 32) (value : Int) : State :=
  s.setSlot slot { state := .fresh, value := value, time := some s.now, source := some .poll, implausible := 0 }

/-- The state a command leaves. -/
def after (c : Instr) (s : State) : State :=
  match exec c s with
  | .next t => t
  | .fault f => nomatch f
  | .refused _ => s

/-! ## Well-formedness -/

theorem test_known_code_is_no_unknown_request : (Instr.unknownRequest 0x01 0 []).wellFormed = false := by decide

theorem test_long_payload_is_refused : (Instr.stageWrite 0 (List.replicate 32 0)).wellFormed = false := by decide

theorem test_long_unknown_payload_is_refused : (Instr.unknownRequest 0x99 0 (List.replicate 32 0)).wellFormed = false := by
  decide

theorem test_short_exchange_is_refused :
    (Instr.portTransactionComplete .sp1 (.exchanged (List.replicate 31 0) 0)).wellFormed = false := by decide

theorem test_short_page_is_refused : (Instr.savePageDone true [0, 0]).wellFormed = false := by decide

theorem test_no_row_has_bits : decodeTableWord 16 0x1234 = none := by decide

/-! ## Worked values of the spec -/

/-- Table 7-5. -/
theorem test_log_lux : logLux 100 = 105 ∧ logLux 8000 = 207 ∧ logLux 1048575 = 319 := by decide

/-- R142. -/
theorem test_driver_code : driverCode 1500 1178 = 3216 ∧ driverCode 1500 1500 = 4095 := by decide

/-- Table 6-7. -/
theorem test_ceiling : powerCeiling calm.light 6000 = 1178 ∧ powerCeiling calm.light 1200 = 81 := by decide +kernel

/-- R21 and the CRC-16 of Chapter 11: the check values over the nine bytes of the string 123456789. -/
theorem test_crc_check_values :
    crc8 [0x31, 0x32, 0x33, 0x34, 0x35, 0x36, 0x37, 0x38, 0x39] = 0xF4 ∧
    crc16 [0x31, 0x32, 0x33, 0x34, 0x35, 0x36, 0x37, 0x38, 0x39] = 0x29B1 := by
  decide +kernel

/-- Table 8-5. -/
theorem test_compact : compact 10 1690000 = 11890 ∧ compact 7 1690000 = 1870 ∧ expand 10 11890 = 1689600 := by decide

/-- R173: the service address under a low ADDRSEL. -/
theorem test_service_address : serviceAddr false = 0x2A := by decide

/-- R192: the built-in entry of key 0x0B leads to SP1 behind the gate of bay A. -/
theorem test_default_route : (lookupRoute calm.sru.committed 0x0B).map (fun e => (e.seg, e.gate)) = some (.sp1, some .a) := by
  decide +kernel

/-! ## Witnesses: the queue, reset and the invariants -/

theorem witness_CommandsKeepQueueAndTime : calm.pending = [] ∧ calm.agenda = [] ∧
    Instr.readoutByte ≠ .powerOnReset := by decide

/-- The pack of bay A carries the load and is to be released: its handover to BR is awaited, the drop record settles,
notices wait, and the queue holds a command. -/
def rich : State :=
  let q := queued [notice .impact .urgent, notice .freeFall .warn]
  let s := onPack { q with mtu := (moving .settling).mtu, pending := [.readoutByte] } .a
  let s1 := s.setBay .a { s.bay .a with state := .releasing, origin := some .request, faultPending := true }
  let s2 := s1.setSource .br { s1.source .br with sw := .on }
  let a : Attempt :=
    { kind := .release .a .request, target := .br, old := some .a, reason := .release
      confirm := { start := 998, dur := 5 }, rest := [] }
  { s2 with ppc := { s2.ppc with attempt := some a } }

theorem rich_sources : rich.sourcesSafe ∧ rich.switchesSafe ∧ rich.holdSafe := by
  refine ⟨⟨fun x => ?_, fun x h => ?_, fun a h => ?_, fun x h => ?_⟩, fun bay => ?_, fun _ a h => ?_⟩
  · cases x <;> rfl
  · cases h; rfl
  · cases h; exact ⟨rfl, rfl, by decide⟩
  · cases x
    · exact absurd h (by decide)
    · exact .inl rfl
    · exact absurd h (by decide)
    · exact .inr ⟨_, rfl, rfl⟩
  · cases bay
    · exact ⟨fun _ => .inl (by decide), fun h => absurd h (by decide)⟩
    · exact ⟨fun h => absurd h (by decide), fun _ => .inl (by decide)⟩
  · cases h; exact .inl rfl

/-- One state meets every invariant, and its step answers. -/
theorem witness_invariants : rich.noticesSafe ∧ rich.linksSafe ∧ rich.memorySafe ∧ rich.powerSafe ∧ rich.brightSafe ∧
    rich.motionSafe ∧ rich.baysSafe ∧ rich.baySlotsSafe ∧ ∃ t, step rich = .next t := by
  refine ⟨⟨by decide, by decide⟩, ⟨by decide, fun seg => by cases seg <;> decide⟩, rfl, ⟨by decide, by decide⟩,
    ⟨?_, by decide, by decide, by decide⟩, ⟨rfl, fun _ => ⟨rfl, rfl, rfl, rfl⟩, by decide, ?_⟩, fun bay => ?_,
    fun bay _ => .inl ?_, ⟨_, rfl⟩⟩
  · intro q c hq hc
    cases hq
    cases hc
    decide
  · intro r hr
    cases hr
    decide
  · cases bay <;> simp [BayRec.safe] <;> decide
  · cases bay <;> decide

/-! ## Witnesses: laws over all commands -/

theorem witness_SettingsChangeAtTheirEvents :
    (∃ t, exec .readoutByte calm = .next t) ∧ Instr.readoutByte ≠ .powerOnReset ∧ Instr.readoutByte ≠ .commitSwitch ∧
    Instr.readoutByte ≠ .commitLimitExpiry ∧ (∀ answered, Instr.readoutByte ≠ .settingsLoadEnd answered) ∧
    calm.sru.committed.routes.length = 392 ∧ ¬(384 < 384 ∧ 384 % 12 = 11) ∧ Instr.readoutByte ≠ .rawWritePageDone ∧
    (∀ acknowledged held, Instr.readoutByte ≠ .savePageDone acknowledged held) := by
  refine ⟨⟨_, rfl⟩, ?_, ?_, ?_, ?_, by decide +kernel, ?_, ?_, ?_⟩ <;> simp

theorem witness_UrgentNoticesStay :
    (Instr.readPower 1 [0]).wellFormed = true ∧ rich.agenda = [] ∧ (∃ t, exec (.readPower 1 [0]) rich = .next t) ∧
    notice .impact .urgent ∈ rich.ntq.queue ∧ (notice .impact .urgent).severity = .urgent :=
  ⟨rfl, rfl, ⟨_, rfl⟩, List.mem_cons_self .., rfl⟩

/-- A host transaction is open, of a service code or with a route snapshot. -/
def withOpen (s : State) (t : UpTxn) : State := { s with uli := { s.uli with phase := .command, txn := some t } }

/-- A stop over a service write of another code, one over a pass-through write of that same command byte, and the end of the
first load meet the hypotheses of the two laws. -/
theorem witness_UrgentNoticesStay_stop :
    (∃ t, exec .stopCondition (withOpen rich { openTxn plain (some 0x11) [] with snap := none }) = .next t) ∧
    (withOpen rich { openTxn plain (some 0x11) [] with snap := none }).agenda = [] ∧ (0x11 : Byte) ≠ 0x10 ∧
    (0x11 : Byte) ≠ 0x30 ∧ (0x11 : Byte) ≠ 0x31 ∧ (openTxn plain (some 0x10) []).snap ≠ none ∧
    Instr.stopCondition.wellFormed = true ∧ (∃ t, exec (.settingsLoadEnd true) rich = .next t) ∧
    rich.sru.resetPending = false ∧ (Instr.settingsLoadEnd true).wellFormed = true := by
  refine ⟨⟨_, rfl⟩, ?_, ?_, ?_, ?_, ?_, ?_, ⟨_, rfl⟩, ?_, ?_⟩ <;> decide

/-- A log with an unread record. -/
def logged : State := { calm with mtu := { calm.mtu with log := calm.mtu.log.set 0 (some (drop false)), order := [0] } }

theorem witness_UnreadDropsStay : (Instr.readPower 1 [0]).wellFormed = true ∧ logged.agenda = [] ∧
    (∃ t, exec (.readPower 1 [0]) logged = .next t) ∧ logged.mtu.logAt 0 = some (drop false) ∧ (drop false).read = false :=
  ⟨rfl, rfl, ⟨_, rfl⟩, rfl, rfl⟩

/-- Bay A carries the load while a record is open; DC stands by, and its voltage is the rail's. -/
def swappable : State :=
  let s := onPack { calm with mtu := (moving .settling).mtu } .a
  let s1 := s.setSource .dc { s.source .dc with sw := .standby, eligible := true }
  withFresh (withFresh { s1 with lines := { s1.lines with dcinOk := true } } 13 19000) 14 19000

/-- REQUEST_SWAP under the flag: the bay is RELEASING and its release is awaited. -/
theorem witness_ShockHoldHoldsOff :
    let t := after (.requestSwap 1 [0]) swappable
    (∃ t, exec (.requestSwap 1 [0]) swappable = .next t) ∧ swappable.agenda = [] ∧ t.agenda = [] ∧
    swappable.mtu.shockHold = true ∧ t.mtu.shockHold = true ∧ (swappable.bay .a).state = .active ∧
    (t.bay .a).state = .releasing ∧ swappable.ppc.attempt = none ∧ t.ppc.attempt.isSome = true := by
  refine ⟨⟨_, rfl⟩, rfl, ?_, rfl, ?_, rfl, ?_, rfl, ?_⟩ <;> decide +kernel

theorem witness_SmoothingReachesTarget : 1 ≤ calm.light.alphaUp ∧ calm.light.alphaUp ≤ 256 ∧
    1 ≤ calm.light.alphaDown ∧ calm.light.alphaDown ≤ 256 ∧ 1599 < 16 * 100 ∧ 16 * 100 < 1601 := by decide +kernel

/-- A full queue of records of a kind and severity. -/
def full (kind : NoticeKind) (severity : Severity) : State := queued (List.replicate 16 (notice kind severity))

/-- A post of a severity and of a kind that no queue here holds. -/
def fresh (severity : Severity) : Post := { kind := .commitDone, severity := severity, subject := 9, arg1 := 1, arg2 := 2 }

/-- A post of the kind and subject of `notice`. -/
def again : Post := { kind := .impact, severity := .warn, subject := 0, arg1 := 1, arg2 := 2 }

theorem witness_PostJoinsMergesOrIsDiscarded :
    calm.ntq.queue.length < 16 ∧ ((notice .impact .urgent).kind = again.kind ∧ (notice .impact .urgent).subject = again.subject) ∧
    16 ≤ (full .impact .urgent).ntq.queue.length ∧
    (full .impact .urgent).ntq.queue = List.replicate 15 (notice .impact .urgent) ++ notice .impact .urgent :: [] ∧
    (full .impact .info).ntq.queue = [] ++ notice .impact .info :: List.replicate 15 (notice .impact .info) ∧
    (full .impact .warn).ntq.queue = [] ++ notice .impact .warn :: List.replicate 15 (notice .impact .warn) ∧
    (∀ severity, ∀ m ∈ (full .impact severity).ntq.queue,
      m.severity = severity ∧ ¬(m.kind = (fresh .warn).kind ∧ m.subject = (fresh .warn).subject)) := by
  refine ⟨by decide, ⟨rfl, rfl⟩, by decide, rfl, rfl, rfl, fun severity m hm => ?_⟩
  rw [List.eq_of_mem_replicate (show m ∈ List.replicate 16 (notice .impact severity) from hm)]
  exact ⟨rfl, by simp [notice, fresh]⟩

/-! ## Witnesses: formulas -/

/-- Both sensors are FRESH in the calm state with the built-in LIGHT table, whose status slots are none; and its curve. -/
theorem witness_LightAndDriverCodes_ambient :
    ((withFresh (withFresh calm 10 100) 11 200).slot 10).state = .fresh ∧
    ((withFresh (withFresh calm 10 100) 11 200).slot 11).state = .fresh ∧ (calm.slot 10).state ≠ .fresh ∧
    calm.light.frontStatus = 0xFF ∧ calm.light.rearStatus = 0xFF ∧ calm.light.curveCount = calm.light.curve.length ∧
    2 ≤ calm.light.curve.length ∧ calm.light.curve.length ≤ 16 ∧ calm.light.curve.Pairwise (fun x y => x.1 < y.1) ∧
    calm.light.curve.head? = some (0, 5) ∧ calm.light.curve.getLast? = some (272, 1500) ∧
    calm.light.curve[1]? = some (96, 60) ∧ calm.light.curve[2]? = some (160, 250) ∧ 16 * 96 ≤ 1536 ∧ 1536 < 16 * 160 := by
  decide +kernel

theorem witness_LightAndDriverCodes : 1048575 < 2 ^ 20 ∧ 1 ≤ 1 ∧ 1 < 2 ∧ 1 ≤ 2000 ∧ 2000 ≤ 2000 ∧ 1999 < 2000 := by decide

/-- The built-in display power curve, with an allowance at each boundary of its three cases. -/
theorem witness_CeilingOfAllowance : calm.light.powerCount = calm.light.power.length ∧ 2 ≤ calm.light.power.length ∧
    calm.light.power.length ≤ 8 ∧ calm.light.power.Pairwise (fun x y => x.1 < y.1 ∧ x.2 ≤ y.2) ∧
    calm.light.power.head? = some (0, 900) ∧ calm.light.power.getLast? = some (1500, 7800) ∧
    calm.light.power[3]? = some (1000, 5000) ∧ calm.light.power[4]? = some (1500, 7800) ∧ 5000 ≤ 7799 := by
  decide +kernel

theorem witness_CompactCodesKeepTopBits : 2047 < 2 ^ (10 + 1) ∧ 2 ^ (10 + 1) ≤ 2048 ∧ (2 ^ 24 - 1 : Nat) < 2 ^ 24 ∧
    (-2048 : Int) ≤ 2047 := by decide

/-! ## Witnesses: the upstream link -/

theorem witness_FirstAddressAnswered : calm.agenda = [] ∧ calm.uli.phase = .idle ∧ State.reset.uli.phase = .starting ∧
    (0x2A : Addr) = serviceAddr calm.lines.addrSelHigh ∧ (0x29 : Addr) ≠ serviceAddr calm.lines.addrSelHigh ∧
    reservedAddr 0x29 = false ∧ reservedAddr 0x07 = true ∧ calm.sru.committed.routes.length = 392 ∧
    (lookupRoute calm.sru.committed 0x29).any (fun e => !e.engineOnly && !calm.gateClosed e.gate && e.key == some 0x29) =
      true ∧
    routePlace calm.sru.committed.routes 0x29 = some 3 ∧ lookupRoute calm.sru.committed 0x30 = none ∧
    (lookupRoute calm.sru.committed 0x19).any (fun e => e.engineOnly) = true ∧
    (lookupRoute calm.sru.committed 0x0B).any (fun e => !e.engineOnly && calm.gateClosed e.gate && e.standIn.isNone) =
      true := by decide +kernel

/-- A ROUTES image with one entry, with a guard rule and a stand-in reply, and two windows that take in other addresses. -/
def windowed : Tables :=
  { calm.sru.committed with
    routes := [0x29, 3, 0x29, 0x60, 63, 1, 4, 1, 2, 3, 4, 0] ++ List.replicate 372 0 ++ [0x30, 0x01, 3, 1, 0x40, 0, 2, 0] }

theorem witness_FirstAddressAnswered_lookup : windowed.routes.length = 392 ∧ byteAt windowed.routes 0 = 0x29 ∧
    byteAt windowed.routes 12 = 0 ∧ (routeAt windowed 0).map (fun e => (e.rules.length, e.standIn)) = some (1, some [1, 2, 3, 4]) ∧
    (lookupRoute windowed 0x31).map (fun e => (e.key, e.seg, e.down, e.writeProtect)) = some (none, .sp3, 0x31, true) ∧
    (lookupRoute windowed 0x40).map (fun e => (e.key, e.seg, e.writeProtect)) = some (none, .sp2, false) ∧
    lookupRoute windowed 0x41 = none := by decide +kernel

/-- A service write with its tag and all 31 payload bytes, and one rule of several that takes in a command. -/
theorem witness_HostBytesAreTaken_service :
    (inPhase .writeData (some { openTxn plain (some 1) (List.replicate 32 0) with snap := none })).uli.txn =
      some { openTxn plain (some 1) (List.replicate 32 0) with snap := none } ∧
    32 ≤ (List.replicate 32 (0 : Byte)).length ∧
    (ruled .mask).rules = [] ++
      { low := 0x00, high := 0xFF, dir := .both, action := .mask, mask := 0, fill := [] } :: [] ∧
    (ruled .mask).rule 0x10 true = some { low := 0x00, high := 0xFF, dir := .both, action := .mask, mask := 0, fill := [] } ∧
    (ruled .mask).action 0x10 false = .pass ∧ (0 : Byte).getLsbD 7 = false ∧ plain.rules = [] := by decide

theorem witness_HostBytesAreTaken_bytes :
    (inPhase .address (some { openTxn plain none [] with snap := none })).agenda = [] ∧
    (inPhase .address (some (openTxn (ruled .refuse) none []))).uli.txn = some (openTxn (ruled .refuse) none []) ∧
    (ruled .refuse).action 0x10 true = .refuse ∧ (ruled .refuse).action 0x10 false = .refuse ∧
    (inPhase .drain none).uli.phase = .drain ∧ (inPhase .drain none).agenda = [] ∧
    (inPhase .command (some (openTxn plain (some 1) []))).uli.txn = some (openTxn plain (some 1) []) ∧
    calm.gateClosed gated.gate = true ∧ calm.gateClosed plain.gate = false ∧
    { plain with writeProtect := true }.writeProtect = true ∧ plain.writeProtect = false ∧
    plain.action 1 true ≠ .refuse ∧ plain.action 1 true ≠ .captureLevel ∧
    (ruled .captureLevel).action 1 true = .captureLevel ∧ calm.laneBusy .sp3 = false ∧
    (withPort .sp3 fun p => { p with lane := some (laneTxn true none) }).laneBusy .sp3 = true ∧
    calm.uli.byteHold = none ∧
    (inPhase .writeData (some (openTxn plain (some 1) (List.replicate 31 0)))).uli.phase = .writeData := by decide

/-- A data byte is held since 30 ms ago. -/
def byteHeld (s : State) : State :=
  { s with uli := { s.uli with
      phase := .writeData, txn := some (openTxn plain (some 1) []), byteHold := some (0x55, 970) } }

theorem witness_HostBytesAreTaken_held : (byteHeld calm).agenda = [] ∧ (byteHeld calm).uli.byteHold = some (0x55, 970) ∧
    (byteHeld calm).uli.txn = some (openTxn plain (some 1) []) ∧ (byteHeld calm).laneBusy .sp3 = false ∧
    (byteHeld (withPort .sp3 fun p => { p with lane := some (laneTxn true none) })).laneBusy .sp3 = true ∧
    30 ≤ age (byteHeld calm).now 970 := by decide

theorem witness_StopEndsTransaction : (inPhase .drain none).uli.phase = .drain ∧
    (inPhase .writeData (some (openTxn plain (some 1) [0]))).uli.byteHold = none ∧ plain.checked = false ∧
    { plain with checked := true }.checked = true ∧
    [(7 : Byte), 0xF2] = [7] ++ [crc8 [addressByte (addrByte 0x29) false, 1, 7]] ∧
    [(7 : Byte), 0x42] ≠ [7] ++ [crc8 [addressByte (addrByte 0x29) false, 1, 7]] ∧
    (ruled .captureLevel).action 1 true = .captureLevel ∧ (ruled .refuse).action 1 true = .refuse ∧
    plain.action 1 true = .pass ∧ calm.gateClosed gated.gate = true ∧ calm.gateClosed plain.gate = false ∧
    (withPort .sp3 fun p => { p with lane := some (laneTxn true none) }).laneBusy .sp3 = true ∧
    calm.laneBusy .sp3 = false ∧ (calm.port .sp3).state = .idle ∧
    ((withPort .sp3 fun p => { p with state := .suspended }).port .sp3).state = .suspended ∧
    (withPort .sp3 fun p => { p with state := .busy }).portWaits .sp3 ∧
    (withPort .sp3 fun p => { p with state := .recovering }).portWaits .sp3 ∧ awaiting.brc.write = .executing 500 ∧
    awaiting.ntq.queue = [] ∧ awaiting.brc.mode ≠ .manual ∧
    (inPhase .writeData (some { openTxn plain (some 0x01) [9] with snap := none })).uli.txn =
      some { openTxn plain (some 0x01) [9] with snap := none } ∧
    requestCodes.contains 0x99 = false ∧ Request.identify.code = 0x01 ∧ Request.identify.takes 1 = false ∧
    calm.sru.resetPending = false := by
  refine ⟨by decide, by decide, by decide, by decide, by decide +kernel, by decide +kernel, by decide, by decide, by decide,
    by decide, by decide, by decide, by decide, by decide, by decide, ⟨.inl ?_, ?_⟩, ⟨.inr ?_, ?_⟩, rfl, by decide, by decide, rfl, ?_, rfl, ?_, rfl⟩ <;> decide

theorem witness_ReadsAreTurnedAndHeld_turned :
    (inPhase .command (some (openTxn plain (some 0x10) []))).uli.txn = some (openTxn plain (some 0x10) []) ∧
    calm.gateClosed gated.gate = true ∧ gated.standIn = none ∧ { gated with standIn := some [1, 2, 3, 4] }.standIn =
      some [1, 2, 3, 4] ∧ calm.gateClosed plain.gate = false ∧
    (ruled .refuse).action 0x10 false = .refuse ∧ (ruled .synthLevel).action 0x10 false = .synthLevel ∧
    plain.action 0x10 false ≠ .refuse ∧ plain.action 0x10 false ≠ .synthLevel := by decide

/-- A repeated start in each phase in which it opens a transaction, and the service read forms. -/
theorem witness_ReadsAreTurnedAndHeld_opens :
    (∀ phase, (inPhase phase none).agenda = [] ∧ (inPhase phase none).uli.phase = phase) ∧
    (inPhase .address (some (openTxn plain none []))).uli.txn = some (openTxn plain none []) ∧
    (let s := inPhase .writeData (some (openTxn plain (some 1) [0]))
     (run 4095 (onStop s).2 (onStop s).1).agenda = [] ∧ s.uli.byteHold = none) ∧
    (let s := inPhase .command (some { openTxn plain (some 0x01) [] with snap := none })
     (run 4095 (onStop s).2 (onStop s).1).agenda = [] ∧ ¬(false = true ∧ (0x29 : Addr) = (openTxn plain none []).addr)) ∧
    (inPhase .writeData (some (openTxn plain (some 1) []))).uli.phase = .writeData ∧
    (byteHeld calm).uli.byteHold.isSome = true ∧ calm.sru.response = none ∧ (0x99 : Byte) ≠ 0xF0 ∧ (0x99 : Byte) ≠ 0xF1 ∧
    ({ openTxn plain (some 0xF1) [] with snap := none } : UpTxn).cmd = some 0xF1 := by
  refine ⟨fun _ => ⟨rfl, rfl⟩, rfl, ⟨?_, rfl⟩, ⟨?_, ?_⟩, rfl, ?_, rfl, ?_, ?_, rfl⟩ <;> decide +kernel

/-- A read held since 30 ms ago. -/
def readHeld (s : State) (e : RouteSnap) (inLane : Bool) : State :=
  { s with uli := { s.uli with
      phase := .held, txn := some { openTxn e (some 1) [] with inLane := inLane }, heldSince := some 970 } }

theorem witness_ReadsAreTurnedAndHeld_held :
    (readHeld calm plain false).uli.phase = .held ∧ (readHeld calm plain false).agenda = [] ∧
    (readHeld calm plain false).uli.txn = some (openTxn plain (some 1) []) ∧
    (readHeld calm plain false).uli.heldSince = some 970 ∧ (readHeld calm plain false).gateClosed plain.gate = false ∧
    (readHeld (withPort .sp3 fun p => { p with state := .busy }) plain false).portWaits .sp3 ∧
    ((readHeld (withPort .sp3 fun p => { p with state := .suspended }) plain false).port .sp3).state = .suspended ∧
    ((readHeld (withPort .sp3 fun p => { p with lane := some (laneTxn false none) }) plain true).port .sp3).lane =
      some (laneTxn false none) ∧
    30 ≤ age (readHeld calm plain true).now 970 ∧
    (readHeld calm gated false).gateClosed gated.gate = true ∧ (readHeld calm gated false).laneBusy gated.seg = false ∧
    gated.standIn = none ∧ { gated with standIn := some [1, 2] }.standIn = some [1, 2] ∧
    (readHeld (withPort .sp3 fun p => { p with lane := some (laneTxn false none) }) plain false).laneBusy plain.seg =
      true := by
  refine ⟨by decide, by decide, by decide, by decide, by decide, ⟨.inl ?_, ?_⟩, ?_, ?_, ?_, ?_, ?_, ?_, ?_, ?_⟩ <;> decide

/-- The hand-in at an IDLE port: with nothing waiting there, beside a POLL transaction, and under a commit hold. -/
theorem witness_ReadsAreTurnedAndHeld_idle :
    let at3 := fun f => readHeld (withPort .sp3 f) plain false
    (at3 id).uli.phase = .held ∧ ((at3 id).port .sp3).state = .idle ∧ ((at3 id).port .sp3).mark = .none ∧
    (at3 id).laneBusy plain.seg = false ∧ (at3 id).gateClosed plain.gate = false ∧
    (∀ y ∈ ((at3 id).port .sp3).queue, y.cls ≠ .motion) ∧
    ((at3 fun p => { p with mark := .ready }).port .sp3).mark ≠ .none ∧
    ((at3 fun p => { p with mark := .ready }).port .sp3).state = .idle ∧
    ((at3 fun p => { p with state := .isolated }).port .sp3).state = .isolated ∧
    ((at3 fun p => { p with state := .recovering }).port .sp3).state = .recovering := by decide

/-- R32, R42: a read handed to an IDLE port starts at once; under a commit hold it waits at the READY port. -/
theorem test_idle_port_starts_held_read :
    let left := fun f => (after .heldReadLaneHandin (readHeld (withPort .sp3 f) plain false)).port .sp3
    ((left id).state, (left id).running) = (.busy, some (.lane, 1000)) ∧
    ((left fun p => { p with mark := .held }).state, (left fun p => { p with mark := .held }).mark) = (.idle, .ready) := by
  decide +kernel

/-- A response record. -/
def response (current : Bool) : Response :=
  { code := 0x06, tag := 9, status := .accepted, payload := List.replicate 28 7, current := current }

theorem witness_ReadsAreAnswered : (inPhase .readout none).uli.phase = .readout ∧
    age calm.now calm.uli.lastActivity = 100 ∧ age 934 calm.uli.lastActivity < 35 ∧ 35 ≤ age 935 calm.uli.lastActivity ∧
    (inPhase .address (some { openTxn plain none [] with snap := none })).uli.byteHold = none ∧
    (openTxn plain none []).snap ≠ none ∧
    (inPhase .writeData (some (openTxn plain (some 1) [0]))).uli.phase = .writeData ∧
    { calm.sru with response := some (response true) }.response = some (response true) ∧
    (response true).payload.length ≤ 28 ∧ (response false).current = false ∧ (response true).current = true ∧
    calm.uli.phase = .idle ∧ calm.sru.response = none ∧
    (readHeld calm plain false).uli.phase = .held ∧ { openTxn plain (some 0xF1) [] with snap := none }.snap = none := by
  decide

/-- A waiting response read is held for a current record. -/
def waiting (s : State) (code : Byte) : State :=
  { s with
    uli := { s.uli with
      phase := .held
      txn := some { addr := 0x2A, snap := none, cmd := some 0xF1, data := [], inLane := false }
      heldSince := some 990 }
    sru := { s.sru with
      response := some { code := code, tag := 9, status := .accepted, payload := [], current := true } } }

theorem waiting_waits (s : State) (code : Byte) :
    (waiting s code).waitsFor { code := code, tag := 9, status := .accepted, payload := [], current := true } :=
  ⟨rfl, ⟨_, rfl, rfl⟩, rfl, rfl⟩

/-- R175, R184: the DONE of a SOFT_RESET answers the read held for it, and leaves a read held for another record. -/
theorem test_reset_releases_waiting_read :
    let t := fun code => (handle .resetDone (waiting calm code)).1.uli
    ((t 0x7F).phase, (t 0x7F).answer.take 4) = (.readout, [3, 0x7F, 9, BitVec.ofNat 8 (statusCode .done)]) ∧
    (t 0x06).phase = .held := by decide +kernel

theorem witness_GatedTransactionReachesNoPort :
    (inPhase .writeData (some (openTxn gated (some 1) [0]))).uli.txn = some (openTxn gated (some 1) [0]) ∧
    (inPhase .writeData (some (openTxn gated (some 1) [0]))).gateClosed gated.gate = true ∧
    ∃ t, exec .stopCondition (inPhase .writeData (some (openTxn gated (some 1) [0]))) = .next t :=
  ⟨rfl, by decide, ⟨_, rfl⟩⟩

theorem witness_LaneCompletionsAnswer : (laneTxn true none).write = true ∧ (laneTxn false none).write = false ∧
    { laneTxn false none with recorded := true }.recorded = true ∧ (laneTxn false none).recorded = false ∧
    (laneTxn false none).snap.key = none ∧ (laneTxn false (some 0x29)).snap.key = some 0x29 := by decide

/-! ## Witnesses: service requests, commits and the settings memory -/

theorem calm_serves : calm.servesRequests := ⟨rfl, rfl, rfl⟩

theorem witness_RefusedRequestsAnswer : calm.agenda = [] ∧ calm.uli.phase = .idle ∧
    requestCodes.contains 0x99 = false ∧ Request.commit.takes 2 = false ∧ Request.commit.takes 3 = true ∧
    Request.commit.background = true ∧ { calm.sru with background := .save }.background ≠ .none ∧
    { calm.sru with resetPending := true }.resetPending = true := by decide

theorem witness_ReadingRequestsAnswer : calm.servesRequests := calm_serves

theorem witness_LongReadOutsAnswer : calm.servesRequests ∧ 1 < (2 : Byte).toNat := ⟨calm_serves, by decide⟩

theorem witness_PollAndDropReadsAct : logged.servesRequests ∧ logged.mtu.logAt 0 = some (drop false) ∧
    logged.mtu.logAt 3 = none ∧ 23 < (24 : Byte).toNat ∧ (23 : Byte).toNat ≤ 23 ∧ (3 : Byte).toNat ≤ 3 ∧
    3 < (4 : Byte).toNat ∧ (1 : Byte) ≠ 0 := by
  refine ⟨⟨rfl, rfl, rfl⟩, rfl, rfl, ?_⟩
  decide

theorem witness_StagingAndNoticeRequestsAct : calm.servesRequests ∧ 1 ≤ [(0 : Byte)].length ∧
    (List.replicate 28 (0 : Byte)).length ≤ 28 ∧ calm.sru.committed.routes.length = 392 ∧
    severityOfCode (2 : Byte).toNat = some .urgent ∧ 2 < (3 : Byte).toNat :=
  ⟨calm_serves, by decide, by decide, by decide +kernel, by decide, by decide⟩

theorem witness_CommitIsAccepted : calm.servesRequests ∧ calm.sru.background = .none ∧ (0x80 : Byte) ≠ 0 :=
  ⟨calm_serves, rfl, by decide⟩

/-- The committed tables with one GUARDS rule whose range is reversed. -/
def reversed : Tables := { calm.sru.committed with guards := [0x01] }

theorem witness_CommitConditions : calm.sru.committed.routes.length = 392 ∧ 31 < 32 ∧ 10 < 11 ∧
    2185 + 95 ≤ calm.sru.committed.polls.length ∧ 18 < 19 ∧ badTable 0x2A reversed 1 = some 0 ∧
    ¬u8 reversed.guards 0 ≤ u8 reversed.guards 1 ∧
    (affectedSegments true calm.sru.committed { calm.sru.committed with routes := [] }).get .sp3 = true := by decide +kernel

/-- A load is under way. -/
def loading : State := { calm with smi := { calm.smi with activity := .loading 940 } }

/-- A commit of a mask accepted `passed` ms ago, with its response record. -/
def committing (mask : Byte) (waiting : Bool) (passed : Time) : CommitRec :=
  { gen := 5, mask := mask, waiting := waiting, held := { p1 := false, p2 := false, p3 := true, p4 := false }
    limit := { start := 1000 - passed, dur := 50 } }

/-- A commit under way in a state, with SP3 held while it recovers. -/
def commitIn (s : State) (c : CommitRec) : State :=
  let s1 := s.setPort .sp3 { s.port .sp3 with state := .recovering, mark := .ready }
  { s1 with sru := { s1.sru with
      background := .commit c
      staging := reversed
      response := some { code := 0x06, tag := 9, status := .accepted, payload := [], current := true } } }

theorem witness_MemoryRequestsBegin : calm.servesRequests ∧ calm.sru.background = .none ∧ calm.smi.activity = .idle ∧
    calm.commitRec = none ∧ pair 0xF8 0x1F % 8 = 0 ∧ 1 ≤ (List.replicate 29 (0 : Byte)).length ∧
    (List.replicate 29 (0 : Byte)).length ≤ 29 ∧ 2 < (List.replicate 24 (0 : Byte)).length / 8 ∧
    loading.servesRequests ∧ loading.smi.activity ≠ .idle ∧ (commitIn calm (committing 2 false 1)).servesRequests ∧
    (commitIn calm (committing 2 false 1)).sru.background = .commit (committing 2 false 1) ∧
    (∀ seg, (committing 2 false 1).held.get seg = true → ((commitIn calm (committing 2 false 1)).port seg).state ≠ .idle) := by
  refine ⟨calm_serves, rfl, rfl, rfl, by decide, by decide, by decide, by decide, ⟨rfl, rfl, rfl⟩, by decide, ⟨rfl, rfl, rfl⟩,
    rfl, fun seg => ?_⟩
  cases seg <;> decide

theorem witness_SetBrightnessActs : awaiting.servesRequests ∧ 3 < (4 : Byte).toNat ∧ 64 < (65 : Byte).toInt ∧
    (0xBF : Byte).toInt < -64 ∧ modeOfCode (2 : Byte).toNat = some .manual ∧ -64 ≤ (0xC0 : Byte).toInt ∧
    (64 : Byte).toInt ≤ 64 ∧ awaiting.brc.write = .executing 500 ∧ awaiting.brc.ceiling.isSome = true :=
  ⟨⟨rfl, rfl, rfl⟩, by decide, by decide, by decide, rfl, by decide, by decide, rfl, rfl⟩

/-- An awaited attempt with its switches: every switch is OFF but BR's, which stands by. -/
theorem awaiting_switches (s : State) (a : (s.source .a).sw = .off) (b : (s.source .b).sw = .off) : s.switchesSafe := by
  intro bay
  cases bay
  · exact ⟨fun h => absurd (a.symm.trans h) (by decide), fun _ => .inl a⟩
  · exact ⟨fun h => absurd (b.symm.trans h) (by decide), fun _ => .inl b⟩

theorem witness_SwapAndRetryAct : calm.servesRequests ∧ 1 < (2 : Byte).toNat ∧ calm.sru.background = .none ∧
    (calm.bay .a).state ≠ .ready ∧ (calm.bay .a).state ≠ .active ∧
    (calm.bay .a).state ≠ .faulted ∧ (withBay awaiting .b .ready true).servesRequests ∧
    (withBay awaiting .b .ready true).engaged ∧ (withBay awaiting .b .ready true).switchesSafe ∧
    (withBay awaiting .b .ready true).sru.background = .none ∧
    ((withBay awaiting .b .ready true).bay .b).state = .ready ∧ (withBay awaiting .a .faulted true).servesRequests ∧
    (withBay awaiting .a .faulted true).engaged ∧ (withBay awaiting .a .faulted true).switchesSafe ∧
    ((withBay awaiting .a .faulted true).bay .a).latchClosed = true ∧
    ((withBay awaiting .a .faulted true).bay .a).state = .faulted :=
  ⟨calm_serves, by decide, rfl, by decide, by decide, by decide, ⟨rfl, rfl, rfl⟩, ⟨rfl, rfl, 500, rfl⟩,
    awaiting_switches _ rfl rfl, rfl, rfl, ⟨rfl, rfl, rfl⟩, ⟨rfl, rfl, 500, rfl⟩, awaiting_switches _ rfl rfl, rfl, rfl⟩

/-- The built-in tables' image has the length of the header. -/
theorem builtin_length : (imageBytes builtinTables).length = imageLength := by decide +kernel

/-- An empty memory is read for 60 ms. -/
theorem shipped_wait (s : State) (h : s.smi.memory = []) : s.loadWait true = 60 := by
  have e : s.loadNumber 0 = 1 ∧ s.loadNumber 2 = 5034 := by
    simp [State.loadNumber, pair, readCell, h, memoryDefault, shippedBytes, headerBytes, Builtin.le2,
      Builtin.b0, builtin_length, imageLength]
  simp [State.loadWait, e]

theorem witness_LoadOpensTraffic :
    let s := { State.reset with now := 60 }
    s.agenda = [] ∧ s.smi.activity = .loading 0 ∧ s.sru.resetPending = false ∧ s.loadWait true ≤ age s.now 0 ∧
    age 59 0 < s.loadWait true ∧ s.loadWait false ≤ age 0 0 ∧ (∀ seg, (s.port seg).bare) ∧ s.starting := by
  refine ⟨rfl, rfl, rfl, ?_, ?_, by decide, fun seg => ?_, ?_⟩
  · rw [shipped_wait _ rfl]; decide
  · rw [shipped_wait _ rfl]; decide
  · cases seg <;> exact ⟨rfl, rfl, rfl⟩
  · exact ⟨⟨{ a := false, b := false }, { a := false, b := false }, [], true, rfl⟩, fun bay => by cases bay <;> rfl, rfl,
      fun x => by cases x <;> rfl⟩

/-- The read of a SOFT_RESET is under way while a confirm is awaited. -/
def resetting : State :=
  { awaiting with
    smi := { awaiting.smi with activity := .loading 940 }
    sru := { awaiting.sru with resetPending := true } }

theorem witness_ResetActs : resetting.engaged ∧ resetting.smi.activity = .loading 940 ∧
    resetting.sru.resetPending = true ∧ resetting.loadWait true ≤ age resetting.now 940 ∧ resetting.uli.phase ≠ .held ∧
    ((waiting resetting 0x7F).engaged ∧ (waiting resetting 0x7F).smi.activity = .loading 940 ∧
      (waiting resetting 0x7F).loadWait true = resetting.loadWait true) ∧
    (∀ seg, (resetting.port seg).queue = [] ∧ (resetting.port seg).lane = none ∧ (resetting.port seg).mark = .none) ∧
    (∀ bay, (resetting.bay bay).state ≠ .identifying) ∧ resetting.mtu.openRec = none ∧
    { resetting with mtu := (moving .settling).mtu }.mtu.openRec.isSome = true := by
  refine ⟨⟨rfl, rfl, 500, rfl⟩, rfl, rfl, ?_, by decide, ⟨⟨rfl, rfl, 500, rfl⟩, rfl, rfl⟩, fun seg => ?_, fun bay => ?_,
    rfl, rfl⟩
  · rw [shipped_wait _ rfl]; decide
  · cases seg <;> exact ⟨rfl, rfl, rfl⟩
  · cases bay <;> decide

/-- The same read with no confirm awaited. -/
def resettingIdle : State :=
  { calm with smi := { calm.smi with activity := .loading 940 }, sru := { calm.sru with resetPending := true } }

theorem witness_ResetActs_idle : resettingIdle.agenda = [] ∧ resettingIdle.ppc.attempt = none ∧
    resettingIdle.ppc.moving = false ∧ resettingIdle.ppc.switching = false ∧
    resettingIdle.smi.activity = .loading 940 ∧ resettingIdle.sru.resetPending = true ∧
    resettingIdle.loadWait true ≤ age resettingIdle.now 940 ∧
    (∀ seg, (resettingIdle.port seg).queue = [] ∧ (resettingIdle.port seg).lane = none ∧
      (resettingIdle.port seg).mark = .none) ∧
    (∀ bay, (resettingIdle.bay bay).state ≠ .identifying) ∧ resettingIdle.mtu.openRec = none := by
  refine ⟨rfl, rfl, rfl, rfl, rfl, rfl, ?_, fun seg => ?_, fun bay => ?_, rfl⟩
  · rw [shipped_wait _ rfl]; decide
  · cases seg <;> exact ⟨rfl, rfl, rfl⟩
  · cases bay <;> decide

theorem witness_CommitValidatesOrFails :
    let s := fun mask => commitIn calm (committing mask false 2)
    (s 0x10).agenda = [] ∧ (s 0x10).sru.background = .commit (committing 0x10 false 2) ∧ (s 0x10).awaitsEnd 0x06 9 ∧
    (∀ seg, (committing 0x10 false 2).held.get seg = true → ((s 0x10).port seg).state ≠ .idle) ∧
    age calm.now (committing 0x10 false 1).limit.start < 2 ∧ 2 ≤ age calm.now (committing 0x10 false 2).limit.start ∧
    firstFailure 0x2A 0x10 (s 0x10).sru.staging = none ∧ firstFailure 0x2A 0x02 (s 0x02).sru.staging = some (1, 0) ∧
    age calm.now (committing 0x10 true 49).limit.start < 50 ∧ 50 ≤ age calm.now (committing 0x10 true 50).limit.start ∧
    (committing 0x10 true 50).waiting = true ∧
    (commitIn calm (committing 0x10 true 50)).unmet (committing 0x10 true 50) = 0 ∧
    (commitIn awaiting (committing 0x40 true 50)).unmet (committing 0x40 true 50) ≠ 0 := by
  refine ⟨rfl, rfl, ⟨by decide, rfl⟩, fun seg => ?_, by decide, by decide, by decide, by decide +kernel, by decide,
    by decide, rfl, by decide +kernel, by decide +kernel⟩
  cases seg <;> decide

theorem witness_CommitSwitchesTables :
    let s := fun mask => commitIn calm (committing mask true 2)
    (∀ mask, (s mask).agenda = [] ∧ (s mask).sru.background = .commit (committing mask true 2) ∧
      (s mask).awaitsEnd 0x06 9 ∧ (∀ seg, ((s mask).port seg).bare) ∧ ∀ bay, ((s mask).bay bay).state ≠ .identifying) ∧
    (committing 0x01 false 2).waiting = false ∧ (committing 0x01 true 2).waiting = true ∧
    (∀ mask ∈ [(0x01 : Byte), 0x02, 0x04, 0x08, 0x10, 0x20, 0x40, 0x80], (s mask).unmet (committing mask true 2) = 0) ∧
    reversed.routes.length = 392 ∧ routePlace calm.sru.committed.routes 0x29 = some 3 ∧ (0x2F : Byte) &&& 0xD0 = 0 ∧
    (0x0B : Byte) &&& 0xF4 = 0 ∧ (commitIn awaiting (committing 0x10 true 2)).ppc.attempt.isSome = true ∧
    (commitIn awaiting (committing 0x10 true 2)).unmet (committing 0x10 true 2) = 0 := by
  refine ⟨fun mask => ⟨rfl, rfl, ⟨show Phase.idle ≠ .held by decide, rfl⟩, fun seg => ?_, fun bay => ?_⟩, rfl, rfl,
    ?_, ?_, ?_, by decide, by decide, rfl, ?_⟩
  · cases seg <;> exact ⟨rfl, rfl, rfl⟩
  · cases bay <;> simp [commitIn, calm, State.bay, State.setPort, State.reset, State.afterReset] <;> decide
  all_goals decide +kernel

/-- A save whose page `done` is under way since 5 ms, with the image given. -/
def saving (done : Nat) (image : List Byte) : State :=
  { calm with
    smi := { calm.smi with activity := .saving { image := image, gen := 3, done := done, start := 995 } }
    sru := { calm.sru with
      background := .save
      response := some { code := 0x07, tag := 9, status := .accepted, payload := [], current := true } } }

theorem witness_PagesAreWritten : (saving 0 []).agenda = [] ∧ (saving 630 []).sru.background = .save ∧
    (saving 0 []).awaitsEnd 0x07 9 ∧ 5 ≤ age calm.now 995 ∧
    [(1 : Byte), 2, 3, 4, 5, 6, 7, 8].take 8 = (([1, 2, 3, 4, 5, 6, 7, 8] : List Byte).drop 0).take 8 ∧
    [(9 : Byte), 2, 3, 4, 5, 6, 7, 8].take 8 ≠ (([1, 2, 3, 4, 5, 6, 7, 8] : List Byte).drop 0).take 8 ∧
    (0 < 630 ∧ (629 : Nat) < 630) ∧
    ({ pages := rawPages 8184 (List.replicate 8 1), start := 995 } : RawRec).pages = (8184, List.replicate 8 1) :: [] :=
  ⟨rfl, rfl, ⟨by decide, rfl⟩, by decide, by decide, by decide, by decide, by decide⟩

/-- A waiting response read is held while each background operation ends: a commit, whose SP3 is no IDLE port, a save at
its last page and one whose page does not read back, and a swap. -/
theorem witness_ReadsAreAnswered_released :
    let commit := fun (c : CommitRec) => waiting (commitIn calm c) 0x06
    let save := waiting (saving 630 [1, 2, 3, 4, 5, 6, 7, 8]) 0x07
    let swap := fun (bay : Bay) => { waiting calm 0x25 with sru := { (waiting calm 0x25).sru with background := .swap bay } }
    (∀ c, (commit c).agenda = [] ∧ (commit c).sru.background = .commit c ∧
      (commit c).waitsFor { code := 0x06, tag := 9, status := .accepted, payload := [], current := true }) ∧
    (∀ mask passed seg, (committing mask true passed).held.get seg = true →
      ((commit (committing mask true passed)).port seg).rests) ∧
    firstFailure 0x2A 0x02 (commit (committing 0x02 false 2)).sru.staging = some (1, 0) ∧
    50 ≤ age (commit (committing 0x10 false 50)).now (committing 0x10 false 50).limit.start ∧
    (commit (committing 0x02 true 2)).unmet (committing 0x02 true 2) = 0 ∧ (0x02 : Byte) &&& 0xF4 = 0 ∧
    save.agenda = [] ∧ save.sru.background = .save ∧ 5 ≤ age save.now 995 ∧
    [(1 : Byte), 2, 3, 4, 5, 6, 7, 8].take 8 = (([1, 2, 3, 4, 5, 6, 7, 8] : List Byte).drop 0).take 8 ∧
    [(9 : Byte)].take 8 ≠ (([1, 2, 3, 4, 5, 6, 7, 8] : List Byte).drop 0).take 8 ∧
    (∀ bay, (swap bay).sru.background = .swap bay) ∧ (0x06 : Byte) ≠ 0x25 := by
  refine ⟨fun c => ⟨rfl, rfl, waiting_waits _ _⟩, fun mask passed seg h => ?_, by decide +kernel, by decide,
    by decide +kernel, by decide, rfl, rfl, by decide, by decide, by decide, fun _ => rfl, by decide⟩
  cases seg
  case sp3 => exact .inl (show PortState.recovering ≠ .idle by decide)
  all_goals exact absurd (show false = true from h) (by decide)

/-! ## Witnesses: ports, polls and telemetry -/

/-- The driver's level write. -/
def levelWrite : EngTxn :=
  { issuer := .brc, cls := .control, arrival := 3, passedOver := 0, gate := none, write := true, down := 0x2C, cmd := 0x10
    data := [0xF4, 0x01], readLen := 0, checked := false }

/-- A poll read of place 4, which no descriptor follows. -/
def pollRead : EngTxn :=
  { levelWrite with
    issuer := .ple { place := 4, source := .poll, descs := [], orphan := false }, cls := .poll, write := false, readLen := 2 }

/-- A port of `calm` executes since 25 ms ago. -/
def executing (x : Running) (lane : Option LaneTxn) : State :=
  withPort .sp3 fun p => { p with state := .busy, running := some (x, 975), lane := lane }

theorem witness_PortTransactionCompletes : levelWrite.form.write = true ∧ pollRead.form.write = false ∧ 3 ≤ 3 ∧
    3 < ([addressByte 0x2C false, 0x10] ++ levelWrite.data ++ levelWrite.form.sentTrailer.toList).length ∧
    (executing (.engine levelWrite) none).agenda = [] ∧ ((executing (.engine levelWrite) none).port .sp3).state = .busy ∧
    ((executing (.engine levelWrite) none).port .sp3).queue = [] ∧
    ((executing (.engine levelWrite) none).port .sp3).mark = .none ∧
    ((executing (.engine levelWrite) none).port .sp3).running = some (.engine levelWrite, 975) ∧
    levelWrite.form.finish (.notAcknowledged 34) = none ∧
    (levelWrite.form.finish (.exchanged [] 0)).map (fun e => e.outcome) = some .done ∧
    (pollRead.form.finish (.exchanged [] 0)).map (fun e => e.data) = some [0xFF, 0xFF] ∧
    (calm.pollEntry 4).map (fun e => e.kind) = some .periodic ∧
    ((executing .lane (some (laneTxn true none))).port .sp3).lane = some (laneTxn true none) ∧
    ((executing .lane (some (laneTxn false none))).port .sp3).running = some (.lane, 975) ∧
    (laneTxn true none).form.finish (.notAcknowledged 4) = none ∧
    ((laneTxn true none).form.finish (.notAcknowledged 0)).map (fun e => e.outcome) = some .nackTarget ∧
    (laneTxn false none).write = false ∧ (laneTxn false none).snap.key = none ∧
    (laneTxn false none).snap.checked = false ∧ (laneTxn false none).recorded = false := by decide +kernel

theorem witness_PortTimersExpire :
    ((executing (.engine levelWrite) none).port .sp3).running = some (.engine levelWrite, 975) ∧ age 999 975 < 25 ∧
    25 ≤ age (executing .lane none).now 975 ∧
    ((executing .lane (some (laneTxn true none))).port .sp3).lane = some (laneTxn true none) ∧
    (let recovering := fun n => withPort .sp3 fun p => { p with
        state := .recovering, timeouts := n, recovery := some { start := 999, dur := 1 } }
      let suspended := withPort .sp3 fun p => { p with
        state := .suspended, suspension := some { start := 0, dur := 1000 } }
      ((recovering 2).port .sp3).bare ∧ ((recovering 2).port .sp3).mark = .none ∧
      ((recovering 2).port .sp3).state = .recovering ∧ age 999 999 < 1 ∧ 1 ≤ age (recovering 2).now 999 ∧
      ((recovering 2).port .sp3).timeouts < 3 ∧ ((recovering 3).port .sp3).timeouts = 3 ∧
      (suspended.port .sp3).bare ∧ (suspended.port .sp3).state = .suspended ∧ 1000 ≤ age suspended.now 0 ∧ age 999 0 < 1000) :=
  ⟨rfl, by decide, by decide, rfl, ⟨rfl, rfl, rfl⟩, rfl, rfl, by decide, by decide, by decide, rfl, ⟨rfl, rfl, rfl⟩, rfl,
    by decide, by decide⟩

/-- Transactions of the classes given, with their arrivals. -/
def waitingTxns (l : List (TxnClass × Nat)) : List EngTxn := l.map fun q => { levelWrite with cls := q.1, arrival := q.2 }

/-- Eight CONTROL transactions, but for the class of the second. -/
def eight (second : TxnClass) : List EngTxn :=
  waitingTxns [(.control, 0), (second, 1), (.control, 2), (.control, 3), (.control, 4), (.control, 5), (.control, 6),
    (.control, 7)]

/-- The eviction of the oldest POLL and of the oldest CONTROL, and the refusal among eight MOTION. -/
theorem witness_PortsPlaceAndSelect_place :
    ((withPort .sp3 fun p => { p with state := .suspended }).port .sp3).state = .suspended ∧
    (calm.port .sp3).state ≠ .suspended ∧ (calm.port .sp3).state ≠ .isolated ∧ (calm.port .sp3).queue.length < 8 ∧
    8 ≤ (eight .poll).length ∧ levelWrite.cls ≠ .motion ∧ { levelWrite with cls := .motion }.cls = .motion ∧
    eight .poll = (eight .poll).take 1 ++ { levelWrite with cls := .poll, arrival := 1 } :: (eight .poll).drop 2 ∧
    (∀ y ∈ (eight .poll).take 1, y.cls ≠ .poll ∧ y.arrival ≠ 1) ∧
    eight .motion = [] ++ { levelWrite with arrival := 0 } :: (eight .motion).drop 1 ∧
    (∀ y ∈ eight .motion, y.cls ≠ .poll) ∧
    ∀ y ∈ waitingTxns (List.replicate 8 (.motion, 0)), y.cls = .motion := by decide

/-- The selection of MOTION, of the pass lane, of CONTROL and of POLL, over an open and a closed gate. -/
theorem witness_PortsPlaceAndSelect_boundary :
    (calm.port .sp3).state = .idle ∧ (calm.port .sp3).mark = .none ∧ (calm.port .sp3).lane = none ∧
    ((withPort .sp3 fun p => { p with mark := .held }).port .sp3).mark ≠ .none ∧
    waitingTxns [(.poll, 0), (.control, 1), (.motion, 2)] =
      waitingTxns [(.poll, 0), (.control, 1)] ++ { levelWrite with cls := .motion, arrival := 2 } :: [] ∧
    (∀ y ∈ waitingTxns [(.poll, 0), (.control, 1)], y.arrival ≠ 2 ∧ y.cls ≠ .motion) ∧
    (∀ y ∈ waitingTxns [(.poll, 0)], y.cls ≠ .control ∧ y.arrival ≠ 1) ∧ calm.gateClosed (some .a) = true ∧
    calm.gateClosed levelWrite.gate = false ∧ levelWrite.issuer = .brc ∧
    { levelWrite with issuer := .mtu }.issuer = .mtu ∧
    { calm.brc with write := .queued 500 }.write = .queued 500 ∧
    ((withPort .sp3 fun p => { p with lane := some (laneTxn true (some 0x29)) }).port .sp3).lane =
      some (laneTxn true (some 0x29)) ∧
    calm.gateClosed (laneTxn true (some 0x29)).snap.gate = false ∧ (laneTxn false none).snap.key = none ∧
    calm.sru.committed.routes.length = 392 ∧ routePlace calm.sru.committed.routes 0x29 = some 3 ∧
    (routeOf calm.sru.committed 0x29).any (fun r => r.seg == .sp3 && r.down == 0x29) = true := by decide +kernel

/-- SP3 is busy, and a poll entry is due now. -/
def due (place : Fin 24) (state : PollState) : State :=
  (executing (.engine levelWrite) none).setPoll place
    { PollStatus.reset with state := state, nextDue := some 1000, admitDue := some 1000 }

/-- The ROUTES image with the entry of key 0x29 behind the gate of bay A. -/
def gatedTables : Tables := { calm.sru.committed with routes := calm.sru.committed.routes.set 39 0x08 }

/-- What a due entry meets: its kind, whether it is alone at its instant, whether its gate is closed, whether its port is
away, and whether it has room there. -/
def entryFacts (s : State) (place : Fin 24) : Option (PollKind × Bool × Bool × Bool × Bool) :=
  (s.pollEntry place).map fun e => (e.kind, s.dueWith place == [place],
    (routeOf s.sru.committed e.target).any fun r => s.gateClosed r.gate,
    (routeOf s.sru.committed e.target).any fun r => (s.port r.seg).state == .suspended,
    (routeOf s.sru.committed e.target).any fun r => !s.gateClosed r.gate && (s.port r.seg).state == .busy &&
      decide ((s.port r.seg).queue.length < 8))

theorem witness_DueEntriesRun_times : (due 4 .idle).agenda = [] ∧ (due 4 .idle).opened = true ∧
    calm.isDue 4 (fun k => k == .periodic) = false ∧ (due 4 .idle).isDue 4 (fun k => k == .periodic) = true ∧
    (due 2 .idle).isDue 2 (fun k => k == .setup) = true ∧ (due 10 .idle).isDue 10 (fun k => isAdmission k) = true ∧
    ((due 4 .idle).poll 4).nextDue = some 1000 ∧ ((due 2 .idle).poll 2).dueTaken = false ∧
    ((due 10 .idle).poll 10).admitDue = some 1000 ∧ reached (due 4 .idle).now 1000 = true ∧
    ((due 4 .inFlight).poll 4).state ≠ .idle ∧ ((due 4 .idle).poll 4).state = .idle := by decide +kernel

/-- Place 4 is a PERIODIC entry and place 2 a SETUP entry on SP3, place 8 a PERIODIC one behind the closed gate of bay A,
and place 10 an ADMIT entry of bay A, here with SP1 busy and the gate open. -/
theorem witness_DueEntriesRun_places : entryFacts (due 4 .idle) 4 = some (.periodic, true, false, false, true) ∧
    entryFacts (due 8 .idle) 8 = some (.periodic, true, true, false, false) ∧
    entryFacts (due 2 .idle) 2 = some (.setup, true, false, false, true) ∧
    entryFacts { due 2 .idle with sru := { calm.sru with committed := gatedTables } } 2 =
      some (.setup, true, true, false, false) ∧
    entryFacts ((due 2 .idle).setPort .sp3 { calm.port .sp3 with state := .suspended }) 2 =
      some (.setup, true, false, true, false) ∧
    entryFacts ((withBay (due 10 .idle) .a .identifying true).setPort .sp1 { calm.port .sp1 with state := .busy }) 10 =
      some (.admission .a, true, false, false, true) ∧
    (routeOf { calm.sru.committed with routes := List.replicate 392 0 } 0x29) = none := by
  refine ⟨?_, ?_, ?_, ?_, ?_, ?_, ?_⟩ <;> decide +kernel

/-- A descriptor over the first bit, into slot 20. -/
def oneBit : Descriptor :=
  { position := 0, length := 1, signExtend := false, shift := 0, multiplier := 1, offset := 0, slot := 20, low := 0, high := 1 }

/-- The response 0x01 gives raw 1; offsets lead it out of range and out of its limits; slot 0 is the EMPTY bay A's. -/
theorem witness_PollReadsWriteSlots_descriptors : 1 ≤ oneBit.length ∧
    (∀ j, (1 : Nat).testBit j = (decide (j < oneBit.length) &&
      (byteAt [0x01] ((oneBit.position + j) / 8)).toNat.testBit ((oneBit.position + j) % 8))) ∧
    8 * ([] : List Byte).length < oneBit.position + oneBit.length ∧
    oneBit.position + oneBit.length ≤ 8 * [(0x01 : Byte)].length ∧
    ((1 : Int) * oneBit.multiplier / 2 ^ oneBit.shift + 2147483647 > 2147483647) ∧
    oneBit.low ≤ 1 ∧ 1 ≤ oneBit.high ∧ { oneBit with low := 2 }.low > 1 ∧ slotBay 20 = none ∧ slotBay 0 = some .a ∧
    (calm.bay .a).state = .empty := by
  refine ⟨by decide, fun j => ?_, by decide⟩
  rcases j with _ | j
  · decide
  · simp [oneBit, Nat.testBit_succ]

/-- A SETUP run of place 2 waits for the gate of bay A. -/
def gateWaiting : State :=
  { calm.setPoll 2 { PollStatus.reset with gateWait := true } with sru := { calm.sru with committed := gatedTables } }

theorem witness_PollReadsWriteSlots_rules :
    pollRead.issuer = .ple { place := 4, source := .poll, descs := [], orphan := false } ∧
    (calm.pollEntry 4).map (fun e => e.kind) = some .periodic ∧ (calm.pollEntry 2).map (fun e => e.kind) = some .setup ∧
    (calm.pollEntry 10).map (fun e => e.kind) = some (.admission .a) ∧ gateOpen .seated = false ∧
    gateOpen .identifying = true ∧ (gateWaiting.poll 2).gateWait = true ∧
    (gateWaiting.pollEntry 2).any (fun e => (routeOf gateWaiting.sru.committed e.target).any fun r => r.gate == some .a) =
      true ∧ BayState.ready ≠ .identifying := by decide +kernel

/-- A FRESH slot last written at time 0. -/
def written (s : State) (slot : Fin 32) : State :=
  { s with now := 60000 }.setSlot slot { state := .fresh, value := 9, time := some 0, source := some .poll, implausible := 0 }

theorem witness_SlotBecomesStale : calm.agenda = [] ∧ calm.expired 10 = false ∧ (written calm 15).expired 15 = true ∧
    (written calm 15).eligibilityChanges = false ∧ (written awaiting 14).expired 14 = true ∧
    (written awaiting 14).ppc.attempt.isSome = true ∧ ((written awaiting 14).bay .a).state ≠ .identifying ∧
    ((written awaiting 14).bay .b).state ≠ .identifying := by decide +kernel

/-! ## Witnesses: bays, power path and classifier -/

/-- A bay whose two filters time a change to a level since 8 ms ago. -/
def filtering (s : State) (bay : Bay) (line : Bool) : State :=
  let f : LineFilter := { line := line, out := !line, since := some 992 }
  s.setBay bay { s.bay bay with latchFilter := f, presenceFilter := f }

theorem witness_LatchIsTaken_commands : (filtering calm .a true).agenda = [] ∧ (calm.bay .a).latchFilter.since = none ∧
    ((filtering calm .a true).bay .a).latchFilter.since = some 992 ∧ age 999 992 < calm.supply.debounce ∧
    calm.supply.debounce ≤ age calm.now 992 ∧ State.reset.uli.phase = .starting ∧ calm.uli.phase ≠ .starting ∧
    ((filtering calm .a true).bay .a).state = .empty ∧
    (filtering (withBay awaiting .b .active true) .b false).engaged ∧
    (filtering (withBay awaiting .b .active true) .b false).switchesSafe ∧
    ((filtering (withBay awaiting .b .active true) .b false).bay .b).latchFilter.line = false ∧
    ((filtering (withBay awaiting .b .active true) .b false).bay .b).state = .active ∧
    awaiting.mtu.shockHold = false ∧ (moving .settling).mtu.shockHold = true :=
  ⟨rfl, rfl, rfl, by decide +kernel, by decide +kernel, rfl, by decide, rfl, ⟨rfl, rfl, 500, rfl⟩, awaiting_switches _ rfl rfl,
    rfl, rfl, rfl, rfl⟩

theorem witness_LatchIsTaken_closings :
    let s := fun (state : BayState) (line wasActive pending : Bool) =>
      let x := filtering (withBay calm .a state (!line)) .a line
      x.setBay .a { x.bay .a with wasActive := wasActive, faultPending := pending }
    ((s .identifying false false false).bay .a).latchFilter.line = false ∧
    ((s .identifying false false false).bay .a).state = .identifying ∧
    ((s .suspect true true false).bay .a).latchFilter.line = true ∧
    ((s .suspect true true false).bay .a).wasActive = true ∧ ((s .suspect true false true).bay .a).wasActive = false ∧
    ((s .suspect true false true).bay .a).faultPending = true ∧
    ((s .suspect true false false).bay .a).faultPending = false ∧
    ((s .released true false false).bay .a).state = .released ∧ ((s .released true false false).bay .a).present = true ∧
    ((s .releaseBlocked true false false).bay .a).state = .releaseBlocked :=
  ⟨rfl, rfl, rfl, rfl, rfl, rfl, rfl, rfl, rfl, rfl⟩

/-- The latch opens in SUSPECT, RELEASED and RELEASE_BLOCKED, and closes in IDENTIFYING, READY and ACTIVE and in RELEASED
without a pack. -/
theorem witness_LatchIsTaken_recorded :
    let s := fun (state : BayState) (line : Bool) => (filtering (withBay calm .a state (!line)) .a line).bay .a
    (∀ state ∈ [BayState.suspect, .released, .releaseBlocked],
      (s state false).state = state ∧ (s state false).latchFilter.line = false) ∧
    (∀ state ∈ [BayState.identifying, .ready, .active],
      (s state true).state = state ∧ (s state true).latchFilter.line = true) ∧
    { s .released true with present := false }.present = false := by decide

/-- The pack of bay A carries the load and its presence line has fallen; DC-in is absent, or present. -/
def departing (dcin : Bool) : State :=
  let s := filtering (onPack { calm with brc := { calm.brc with write := .executing 500 } } .a) .a false
  { s with lines := { s.lines with dcinOk := dcin } }

theorem witness_PresenceIsTaken_loss : ∀ dcin, (departing dcin).agenda = [] ∧ (departing dcin).powerIdle ∧
    (departing dcin).brc.write = .executing 500 ∧ (departing dcin).uli.phase ≠ .starting ∧
    ((departing dcin).bay .a).presenceFilter.since = some 992 ∧ (departing dcin).supply.debounce ≤ age (departing dcin).now 992 ∧
    ((departing dcin).bay .a).presenceFilter.line = false ∧ ((departing dcin).bay .a).state ≠ .empty ∧
    (departing dcin).ppc.onSrc = some (baySrc .a) ∧ ((departing dcin).source (baySrc .a)).sw = .on ∧
    ((departing dcin).port (baySeg .a)).bare ∧ (departing dcin).lines.dcinOk = dcin ∧
    ((departing dcin).bay (otherBay .a)).state = .empty ∧ (departing dcin).ntq.queue = [] := by
  intro dcin
  cases dcin <;>
    exact ⟨rfl, ⟨rfl, rfl, rfl, rfl, rfl, rfl, rfl, rfl⟩, rfl, by decide, rfl, by decide +kernel, rfl, by decide, rfl, rfl,
      ⟨rfl, rfl, rfl⟩, rfl, rfl, rfl⟩

theorem witness_PresenceIsTaken : (filtering awaiting .a true).engaged ∧ (filtering awaiting .a true).switchesSafe ∧
    (filtering awaiting .a true).uli.phase ≠ .starting ∧
    ((filtering awaiting .a true).bay .a).presenceFilter.since = some 992 ∧ age 999 992 < awaiting.supply.debounce ∧
    awaiting.supply.debounce ≤ age awaiting.now 992 ∧ ((filtering awaiting .a true).bay .a).state = .empty ∧
    ((filtering awaiting .a true).bay .a).presenceFilter.line = true ∧
    (filtering (withBay awaiting .a .ready true) .a false).engaged ∧
    (filtering (withBay awaiting .a .ready true) .a false).switchesSafe ∧
    ((filtering (withBay awaiting .a .ready true) .a false).bay .a).state ≠ .empty ∧
    ((filtering (withBay awaiting .a .ready true) .a false).bay .a).presenceFilter.line = false ∧
    ((filtering (withBay awaiting .a .ready true) .a false).source .a).sw ≠ .on ∧
    ((filtering (withBay awaiting .a .ready true) .a false).port .sp1).bare :=
  ⟨⟨rfl, rfl, 500, rfl⟩, awaiting_switches _ rfl rfl, by decide, rfl, by decide +kernel, by decide +kernel, rfl, rfl,
    ⟨rfl, rfl, 500, rfl⟩, awaiting_switches _ rfl rfl, by decide, rfl, by decide, ⟨rfl, rfl, rfl⟩⟩

theorem witness_BayTimersExpire :
    let x : Timer := { start := 750, dur := 250 }
    let seated := fun latch => (withBay awaiting .a .seated latch).setBay .a
      { (withBay awaiting .a .seated latch).bay .a with seat := some x }
    let identifying := (withBay awaiting .a .identifying true).setBay .a
      { (withBay awaiting .a .identifying true).bay .a with identify := some x }
    (seated true).engaged ∧ (seated true).switchesSafe ∧ ((seated true).bay .a).state = .seated ∧
    ((seated true).bay .a).seat = some x ∧
    ((seated true).bay .a).latchClosed = true ∧ ((seated false).bay .a).latchClosed = false ∧
    250 ≤ age (seated true).now 750 ∧ age 999 750 < 250 ∧ (∀ place, ((seated true).poll place).gateWait = false) ∧
    identifying.engaged ∧ identifying.switchesSafe ∧ (identifying.bay .a).state = .identifying ∧
    (identifying.bay .a).identify = some x :=
  ⟨⟨rfl, rfl, 500, rfl⟩, awaiting_switches _ rfl rfl, rfl, rfl, rfl, rfl, by decide, by decide, by decide +kernel,
    ⟨rfl, rfl, 500, rfl⟩, awaiting_switches _ rfl rfl, rfl, rfl⟩

/-- Bay A is IDENTIFYING with one item; its voltage and temperature are FRESH. -/
def admitting (attempts : Nat) (succeeded : Bool) : State :=
  let s := withFresh (withFresh (withBay calm .a .identifying true) 0 18000) 3 300
  s.setBay .a { s.bay .a with admission := [{ place := 10, attempts := attempts, succeeded := succeeded }] }

theorem witness_AdmissionsAndReleasesEnd :
    ((admitting 0 false).bay .a).state = .identifying ∧ (calm.bay .a).state ≠ .identifying ∧
    ((admitting 2 false).bay .a).admission.find? (fun i => i.place == 10) =
      some { place := 10, attempts := 2, succeeded := false } ∧
    (∀ i ∈ ((admitting 1 true).bay .a).admission, i.succeeded = true) ∧
    ((admitting 1 true).slot (voltageSlot .a)).state = .fresh ∧
    ((admitting 1 true).slot (temperatureSlot .a)).state = .fresh ∧
    ¬(((admitting 1 true).slot (statusSlot .a)).state = .fresh ∧ ((admitting 1 true).bay .a).wordFault = true) ∧
    ((BitVec.ofInt 32 (-1) &&& BitVec.ofNat 32 calm.supply.faultMask) != 0) = true ∧
    ((BitVec.ofInt 32 0 &&& BitVec.ofNat 32 calm.supply.faultMask) != 0) = false ∧
    ((withBay calm .a .active true).bay .a).faultPending = false ∧ (rich.bay .a).state = .releasing ∧
    (rich.bay .a).origin = some .request ∧ (rich.source .a).sw = .on ∧ (awaiting.source .a).sw ≠ .on ∧
    ((withBay calm .a .releaseBlocked true).bay .a).state = .releaseBlocked ∧
    { calm.sru with background := .swap .a }.background = .swap .a := by decide +kernel

/-- DC carries the load. -/
def onDc : State :=
  { calm with
    lines := { calm.lines with dcinOk := true }
    ppc := { (Ppc.reset true) with managed := true, onSrc := some .dc }
    brc := { calm.brc with write := .executing 500 } }

/-- DC carries the load, and a handover to bay A is awaited. -/
def leavingDc : State :=
  let r : MoveRec := { origin := some .dc, target := .a, reason := .policy, start := 998, finish := none, result := none }
  let a : Attempt :=
    { kind := .policy, target := .a, old := some .dc, reason := .policy, confirm := { start := 998, dur := 5 }, rest := [] }
  { onDc with ppc := { onDc.ppc with record := some r, attempt := some a } }

theorem idle_of (s : State) (h : s.ppc.attempt = none ∧ s.ppc.moving = false ∧ s.ppc.pending = false ∧
    s.ppc.bridgeDue = false ∧ s.ppc.supplyDue = false ∧ s.ppc.switching = false ∧ s.ppc.waitRelease = { a := none, b := none } ∧
    s.ppc.waitCheck = { a := false, b := false }) : s.powerIdle := h

theorem witness_DcInChanges : onDc.agenda = [] ∧ onDc.lines.dcinOk = true ∧ onDc.powerIdle ∧ onDc.ppc.onSrc = some .dc ∧
    onDc.eligibleNow .a = false ∧ onDc.eligibleNow .b = false ∧ onDc.brc.write = .executing 500 ∧
    awaiting.lines.dcinOk = false ∧ awaiting.uli.phase ≠ .starting ∧ awaiting.ppc.attempt.isSome = true ∧
    (awaiting.source .dc).sw ≠ .on ∧ leavingDc.agenda = [] ∧
    (∀ a, leavingDc.ppc.attempt = some a → a.old = some .dc ∧ a.target ≠ .dc ∧ ∀ bay origin, a.kind ≠ .release bay origin) ∧
    leavingDc.ppc.record.isSome = true ∧ { leavingDc with ppc := { leavingDc.ppc with attempt := none } }.powerIdle ∧
    leavingDc.brc.write = .executing 500 := by
  refine ⟨rfl, by decide, idle_of _ (by decide), rfl, by decide, by decide, rfl, rfl, by decide, rfl, by decide, rfl,
    fun a h => ?_, rfl, idle_of _ (by decide), rfl⟩
  cases h
  exact ⟨rfl, by decide, by simp⟩

/-- The pack of bay A carries the load, DC stands by and is eligible, and no record is open. -/
def steady : State := { swappable with mtu := calm.mtu }

theorem witness_SelectionsBegin : State.reset.uli.phase = .starting ∧ steady.uli.phase ≠ .starting ∧
    steady.ppc.causeNoAlternate = false ∧ awaiting.ppc.attempt.isSome = true ∧ steady.ppc.attempt = none ∧
    steady.ppc.moving = false ∧ steady.ppc.switching = false ∧ { calm.ppc with switching := true }.switching = true ∧
    steady.mtu.shockHold = false ∧ (steady.bay .a).state ≠ .suspect ∧
    steady.ppc.onSrc = some .a ∧ swappable.mtu.shockHold = true ∧
    WalkKind.release .a .request = .release .a .request ∧ (steady.source .dc).eligible = true ∧
    steady.windowPasses .dc = true ∧ (steady.source .b).eligible = false ∧
    ((withBay steady .a .releasing true).bay .a).state = .releasing ∧ calm.ppc.onSrc ≠ some .a ∧
    steady.supply.balance = false ∧ (steady.source .a).onSince = some 500 := by decide +kernel

theorem witness_SelectionsBegin_flag :
    (∀ a, rich.ppc.attempt = some a → rich.mtu.shockHold = true ∧ ∃ bay, a.kind = .release bay .request) ∧
    rich.ppc.attempt.isSome = true ∧
    (∀ a, { awaiting with mtu := (moving .falling).mtu }.ppc.attempt = some a → ∀ bay, a.kind ≠ .release bay .request) := by
  refine ⟨fun a h => ?_, rfl, fun a h => ?_⟩
  · cases h; exact ⟨rfl, .a, rfl⟩
  · cases h; simp

/-- The pack of bay A carries the load and its temperature is above the limit. -/
def hot : State := withFresh (onPack calm .a) 3 1001

/-- The faulted pack of bay A has stayed ON under NO_ALTERNATE; `dc` says whether DC may be chosen by now. -/
def noAlternateHeld (dc : Bool) : State :=
  let s1 := hot.setSource .dc { hot.source .dc with eligible := dc }
  let s2 := s1.setSource .br { s1.source .br with eligible := false }
  let s3 := s2.setSource .a { s2.source .a with heldOff := true }
  { s3 with ppc := { s3.ppc with causeNoAlternate := true } }

theorem witness_SelectionsBegin_repeat :
    (noAlternateHeld true).uli.phase ≠ .starting ∧ (noAlternateHeld true).ppc.causeNoAlternate = true ∧
    (noAlternateHeld true).ppc.onSrc = some .a ∧ (noAlternateHeld true).ppc.attempt = none ∧
    (noAlternateHeld true).ppc.moving = false ∧ (noAlternateHeld true).ppc.switching = false ∧
    { (noAlternateHeld true).ppc with moving := true }.moving = true ∧
    (noAlternateHeld true).candidates (some .a) = [.dc] ∧ (noAlternateHeld false).candidates (some .a) = [] ∧
    ((noAlternateHeld true).bay .a).state = .active ∧ (noAlternateHeld true).ppc.onSrc ≠ some .b ∧
    awaiting.ppc.attempt.isSome = true := by decide +kernel

/-- R86, R87: a trigger under NO_ALTERNATE repeats the takeover, which moves the load to DC and ends the cause; the pack,
held off, is OFF. -/
theorem test_trigger_repeats_takeover :
    let t := run 100 [.trigger] (noAlternateHeld true)
    (t.ppc.onSrc, t.ppc.causeNoAlternate, (t.source .a).sw) = (some .dc, false, .off) := by decide +kernel

/-- R87, R90: at a SUPPLY switch a pack above the limit is held off and its switch commanded OFF in RELEASING too; the ON
pack of the same state stays ON under its mark. -/
theorem test_supply_switch_holds_off :
    let waiting := (withBay (withFresh calm 3 1001) .a .releasing false).setSwitch .a .standby
    let t := (handle .supplyPower waiting).1
    ((t.source .a).heldOff, (t.source .a).sw) = (true, .off) ∧
    (((handle .supplyPower hot).1.source .a).heldOff, ((handle .supplyPower hot).1.source .a).sw) = (true, .on) ∧
    (calm.slot (temperatureSlot .b)).state ≠ .fresh := by
  decide +kernel

theorem witness_LossesMoveTheLoad :
    let gone := (onPack calm .a).setBay .a { (onPack calm .a).bay .a with state := .empty }
    (gone.source .a).sw = .on ∧ (gone.bay .a).carries = false ∧ gone.ppc.attempt = none ∧ gone.ppc.onSrc = some .a ∧
    { gone with lines := { gone.lines with dcinOk := true } }.lines.dcinOk = true ∧ gone.lines.dcinOk = false ∧
    gone.eligibleNow .b = false ∧ calm.supply.temperature < (hot.slot (temperatureSlot .a)).value ∧
    calm.ppc.onSrc ≠ some .a ∧ (hot.source .a).sw = .on ∧ hot.ppc.attempt = none ∧ hot.ppc.causeNoAlternate = false ∧
    hot.lines.dcinOk = false ∧ hot.eligibleNow .b = false ∧ (withFresh hot 12 0).eligibleNow .br = false ∧
    hot.ppc.onSrc = some .a ∧ (hot.bay .a).state = .active ∧
    (calm.slot (temperatureSlot .a)).value ≤ calm.supply.temperature ∧
    ((withBay calm .a .ready true).bay .a).state = .ready := by decide +kernel

theorem witness_AttemptsEnd : awaiting.agenda = [] ∧
    (∀ a, awaiting.ppc.attempt = some a → a.target ≠ .a ∧ a.old ≠ some a.target ∧ a.rest = [] ∧ srcBay a.target = none ∧
      (∀ bay origin, a.kind ≠ .release bay origin) ∧ (∀ y, a.old = some y → srcBay y = none) ∧
      a.confirm.dur ≤ age awaiting.now a.confirm.start) ∧
    awaiting.ppc.attempt.isSome = true ∧ awaiting.ppc.record.isSome = true ∧
    { awaiting with ppc := { awaiting.ppc with attempt := none } }.powerIdle ∧ awaiting.brc.write = .executing 500 ∧
    age 999 995 < 5 := by
  refine ⟨rfl, fun a h => ?_, rfl, rfl, idle_of _ (by decide), rfl, by decide⟩
  cases h
  refine ⟨by decide, by decide, rfl, rfl, by simp, ?_, by decide⟩
  intro y hy
  cases hy
  rfl

/-- The awaited target of a release conducts, and the old source's pack has a fault pending. -/
theorem witness_AttemptsEnd_confirm :
    let s := { rich with lines := { rich.lines with feedback := rich.lines.feedback.set .br true } }
    ∀ a, s.ppc.attempt = some a → s.lines.feedback.get a.target = true ∧ a.old ≠ some a.target ∧
      a.old = some (baySrc .a) ∧ a.kind = .release .a .request ∧ ((onPack s .a).bay .a).state = .active ∧
      (s.bay .a).faultPending = true := by
  intro s a h
  cases h
  exact ⟨rfl, by decide, rfl, rfl, rfl, rfl⟩

/-- A timer that ends now. -/
def ending : Timer := { start := 990, dur := 10 }

theorem witness_PowerTimersExpire :
    let timed := fun (s : State) =>
      { s with ppc := { s.ppc with startup := some ending, dwell := some ending, bridge := some ending } }
    (timed calm).agenda = [] ∧ (timed calm).ppc.startup = some ending ∧ ending.dur ≤ age (timed calm).now ending.start ∧
    age 999 ending.start < ending.dur ∧ (timed awaiting).ppc.onSrc.isSome = true ∧ (timed calm).ppc.onSrc = none ∧
    (timed (moving .falling)).mtu.shockHold = true ∧ (timed calm).ppc.attempt = none ∧ (timed calm).ppc.moving = false ∧
    (timed calm).ppc.switching = false ∧
    (timed calm).mtu.shockHold = false ∧
    (timed calm).lines.feedback.br = false ∧ (timed awaiting).ppc.dwell = some ending ∧
    (timed awaiting).ppc.attempt.isSome = true ∧ (timed awaiting).uli.phase ≠ .starting ∧
    (timed calm).ppc.bridge = some ending ∧ (timed calm).ppc.causeBridge = false ∧
    { calm.ppc with causeBridge := true }.causeBridge = true := by
  refine ⟨rfl, rfl, ?_, ?_, rfl, rfl, rfl, rfl, rfl, rfl, rfl, rfl, rfl, rfl, ?_, rfl, rfl, rfl⟩ <;> decide

theorem witness_ClassifierFollowsTables : onDc.ppc.onSrc = some .dc ∧ steady.ppc.onSrc = some .a := ⟨rfl, rfl⟩

/-! ## Witnesses: brightness and motion -/

/-- The calm state with a driver write and a code last written. -/
def writing (w : WriteRec) (code : Nat) : State :=
  { calm with brc := { calm.brc with write := w, written := code, noneWritten := false } }

/-- Each write record meets a step, due now, that neither awaits light nor finds any; one without hysteresis to come is worth
no write, and another is. -/
theorem witness_BrightnessStepRuns : calm.brc.step = some { start := 900, dur := 100 } ∧ 100 ≤ age calm.now 900 ∧
    age 999 900 < 100 ∧ calm.brc.ceiling = some 300 ∧ { calm.brc with ceiling := none }.ceiling = none ∧
    calm.brc.awaitingLight = false ∧ { calm.brc with awaitingLight := true }.awaitingLight = true ∧
    calm.brc.mode = .auto ∧ (calm.slot 10).state ≠ .fresh ∧ (calm.slot 11).state ≠ .fresh ∧ calm.agenda = [] ∧
    (writing (.executing 500) 0).brc.write = .executing 500 ∧ (writing (.queued 500) 0).brc.write = .queued 500 ∧
    (writing .none 4095).brc.write = .none ∧
    (handle .brightStep (writing .none 4095)).2 ≠ [] ∧
    (handle .brightStep (writing .none (handle .brightStep calm).1.brc.computed)).2 = [] ∧
    (routeOf calm.sru.committed calm.light.driverKey).isSome = true ∧
    routeOf { calm.sru.committed with routes := [] } calm.light.driverKey = none := by decide +kernel

/-- SP4 is busy, ACC_WM stands, and a motion read failed 10 ms ago. -/
def retrying : State :=
  let s := withPort .sp4 fun p => { p with state := .busy }
  { s with lines := { s.lines with accWm := true }, mtu := { s.mtu with retryArmed := true, failTime := some 990 } }

theorem witness_MotionReadsArePlaced : retrying.agenda = [] ∧ retrying.lines.accWm = true ∧ calm.lines.accWm = false ∧
    calm.uli.phase ≠ .starting ∧ calm.mtu.placed = false ∧
    (routeOf calm.sru.committed calm.motionParams.key).any (fun r => r.seg == .sp4) = true ∧
    ((withPort .sp4 fun p => { p with state := .busy }).port .sp4).state = .busy ∧
    ((withPort .sp4 fun p => { p with state := .busy }).port .sp4).queue.length < 8 ∧
    routeOf { calm.sru.committed with routes := List.replicate 392 0 } calm.motionParams.key = none ∧
    retrying.mtu.failTime = some 990 ∧ retrying.mtu.retryArmed = true ∧ 10 ≤ age retrying.now 990 ∧ age 999 990 < 10 ∧
    calm.mtu.retryArmed = false := by decide +kernel

/-- A delivery of the Motion Unit, and one sample of each class: LOW, BAND, HIGH and none, in each state that takes it. -/
theorem witness_SamplesDriveMotion :
    let p := calm.motionParams
    let mag := fun (z : Int) => (0 * 0 + 0 * 0 + z * z).toNat
    { levelWrite with issuer := .mtu }.issuer = .mtu ∧ (moving .sensorLost).mtu.state = .sensorLost ∧ p.fall ≤ p.low ∧
    p.low ≤ p.high ∧ p.high < p.impact ∧ mag 37 < p.fall * p.fall ∧ ¬mag 38 < p.fall * p.fall ∧
    p.impact * p.impact < mag (-513) ∧ ¬p.impact * p.impact < mag 512 ∧ p.low * p.low ≤ mag 96 ∧
    mag 160 ≤ p.high * p.high ∧ ¬(p.low * p.low ≤ mag 95) ∧ calm.mtu.state = .normal ∧
    min (calm.mtu.fallRun + 1) 255 < p.fallCount ∧ p.fallCount ≤ min (23 + 1) 255 ∧
    (moving .falling).mtu.openRec = some (drop false) ∧ (moving .impact).mtu.state = .impact ∧
    p.window ≤ min (39 + 1) 255 ∧ (moving .settling).mtu.state = .settling ∧
    min ((moving .settling).mtu.settleRun + 1) 1000 < p.settleCount ∧ p.settleCount ≤ min (79 + 1) 1000 ∧
    (moving .settling).mtu.placeFor (drop false) = some 0 := by decide +kernel

theorem witness_MotionTimersExpire :
    let lossy := fun (s : State) => { s with mtu := { s.mtu with lossSince := some 950 } }
    let shock := fun (s : State) => { s with mtu := { s.mtu with
      shockHold := true, shockTimer := some ending, parkHold := some ending } }
    (lossy calm).agenda = [] ∧ (lossy calm).mtu.lossSince = some 950 ∧ (lossy calm).mtu.state = .normal ∧
    (lossy calm).mtu.starved = false ∧ 50 ≤ age (lossy calm).now 950 ∧ age 999 950 < 50 ∧
    (lossy (moving .impact)).mtu.state = .impact ∧ (moving .falling).mtu.openRec = some (drop false) ∧
    (moving .falling).mtu.state = .falling ∧ calm.motionParams.fallLimit ≤ age 2900 900 ∧
    age 2899 900 < calm.motionParams.fallLimit ∧ (moving .settling).mtu.state = .settling ∧
    (moving .settling).mtu.entry = 900 ∧ calm.motionParams.settleLimit ≤ age 2900 900 ∧
    (moving .settling).mtu.starved = false ∧ (moving .settling).mtu.motionDue = false ∧
    (moving .settling).mtu.shockHold = true ∧ calm.motionParams.shockHold ≠ 0 ∧ calm.motionParams.parkHold ≠ 0 ∧
    (moving .settling).mtu.placeFor (drop false) = some 0 ∧ (shock calm).mtu.shockTimer = some ending ∧
    (shock calm).mtu.parkHold = some ending ∧ (shock calm).mtu.shockHold = true ∧ ending.dur ≤ age calm.now ending.start ∧
    (shock calm).powerIdle ∧ (∀ bay, ((shock calm).bay bay).state ≠ .suspect) ∧
    (shock (withBay awaiting .a .suspect false)).engaged ∧
    ((shock (withBay awaiting .a .suspect false)).bay .a).state = .suspect ∧
    ((shock (withBay awaiting .a .suspect false)).bay .a).latchClosed = false := by
  refine ⟨rfl, rfl, rfl, rfl, by decide, by decide, rfl, rfl, rfl, by decide +kernel, by decide +kernel, rfl, rfl,
    by decide +kernel, rfl, rfl, rfl, by decide +kernel, by decide +kernel, by decide, rfl, rfl, rfl, by decide,
    idle_of _ (by decide), fun bay => ?_, ⟨rfl, rfl, 500, rfl⟩, rfl, rfl⟩
  cases bay <;> decide

/-! ## Single steps -/

/-- R1: the part NACKs every address before traffic opens. -/
theorem test_starting_nacks : (after (.firstAddressByte 0x29 false) State.reset).uli.reply = .nack := by decide +kernel

/-- R8: an unmatched address is NACKed with NO_ROUTE, which takes sequence number 0. -/
theorem test_no_route_is_recorded :
    (after (.firstAddressByte 0x30 false) calm).uli.ring.map (fun r => (r.seq, r.outcome)) = [(0, .noRoute)] := by
  decide +kernel

/-- R10: the first byte of an ENGINE-class entry is REFUSED. -/
theorem test_engine_entry_is_refused :
    (after (.firstAddressByte 0x19 false) calm).uli.ring.map (fun r => r.outcome) = [.refused] := by decide +kernel

/-- R174: after power-on reset a response read returns status 0xFF. -/
theorem test_empty_response : (after .responseRead calm).uli.answer.take 4 = [0, 0, 0, 0xFF] := by decide +kernel

/-- R93: a line that returns within the debounce time changes nothing. -/
theorem test_bounce_is_ignored :
    (after (.latchChange .a) (after (.lineLevelChange .a .latch false) (after (.lineLevelChange .a .latch true) calm))).bays =
      calm.bays := by decide +kernel

/-- R152: a watermark places a 24-byte read, which an idle port starts at once. -/
theorem test_watermark_reads :
    ((after (.accWmChange true) calm).port .sp4).running.map (fun r =>
      match r.1 with | .engine t => t.readLen | .lane => 0) = some 24 := by decide +kernel

/-- R158: a strike while falling is IMPACT with the first of its window counted. -/
theorem test_strike_ends_a_fall :
    (run 8 [.sample 0 0 1000 990] (moving .falling)).mtu.state = .impact ∧
    (run 8 [.sample 0 0 1000 990] (moving .falling)).mtu.window = 1 := by decide +kernel

/-- R179, R180: a staged route entry whose segment byte names no segment affects none. -/
theorem test_stray_segment_affects_none :
    let old : Tables := { calm.sru.committed with routes := [], guards := [], polls := [], snoops := [] }
    allSegs.map (affectedSegments true old { old with routes := [0x29, 9, 0x29, 0, 0, 0, 0, 0, 0, 0, 0, 0] }).get =
      [false, false, false, false] := by decide +kernel

/-- R90, R181: a slot that goes STALE in a commit of SLOTS and SUPPLY begins no attempt before the SUPPLY table's turn. -/
theorem test_tables_switch_together :
    let s := { steady with ppc := { steady.ppc with switching := true } }
    (handle .reselect s).2 = [] ∧ (handle .reselect s).1.ppc.pending = true ∧
    (handle .supplyPower s).1.ppc.switching = false := by decide +kernel

/-- A step takes the front command. -/
theorem test_step_takes_the_front : (match step { calm with pending := [.responseRead, .readoutByte] } with
    | .next t => t.pending
    | .fault f => nomatch f
    | .refused _ => []) = [.readoutByte] := by decide +kernel

end Sys2Proof.Tests
end

section
/-!
SUPPORT. What a command's handling answers, said once for the proofs that run one: the handling of a command that finds
nothing left over, and how a run that ends goes on with what stands behind it (log entry 4).
-/

namespace Sys2Proof.Machine

/-! ## Handlings that find nothing left over -/

/-- A command that finds nothing left over: its first change, and the run of what that starts. -/
theorem exec_quiet (c : Instr) (hc : c ≠ .powerOnReset) {s : State} (h : s.agenda = []) :
    exec c s = .next (run stepFuel (commandAct c s).2 (commandAct c s).1) := by
  rw [exec_eq hc, perform_quiet h]

/-- A command whose first change starts nothing answers that change. -/
theorem exec_start (c : Instr) (hc : c ≠ .powerOnReset) {s : State} (h : s.agenda = [])
    (hs : (commandAct c s).2 = []) : exec c s = .next (commandAct c s).1 := by
  rw [exec_quiet c hc h, hs, run_nil]

/-- One task of a step's run leaves fuel for 4,095 more. -/
theorem run_step (t : Task) (ts : List Task) (s : State) :
    run stepFuel (t :: ts) s = run 4095 ((handle t s).2 ++ ts) (handle t s).1 := rfl

/-- The run of one task that starts nothing. -/
theorem run_only {t : Task} {s u : State} (h : handle t s = (u, [])) : run stepFuel [t] s = u := by
  rw [run_step, h, List.nil_append, run_nil]

/-- The run of a task that starts one task more, which starts nothing. -/
theorem run_chain {t t' : Task} {s v u : State} (h : handle t s = (v, [t'])) (h' : handle t' v = (u, [])) :
    run stepFuel [t] s = u := by
  rw [run_step, h]
  show run (4094 + 1) [t'] v = u
  rw [run_cons, h', List.nil_append, run_nil]

/-- A run that leaves nothing on the agenda has worked off its tasks: with more fuel, and with more tasks behind, it
comes to the same state and goes on with those. -/
theorem run_append {n : Nat} : ∀ {ts : List Task} {s : State}, (run n ts s).agenda = [] → ∀ {fuel : Nat}, n ≤ fuel →
    ∃ m, fuel - n ≤ m ∧ ∀ rest, run fuel (ts ++ rest) s = run m rest (run n ts s) := by
  induction n with
  | zero =>
    intro ts s h fuel _
    cases ts with
    | nil => exact ⟨fuel, by omega, fun rest => by simp⟩
    | cons t ts => simp [run_zero] at h
  | succ n ih =>
    intro ts s h fuel hf
    cases ts with
    | nil => exact ⟨fuel, by omega, fun rest => by simp⟩
    | cons t ts =>
      obtain ⟨f, rfl⟩ : ∃ f, fuel = f + 1 := ⟨fuel - 1, by omega⟩
      rw [run_cons] at h
      obtain ⟨m, hm, e⟩ := ih h (fuel := f) (by omega)
      refine ⟨m, by omega, fun rest => ?_⟩
      rw [List.cons_append, run_cons, run_cons, ← List.append_assoc, e]

/-- More fuel changes nothing of a run that leaves nothing on the agenda. -/
theorem run_enough {n fuel : Nat} {ts : List Task} {s : State} (h : (run n ts s).agenda = []) (hf : n ≤ fuel) :
    run fuel ts s = run n ts s := by
  obtain ⟨m, -, e⟩ := run_append h hf
  simpa using e []

/-! ## The events of the upstream link -/

theorem exec_firstAddressByte {s : State} (h : s.agenda = []) (addr : Addr) (read : Bool) :
    exec (.firstAddressByte addr read) s = .next (onFirstAddress addr read s) :=
  exec_start (.firstAddressByte addr read) nofun h rfl

theorem exec_commandByte {s : State} (h : s.agenda = []) (byte : Byte) :
    exec (.commandByte byte) s = .next (onCommand byte s) := exec_start (.commandByte byte) nofun h rfl

theorem exec_writeDataByte {s : State} (h : s.agenda = []) (byte : Byte) :
    exec (.writeDataByte byte) s = .next (run stepFuel (onDataByte byte s).2 (onDataByte byte s).1) :=
  exec_quiet (.writeDataByte byte) nofun h

theorem exec_heldByteRelease {s : State} (h : s.agenda = []) : exec .heldByteRelease s = .next (onByteRelease s) :=
  exec_start .heldByteRelease nofun h rfl

theorem exec_dataHoldStretchLimit {s : State} (h : s.agenda = []) :
    exec .dataHoldStretchLimit s = .next (onByteLimit s) := exec_start .dataHoldStretchLimit nofun h rfl

theorem exec_stopCondition {s : State} (h : s.agenda = []) :
    exec .stopCondition s = .next (run stepFuel (onStop s).2 (onStop s).1) := exec_quiet .stopCondition nofun h

theorem exec_repeatedStart {s : State} (h : s.agenda = []) (addr : Addr) (read : Bool) :
    exec (.repeatedStart addr read) s =
      .next (run stepFuel (onRepeatedStart addr read s).2 (onRepeatedStart addr read s).1) :=
  exec_quiet (.repeatedStart addr read) nofun h

theorem exec_heldReadLaneHandin {s : State} (h : s.agenda = []) :
    exec .heldReadLaneHandin s = .next (run stepFuel (onReadHandin s).2 (onReadHandin s).1) :=
  exec_quiet .heldReadLaneHandin nofun h

theorem exec_heldReadStretchLimit {s : State} (h : s.agenda = []) :
    exec .heldReadStretchLimit s = .next (onReadLimit s) := exec_start .heldReadStretchLimit nofun h rfl

theorem exec_readoutByte {s : State} (h : s.agenda = []) : exec .readoutByte s = .next (onReadoutByte s) :=
  exec_start .readoutByte nofun h rfl

theorem exec_hostStallLimit {s : State} (h : s.agenda = []) : exec .hostStallLimit s = .next (onStall s) :=
  exec_start .hostStallLimit nofun h rfl

theorem exec_responseRead {s : State} (h : s.agenda = []) : exec .responseRead s = .next (onResponseRead 0xF0 s) :=
  exec_start .responseRead nofun h rfl

theorem exec_waitingResponseRead {s : State} (h : s.agenda = []) :
    exec .waitingResponseRead s = .next (onResponseRead 0xF1 s) := exec_start .waitingResponseRead nofun h rfl

theorem exec_waitingReadLimit {s : State} (h : s.agenda = []) : exec .waitingReadLimit s = .next (onWaitingLimit s) :=
  exec_start .waitingReadLimit nofun h rfl

/-! ## The link's changes (R1, R5, R24) -/

/-- An outcome recorded is one more record of the ring (R24). -/
theorem State.record_eq (s : State) (addr : Addr) (cmd : Option Byte) (dir : Dir) (outcome : TxOutcome) :
    s.record addr cmd dir outcome = s.withRecord addr cmd dir outcome := rfl

/-- A transaction's end leaves the link released (R1). -/
theorem State.setUli_toIdle (s : State) : s.setUli (s.uli.toIdle .released) = s.linkIdle := rfl

/-- A NACK into DRAIN without a record (R1). -/
theorem State.setUli_toDrain (s : State) : s.setUli (s.uli.toDrain s.now) = { s with uli := { s.uli with
    phase := .drain, txn := none, byteHold := none, heldSince := none, reply := .nack, lastActivity := s.now } } := rfl

/-- A held read holds the clock (R5). -/
theorem State.holdRead_eq (s : State) (t : UpTxn) : s.holdRead t = s.holding t := rfl

/-- The next byte of a write is acknowledged, where none is held (R2). -/
theorem State.takeByte_eq (s : State) (t : UpTxn) (byte : Byte) (h : s.uli.byteHold = none) :
    s.takeByte t byte = s.acked .writeData { t with data := t.data ++ [byte] } := by
  simp [State.takeByte, State.acked, State.setUli, Uli.say, h]

/-! ## The hand-in of a transaction into its pass lane (R32, R39, R40) -/

/-- A port that is SUSPENDED or ISOLATED completes the transaction ABSENT (R39, R40). -/
theorem handle_handIn_away {x : LaneTxn} {s : State}
    (h : (s.port x.snap.seg).state = .suspended ∨ (s.port x.snap.seg).state = .isolated) :
    handle (.handIn x) s = (s, [.laneDone x .absent [] 0]) := by
  simp [handle, handIntoLane, h]

/-- Any other takes it into its pass lane, and an IDLE one reaches a boundary (R32). -/
theorem handle_handIn_placed {x : LaneTxn} {s : State}
    (h : ¬((s.port x.snap.seg).state = .suspended ∨ (s.port x.snap.seg).state = .isolated)) :
    handle (.handIn x) s = (s.setPort x.snap.seg { s.port x.snap.seg with lane := some x },
      if (s.port x.snap.seg).state = .idle then [.boundary x.snap.seg] else []) := by
  simp [handle, handIntoLane, h, boundaryIfIdle]

/-- At a port that executes or recovers it waits in the lane (R32). -/
theorem handle_handIn_waits {x : LaneTxn} {s : State} (h : s.portWaits x.snap.seg) :
    handle (.handIn x) s = (s.setPort x.snap.seg { s.port x.snap.seg with lane := some x }, []) := by
  obtain ⟨hs, -⟩ := h
  rw [handle_handIn_placed (by rcases hs with hs | hs <;> simp [hs])]
  rcases hs with hs | hs <;> simp [hs]

end Sys2Proof.Machine
end

section
/-!
SUPPORT. The state after power-on reset, block by block (R1, R28, R47, R62, R67, R92, R116, R128, R151, R174, R186, R193).
-/

namespace Sys2Proof.Machine

/-- Power-on reset answers the state after reset, over the input lines and the settings memory as they are (R193). -/
theorem exec_powerOnReset (s : State) : exec .powerOnReset s = .next (State.afterReset s.pending s.lines
    { a := s.bays.a.latchFilter.line, b := s.bays.b.latchFilter.line }
    { a := s.bays.a.presenceFilter.line, b := s.bays.b.presenceFilter.line } s.smi.memory s.smi.answers) := rfl

/-- A port after a reset: the ports of the bays are ISOLATED, the others IDLE, and none holds a transaction (R28). -/
theorem afterReset_port (cs : List Instr) (lines : Lines) (latch presence : PerBay Bool) (memory : List Host.Cell)
    (answers : Bool) (seg : Seg) : (State.afterReset cs lines latch presence memory answers).port seg =
      Port.reset (if (segBay seg).isSome then .isolated else .idle) := by
  cases seg <;> rfl

/-- A bay after a reset, for the levels of its lines (R92). -/
theorem afterReset_bay (cs : List Instr) (lines : Lines) (latch presence : PerBay Bool) (memory : List Host.Cell)
    (answers : Bool) (bay : Bay) : (State.afterReset cs lines latch presence memory answers).bay bay =
      BayRec.reset (latch.get bay) (presence.get bay) := by
  cases bay <;> rfl

/-- The reset bay record keeps its fields to its state (R92). -/
theorem BayRec.reset_safe (latch presence : Bool) : (BayRec.reset latch presence).safe := by
  simp [BayRec.safe, BayRec.reset, originStates]

/-- A poll entry after a reset (R47). -/
theorem afterReset_poll (cs : List Instr) (lines : Lines) (latch presence : PerBay Bool) (memory : List Host.Cell)
    (answers : Bool) (place : Fin 24) :
    (State.afterReset cs lines latch presence memory answers).poll place = PollStatus.reset := by
  simp [State.poll, State.afterReset]

/-- A slot after a reset (R62). -/
theorem afterReset_slot (cs : List Instr) (lines : Lines) (latch presence : PerBay Bool) (memory : List Host.Cell)
    (answers : Bool) (slot : Fin 32) :
    (State.afterReset cs lines latch presence memory answers).slot slot = Slot.reset := by
  simp [State.slot, State.afterReset]

/-- The drop log after a reset is empty (R151). -/
theorem reset_logAt (i : Fin 4) : Mtu.reset.logAt i = none := by
  simp [Mtu.logAt, Mtu.reset]

/-- Settles O3: the reset state is written out, and each family of it has its own lemma. -/
theorem powerOnResetState : Obligations.PowerOnResetState := by
  intro s
  refine ⟨_, exec_powerOnReset s, rfl, rfl, rfl, rfl, rfl, rfl, rfl, fun seg => ?ports, fun place => ?polls,
    fun slot => ?slots, rfl, rfl, rfl, rfl, rfl, rfl, rfl, rfl, rfl, rfl, rfl,
    fun bay => ?bays, rfl, rfl, rfl, rfl, rfl, rfl, rfl, rfl, rfl,
    reset_logAt, rfl, rfl, rfl, rfl, rfl, rfl⟩
  case ports => rw [afterReset_port]; exact ⟨rfl, ⟨rfl, rfl, rfl⟩, rfl, rfl⟩
  case polls => rw [afterReset_poll]; exact ⟨rfl, rfl, rfl⟩
  case slots => exact afterReset_slot ..
  case bays => rw [afterReset_bay]; exact ⟨rfl, BayRec.reset_safe _ _⟩
end Sys2Proof.Machine
end

section
/-!
SUPPORT. A closed bay gate keeps a host transaction from its segment port (R12, R14): what the stop, the repeated start and
the hand-in of such a transaction start.
-/

namespace Sys2Proof.Machine

/-- A task that opens a host transaction at its first address byte. -/
def opensOnly (t : Task) : Prop := ∃ addr read, t = .openTxn addr read

/-- A run of such tasks leaves every port as it is. -/
theorem run_opensOnly_ports (fuel : Nat) {ts : List Task} (ht : ∀ t ∈ ts, opensOnly t) (s : State) :
    (run fuel ts s).ports = s.ports := by
  refine run_keeps_class (fun u => u.ports = s.ports) opensOnly (fun _ _ h => h) ?_ ?_ fuel ts s ht rfl
  · rintro t u ⟨addr, read, rfl⟩ hu
    simpa [handle, alone] using hu
  · rintro t u ⟨addr, read, rfl⟩ _ v hv
    simp [handle, alone] at hv

/-- A write whose gate is closed ends at its stop with an outcome: it is neither captured nor forwarded (R12). -/
theorem endOfWrite_closed (s : State) (t : UpTxn) (e : RouteSnap) (cmd : Byte) (h : s.gateClosed e.gate = true) :
    ∃ o, s.endOfWrite t e cmd = .outcome o := by
  simp only [State.endOfWrite, h, if_true]
  (repeat' split) <;> exact ⟨_, rfl⟩

/-- Such a write starts nothing. -/
theorem endWritePhase_closed (s : State) {t : UpTxn} {e : RouteSnap} (ht : t.snap = some e)
    (h : s.gateClosed e.gate = true) : (endWritePhase t s).2 = [] := by
  unfold endWritePhase
  rw [ht, State.setUli_toIdle]
  cases t.cmd with
  | none => rfl
  | some cmd =>
    obtain ⟨o, ho⟩ := endOfWrite_closed s.linkIdle t e cmd h
    simp [endPassWrite, ho]

/-- The stop of a transaction whose gate is closed starts nothing (R12). -/
theorem onStop_closed {s : State} {t : UpTxn} {e : RouteSnap} (hs : s.uli.txn = some t) (ht : t.snap = some e)
    (h : s.gateClosed e.gate = true) : (onStop s).2 = [] := by
  have hw := endWritePhase_closed s ht h
  unfold onStop
  rw [hs]
  cases s.uli.phase <;> simp only
  case command => exact hw
  case writeData => split <;> simp [hw]

/-- Its repeated start starts nothing but the next transaction (R12). -/
theorem onRepeatedStart_closed {s : State} {t : UpTxn} {e : RouteSnap} (hs : s.uli.txn = some t) (ht : t.snap = some e)
    (h : s.gateClosed e.gate = true) (addr : Addr) (read : Bool) :
    ∀ u ∈ (onRepeatedStart addr read s).2, opensOnly u := by
  have hw := endWritePhase_closed s ht h
  have ho : opensOnly (.openTxn addr read) := ⟨addr, read, rfl⟩
  unfold onRepeatedStart
  rw [hs]
  cases s.uli.phase <;> simp only
  case command => split <;> simp [thenOpen, hw, ho]
  case writeData => split <;> simp [thenOpen, hw, ho]
  all_goals simp [thenOpen, ho]

/-- Its hand-in hands nothing in (R12). -/
theorem onReadHandin_closed {s : State} {t : UpTxn} {e : RouteSnap} (hs : s.uli.txn = some t) (ht : t.snap = some e)
    (h : s.gateClosed e.gate = true) : (onReadHandin s).2 = [] := by
  unfold onReadHandin
  split
  · rfl
  next u e' cmd hr =>
    obtain ⟨rfl, rfl⟩ : u = t ∧ e' = e := by
      unfold State.heldRead at hr
      split at hr
      · cases hr
      · simp only [hs, ht, Option.bind_some, Option.map_eq_some_iff] at hr
        obtain ⟨_, _, hr⟩ := hr
        cases hr
        exact ⟨rfl, rfl⟩
    simp only [h, if_true]
    split <;> rfl

/-- Settles O24: a closed gate leaves a transaction's events nothing to start but the next transaction, and the first
change of each keeps the ports. -/
theorem gatedTransactionReachesNoPort : Obligations.GatedTransactionReachesNoPort := by
  intro c s t x e ha hx he hg hc h
  rcases hc with rfl | rfl | ⟨addr, read, rfl⟩
  · rw [exec_stopCondition ha, onStop_closed hx he hg] at h
    cases h
    simp
  · rw [exec_heldReadLaneHandin ha, onReadHandin_closed hx he hg] at h
    cases h
    simp
  · rw [exec_repeatedStart ha] at h
    cases h
    rw [run_opensOnly_ports _ (onRepeatedStart_closed hx he hg addr read)]
    simp
end Sys2Proof.Machine
end

section
/-!
SUPPORT. What the completion of a pass-lane transaction does at the Upstream Link Interface (R5, R22, R24 to R27).
-/

namespace Sys2Proof.Machine
/-- A write that completes is recorded; any outcome but DONE raises PASS_WRITE_FAILED (R24, R26). -/
theorem laneDone_write {x : LaneTxn} (hw : x.write = true) (outcome : TxOutcome) (data : List Byte) (trailer : Byte)
    (s : State) : laneDone x outcome data trailer s =
      (if outcome = .done then s.withRecord x.addr (some x.cmd) .write outcome
        else (s.withRecord x.addr (some x.cmd) .write outcome).notify
          (writeFailed x.snap.seg s.uli.seq outcome), []) := by
  simp only [laneDone, hw, if_true, State.record_eq]

/-- A read that completes: answered where it is not recorded yet, and handed to the snoop bindings (R5, R27). -/
theorem laneDone_read {x : LaneTxn} (hw : x.write = false) (outcome : TxOutcome) (data : List Byte) (trailer : Byte)
    (s : State) : laneDone x outcome data trailer s =
      (if x.recorded then s else answerRead x outcome data trailer s, handoff x outcome data s) := by
  simp [laneDone, hw]

/-- A read is answered with bytes after DONE and CRC_BAD (R5, R22). -/
theorem answerRead_bytes (x : LaneTxn) {outcome : TxOutcome} (ho : outcome = .done ∨ outcome = .crcBad)
    (data : List Byte) (trailer : Byte) (s : State) : answerRead x outcome data trailer s =
      (s.withRecord x.addr (some x.cmd) .read outcome).answering (forwardedAnswer x outcome data trailer) := by
  simp only [answerRead, ho, if_true]; rfl

/-- After any other outcome the read is NACKed (R5). -/
theorem answerRead_nack (x : LaneTxn) {outcome : TxOutcome} (hd : outcome ≠ .done) (hc : outcome ≠ .crcBad)
    (data : List Byte) (trailer : Byte) (s : State) :
    answerRead x outcome data trailer s = s.turnedAway x.addr (some x.cmd) .read outcome := by
  simp only [answerRead, hd, hc, or_self, if_false]; rfl

/-- Nothing is handed to the snoop bindings but the bytes of a DONE read on a route entry (R27). -/
theorem handoff_none {x : LaneTxn} {outcome : TxOutcome} (h : outcome ≠ .done ∨ x.snap.key = none) (data : List Byte)
    (s : State) : handoff x outcome data s = [] := by
  unfold handoff
  cases hk : x.snap.key with
  | none => rfl
  | some key => simp [h.resolve_right (by simp [hk])]

/-- The bytes of a DONE read run the bindings of its key and command (R27, R60). -/
theorem handoff_done {x : LaneTxn} (hw : x.write = false) {key : Byte} (hk : x.snap.key = some key) (data : List Byte)
    (s : State) : handoff x .done data s = snoopTasks s key x.cmd data := by
  simp [handoff, hk, hw]

/-- Settles O25, by the direction of the transaction and, of a read, by what it has been recorded with. -/
theorem laneCompletionsAnswer : Obligations.LaneCompletionsAnswer := by
  intro x outcome data trailer s
  refine ⟨fun hw => laneDone_write hw .., fun hw => ?_⟩
  simp only [handle, laneDone_read hw]
  refine ⟨fun hr => by simp [hr], fun hr ho => ?_, fun hr hd hc => ?_, fun h => handoff_none h .., ?_⟩
  · simp only [hr, answerRead_bytes x ho]; rfl
  · simp [hr, answerRead_nack x hd hc]
  · rintro key rfl hk
    rw [handoff_done hw hk]
    rfl
end Sys2Proof.Machine
end

section
/-!
SUPPORT. The guards and the bytes of a transaction (R2, R4, R11, R15, R16, R173).
-/

namespace Sys2Proof.Machine

/-! ## Guards (R15) -/

/-- When a rule decides a transaction (R15): its range takes in the command and its direction the transaction; MASK and
CAPTURE_LEVEL act on writes, SYNTH_LEVEL on reads. -/
theorem GuardRule.matches_iff (r : GuardRule) (cmd : Byte) (write : Bool) :
    r.matches cmd write = true ↔ r.low.toNat ≤ cmd.toNat ∧ cmd.toNat ≤ r.high.toNat ∧
      (write = true → r.dir ≠ .read ∧ r.action ≠ .synthLevel) ∧
      (write = false → r.dir ≠ .write ∧ r.action ≠ .mask ∧ r.action ≠ .captureLevel) := by
  unfold GuardRule.matches
  cases r.dir <;> cases r.action <;> cases write <;> simp

/-- Where no rule matches, none decides (R15). -/
theorem RouteSnap.rule_none {e : RouteSnap} {cmd : Byte} {write : Bool}
    (h : ∀ r ∈ e.rules, ¬r.matches cmd write = true) : e.rule cmd write = none := List.find?_eq_none.2 h

/-- The first rule that matches decides (R15). -/
theorem RouteSnap.rule_first {e : RouteSnap} {cmd : Byte} {write : Bool} {front back : List GuardRule} {r : GuardRule}
    (he : e.rules = front ++ r :: back) (hf : ∀ q ∈ front, ¬q.matches cmd write = true)
    (hr : r.matches cmd write = true) : e.rule cmd write = some r := by
  simp [RouteSnap.rule, he, List.find?_append, List.find?_eq_none.2 hf, hr]

/-- A transaction that no rule decides passes. -/
theorem RouteSnap.action_none {e : RouteSnap} {cmd : Byte} {write : Bool} (h : e.rule cmd write = none) :
    e.action cmd write = .pass := by
  simp [RouteSnap.action, h]

/-- A transaction takes the action of the rule that decides it. -/
theorem RouteSnap.action_some {e : RouteSnap} {cmd : Byte} {write : Bool} {r : GuardRule}
    (h : e.rule cmd write = some r) : e.action cmd write = r.action := by
  simp [RouteSnap.action, h]

/-! ## The command byte (R2, R15) -/

/-- The command byte of a service transaction is acknowledged (R2). -/
theorem onCommand_service {s : State} {t : UpTxn} (hp : s.uli.phase = .address) (ht : s.uli.txn = some t)
    (hn : t.snap = none) (b : Byte) : onCommand b s = s.acked .command { t with cmd := some b } := by
  simp only [onCommand, hp, ht, hn]
  rfl

/-- The command byte of a pass-through transaction is refused where the guards refuse both directions (R15). -/
theorem onCommand_pass {s : State} {t : UpTxn} {e : RouteSnap} (hp : s.uli.phase = .address) (ht : s.uli.txn = some t)
    (he : t.snap = some e) (b : Byte) : onCommand b s =
      if e.action b true = .refuse ∧ e.action b false = .refuse then s.turnedAway t.addr (some b) .none .refused
      else s.acked .command { t with cmd := some b } := by
  simp only [onCommand, hp, ht, he]
  rfl

/-- In DRAIN a byte is NACKed, and the phase stays (R1). -/
theorem setUli_say_drain {s : State} (hp : s.uli.phase = .drain) :
    s.setUli (s.uli.say .drain .nack s.now) =
      { s with uli := { s.uli with reply := .nack, lastActivity := s.now } } := by
  simp [State.setUli, Uli.say, ← hp]

theorem onCommand_drain {s : State} (hp : s.uli.phase = .drain) (b : Byte) :
    onCommand b s = { s with uli := { s.uli with reply := .nack, lastActivity := s.now } } := by
  rw [← setUli_say_drain hp]
  simp only [onCommand, hp]

/-! ## Data bytes (R2 to R4, R11, R16, R173) -/

/-- The first data byte of a service write is acknowledged (R173). -/
theorem onDataByte_service {s : State} {t : UpTxn} (hp : s.uli.phase = .command) (ht : s.uli.txn = some t)
    (hn : t.snap = none) (b : Byte) : onDataByte b s = (s.takeByte t b, []) := by
  simp only [onDataByte, hp, ht, hn]

/-- The first data byte of a pass-through write. -/
theorem onDataByte_first {s : State} {t : UpTxn} {e : RouteSnap} {cmd : Byte} (hp : s.uli.phase = .command)
    (ht : s.uli.txn = some t) (he : t.snap = some e) (hc : t.cmd = some cmd) (b : Byte) :
    onDataByte b s = (firstByte t e cmd b s, []) := by
  simp only [onDataByte, hp, ht, he, hc]

/-- A later data byte, where none is held. -/
theorem onDataByte_later {s : State} {t : UpTxn} (hp : s.uli.phase = .writeData) (ht : s.uli.txn = some t)
    (hb : s.uli.byteHold = none) (b : Byte) : onDataByte b s = laterByte t b s := by
  simp [onDataByte, hp, ht, hb]

theorem onDataByte_drain {s : State} (hp : s.uli.phase = .drain) (b : Byte) :
    onDataByte b s = ({ s with uli := { s.uli with reply := .nack, lastActivity := s.now } }, []) := by
  rw [← setUli_say_drain hp]
  simp only [onDataByte, hp]

/-- A closed gate refuses a write (R12). -/
theorem State.writeRefusal_gated {s : State} {e : RouteSnap} (h : s.gateClosed e.gate = true) (cmd : Byte) :
    s.writeRefusal e cmd = some .gated := by
  simp [State.writeRefusal, h]

/-- A write-protected target and a REFUSE rule refuse it (R11, R16). -/
theorem State.writeRefusal_refused {s : State} {e : RouteSnap} {cmd : Byte} (h : s.gateClosed e.gate = false)
    (hr : e.writeProtect = true ∨ e.action cmd true = .refuse) : s.writeRefusal e cmd = some .refused := by
  rcases hr with hr | hr <;> simp [State.writeRefusal, h, hr]

/-- Nothing else does. -/
theorem State.writeRefusal_none {s : State} {e : RouteSnap} {cmd : Byte} (h : s.gateClosed e.gate = false)
    (hw : e.writeProtect = false) (hr : e.action cmd true ≠ .refuse) : s.writeRefusal e cmd = none := by
  simp [State.writeRefusal, h, hw, hr]

/-- A refused first byte is NACKed with its outcome. -/
theorem firstByte_refused {s : State} {t : UpTxn} {e : RouteSnap} {cmd : Byte} {o : TxOutcome}
    (h : s.writeRefusal e cmd = some o) (b : Byte) : firstByte t e cmd b s = s.turnedAway t.addr t.cmd .write o := by
  simp only [firstByte, h]
  rfl

/-- A first byte waits for an occupied pass lane, but for a capturing write (R4, R18). -/
theorem firstByte_held {s : State} {t : UpTxn} {e : RouteSnap} {cmd : Byte} (ht : s.uli.txn = some t)
    (h : s.writeRefusal e cmd = none) (hc : e.action cmd true ≠ .captureLevel) (hl : s.laneBusy e.seg = true)
    (b : Byte) : firstByte t e cmd b s = { s with uli := { s.uli with
      phase := .writeData, byteHold := some (b, s.now), reply := .clockHeld } } := by
  simp [firstByte, h, hc, hl, State.setUli, ← ht]

/-- Else it is acknowledged. -/
theorem firstByte_taken {s : State} {t : UpTxn} {e : RouteSnap} {cmd : Byte} (h : s.writeRefusal e cmd = none)
    (hc : e.action cmd true = .captureLevel ∨ s.laneBusy e.seg = false) (b : Byte) :
    firstByte t e cmd b s = s.takeByte t b := by
  rcases hc with hc | hc <;> simp [firstByte, h, hc]

/-- A later byte of a pass-through write, up to 32 and the trailer of a checked entry (R2). -/
theorem laterByte_pass {t : UpTxn} {e : RouteSnap} (he : t.snap = some e) (b : Byte) (s : State) :
    laterByte t b s = (if t.data.length < (if e.checked then 33 else 32) then s.takeByte t b
      else s.turnedAway t.addr t.cmd .write .refused, []) := by
  simp only [laterByte, he]
  rfl

/-- A later byte of a service write, up to 32 (R173). -/
theorem laterByte_service {t : UpTxn} (hn : t.snap = none) (hl : t.data.length < 32) (b : Byte) (s : State) :
    laterByte t b s = (s.takeByte t b, []) := by
  simp only [laterByte, hn, hl, if_true]

/-- The next one ends the write malformed (log entry 63). -/
theorem laterByte_malformed {t : UpTxn} (hn : t.snap = none) (hl : 32 ≤ t.data.length) (b : Byte) (s : State) :
    laterByte t b s = (s.setUli (s.uli.toDrain s.now), [.malformed (t.cmd.getD 0) (t.data.headD 0)]) := by
  simp only [laterByte, hn, Nat.not_lt.2 hl, if_false]

/-- A malformed service write is answered BAD_LENGTH, whatever its code (R173). -/
theorem handle_malformed (code tag : Byte) (s : State) :
    let r : Response := { code := code, tag := tag, status := .badLength, payload := [], current := false }
    handle (.malformed code tag) s = ({ s with sru := { s.sru with response := some r } }, []) := rfl

/-! ## A held byte (R4) -/

/-- The byte held for a pass lane, with its transaction. -/
theorem State.heldByte_some {s : State} {b : Byte} {since : Time} {t : UpTxn} {e : RouteSnap}
    (hb : s.uli.byteHold = some (b, since)) (ht : s.uli.txn = some t) (he : t.snap = some e) :
    s.heldByte = some (b, since, t, e) := by
  simp [State.heldByte, hb, ht, he]

/-- Settles O20: the guards, then the service bytes, the command byte and DRAIN, the pass-through bytes, and the held
byte. -/
theorem hostBytesAreTaken : Obligations.HostBytesAreTaken := by
  refine ⟨fun e cmd write => ?guards, fun b s t code ha ht hn hc => ?service, fun b s ha => ?command,
    fun b s t e cmd ha ht he hc => ?pass, fun s b since t e ha hb ht he => ?held⟩
  case guards =>
    simp only [← GuardRule.matches_iff]
    refine ⟨fun h => ?_, fun front r back he hf hr => ?_⟩
    · have hn := RouteSnap.rule_none h
      exact ⟨hn, RouteSnap.action_none hn⟩
    · have hs := RouteSnap.rule_first he hf hr
      exact ⟨hs, RouteSnap.action_some hs⟩
  case service =>
    rw [exec_writeDataByte ha]
    refine ⟨fun hp hb => ?_, fun hp hb => ⟨fun hl => ?_, fun hl => ?_⟩⟩
    · rw [onDataByte_service hp ht hn, run_nil, State.takeByte_eq _ _ _ hb]
    · rw [onDataByte_later hp ht hb, laterByte_service hn hl, run_nil, State.takeByte_eq _ _ _ hb]
    · rw [onDataByte_later hp ht hb, laterByte_malformed hn hl, run_only (handle_malformed ..), hc]
      rfl
  case command =>
    simp only [exec_commandByte ha, exec_writeDataByte ha]
    refine ⟨fun t hp ht => ⟨fun hn => ?_, fun e he => ?_⟩, fun hp => ⟨?_, ?_⟩⟩
    · rw [onCommand_service hp ht hn]
    · rw [onCommand_pass hp ht he]
    · rw [onCommand_drain hp]
    · rw [onDataByte_drain hp, run_nil]
  case pass =>
    rw [exec_writeDataByte ha]
    refine ⟨fun hp => ?_, fun hp hb => ?_⟩
    · rw [onDataByte_first hp ht he hc, run_nil]
      refine ⟨fun hg => ?_, fun hg hr => ?_, fun hg hw hr => ⟨fun hl hb => ?_, fun hl hb => ?_⟩⟩
      · rw [firstByte_refused (State.writeRefusal_gated hg cmd)]
      · rw [firstByte_refused (State.writeRefusal_refused hg hr)]
      · rw [firstByte_held ht (State.writeRefusal_none hg hw hr) hl hb]
      · rw [firstByte_taken (State.writeRefusal_none hg hw hr) hl, State.takeByte_eq _ _ _ hb]
    · rw [onDataByte_later hp ht hb, laterByte_pass he, run_nil, State.takeByte_eq _ _ _ hb]
  case held =>
    have hh := State.heldByte_some hb ht he
    rw [exec_heldByteRelease ha, exec_dataHoldStretchLimit ha]
    refine ⟨fun hl => ?_, fun hl => ?_, ?_⟩
    · simp only [onByteRelease, hh, hl]; rfl
    · simp only [onByteRelease, hh, hl, if_true]
    · simp only [onByteLimit, hh]; rfl
end Sys2Proof.Machine
end

section
/-!
SUPPORT. The lookup of a first address byte and its answer (R8 to R13, R15, R23).
-/

namespace Sys2Proof.Machine

/-! ## The lookup (R8, R9) -/

/-- The place of a key is the lowest that holds it (log entry 54). -/
theorem routePlace_eq_some {routes : Image} {key : Byte} {p : Nat} : routePlace routes key = some p ↔
    p < 32 ∧ byteAt routes (12 * p) = key ∧ key ≠ 0 ∧ ∀ q, q < p → byteAt routes (12 * q) ≠ key := by
  simp only [routePlace, List.find?_range_eq_some, Bool.and_eq_true, bne_iff_ne, ne_eq, beq_iff_eq, List.mem_range,
    Bool.not_eq_eq_eq_not, Bool.not_true, Bool.and_eq_false_iff, bne_eq_false_iff_eq, beq_eq_false_iff_ne]
  constructor
  · rintro ⟨⟨h0, rfl⟩, hp, hq⟩
    exact ⟨hp, rfl, h0, fun q hlt => (hq q hlt).elim (fun h => h ▸ Ne.symm h0) id⟩
  · rintro ⟨hp, rfl, h0, hq⟩
    exact ⟨⟨h0, rfl⟩, hp, fun q hlt => .inr (hq q hlt)⟩

/-- A key that no place holds has none. -/
theorem routePlace_eq_none {routes : Image} {key : Byte}
    (h : ¬∃ p, p < 32 ∧ byteAt routes (12 * p) = key ∧ byteAt routes (12 * p) ≠ 0) : routePlace routes key = none := by
  simp only [routePlace, List.find?_eq_none, List.mem_range, Bool.and_eq_true, bne_iff_ne, beq_iff_eq]
  exact fun p hp ⟨h0, hk⟩ => h ⟨p, hp, hk, h0⟩

/-- An empty place holds no entry (R198). -/
theorem routeAt_empty {t : Tables} {p : Nat} (h : byteAt t.routes (12 * p) = 0) : routeAt t p = none := by
  simp [routeAt, h]

/-- The entry of the key's place is found (R8). -/
theorem lookupRoute_keyed {t : Tables} {addr : Addr} {p : Nat}
    (h : routePlace t.routes (addrByte addr) = some p) : lookupRoute t addr = routeAt t p := by
  obtain ⟨-, hk, h0, -⟩ := routePlace_eq_some.1 h
  obtain ⟨e, he⟩ : ∃ e, routeAt t p = some e := ⟨_, if_neg (hk ▸ h0)⟩
  simp [lookupRoute, routeOf, h, he]

/-- Two bytes agree outside a mask exactly when they agree in each bit that the mask leaves open. -/
theorem and_not_eq_iff (a b m : Byte) : a &&& ~~~m = b &&& ~~~m ↔
    ∀ i, i < 8 → m.getLsbD i = false → a.getLsbD i = b.getLsbD i := by
  constructor
  · intro h i hi hm
    rw [BitVec.getLsbD_eq_getElem hi] at hm
    have := congrArg (fun x => x.getLsbD i) h
    simpa [hi, hm] using this
  · intro h
    refine BitVec.eq_of_getLsbD_eq fun i hi => ?_
    cases hm : m.getLsbD i with
    | true => simp [hm]
    | false => simp [hm, h i hi hm]

/-- When a pass window matches (R9): it is used, and address and base agree where the mask has a 0. -/
theorem windowMatches_iff (routes : Image) (w : Nat) (addr : Addr) : windowMatches routes w addr = true ↔
    u8 routes (384 + 4 * w + 2) ≠ 0 ∧ ∀ i, i < 8 → (byteAt routes (384 + 4 * w + 1)).getLsbD i = false →
      (addrByte addr).getLsbD i = (byteAt routes (384 + 4 * w)).getLsbD i := by
  simp only [windowMatches, Bool.and_eq_true, bne_iff_ne, beq_iff_eq, and_not_eq_iff, u8]
  rw [show (byteAt routes (384 + 4 * w + 2)).toNat ≠ 0 ↔ byteAt routes (384 + 4 * w + 2) ≠ 0 from
    not_congr ⟨fun h => BitVec.eq_of_toNat_eq h, fun h => by rw [h]; rfl⟩]

/-- An address that no key has takes window 0, else window 1 (R8). -/
theorem lookupRoute_windows {t : Tables} {addr : Addr} (h : routePlace t.routes (addrByte addr) = none) :
    lookupRoute t addr =
      if windowMatches t.routes 0 addr then some (windowSnap t.routes 0 addr)
      else if windowMatches t.routes 1 addr then some (windowSnap t.routes 1 addr) else none := by
  simp [lookupRoute, routeOf, h]

/-- A defined code stands for itself. -/
theorem codeBelow_defined {n c : Nat} (h : c < n) : codeBelow n c = c := by simp [codeBelow, h]

/-- A defined segment number names its segment (Table 1-4). -/
theorem segNumber_segOfNumber {n : Nat} (h1 : 1 ≤ n) (h4 : n ≤ 4) : segNumber (segOfNumber n) = n := by
  have : n = 1 ∨ n = 2 ∨ n = 3 ∨ n = 4 := by omega
  rcases this with rfl | rfl | rfl | rfl <;> rfl

/-! ## The bytes of an image -/

/-- A byte of a run of an image. -/
theorem byteAt_slice {img : List Byte} {i n k : Nat} (hk : k < n) : byteAt (slice img i n) k = byteAt img (i + k) := by
  simp [byteAt, slice, List.getD_eq_getElem?_getD, hk]

/-- A run that lies within an image has its length. -/
theorem length_slice {img : List Byte} {i n : Nat} (h : i + n ≤ img.length) : (slice img i n).length = n := by
  simp [slice]; omega

/-- A byte of an image after a run was put into it. -/
theorem byteAt_putRun_single {img : List Byte} {i : Nat} (b : Byte) (hi : i < img.length) (k : Nat) :
    byteAt (putRun img i [b]) k = if k = i then b else byteAt img k := by
  have : putRun img i [b] = img.set i b := by
    simp [putRun, List.set_eq_take_append_cons_drop, hi]
  rw [this]
  simp only [byteAt, List.getD_eq_getElem?_getD, List.getElem?_set]
  by_cases e : k = i
  · simp [e, hi]
  · simp [e, Ne.symm e]

/-! ## Entries and guard rules (Table 12-3) -/

/-- The gate that bits 3 and 4 of an entry's flags name. -/
theorem gateOfFlags_eq (flags : Byte) :
    (flags.toNat / 8 % 4 = 0 → gateOfFlags flags = none) ∧ (flags.toNat / 8 % 4 = 1 → gateOfFlags flags = some .a) ∧
      (flags.toNat / 8 % 4 = 2 → gateOfFlags flags = some .b) := by
  refine ⟨fun h => ?_, fun h => ?_, fun h => ?_⟩ <;> simp [gateOfFlags, h, codeBelow]

/-- A guard list that lies within the 64 rules is that run of rules, in rising index order (R15). -/
theorem guardRun_eq {guards : Image} {first count : Nat} (h : first + count ≤ 64) :
    guardRun guards first count = (List.range count).map fun k => guardRuleAt guards (first + k) := by
  unfold guardRun
  rw [List.filter_eq_self.2]
  intro k hk
  have := List.mem_range.1 hk
  simp; omega

/-- The direction of a guard rule with a defined code. -/
theorem guardDirOf_eq {c : Nat} (h : c ≤ 2) :
    guardDirOf c = if c = 0 then .write else if c = 1 then .read else .both := by
  have : c = 0 ∨ c = 1 ∨ c = 2 := by omega
  rcases this with rfl | rfl | rfl <;> rfl

/-- The action of a guard rule with a defined code. -/
theorem guardActionOf_eq {c : Nat} (h : c ≤ 4) :
    guardActionOf c = if c = 0 then .pass else if c = 1 then .refuse else if c = 2 then .mask
      else if c = 3 then .captureLevel else .synthLevel := by
  have : c = 0 ∨ c = 1 ∨ c = 2 ∨ c = 3 ∨ c = 4 := by omega
  rcases this with rfl | rfl | rfl | rfl | rfl <;> rfl

/-! ## The answer of a first address byte (R1, R2, R10, R12) -/

theorem onFirstAddress_starting {s : State} (hp : s.uli.phase = .starting) (addr : Addr) (read : Bool) :
    onFirstAddress addr read s = { s with uli := { s.uli with reply := .nack } } := by
  simp only [onFirstAddress, hp]; rfl

theorem onFirstAddress_idle {s : State} (hp : s.uli.phase = .idle) (addr : Addr) (read : Bool) :
    onFirstAddress addr read s = openTransaction addr read s := by
  simp only [onFirstAddress, hp]

/-- The service address (R173). -/
theorem openTransaction_service {s : State} {addr : Addr} (h : addr = serviceAddr s.lines.addrSelHigh) (read : Bool) :
    openTransaction addr read s =
      if read then s.setUli (s.uli.toDrain s.now) else s.acked .address (UpTxn.opened addr none) := by
  simp only [openTransaction, ← h, if_true]; rfl

/-- A first address byte with the read bit (R2). -/
theorem openTransaction_read {s : State} {addr : Addr} (h : addr ≠ serviceAddr s.lines.addrSelHigh) :
    openTransaction addr true s = s.turnedAway addr none .read .refused := by
  simp only [openTransaction, h, if_false, if_true]; rfl

/-- A reserved address, and one that no lookup finds (R1, R8). -/
theorem openTransaction_noRoute {s : State} {addr : Addr} (h : addr ≠ serviceAddr s.lines.addrSelHigh)
    (hn : reservedAddr addr = true ∨ lookupRoute s.sru.committed addr = none) :
    openTransaction addr false s = s.turnedAway addr none .none .noRoute := by
  simp only [openTransaction, h, if_false]
  cases hr : reservedAddr addr with
  | true => rfl
  | false => rw [hn.resolve_left (by simp [hr])]; rfl

/-- A matched address. -/
theorem openTransaction_matched {s : State} {addr : Addr} {e : RouteSnap} (h : addr ≠ serviceAddr s.lines.addrSelHigh)
    (hr : reservedAddr addr = false) (hl : lookupRoute s.sru.committed addr = some e) :
    openTransaction addr false s = openMatched addr e (s.markUsed e) := by
  simp [openTransaction, h, hr, hl]

/-- The used indicator changes the gate of no entry. -/
theorem gateClosed_markUsed (s : State) (e : RouteSnap) (gate : Option Bay) :
    (s.markUsed e).gateClosed gate = s.gateClosed gate := by
  cases gate <;> simp [State.gateClosed, State.bay]

/-- An ENGINE-class entry refuses the host (R10). -/
theorem openMatched_engine (addr : Addr) {e : RouteSnap} (h : e.engineOnly = true) (s : State) :
    openMatched addr e s = s.turnedAway addr none .none .refused := by
  simp only [openMatched, h, if_true]; rfl

/-- A closed gate without a stand-in reply (R12). -/
theorem openMatched_gated (addr : Addr) {e : RouteSnap} {s : State} (h : e.engineOnly = false)
    (hg : s.gateClosed e.gate = true) (hs : e.standIn = none) :
    openMatched addr e s = s.turnedAway addr none .none .gated := by
  simp [openMatched, h, hg, hs]; rfl

/-- Else the address is acknowledged (R2, R13). -/
theorem openMatched_acked (addr : Addr) {e : RouteSnap} {s : State} (h : e.engineOnly = false)
    (hg : s.gateClosed e.gate = false ∨ e.standIn.isSome = true) :
    openMatched addr e s = s.acked .address (UpTxn.opened addr (some e)) := by
  have : (s.gateClosed e.gate && e.standIn.isNone) = false := by
    rcases hg with hg | hg
    · simp [hg]
    · cases hs : e.standIn with
      | none => simp [hs] at hg
      | some _ => simp
  simp only [openMatched, h, this]; rfl

/-- The used indicator is bit 0 of the entry's byte 11, and nothing else of ROUTES changes (R23). -/
theorem byteAt_markUsed {s : State} {e : RouteSnap} {key : Byte} {place : Nat} 
    (hl : s.sru.committed.routes.length = 392) (hk : e.key = some key) (hp : routePlace s.sru.committed.routes key = some place) (i : Nat) :
    byteAt (s.markUsed e).sru.committed.routes i =
      if i = 12 * place + 11 then byteAt s.sru.committed.routes i ||| 1 else byteAt s.sru.committed.routes i := by
  have hlt := (routePlace_eq_some.1 hp).1
  have hm : (s.markUsed e).sru.committed.routes = mapIndicator s.sru.committed.routes place (· ||| 1) := by
    simp [State.markUsed, hk, hp]
  rw [hm, mapIndicator, byteAt_putRun_single _ (by omega)]
  split
  · next h => rw [h]
  · rfl

/-- A used window gives a snapshot without rules, gate and stand-in reply, at the address itself (R9). -/
theorem windowSnap_segNumber {routes : Image} {w : Nat} (h0 : u8 routes (384 + 4 * w + 2) ≠ 0)
    (h4 : u8 routes (384 + 4 * w + 2) ≤ 4) (addr : Addr) :
    segNumber (windowSnap routes w addr).seg = u8 routes (384 + 4 * w + 2) :=
  segNumber_segOfNumber (by omega) h4

/-- Its write protection is its fourth byte. -/
theorem windowSnap_writeProtect {routes : Image} {w : Nat} (h : u8 routes (384 + 4 * w + 3) ≤ 1) (addr : Addr) :
    (windowSnap routes w addr).writeProtect = true ↔ u8 routes (384 + 4 * w + 3) = 1 := by
  simp [windowSnap, codeBelow_defined (show u8 routes (384 + 4 * w + 3) < 2 by omega)]

/-- What the table says of the entry at a place that is not empty (Table 12-3). -/
theorem routeAt_entry {t : Tables} {p : Nat} (hp : p < 32) (h : byteAt t.routes (12 * p) ≠ 0) :
    let b := fun (i : Nat) => u8 t.routes (12 * p + i)
    ∃ e, routeAt t p = some e ∧ e.key = some (byteAt t.routes (12 * p)) ∧ e.down.toNat = b 2 ∧
      e.engineOnly = (b 3).testBit 0 ∧ e.writeProtect = (b 3).testBit 1 ∧ e.checked = (b 3).testBit 2 ∧
      (1 ≤ b 1 → b 1 ≤ 4 → segNumber e.seg = b 1) ∧
      (b 3 / 8 % 4 = 0 → e.gate = none) ∧ (b 3 / 8 % 4 = 1 → e.gate = some .a) ∧ (b 3 / 8 % 4 = 2 → e.gate = some .b) ∧
      ((b 3).testBit 5 = false → e.rules = []) ∧
      ((b 3).testBit 5 = true → b 4 + b 5 ≤ 64 → e.rules.length = b 5 ∧
        ∀ k, k < b 5 → e.rules[k]? = some (guardRuleAt t.guards (b 4 + k))) ∧
      ((b 3).testBit 6 = false → e.standIn = none) ∧
      ((b 3).testBit 6 = true → b 6 ≤ 4 → t.routes.length = 392 → ∃ reply, e.standIn = some reply ∧
        reply.length = b 6 ∧ ∀ k, k < b 6 → byteAt reply k = byteAt t.routes (12 * p + 7 + k)) := by
  intro b
  obtain ⟨gate0, gateA, gateB⟩ := gateOfFlags_eq (byteAt t.routes (12 * p + 3))
  refine ⟨_, if_neg h, rfl, rfl, rfl, rfl, rfl, segNumber_segOfNumber, gate0, gateA, gateB,
    fun h5 => if_neg (ne_true_of_eq_false h5), fun h5 hb => ?rules, fun h6 => if_neg (ne_true_of_eq_false h6),
    fun h6 h4 hl => ⟨_, if_pos h6, ?reply⟩⟩
  case rules =>
    have hr : (if bitAt (byteAt t.routes (12 * p + 3)) 5 then guardRun t.guards (b 4) (b 5) else []) =
        (List.range (b 5)).map fun k => guardRuleAt t.guards (b 4 + k) := (if_pos h5).trans (guardRun_eq hb)
    refine ⟨(congrArg List.length hr).trans (by simp), fun k hk => (congrArg (·[k]?) hr).trans ?_⟩
    simp [hk]
  case reply =>
    have hm : min 4 (u8 t.routes (12 * p + 6)) = b 6 := Nat.min_eq_right h4
    rw [hm]
    exact ⟨length_slice (by omega), fun k hk => byteAt_slice hk⟩

/-- What the guard table says of a rule (Table 12-3). -/
theorem guardRuleAt_fields (guards : Image) (i : Nat) :
    let r := guardRuleAt guards i
    let b := fun (j : Nat) => u8 guards (13 * i + j)
    r.low.toNat = b 0 ∧ r.high.toNat = b 1 ∧ r.mask.toNat = b 4 ∧
      (b 2 ≤ 2 → r.dir = if b 2 = 0 then .write else if b 2 = 1 then .read else .both) ∧
      (b 3 ≤ 4 → r.action = if b 3 = 0 then .pass else if b 3 = 1 then .refuse else if b 3 = 2 then .mask
        else if b 3 = 3 then .captureLevel else .synthLevel) ∧
      ∀ k, k < 8 → byteAt r.fill k = byteAt guards (13 * i + 5 + k) :=
  ⟨rfl, rfl, rfl, guardDirOf_eq, guardActionOf_eq, fun _ hk => byteAt_slice hk⟩

/-- Settles O19: the tables by place and window, the acknowledged addresses, and the NACKed ones in the order of their
checks. -/
theorem firstAddressAnswered : Obligations.FirstAddressAnswered := by
  refine ⟨fun t addr => ?tables, fun addr s ha hp => ?acked, fun addr read s ha => ?nacked⟩
  case tables =>
    refine ⟨fun p hp hk h0 hq => lookupRoute_keyed (routePlace_eq_some.2 ⟨hp, hk, h0, hq⟩), fun hk => ?windows,
      fun p _ => routeAt_empty, fun p hp => routeAt_entry hp, fun i => ?rules⟩
    case windows =>
      have hl := lookupRoute_windows (routePlace_eq_none hk)
      simp only [windowMatches_iff] at hl
      refine ⟨fun h0 => ?_, fun h0 h1 => ?_, fun h0 h1 => ?_⟩
      · exact ⟨_, hl.trans (if_pos h0), rfl, rfl, rfl, rfl, rfl, rfl, rfl, fun h => windowSnap_segNumber h0.1 h addr,
          fun h => windowSnap_writeProtect h addr⟩
      · exact ⟨_, (hl.trans (if_neg h0)).trans (if_pos h1), rfl, rfl, rfl, rfl, rfl, rfl, rfl,
          fun h => windowSnap_segNumber h1.1 h addr, fun h => windowSnap_writeProtect h addr⟩
      · exact (hl.trans (if_neg h0)).trans (if_neg h1)
    case rules =>
      obtain ⟨hlow, hhigh, hmask, hdir, haction, hfill⟩ := guardRuleAt_fields t.guards i
      exact ⟨hlow, hhigh, hmask, hdir, haction, fun _ _ => hfill⟩
  case acked =>
    simp only [exec_firstAddressByte ha, onFirstAddress_idle hp]
    refine ⟨fun hs => ⟨?_, ?_⟩, fun e hs hr hl he hg => ⟨_, rfl, ?_⟩⟩
    · rw [openTransaction_service hs]; rfl
    · rw [openTransaction_service hs]; rfl
    · rw [openTransaction_matched hs hr hl, openMatched_acked addr he (by rwa [gateClosed_markUsed])]
      have hu : (s.markUsed e).uli = s.uli := by simp
      refine ⟨?_, ?_, ?_, ?_, ?_, ?_, ?_, ?_, fun hlen key place hk hpl i => byteAt_markUsed hlen hk hpl i⟩
      all_goals simp [State.acked, UpTxn.opened]
  case nacked =>
    rw [exec_firstAddressByte ha]
    refine ⟨fun hp => by rw [onFirstAddress_starting hp], fun hp hs => ?_⟩
    rw [onFirstAddress_idle hp]
    refine ⟨?_, ?_, ?_⟩
    · rintro rfl
      rw [openTransaction_read hs]
    · rintro rfl hn
      rw [openTransaction_noRoute hs hn]
    · rintro e rfl hr hl
      rw [openTransaction_matched hs hr hl]
      refine ⟨fun he => ?_, fun he hg hn => ?_⟩
      · rw [openMatched_engine addr he]
      · rw [openMatched_gated addr he (by rwa [gateClosed_markUsed]) hn]
end Sys2Proof.Machine
end

section
/-!
SUPPORT. The stop of a transaction (R3, R4, R17, R18, R21, Table 1-3), and the decoding of a service write (R173, R174).
-/

namespace Sys2Proof.Machine

/-! ## The end of a write (Table 1-3) -/

/-- The host's trailer matches (R21): none is used, or the last byte is the CRC over address byte, command and data. -/
theorem trailerMatches_iff (t : UpTxn) (e : RouteSnap) (cmd : Byte) : trailerMatches t e cmd = true ↔
    e.checked = false ∨ t.data ≠ [] ∧ t.data = writePayload e t.data ++
      [crc8 (addressByte (addrByte t.addr) false :: cmd :: writePayload e t.data)] := by
  unfold trailerMatches writePayload writeTrailer
  cases e.checked with
  | false => simp
  | true =>
    rcases List.eq_nil_or_concat t.data with h | ⟨l, b, h⟩
    · simp [h]
    · simp [h]

/-- The rule of a write leaves its data as they are, but for a MASK (R17). -/
theorem forwarded_unmasked {e : RouteSnap} {cmd : Byte} (h : e.action cmd true ≠ .mask) (data : List Byte) :
    e.forwarded cmd data = data := by
  unfold RouteSnap.forwarded
  unfold RouteSnap.action at h
  cases hr : e.rule cmd true with
  | none => rfl
  | some r =>
    rw [hr] at h
    exact if_neg h

/-- A MASK replaces the bytes among the first eight whose mask bit is 0 (R17). -/
theorem forwarded_masked {e : RouteSnap} {cmd : Byte} {r : GuardRule} (hr : e.rule cmd true = some r)
    (hm : r.action = .mask) (data : List Byte) : (e.forwarded cmd data).length = data.length ∧
      ∀ i, i < data.length → byteAt (e.forwarded cmd data) i =
        if i < 8 ∧ r.mask.getLsbD i = false then byteAt r.fill i else byteAt data i := by
  have hf : e.forwarded cmd data = maskBytes r data := by simp [RouteSnap.forwarded, hr, hm]
  rw [hf]
  refine ⟨by simp [maskBytes], fun i hi => ?_⟩
  simp [maskBytes, byteAt, bitAt, List.getD_eq_getElem?_getD, hi]

section
variable {s : State} {t : UpTxn} {e : RouteSnap} {cmd : Byte}

/-- A trailer that does not match refuses the write. -/
theorem endOfWrite_trailer (h : trailerMatches t e cmd = false) : s.endOfWrite t e cmd = .outcome .refused := by
  simp [State.endOfWrite, h]

/-- A captured write of fewer than two bytes is refused (R18). -/
theorem endOfWrite_short (h : trailerMatches t e cmd = true) (hc : e.action cmd true = .captureLevel)
    (hl : (writePayload e t.data).length < 2) : s.endOfWrite t e cmd = .outcome .refused := by
  simp [State.endOfWrite, h, hc, hl]

/-- A write that no check ends is forwarded (R4). -/
theorem endOfWrite_forward (h : trailerMatches t e cmd = true) (hg : s.gateClosed e.gate = false)
    (hd : t.data = [] → e.writeProtect = false ∧ e.action cmd true ≠ .refuse ∧ s.laneBusy e.seg = false)
    (hc : e.action cmd true ≠ .captureLevel) :
    s.endOfWrite t e cmd = .forward (e.forwarded cmd (writePayload e t.data)) := by
  by_cases hn : t.data = []
  · obtain ⟨hw, hr, hb⟩ := hd hn
    simp [State.endOfWrite, h, hg, hc, hw, hr, hb]
  · simp [State.endOfWrite, h, hg, hc, hn]

variable (h : trailerMatches t e cmd = true)
  (hl : e.action cmd true = .captureLevel → 2 ≤ (writePayload e t.data).length)
include hl

/-- A write that is long enough is no short capture. -/
theorem not_shortCapture : ¬(e.action cmd true = .captureLevel ∧ (writePayload e t.data).length < 2) :=
  fun ⟨hc, hs⟩ => absurd hs (Nat.not_lt.2 (hl hc))

include h

theorem endOfWrite_gated (hg : s.gateClosed e.gate = true) : s.endOfWrite t e cmd = .outcome .gated := by
  simp only [State.endOfWrite, h, if_neg (not_shortCapture hl), hg]
  rfl

/-- A zero-data write is refused as its first data byte would have been (R11, R16). -/
theorem endOfWrite_empty (hg : s.gateClosed e.gate = false) (hd : t.data = [])
    (hr : e.writeProtect = true ∨ e.action cmd true = .refuse) : s.endOfWrite t e cmd = .outcome .refused := by
  have hp : (t.data.isEmpty && (e.writeProtect || e.action cmd true == .refuse)) = true := by simpa [hd] using hr
  simp only [State.endOfWrite, h, if_neg (not_shortCapture hl), hg, hp]
  rfl

/-- A zero-data write finds its lane occupied (R4). -/
theorem endOfWrite_busy (hg : s.gateClosed e.gate = false) (hd : t.data = []) (hw : e.writeProtect = false)
    (hr : e.action cmd true ≠ .refuse) (hb : s.laneBusy e.seg = true) : s.endOfWrite t e cmd = .outcome .busy := by
  have hp : (e.writeProtect || e.action cmd true == .refuse) = false := by simp [hw, hr]
  have he : t.data.isEmpty = true := List.isEmpty_iff.2 hd
  simp only [State.endOfWrite, h, if_neg (not_shortCapture hl), hg, hp, hb, he]
  rfl

/-- A capturing write gives its level (R18). -/
theorem endOfWrite_capture (hg : s.gateClosed e.gate = false) (hc : e.action cmd true = .captureLevel) :
    s.endOfWrite t e cmd = .capture (min (u16 (writePayload e t.data) 0) 4095) := by
  have hn : t.data.isEmpty = false := by
    rw [List.isEmpty_eq_false_iff]
    intro hn
    have := hl hc
    unfold writePayload at this
    split at this <;> simp [hn] at this
  simp only [State.endOfWrite, h, if_neg (not_shortCapture hl), hg, hn]
  exact if_pos hc

end

/-! ## The stop (R3) -/

theorem onStop_readout {s : State} (hp : s.uli.phase = .readout ∨ s.uli.phase = .drain) :
    onStop s = (s.linkIdle, []) := by
  rcases hp with hp | hp <;> (simp only [onStop, hp]; rfl)

/-- The end of a transaction between its address and its command byte. -/
theorem endAddressPhase_eq (t : UpTxn) (s : State) : endAddressPhase t s =
    if t.snap.isSome then s.linkIdle.withRecord t.addr none .none .refused else s.linkIdle := rfl

theorem onStop_address {s : State} {t : UpTxn} (hp : s.uli.phase = .address) (ht : s.uli.txn = some t) :
    onStop s = (endAddressPhase t s, []) := by
  simp only [onStop, hp, ht]

/-- The stop of a write. -/
theorem onStop_write {s : State} {t : UpTxn} (hp : s.uli.phase = .command ∨ s.uli.phase = .writeData)
    (hb : s.uli.byteHold = none) (ht : s.uli.txn = some t) : onStop s = endWritePhase t s := by
  rcases hp with hp | hp <;> simp [onStop, hp, ht, hb]

/-- The write phase of a pass-through transaction ends. -/
theorem endWritePhase_pass {t : UpTxn} {e : RouteSnap} {cmd : Byte} (he : t.snap = some e) (hc : t.cmd = some cmd)
    (s : State) : endWritePhase t s = endPassWrite t e cmd s.linkIdle := by
  simp only [endWritePhase, he, hc]
  rfl

/-- The write phase of a service transaction ends (R173). -/
theorem endWritePhase_service {t : UpTxn} (hn : t.snap = none) (s : State) :
    endWritePhase t s = (s.linkIdle, [serviceTask t]) := by
  simp only [endWritePhase, hn]
  rfl

/-! ## A captured level (R18, R132) -/

/-- A captured level makes the mode MANUAL, with its notice where it was another, and starts a step (R132). -/
theorem captureLevel_eq (code : Nat) (s : State) : captureLevel code s =
    (let s1 : State := { s with brc := { s.brc with
      mode := .manual, hold := none, manual := some (code * s.light.nMax / 4095) } }
    if s.brc.mode = .manual then s1
      else s1.notify
        { kind := .modeChanged, severity := .info, subject := 0, arg1 := modeCode s.brc.mode, arg2 := 2 },
    [.brightStep]) := rfl

/-- A post that finds room joins behind the others (R186). -/
theorem notify_room {s : State} (h : s.ntq.queue.length < 16) (p : Post) :
    (s.notify p).ntq.queue = s.ntq.queue ++ [noticeOf s.ntq.seq s.now p] := by
  have : s.ntq.queue.length < noticeLimit := h
  simp [Ntq.post, Ntq.alert, this]

/-- The queue of a state with at most one record more, that is no MODE_CHANGED. -/
def addsOther (q r : List Notice) : Prop := r = q ∨ ∃ n, r = q ++ [n] ∧ n.kind ≠ .modeChanged

theorem addsOther_length {q r : List Notice} (h : addsOther q r) : r.length ≤ q.length + 1 := by
  rcases h with rfl | ⟨n, rfl, -⟩ <;> simp

theorem addsOther_mode {q r : List Notice} (h : addsOther q r) (n : Notice) (hn : n.kind = .modeChanged) :
    n ∈ r ↔ n ∈ q := by
  rcases h with rfl | ⟨m, rfl, hm⟩
  · rfl
  · have : n ≠ m := fun e => hm (e ▸ hn)
    simp [this]

theorem alsNotice_adds (b : Brc) (a : Option Nat) {s : State} (h : s.ntq.queue.length < 16) :
    addsOther s.ntq.queue (alsNotice b a s).ntq.queue := by
  unfold alsNotice
  split
  · exact .inr ⟨_, notify_room h _, by simp [noticeOf]⟩
  · exact .inl rfl

theorem limitNotice_adds (b : Brc) (p : Light) {s : State} (h : s.ntq.queue.length < 16) :
    addsOther s.ntq.queue (limitNotice b p s).ntq.queue := by
  unfold limitNotice
  split
  · exact .inr ⟨_, notify_room h _, by simp [noticeOf]⟩
  · exact .inl rfl

theorem alsNotice_brc (b : Brc) (a : Option Nat) (s : State) : (alsNotice b a s).brc = s.brc := by
  unfold alsNotice
  split <;> rfl

theorem limitNotice_brc (b : Brc) (p : Light) (s : State) : (limitNotice b p s).brc = s.brc := by
  unfold limitNotice
  split <;> rfl

/-- While a driver write executes, the stages keep the step timer and post at most two notices, of the sensors and of
the ceiling (R136, R140, R144). -/
theorem fullStep_executing {s : State} {code : Nat} (h : s.brc.write = .executing code) :
    (fullStep s).1.brc.step = s.brc.step ∧ (s.ntq.queue.length < 15 →
      ∀ n : Notice, n.kind = .modeChanged → (n ∈ (fullStep s).1.ntq.queue ↔ n ∈ s.ntq.queue)) := by
  set b : Brc := { s.brc with awaitingLight := false }
  set s1 : State := { s with brc := b.measured s.light s.ambientLux }
  set s2 := alsNotice b s.ambientLux s1
  set s3 : State := { s2 with brc := s2.brc.leveled s.light }
  set s4 := limitNotice b s.light s3
  have hb2 : s2.brc = s1.brc := alsNotice_brc ..
  have hb4 : s4.brc = s3.brc := limitNotice_brc ..
  have hs1 : s1.brc.step = s.brc.step ∧ s1.brc.write = s.brc.write := by
    simp only [s1]
    cases s.ambientLux <;> exact ⟨rfl, rfl⟩
  have hw : s4.brc.write = .executing code := by
    rw [hb4]
    show s2.brc.write = _
    rw [hb2, hs1.2, h]
  have hf : fullStep s = (s4, []) := writeOut_executing hw
  rw [hf]
  refine ⟨?_, fun hq n hn => ?_⟩
  · show s4.brc.step = _
    rw [hb4]
    show s2.brc.step = _
    rw [hb2, hs1.1]
  · have h2 : addsOther s.ntq.queue s2.ntq.queue := alsNotice_adds b s.ambientLux (s := s1) (Nat.lt_succ_of_lt hq)
    have h4 : addsOther s2.ntq.queue s4.ntq.queue :=
      limitNotice_adds b s.light (s := s3) (lt_of_le_of_lt (addsOther_length h2) (by omega))
    exact (addsOther_mode h4 n hn).trans (addsOther_mode h2 n hn)

/-- A brightness step in MANUAL while a driver write executes: where a ceiling is in force it restarts the timer, and it
posts no MODE_CHANGED (R129, R133). -/
theorem brightnessStep_manual {s : State} {code : Nat} (h : s.brc.write = .executing code) (hm : s.brc.mode = .manual) :
    (s.brc.ceiling.isSome = true → (brightnessStep s).1.brc.step = some (timerNow s s.light.period)) ∧
      (s.ntq.queue.length < 15 →
        ∀ n : Notice, n.kind = .modeChanged → (n ∈ (brightnessStep s).1.ntq.queue ↔ n ∈ s.ntq.queue)) := by
  set s1 : State := { s with brc := { s.brc with step := some (timerNow s s.light.period) } }
  have hl : s.waitsForLight = false := by simp [State.waitsForLight, hm]
  obtain ⟨hs, hn⟩ := fullStep_executing (s := s1) h
  cases hc : s.brc.ceiling with
  | none => simp [brightnessStep, hc]
  | some c =>
    have hb : brightnessStep s = fullStep s1 := by simp [brightnessStep, hc, hl, s1]
    rw [hb]
    exact ⟨fun _ => hs, hn⟩

/-! ## What a pass-through write ends with -/

/-- A write that ends with an outcome is recorded with it, and PASS_WRITE_FAILED is raised (R26). -/
theorem endPassWrite_outcome {t : UpTxn} {e : RouteSnap} {cmd : Byte} {s : State} {o : TxOutcome}
    (h : s.endOfWrite t e cmd = .outcome o) : endPassWrite t e cmd s = ((s.withRecord t.addr t.cmd .write o).notify
      { kind := .passWriteFailed, severity := .warn, subject := segNumber e.seg, arg1 := s.uli.seq.toNat
        arg2 := outcomeCode o }, []) := by
  simp only [endPassWrite, h]
  rfl

/-- A write that is forwarded is handed into its pass lane, with its trailer computed anew (R20, R21). -/
theorem endPassWrite_forward {t : UpTxn} {e : RouteSnap} {cmd : Byte} {s : State} {data : List Byte}
    (h : s.endOfWrite t e cmd = .forward data) :
    endPassWrite t e cmd s = (s, [.handIn (writeLane t e cmd data)]) := by
  simp only [endPassWrite, h]

/-- A captured write is recorded and becomes a MANUAL request (R18, R132). -/
theorem endPassWrite_capture {t : UpTxn} {e : RouteSnap} {cmd : Byte} {s : State} {code : Nat}
    (h : s.endOfWrite t e cmd = .capture code) :
    endPassWrite t e cmd s = captureLevel code (s.withRecord t.addr t.cmd .write .captured) := by
  simp only [endPassWrite, h]
  rfl

/-- On an empty queue its MODE_CHANGED stands alone. -/
theorem captureLevel_queue (code : Nat) {s : State} (h : s.ntq.queue = []) : (captureLevel code s).1.ntq.queue =
    if s.brc.mode = .manual then [] else [noticeOf s.ntq.seq s.now
      { kind := .modeChanged, severity := .info, subject := 0, arg1 := modeCode s.brc.mode, arg2 := 2 }] := by
  rw [captureLevel_eq]
  split
  · exact h
  · simp [Ntq.post, Ntq.alert, h, noticeLimit]

/-- A captured write while a driver write executes: the record of the Brightness Controller, its notice, and what stays
as it is (R132, R144). -/
theorem captured_executing {s : State} {code : Nat} (level : Nat) (h : s.brc.write = .executing code) :
    ∃ u, run stepFuel (captureLevel level s).2 (captureLevel level s).1 = u ∧
      u.uli = s.uli ∧ u.brc.mode = .manual ∧ u.brc.hold = none ∧ u.brc.bias = s.brc.bias ∧
      u.brc.manual = some (level * s.light.nMax / 4095) ∧ u.brc.write = s.brc.write ∧ u.brc.written = s.brc.written ∧
      (s.brc.ceiling.isSome = true → u.brc.step = some { start := s.now, dur := s.light.period }) ∧
      (s.ntq.queue = [] → (s.brc.mode ≠ .manual ↔ ∃ n ∈ u.ntq.queue, n.kind = .modeChanged) ∧
        ∀ n ∈ u.ntq.queue, n.kind = .modeChanged →
          n.severity = .info ∧ n.subject = 0 ∧ n.arg1 = modeCode s.brc.mode ∧ n.arg2 = 2) ∧
      u.ports = s.ports ∧ u.ppc = s.ppc ∧ u.bays = s.bays ∧ u.mtu = s.mtu ∧ u.sru = s.sru ∧ u.smi = s.smi := by
  set v := (captureLevel level s).1 with hv
  have hbrc : v.brc = { s.brc with mode := .manual, hold := none, manual := some (level * s.light.nMax / 4095) } := by
    rw [hv, captureLevel_eq]
    dsimp only
    split <;> rfl
  have hw : v.brc.write = .executing code := by rw [hbrc]; exact h
  have hm : v.brc.mode = .manual := by rw [hbrc]
  obtain ⟨k, hk⟩ := brightnessStep_waited hw
  have hrun : run stepFuel (captureLevel level s).2 v = (brightnessStep v).1 :=
    run_only (t := .brightStep) (Prod.ext rfl hk)
  have hlight : v.light = s.light := by simp [State.light, hv]
  refine ⟨_, hrun, ?_, ?_, ?_, ?_, ?_, ?_, ?_, fun hc => ?step, fun hq => ?notice, ?_, ?_, ?_, ?_, ?_, ?_⟩
  case step =>
    rw [(brightnessStep_manual hw hm).1 (by rw [hbrc]; exact hc), timerNow, hlight]
    simp [hv]
  case notice =>
    have hvq := captureLevel_queue level hq
    have hmem := (brightnessStep_manual hw hm).2 (by rw [hvq]; split <;> simp)
    rw [hvq] at hmem
    by_cases hs : s.brc.mode = .manual
    · simp only [hs, if_true, List.not_mem_nil, iff_false] at hmem
      exact ⟨⟨fun h => absurd hs h, fun ⟨n, hn, hk⟩ => absurd hn (hmem n hk)⟩, fun n hn hk => absurd hn (hmem n hk)⟩
    · simp only [hs, if_false, List.mem_singleton] at hmem
      refine ⟨⟨fun _ => ⟨_, (hmem _ rfl).2 rfl, rfl⟩, fun _ => hs⟩, fun n hn hk => ?_⟩
      rw [(hmem n hk).1 hn]
      exact ⟨rfl, rfl, rfl, rfl⟩
  all_goals simp [k.mode, k.hold, k.bias, k.manual, k.write, k.written, k.ports, hbrc]
  all_goals simp [hv]

/-! ## Service writes (R173, R174) -/

/-- A code that names no request (R174). -/
theorem handle_unknown {code : Byte} (h : requestCodes.contains code = false) (tag : Byte) (p : List Byte) (s : State) :
    let r : Response := { code := code, tag := tag, status := .unknownRequest, payload := [], current := false }
    handle (.request code tag p) s = ({ s with sru := { s.sru with response := some r } }, []) := by
  have : requestOf code = none := by
    rw [← Option.not_isSome_iff_eq_none, Sys2Proof.Laws.requestOf_isSome, h]
    decide
  simp only [handle, decodeRequest, this]
  rfl

/-- A request's code names it (Table 12-1). -/
theorem requestOf_code (r : Request) : requestOf r.code = some r := by
  cases r <;> decide

/-- A wrong payload length (R174), also while a SOFT_RESET waits (log entry 13). -/
theorem handle_badLength {q : Request} {p : List Byte} (h : q.takes p.length = false) (tag : Byte) (s : State) :
    let r : Response := { code := q.code, tag := tag, status := .badLength, payload := [], current := false }
    handle (.request q.code tag p) s = ({ s with sru := { s.sru with response := some r } }, []) := by
  simp only [handle, decodeRequest, requestOf_code, answerOf, h]
  rfl

/-- IDENTIFY (R183). -/
theorem handle_identify {s : State} (h : s.sru.resetPending = false) (tag : Byte) :
    let r : Response := { code := 0x01, tag := tag, status := .ok, payload := s.identity, current := false }
    handle (.request 0x01 tag []) s = ({ s with sru := { s.sru with response := some r } }, []) := by
  have hp : requestIdentify s = reading s.identity s := by
    simp only [requestIdentify, State.identity]
    cases s.smi.result with
    | none => rfl
    | some r => cases r <;> rfl
  have ha : answerOf .identify [] s = reading s.identity s := by
    simp [answerOf, Request.takes, Request.background, h, Request.act, hp]
  have hi : requestOf 0x01 = some .identify := requestOf_code .identify
  simp only [handle, decodeRequest, hi, ha]
  rfl

section
variable {s : State} {t : UpTxn} {e : RouteSnap} {cmd : Byte} (ha : s.agenda = [])
  (hp : s.uli.phase = .command ∨ s.uli.phase = .writeData) (hb : s.uli.byteHold = none) (ht : s.uli.txn = some t)
  (he : t.snap = some e) (hc : t.cmd = some cmd)
include ha hp hb ht he hc

/-- The stop of a pass-through write: what Table 1-3 says of it, and the run of what that starts. -/
theorem exec_stop_write {a : Act} (h : endPassWrite t e cmd s.linkIdle = a) :
    exec .stopCondition s = .next (run stepFuel a.2 a.1) := by
  rw [exec_stopCondition ha, onStop_write hp hb ht, endWritePhase_pass he hc, h]

/-- The stop of a write that ends with an outcome. -/
theorem exec_stop_outcome {o : TxOutcome} (h : s.linkIdle.endOfWrite t e cmd = .outcome o) :
    exec .stopCondition s = .next ((s.linkIdle.withRecord t.addr t.cmd .write o).notify
      { kind := .passWriteFailed, severity := .warn, subject := segNumber e.seg, arg1 := s.uli.seq.toNat
        arg2 := outcomeCode o }) := by
  rw [exec_stop_write ha hp hb ht he hc (endPassWrite_outcome h), run_nil]
  rfl

/-- The stop of a write that is forwarded. -/
theorem exec_stop_forward {data : List Byte} (h : s.linkIdle.endOfWrite t e cmd = .forward data) :
    exec .stopCondition s = .next (run stepFuel [.handIn (writeLane t e cmd data)] s.linkIdle) :=
  exec_stop_write ha hp hb ht he hc (endPassWrite_forward h)

/-- The stop of a write that is captured. -/
theorem exec_stop_capture {code : Nat} (h : s.linkIdle.endOfWrite t e cmd = .capture code) :
    exec .stopCondition s =
      .next (run stepFuel (captureLevel code (s.linkIdle.withRecord t.addr t.cmd .write .captured)).2
        (captureLevel code (s.linkIdle.withRecord t.addr t.cmd .write .captured)).1) :=
  exec_stop_write ha hp hb ht he hc (endPassWrite_capture h)

end

/-- The stop of a service write: what the handling of its request leaves (R173). -/
theorem exec_stop_service {s : State} (ha : s.agenda = []) {t : UpTxn}
    (hp : s.uli.phase = .command ∨ s.uli.phase = .writeData) (hb : s.uli.byteHold = none) (ht : s.uli.txn = some t)
    (hn : t.snap = none) {u : State} (hu : handle (serviceTask t) s.linkIdle = (u, [])) :
    exec .stopCondition s = .next u := by
  rw [exec_stopCondition ha, onStop_write hp hb ht, endWritePhase_service hn, run_only hu]

/-- Settles O21, by what is open at the stop and, for a pass-through write, by Table 1-3's checks in their order. -/
theorem stopEndsTransaction : Obligations.StopEndsTransaction := by
  intro s ha
  refine ⟨fun hp => ?idle, fun t hp ht => ?address, fun e cmd payload i => ⟨fun h => ?plain, fun r hr hm => ?masked⟩,
    fun t e cmd hp hb ht he hc => ?pass, fun t code hp hb ht hn hc => ?service⟩
  case idle => rw [exec_stopCondition ha, onStop_readout hp, run_nil]
  case address => rw [exec_stopCondition ha, onStop_address hp ht, run_nil, endAddressPhase_eq]
  case plain => exact forwarded_unmasked h payload
  case masked =>
    obtain ⟨hl, hi⟩ := forwarded_masked hr hm payload
    exact ⟨hl, hi i⟩
  case pass =>
    intro stop ends payload trailer passes captures
    have outcome : ∀ o, s.linkIdle.endOfWrite t e cmd = .outcome o → stop = .next (ends o) :=
      fun o h => exec_stop_outcome ha hp hb ht he hc h
    have hpass : passes ↔ trailerMatches t e cmd = true := (trailerMatches_iff t e cmd).symm
    refine ⟨fun h => ?_, fun h hcap hl => ?_, fun h hl => ?_⟩
    · exact outcome _ (endOfWrite_trailer (Bool.eq_false_iff.2 (mt hpass.2 h)))
    · exact outcome _ (endOfWrite_short (hpass.1 h) hcap hl)
    rw [hpass] at h
    refine ⟨fun hg => outcome _ (endOfWrite_gated h hl hg), fun hg => ⟨fun hd hr => ?_, fun hd hw hr hbusy => ?_,
      fun hd hcap => ?forward, fun hcap => ?capture, fun code hcap hw => ?executing⟩⟩
    · exact outcome _ (endOfWrite_empty h hl hg hd hr)
    · exact outcome _ (endOfWrite_busy h hl hg hd hw hr hbusy)
    case forward =>
      intro data x p placed away
      have hx : stop = .next (run stepFuel [.handIn x] s.linkIdle) :=
        exec_stop_forward ha hp hb ht he hc (endOfWrite_forward (s := s.linkIdle) h hg hd hcap)
      refine ⟨fun hw => ?_, ⟨4096, by decide, hx⟩, fun hw => handle_handIn_away hw, fun hw => handle_handIn_placed hw⟩
      exact hx.trans (congrArg _ (run_only (handle_handIn_waits (x := x) (s := s.linkIdle) hw)))
    case capture =>
      exact ⟨4096, by decide,
        exec_stop_capture ha hp hb ht he hc (endOfWrite_capture (s := s.linkIdle) h hl hg hcap)⟩
    case executing =>
      obtain ⟨u, hu, facts⟩ := captured_executing (s := s.linkIdle.withRecord t.addr t.cmd .write .captured)
        (min (u16 payload 0) 4095) hw
      refine ⟨u, ?_, facts⟩
      exact (exec_stop_capture ha hp hb ht he hc (endOfWrite_capture (s := s.linkIdle) h hl hg hcap)).trans
        (congrArg _ hu)
  case service =>
    have malformed : t.data = [] →
        handle (serviceTask t) s.linkIdle = handle (.malformed code 0) s.linkIdle := fun hd => by
      simp [serviceTask, hd, hc]
    have request : ∀ tag payload, t.data = tag :: payload →
        handle (serviceTask t) s.linkIdle = handle (.request code tag payload) s.linkIdle := fun tag payload hd => by
      simp [serviceTask, hd, hc]
    have stop := fun {u : State} => exec_stop_service (u := u) ha hp hb ht hn
    refine ⟨fun hu => ?_, fun hd => stop (malformed hd), ?_⟩
    · cases hd : t.data with
      | nil => exact stop (malformed hd)
      | cons tag payload => exact stop ((request tag payload hd).trans (handle_unknown hu tag payload _))
    · rintro r tag payload rfl hd
      refine ⟨fun hl => stop ((request tag payload hd).trans (handle_badLength hl tag _)), ?_⟩
      rintro rfl rfl hr
      exact stop ((request tag [] hd).trans (handle_identify (s := s.linkIdle) hr tag))

end Sys2Proof.Machine
end

section
/-!
SUPPORT. The repeated start, and held reads (R3, R5, R12, R13, R19, R32, R175).
-/

namespace Sys2Proof.Machine

/-! ## The repeated start (R3, R5) -/

theorem onRepeatedStart_starting {s : State} (hp : s.uli.phase = .starting) (addr : Addr) (read : Bool) :
    onRepeatedStart addr read s = ({ s with uli := { s.uli with reply := .nack } }, []) := by
  simp only [onRepeatedStart, hp]; rfl

theorem onRepeatedStart_idle {s : State} (hp : s.uli.phase = .idle) (addr : Addr) (read : Bool) :
    onRepeatedStart addr read s = (s, [.openTxn addr read]) := by
  simp only [onRepeatedStart, hp]

/-- While a byte is held nothing can be driven (R4). -/
theorem onRepeatedStart_held {s : State} {t : UpTxn} (hp : s.uli.phase = .writeData) (ht : s.uli.txn = some t)
    (hb : s.uli.byteHold.isSome = true) (addr : Addr) (read : Bool) : onRepeatedStart addr read s = (s, []) := by
  simp [onRepeatedStart, hp, ht, hb]

/-- What is open ends as at a stop, and the new transaction opens behind what that starts (R3). -/
theorem onRepeatedStart_opens {s : State} {addr : Addr} {read : Bool}
    (h : (s.uli.phase = .readout ∨ s.uli.phase = .drain) ∨ ∃ t, s.uli.txn = some t ∧
      (s.uli.phase = .address ∨ s.uli.phase = .command ∧ ¬(read = true ∧ addr = t.addr) ∨
        s.uli.phase = .writeData ∧ s.uli.byteHold = none)) :
    onRepeatedStart addr read s = ((onStop s).1, (onStop s).2 ++ [.openTxn addr read]) := by
  rcases h with (hp | hp) | ⟨t, ht, hp | ⟨hp, hr⟩ | ⟨hp, hb⟩⟩
  · simp [onRepeatedStart, onStop, hp]
  · simp [onRepeatedStart, onStop, hp]
  · simp [onRepeatedStart, onStop, hp, ht, thenOpen]
  · have hr' : (read && addr == t.addr) = false := by simpa using hr
    simp [onRepeatedStart, onStop, hp, ht, thenOpen, hr']
  · simp [onRepeatedStart, onStop, hp, ht, hb, thenOpen]

/-- The first address byte of the next transaction (R1). -/
theorem handle_openTxn (addr : Addr) (read : Bool) (s : State) :
    handle (.openTxn addr read) s = (onFirstAddress addr read s, []) := rfl

/-- A run whose last task opens a transaction answers what its first address byte answers behind the others. -/
theorem run_opens {ts : List Task} {s : State} (h : (run 4095 ts s).agenda = []) (addr : Addr) (read : Bool) :
    .next (run stepFuel (ts ++ [.openTxn addr read]) s) = exec (.firstAddressByte addr read) (run 4095 ts s) := by
  obtain ⟨m, hm, e⟩ := run_append h (fuel := stepFuel) (by decide)
  obtain ⟨k, rfl⟩ : ∃ k, m = k + 1 := ⟨m - 1, by have : stepFuel = 4096 := rfl; omega⟩
  rw [exec_firstAddressByte h, e, run_cons, handle_openTxn, List.nil_append, run_nil]

/-- The repeated start straight after the command byte, with the same address and the read bit (R5). -/
theorem onRepeatedStart_turns {s : State} {t : UpTxn} (hp : s.uli.phase = .command) (ht : s.uli.txn = some t) :
    onRepeatedStart t.addr true s = (turnRead t s, []) := by
  simp [onRepeatedStart, hp, ht]

theorem exec_turns {s : State} {t : UpTxn} (ha : s.agenda = []) (hp : s.uli.phase = .command)
    (ht : s.uli.txn = some t) : exec (.repeatedStart t.addr true) s = .next (turnRead t s) := by
  rw [exec_repeatedStart ha, onRepeatedStart_turns hp ht, run_nil]

/-! ## Service reads (R173, R175) -/

theorem turnRead_service {t : UpTxn} (hn : t.snap = none) (s : State) : turnRead t s = turnToResponse t s := by
  simp only [turnRead, hn]

/-- The response buffer while there is no record (R174). -/
theorem responseBuffer_none : responseBuffer none = [0x00, 0x00, 0x00, 0xFF] ++ List.replicate 28 0xFF := by
  decide

/-- The response buffer: length, code, tag, status and payload, filled with 0xFF (R175). -/
theorem responseBuffer_some {r : Response} (h : r.payload.length ≤ 28) : responseBuffer (some r) =
    [BitVec.ofNat 8 r.payload.length, r.code, r.tag, BitVec.ofNat 8 (statusCode r.status)] ++ r.payload ++
      List.replicate (28 - r.payload.length) 0xFF := by
  have hl : ([BitVec.ofNat 8 r.payload.length, r.code, r.tag, BitVec.ofNat 8 (statusCode r.status)] ++
      r.payload).length = 4 + r.payload.length := by simp; omega
  rw [responseBuffer, pad32_short _ (by omega), hl]
  congr 2
  omega

/-- The response record is returned as the buffer it fills (R175). -/
theorem answerResponse_eq (s : State) : answerResponse s = s.answering (responseBuffer s.sru.response) := rfl

/-- A code that reads no response is NACKed without a record (R173). -/
theorem turnToResponse_other {t : UpTxn} {code : Byte} (hc : t.cmd = some code) (h0 : code ≠ 0xF0) (h1 : code ≠ 0xF1)
    (s : State) : turnToResponse t s = s.setUli (s.uli.toDrain s.now) := by
  rw [turnToResponse, hc, if_neg (mt Option.some.inj h0), if_neg (mt Option.some.inj h1)]

/-- Code 0xF0 returns the record, 0xF1 too when none is current (R175). -/
theorem turnToResponse_answers {t : UpTxn} {code : Byte} {s : State} (hc : t.cmd = some code)
    (h : code = 0xF0 ∨ code = 0xF1 ∧ s.sru.response.any (·.current) = false) :
    turnToResponse t s = answerResponse s := by
  rcases h with rfl | ⟨rfl, h⟩
  · simp [turnToResponse, hc]
  · simp [turnToResponse, hc, h]

/-- Code 0xF1 holds the clock while the record is current (R175). -/
theorem turnToResponse_holds {t : UpTxn} {s : State} (hc : t.cmd = some 0xF1)
    (h : s.sru.response.any (·.current) = true) : turnToResponse t s = s.holding t := by
  simp only [turnToResponse, hc, h]
  simp [State.holdRead_eq]

/-! ## Pass-through reads (R5, R12, R13, R19, R22) -/

/-- A read answered from bytes the unit gives itself: filled with 0xFF to 32, with the trailer of a checked entry over
the upstream address (R6, R22). -/
theorem answerNow_eq {t : UpTxn} {cmd : Byte} (e : RouteSnap) (outcome : TxOutcome) {bytes : List Byte}
    (hb : bytes.length ≤ 32) (s : State) : answerNow t e cmd outcome bytes s =
      let full := bytes ++ List.replicate (32 - bytes.length) 0xFF
      let a := addrByte t.addr
      (s.withRecord t.addr t.cmd .read outcome).answering
        (full ++ (if e.checked then [crc8 ([addressByte a false, cmd, addressByte a true] ++ full)] else [])) := by
  simp only [answerNow, answerBuffer, pad32_short bytes hb]
  rfl

theorem answerGated_none {t : UpTxn} {e : RouteSnap} (h : e.standIn = none) (cmd : Byte) (s : State) :
    answerGated t e cmd s = s.turnedAway t.addr t.cmd .read .gated := by
  simp only [answerGated, h]; rfl

theorem answerGated_some {t : UpTxn} {e : RouteSnap} {bytes : List Byte} (h : e.standIn = some bytes) (cmd : Byte)
    (s : State) : answerGated t e cmd s = answerNow t e cmd .standIn bytes s := by
  simp only [answerGated, h]

theorem turnRead_pass {t : UpTxn} {e : RouteSnap} {cmd : Byte} (he : t.snap = some e) (hc : t.cmd = some cmd)
    (s : State) : turnRead t s = turnToRead t e cmd s := by
  simp only [turnRead, he, hc]

section
variable {s : State} {t : UpTxn} {e : RouteSnap} {cmd : Byte}

theorem turnToRead_gated (hg : s.gateClosed e.gate = true) : turnToRead t e cmd s = answerGated t e cmd s := by
  simp [turnToRead, hg]

theorem turnToRead_refused (hg : s.gateClosed e.gate = false) (h : e.action cmd false = .refuse) :
    turnToRead t e cmd s = s.turnedAway t.addr t.cmd .read .refused := by
  simp only [turnToRead, hg, h]; rfl

theorem turnToRead_synth (hg : s.gateClosed e.gate = false) (h : e.action cmd false = .synthLevel) :
    turnToRead t e cmd s = answerNow t e cmd .synthesized (codeBytes s.brc.written) s := by
  simp [turnToRead, hg, h]

theorem turnToRead_held (hg : s.gateClosed e.gate = false) (hr : e.action cmd false ≠ .refuse)
    (hs : e.action cmd false ≠ .synthLevel) : turnToRead t e cmd s = s.holding t := by
  simp only [turnToRead, hg]
  cases h : e.action cmd false <;> first | rfl | contradiction

end

/-! ## Held reads (R5, R12, R32) -/

/-- The read held, with its snapshot and command. -/
theorem State.heldRead_some {s : State} {t : UpTxn} {e : RouteSnap} {cmd : Byte} (hp : s.uli.phase = .held)
    (ht : s.uli.txn = some t) (he : t.snap = some e) (hc : t.cmd = some cmd) : s.heldRead = some (t, e, cmd) := by
  simp [State.heldRead, hp, ht, he, hc]

/-- The read in its pass lane, as the Upstream Link Interface keeps it. -/
def State.readInLane (s : State) (t : UpTxn) : State :=
  { s with uli := { s.uli with txn := some { t with inLane := true } } }

section
variable {s : State} {t : UpTxn} {e : RouteSnap} {cmd : Byte} (hr : s.heldRead = some (t, e, cmd))
include hr

/-- A held read waits while it is in its lane, or its lane is occupied (R5). -/
theorem onReadHandin_waits (h : t.inLane = true ∨ s.laneBusy e.seg = true) : onReadHandin s = (s, []) := by
  have : (t.inLane || s.laneBusy e.seg) = true := by simpa using h
  simp [onReadHandin, hr, this]

variable (hi : t.inLane = false) (hl : s.laneBusy e.seg = false)
include hi hl

/-- Its gate is checked again (R12). -/
theorem onReadHandin_gated (hg : s.gateClosed e.gate = true) : onReadHandin s = (answerGated t e cmd s, []) := by
  simp [onReadHandin, hr, hi, hl, hg]

/-- Behind an open gate it is handed into its lane (R5). -/
theorem onReadHandin_open (hg : s.gateClosed e.gate = false) :
    onReadHandin s = (s.readInLane t, [.handIn (readLane t e cmd)]) := by
  simp only [onReadHandin, hr, hi, hl, hg]; rfl

end

/-- A port replaced twice. -/
theorem State.setPort_setPort (s : State) (seg : Seg) (p q : Port) :
    (s.setPort seg p).setPort seg q = s.setPort seg q := by
  cases seg <;> rfl

/-- A read dispatched sets no written indicator (R23). -/
theorem markWritten_read {x : LaneTxn} (h : x.write = false) (s : State) : markWritten x s = s := by
  unfold markWritten
  (repeat' split) <;> simp_all

/-- No MOTION transaction waits. -/
theorem firstOf_motion_none {q : List EngTxn} (h : ∀ y ∈ q, y.cls ≠ .motion) : firstOf .motion q = none := by
  simpa [firstOf] using h

/-- The boundary of an IDLE port whose pass lane holds a read, with no MOTION transaction waiting and no commit hold: it
starts the read and passes the queued POLL transactions over (R32, R33). -/
theorem boundary_starts_read {s : State} {seg : Seg} {x : LaneTxn} (hs : (s.port seg).state = .idle)
    (hl : (s.port seg).lane = some x) (hw : x.write = false) (hg : s.gateClosed x.snap.gate = false)
    (hq : ∀ y ∈ (s.port seg).queue, y.cls ≠ .motion) (hm : (s.port seg).mark = .none) :
    handle (.boundary seg) s = (s.setPort seg { s.port seg with
      queue := (s.port seg).queue.map passOver, state := .busy, running := some (.lane, s.now) }, []) := by
  have hsel : (s.port seg).select = some (.lane x) := by simp [Port.select, firstOf_motion_none hq, hm, hl]
  simp only [handle, atBoundary]
  rw [Port.readyMark_none _ hm, hsel]
  have hk : (s.port seg).readyMark = (s.port seg).mark := congrArg Port.mark (Port.readyMark_none _ hm)
  simp [hs, hg, markWritten_read hw, hk]

/-- Under a commit hold the port becomes READY, and its lane waits (R42). -/
theorem boundary_held {s : State} {seg : Seg} (hs : (s.port seg).state = .idle)
    (hq : ∀ y ∈ (s.port seg).queue, y.cls ≠ .motion) (hm : (s.port seg).mark ≠ .none) :
    handle (.boundary seg) s = (s.setPort seg { s.port seg with mark := .ready }, []) := by
  have hr : (s.port seg).readyMark = .ready := by
    unfold Port.readyMark
    cases hk : (s.port seg).mark <;> simp_all [firstOf_motion_none hq]
  have hsel : Port.select { s.port seg with mark := .ready } = none := by
    simp [Port.select, firstOf_motion_none hq]
  simp only [handle, atBoundary]
  rw [hr, hsel]
  simp [hs]


/-- A read that its port answers ABSENT is NACKed (R5, R39, R40). -/
theorem handle_laneDone_absent {x : LaneTxn} (hw : x.write = false) (hr : x.recorded = false) (s : State) :
    handle (.laneDone x .absent [] 0) s = (s.turnedAway x.addr (some x.cmd) .read .absent, []) := by
  simp only [handle, laneDone_read hw, hr, answerRead_nack x (outcome := .absent) nofun nofun,
    handoff_none (x := x) (outcome := .absent) (.inl nofun)]
  rfl

/-- The 30 ms limit of a held read (R5). -/
theorem onReadLimit_eq {s : State} {t : UpTxn} {e : RouteSnap} {cmd : Byte} {since : Time}
    (hr : s.heldRead = some (t, e, cmd)) (hs : s.uli.heldSince = some since) : onReadLimit s =
      if 30 ≤ age s.now since then (s.leaveInLane t e).turnedAway t.addr t.cmd .read .busy else s := by
  simp only [onReadLimit, hr, hs]
  rfl

/-- A read that is not in its lane leaves nothing there. -/
theorem leaveInLane_out {t : UpTxn} (h : t.inLane = false) (s : State) (e : RouteSnap) : s.leaveInLane t e = s := by
  simp [State.leaveInLane, h]

/-- A read in its lane makes no second record (R5, R25). -/
theorem leaveInLane_in {s : State} {t : UpTxn} {e : RouteSnap} {x : LaneTxn} (h : t.inLane = true)
    (hl : (s.port e.seg).lane = some x) :
    s.leaveInLane t e = s.setPort e.seg { s.port e.seg with lane := some { x with recorded := true } } := by
  simp [State.leaveInLane, h, hl]

section
variable {s : State} {t : UpTxn} {e : RouteSnap} {cmd : Byte} (ha : s.agenda = [])
  (hr : s.heldRead = some (t, e, cmd)) (hi : t.inLane = false) (hg : s.gateClosed e.gate = false)
include ha hr hi hg

/-- The hand-in of a held read into its free lane behind an open gate. -/
theorem exec_handin_open (hl : s.laneBusy e.seg = false) : exec .heldReadLaneHandin s =
    .next (run stepFuel [.handIn (readLane t e cmd)] (s.readInLane t)) := by
  rw [exec_heldReadLaneHandin ha, onReadHandin_open hr hi hl hg]

/-- A port that executes or recovers lets it wait (R32). -/
theorem exec_handin_waits (hw : s.portWaits e.seg) : exec .heldReadLaneHandin s = .next ((s.readInLane t).setPort e.seg
    { s.port e.seg with lane := some (readLane t e cmd) }) := by
  have hl : s.laneBusy e.seg = false := by simp [State.laneBusy, hw.2]
  rw [exec_handin_open ha hr hi hg hl]
  exact congrArg _ (run_only (handle_handIn_waits (x := readLane t e cmd) (s := s.readInLane t) hw))

/-- A SUSPENDED or ISOLATED port answers it ABSENT (R39, R40). -/
theorem exec_handin_absent (hl : s.laneBusy e.seg = false)
    (hs : (s.port e.seg).state = .suspended ∨ (s.port e.seg).state = .isolated) :
    exec .heldReadLaneHandin s = .next (s.turnedAway t.addr (some cmd) .read .absent) := by
  rw [exec_handin_open ha hr hi hg hl]
  exact congrArg _ (run_chain (handle_handIn_away (x := readLane t e cmd) (s := s.readInLane t) hs)
    (handle_laneDone_absent rfl rfl _))

/-- An IDLE port reaches a boundary (R32). -/
theorem exec_handin_idle (hl : s.laneBusy e.seg = false) (hs : (s.port e.seg).state = .idle) {u : State}
    (hu : handle (.boundary e.seg) ((s.readInLane t).setPort e.seg
      { s.port e.seg with lane := some (readLane t e cmd) }) = (u, [])) :
    exec .heldReadLaneHandin s = .next u := by
  have hp := handle_handIn_placed (x := readLane t e cmd) (s := s.readInLane t)
    (show ¬((s.port e.seg).state = .suspended ∨ (s.port e.seg).state = .isolated) by simp [hs])
  have hb : (if (s.port e.seg).state = .idle then [Task.boundary e.seg] else []) = [.boundary e.seg] := if_pos hs
  rw [exec_handin_open ha hr hi hg hl]
  exact congrArg _ (run_chain (hp.trans (congrArg _ hb)) hu)

/-- It starts the read at once, where no MOTION transaction waits and no commit hold stands (R32, R33). -/
theorem exec_handin_starts (hl : s.laneBusy e.seg = false) (hs : (s.port e.seg).state = .idle)
    (hq : ∀ y ∈ (s.port e.seg).queue, y.cls ≠ .motion) (hm : (s.port e.seg).mark = .none) :
    exec .heldReadLaneHandin s = .next ((s.readInLane t).setPort e.seg { s.port e.seg with
      lane := some (readLane t e cmd), queue := (s.port e.seg).queue.map passOver, state := .busy
      running := some (.lane, s.now) }) := by
  refine exec_handin_idle ha hr hi hg hl hs ?_
  refine Eq.trans (boundary_starts_read (x := readLane t e cmd) (by simpa using hs) (by simp) rfl hg
    (by simpa using hq) (by simpa using hm)) ?_
  rw [State.setPort_port_self, State.setPort_setPort]
  rfl

/-- Under a commit hold the port is READY, and the read waits (R42). -/
theorem exec_handin_ready (hl : s.laneBusy e.seg = false) (hs : (s.port e.seg).state = .idle)
    (hq : ∀ y ∈ (s.port e.seg).queue, y.cls ≠ .motion) (hm : (s.port e.seg).mark ≠ .none) :
    exec .heldReadLaneHandin s = .next ((s.readInLane t).setPort e.seg { s.port e.seg with
      lane := some (readLane t e cmd), mark := .ready }) := by
  refine exec_handin_idle ha hr hi hg hl hs ?_
  rw [boundary_held (by simpa using hs) (by simpa using hq) (by simpa using hm), State.setPort_port_self,
    State.setPort_setPort]

end


/-- The first part of O22: what a repeated start opens, and what it ends before. -/
theorem repeatedStart_opens (s : State) (addr : Addr) (read : Bool) (ha : s.agenda = []) :
    let start := exec (.repeatedStart addr read) s
    let opens := fun (u : State) => start = exec (.firstAddressByte addr read) u
    (s.uli.phase = .starting → start = .next { s with uli := { s.uli with reply := .nack } }) ∧
    (s.uli.phase = .idle → opens s) ∧
    ((s.uli.phase = .readout ∨ s.uli.phase = .drain) → opens s.linkIdle) ∧
    (∀ t, s.uli.phase = .address → s.uli.txn = some t →
      opens (if t.snap.isSome then s.linkIdle.withRecord t.addr none .none .refused else s.linkIdle)) ∧
    (∀ t, (s.uli.phase = .command ∧ ¬(read = true ∧ addr = t.addr) ∨
        s.uli.phase = .writeData ∧ s.uli.byteHold = none) → s.uli.txn = some t →
      let ended := run 4095 (onStop s).2 (onStop s).1
      ended.agenda = [] → exec .stopCondition s = .next ended ∧ opens ended) ∧
    (∀ t, s.uli.phase = .writeData → s.uli.byteHold.isSome = true → s.uli.txn = some t → start = .next s) := by
  intro start opens
  have hstart : start = .next (run stepFuel (onRepeatedStart addr read s).2 (onRepeatedStart addr read s).1) :=
    exec_repeatedStart ha addr read
  have ends : ∀ {u : State}, onRepeatedStart addr read s = ((onStop s).1, (onStop s).2 ++ [.openTxn addr read]) →
      run 4095 (onStop s).2 (onStop s).1 = u → u.agenda = [] → opens u := by
    rintro u ho rfl hu
    show start = _
    rw [hstart, ho, run_opens hu]
  refine ⟨fun hp => ?_, fun hp => ?_, fun hp => ?_, fun t hp ht => ?_, fun t hp ht => ?_,
    fun t hp hb ht => ?_⟩
  · rw [hstart, onRepeatedStart_starting hp, run_nil]
  · show start = _
    rw [hstart, onRepeatedStart_idle hp]
    exact run_opens (ts := []) (by simpa using ha) addr read
  · exact ends (onRepeatedStart_opens (.inl hp)) (by rw [onStop_readout hp, run_nil]) ha
  · refine ends (onRepeatedStart_opens (.inr ⟨t, ht, .inl hp⟩))
      (by rw [onStop_address hp ht, run_nil, endAddressPhase_eq]) ?_
    split <;> exact ha
  · intro ended hu
    refine ⟨?_, ends (onRepeatedStart_opens (.inr ⟨t, ht, .inr hp⟩)) rfl hu⟩
    rw [exec_stopCondition ha, run_enough hu (by decide)]
  · rw [hstart, onRepeatedStart_held hp ht hb, run_nil]

/-- Settles O22, by what is open at the repeated start; then by the code of a service read, and by gate, guards and port
of a pass-through one. -/
theorem readsAreTurnedAndHeld : Obligations.ReadsAreTurnedAndHeld := by
  refine ⟨repeatedStart_opens, fun s t code ha hp ht hn hc => ?service, fun s t e cmd ha ht he hc => ?pass⟩
  case service =>
    intro turned
    have hturn : turned = .next (turnToResponse t s) := by
      simp only [turned, exec_turns ha hp ht, turnRead_service hn]
    refine ⟨fun h0 h1 => ?_, fun h hr => ?_, fun r hr => ⟨fun hl h => ?_, fun h hcur => ?_⟩⟩
    · rw [hturn, turnToResponse_other hc h0 h1, State.setUli_toDrain]
    · rw [hturn, turnToResponse_answers hc (h.imp_right fun h => ⟨h, by simp [hr]⟩), answerResponse_eq, hr,
        responseBuffer_none]
    · rw [hturn, turnToResponse_answers hc (h.imp_right fun h => ⟨h.1, by simp [hr, h.2]⟩), answerResponse_eq, hr,
        responseBuffer_some hl]
    · rw [hturn, turnToResponse_holds (h ▸ hc) (by simp [hr, hcur])]
  case pass =>
    intro buffer standsIn
    have stand : ∀ {o : TxOutcome} {bytes : List Byte}, bytes.length ≤ 4 →
        answerNow t e cmd o bytes s = (s.withRecord t.addr t.cmd .read o).answering (buffer bytes) := fun hb =>
      answerNow_eq e _ (by omega) s
    refine ⟨fun hp => ?turned, fun since hp hs => ?held⟩
    case turned =>
      rw [exec_turns ha hp ht, turnRead_pass he hc]
      refine ⟨fun hg hn => ?_, fun bytes hg hb hl => ?_, fun hg h => ?_, fun hg h => ?_, fun hg h h' => ?_⟩
      · rw [turnToRead_gated hg, answerGated_none hn]
      · rw [turnToRead_gated hg, answerGated_some hb, stand hl]
      · rw [turnToRead_refused hg h]
      · rw [turnToRead_synth hg h, stand (by simp [codeBytes])]
        rfl
      · rw [turnToRead_held hg h h']
    case held =>
      have hr := State.heldRead_some hp ht he hc
      refine ⟨fun h => ?_, fun hi hl hg => ⟨fun hn => ?_, fun bytes hb hlen => ?_⟩, fun hi hg hw => ?_,
        fun hi hg hl => ?free, fun hi hg hl hst => ?_, fun hi => ?_, fun x hi hl hage => ?_⟩
      case free =>
        exact ⟨⟨4096, by decide, exec_handin_open ha hr hi hg hl⟩,
          fun h => handle_handIn_away (x := readLane t e cmd) (s := s.readInLane t) h,
          fun h => handle_handIn_placed (x := readLane t e cmd) (s := s.readInLane t) h,
          exec_handin_starts ha hr hi hg hl, exec_handin_ready ha hr hi hg hl⟩
      · rw [exec_heldReadLaneHandin ha, onReadHandin_waits hr h, run_nil]
      · rw [exec_heldReadLaneHandin ha, onReadHandin_gated hr hi hl hg, run_nil, answerGated_none hn]
      · rw [exec_heldReadLaneHandin ha, onReadHandin_gated hr hi hl hg, run_nil, answerGated_some hb, stand hlen]
      · exact exec_handin_waits ha hr hi hg hw
      · rw [exec_handin_absent ha hr hi hg (by simp [State.laneBusy, hl]) hst, hc]
      · rw [exec_heldReadStretchLimit ha, onReadLimit_eq hr hs, leaveInLane_out hi]
      · rw [exec_heldReadStretchLimit ha, onReadLimit_eq hr hs, leaveInLane_in hi hl, if_pos hage]

end Sys2Proof.Machine
end

section
/-!
SUPPORT. Readout, stalls, response reads, and the release of a waiting one (R6, R7, R175, R176).
-/

namespace Sys2Proof.Machine

/-! ## Readout and stalls (R6, R7) -/

/-- The next byte of the answer, and 0xFF beyond its end (R6). -/
theorem onReadoutByte_eq {s : State} (hp : s.uli.phase = .readout) : onReadoutByte s = { s with uli := { s.uli with
    reply := .data (if s.uli.answerPos < s.uli.answer.length then s.uli.answer.getD s.uli.answerPos 0 else 0xFF)
    answerPos := s.uli.answerPos + 1, lastActivity := s.now } } := by
  have hd : s.uli.answer.getD s.uli.answerPos 0xFF =
      if s.uli.answerPos < s.uli.answer.length then s.uli.answer.getD s.uli.answerPos 0 else 0xFF := by
    split
    · next h => simp [List.getD_eq_getElem?_getD, h]
    · next h => simp [List.getD_eq_getElem?_getD, h]
  simp only [onReadoutByte, hp, if_true, hd, State.setUli, Uli.say]

/-- Before 35 ms nothing is abandoned (R7). -/
theorem onStall_early {s : State} (h : age s.now s.uli.lastActivity < 35) : onStall s = s := if_pos h

section
variable {s : State} (h : 35 ≤ age s.now s.uli.lastActivity)
include h

theorem onStall_readout (hp : s.uli.phase = .readout ∨ s.uli.phase = .drain) : onStall s = s.linkIdle := by
  have h' : ¬age s.now s.uli.lastActivity < stallLimit := Nat.not_lt.2 h
  rcases hp with hp | hp <;> (simp only [onStall, if_neg h', hp]; rfl)

theorem onStall_unwritten (hp : s.uli.phase = .address ∨ s.uli.phase = .command) : onStall s = abandon .none s := by
  have h' : ¬age s.now s.uli.lastActivity < stallLimit := Nat.not_lt.2 h
  rcases hp with hp | hp <;> simp only [onStall, if_neg h', hp]

theorem onStall_written (hp : s.uli.phase = .writeData) (hb : s.uli.byteHold = none) :
    onStall s = abandon .write s := by
  have h' : ¬age s.now s.uli.lastActivity < stallLimit := Nat.not_lt.2 h
  simp [onStall, if_neg h', hp, hb]

end

/-- An abandoned transaction: a pass-through one is recorded (R7). -/
theorem abandon_eq {s : State} {t : UpTxn} (ht : s.uli.txn = some t) (dir : Dir) : abandon dir s =
    if t.snap.isSome then s.linkIdle.withRecord t.addr t.cmd dir .abandoned else s.linkIdle := by
  simp only [abandon, ht]
  rfl

/-! ## Response reads (R175) -/

theorem onResponseRead_idle {s : State} (hp : s.uli.phase = .idle) (cmd : Byte) :
    onResponseRead cmd s = turnToResponse (serviceRead s cmd) s := by
  simp only [onResponseRead, hp]

/-- The 30 ms limit of a held service read (R175). -/
theorem onWaitingLimit_eq {s : State} {t : UpTxn} {since : Time} (hp : s.uli.phase = .held) (ht : s.uli.txn = some t)
    (hn : t.snap = none) (hs : s.uli.heldSince = some since) :
    onWaitingLimit s = if 30 ≤ age s.now since then answerResponse s else s := by
  have hh : s.heldService = true := by simp [State.heldService, hp, ht, hn]
  simp only [onWaitingLimit, hs, hh, Bool.true_and, decide_eq_true_eq]
  rfl

/-! ## The release of a waiting read (R175, R176) -/

/-- No operation is under way. -/
def State.backgroundFree (s : State) : State := { s with sru := { s.sru with background := .none } }

/-- The end of an operation whose record belongs to another changes no record and releases nothing (R176). -/
theorem backgroundEnd_other {s : State} {r : Response} (h : s.waitsFor r) {status : Status} {payload : List Byte}
    (hp : payload.length ≤ 28) (hc : r.code ≠ backgroundCode s.sru.background) :
    handle (.backgroundEnd status payload) s = (s.backgroundFree, []) :=
  congrArg (·, []) ((writeEnd_released s.backgroundFree r h _ status payload hp).2 hc)

/-- The end of a swap is the end of its operation (R113). -/
theorem handle_swapEnd {s : State} {bay : Bay} (h : s.sru.background = .swap bay) : handle (.swapEnd bay) s =
    handle (.backgroundEnd (if (s.bay bay).state = .releaseBlocked then .failed else .done)
      [BitVec.ofNat 8 (bayStateCode (s.bay bay).state)]) s := by
  simp [handle, onSwapEnd, h]

/-- The acting of a SOFT_RESET is written into its own record alone (R184, log entry 15). -/
theorem onResetDone_released {s : State} {r : Response} (h : s.waitsFor r) :
    let acted : State := { s with sru := { s.sru with resetPending := false, gaveUp := false } }
    (r.code = 0x7F → onResetDone s = acted.released r .done
      (Builtin.le2 s.sru.generation.toNat ++ [if s.sru.gaveUp then 1 else 0])) ∧
    (r.code ≠ 0x7F → onResetDone s = acted) :=
  writeEnd_released { s with sru := { s.sru with resetPending := false, gaveUp := false } } r h 0x7F .done _
    (by simp [Builtin.le2])

/-! ## Pages of a save (R194) -/

/-- SAVE_PAGE_DONE once the page's 5 ms have passed. -/
theorem exec_savePage {s : State} {x : SaveRec} (ha : s.agenda = []) (hx : s.smi.activity = .saving x)
    (hage : 5 ≤ age s.now x.start) (acknowledged : Bool) (held : List Byte) : exec (.savePageDone acknowledged held) s =
    .next (run stepFuel (savePage x acknowledged held s).2 (savePage x acknowledged held s).1) := by
  have h : onSavePage acknowledged held s = savePage x acknowledged held s := by
    simp only [onSavePage, hx]
    exact if_neg (Nat.not_lt.2 hage)
  rw [exec_quiet (.savePageDone acknowledged held) nofun ha]
  simp only [commandAct, h]

/-- The memory interface after a page that ends the save: what the page then holds, and whether it was acknowledged. -/
def Smi.saveEnds (m : Smi) (x : SaveRec) (acknowledged : Bool) (held : List Byte) : Smi :=
  { m with
    memory := writeRun m.memory (pageOffset x.done) (held.take (pageBytes x.image x.done).length)
    answers := acknowledged, activity := .idle }

/-- The last page of a save, the header, written and read back. -/
theorem savePage_done {x : SaveRec} {held : List Byte} (hd : x.done = 630)
    (hg : held.take (pageBytes x.image x.done).length = pageBytes x.image x.done) (s : State) :
    savePage x true held s =
      (s.setSmi (s.smi.saveEnds x true held), [.backgroundEnd .done (Builtin.le2 x.gen.toNat)]) := by
  have hn : ¬x.done < imagePages := by simp [hd, imagePages]
  simp only [savePage, hg, hn, beq_self_eq_true, Bool.and_true, if_true, if_false, Smi.saveEnds]

/-- A page that was not acknowledged, or that reads back otherwise, fails the save. -/
theorem savePage_failed {x : SaveRec} {acknowledged : Bool} {held : List Byte}
    (h : acknowledged = false ∨ held.take (pageBytes x.image x.done).length ≠ pageBytes x.image x.done) (s : State) :
    savePage x acknowledged held s =
      (s.setSmi (s.smi.saveEnds x acknowledged held), [.backgroundEnd .failed (Builtin.le2 (pageOffset x.done))]) := by
  have hb : (acknowledged && held.take (pageBytes x.image x.done).length == pageBytes x.image x.done) = false := by
    rcases h with h | h <;> simp [h]
  simp only [savePage, hb]
  rfl

/-- The end of a save, with the memory interface it leaves, while a waiting read is held for its record. -/
theorem saveEnd_released {s : State} {r : Response} (hw : s.waitsFor r) (hb : s.sru.background = .save)
    (hr : r.code = 0x07) (smi : Smi) (status : Status) (n : Nat) :
    run stepFuel [.backgroundEnd status (Builtin.le2 n)] (s.setSmi smi) =
      State.released { s.backgroundFree with smi := smi } r status [BitVec.ofNat 8 n, BitVec.ofNat 8 (n / 256)] := by
  have hc : r.code = backgroundCode (s.setSmi smi).sru.background := by simp [hb, hr, backgroundCode]
  exact run_only (backgroundEnd_released (s.setSmi smi) r hw status (Builtin.le2 n) (by simp [Builtin.le2]) hc)

/-! ## The ends of a commit (R180 to R182) -/

/-- A state whose commit ends while a waiting read is held for its record, and whose held ports begin nothing. -/
structure CommitAwaited (s : State) (r : Response) (c : CommitRec) : Prop where
  waits : s.waitsFor r
  background : s.sru.background = .commit c
  code : r.code = 0x06
  rests : ∀ seg, c.held.get seg = true → (s.port seg).rests

/-- What the end of a commit leaves then: the marks of its ports clear, the read answered, and its notice raised. -/
def State.commitEnds (s : State) (r : Response) (c : CommitRec) (status : Status) (payload : List Byte)
    (notice : Post) : State :=
  ((s.mapPorts c.segments fun p => { p with mark := .none }).released r status payload).notify notice

/-- The tables it finds are the ones it leaves. -/
theorem State.commitEnds_committed (s : State) (r : Response) (c : CommitRec) (status : Status) (payload : List Byte)
    (notice : Post) : (s.commitEnds r c status payload notice).sru.committed = s.sru.committed := by
  show (s.mapPorts _ _).sru.committed = _
  simp

section
variable {s : State} {r : Response} {c : CommitRec} (h : CommitAwaited s r c)
include h

theorem CommitAwaited.commitRec : s.commitRec = some c := by simp [State.commitRec, h.background]

/-- The end of the operation, behind the ends of the holds. -/
theorem CommitAwaited.backgroundEnd {status : Status} {payload : List Byte} (hp : payload.length ≤ 28) :
    handle (.backgroundEnd status payload) (s.mapPorts c.segments Port.freed) =
      ((s.backgroundFree.mapPorts c.segments Port.freed).released r status payload, []) := by
  have hb : r.code = backgroundCode (s.mapPorts c.segments Port.freed).sru.background := by
    simp [h.background, h.code, backgroundCode]
  rw [backgroundEnd_released _ r (waitsFor_mapPorts s r _ _ h.waits) status payload hp hb]
  have hs := mapPorts_sru Port.freed c.segments s { s.sru with background := .none }
  have hf : (s.mapPorts c.segments Port.freed).sru = s.sru := by simp
  rw [hf, ← hs]
  rfl

/-- A commit that fails: the holds end, then the operation, and COMMIT_FAILED is raised (R180, R182). -/
theorem CommitAwaited.fails {status : Status} {payload : List Byte} (hp : payload.length ≤ 28) (arg2 : Int) :
    run stepFuel (failCommit c status payload arg2 s).2 (failCommit c status payload arg2 s).1 =
      s.backgroundFree.commitEnds r c status payload
        { kind := .commitFailed, severity := .warn, subject := 0, arg1 := statusCode status, arg2 := arg2 } := by
  have hl := segments_length c
  have hf : stepFuel = 4096 := rfl
  obtain ⟨n, hn, e⟩ := run_unholds c.segments s [.backgroundEnd status payload,
    .post { kind := .commitFailed, severity := .warn, subject := 0, arg1 := statusCode status, arg2 := arg2 }] stepFuel
    (fun g hg => h.rests g ((segments_mem c g).1 hg)) (by omega)
  obtain ⟨m, rfl⟩ : ∃ m, n = m + 2 := ⟨n - 2, by omega⟩
  simp only [failCommit]
  rw [e, run_cons, h.backgroundEnd hp, List.nil_append, run_cons]
  exact run_nil ..

/-- The end of a commit that switches: the operation ends, COMMIT_DONE is raised, and the boundaries of its ports begin
nothing (R181, R42). -/
theorem CommitAwaited.switches {payload : List Byte} (hp : payload.length ≤ 28) (notice : Post) :
    run stepFuel (([.backgroundEnd .done payload, .post notice] : List Task) ++ c.segments.map Task.boundary)
      (s.mapPorts c.segments Port.freed) = s.backgroundFree.commitEnds r c .done payload notice := by
  rw [List.cons_append, run_step, h.backgroundEnd hp]
  show run (4094 + 1) (Task.post notice :: ([] ++ c.segments.map Task.boundary)) _ = _
  rw [run_cons]
  refine run_boundaries c.segments (s.backgroundFree.commitEnds r c .done payload notice) 4094 (fun g hg => ?_) ?_
  · exact mapPorts_port c.segments s.backgroundFree g (.inl hg) (h.rests g ((segments_mem c g).1 hg))
  · have := segments_length c
    omega

/-- COMMIT_VALIDATION_END finds a failing table (R180). -/
theorem CommitAwaited.validationFails (ha : s.agenda = []) {n i : Nat} (hw : c.waiting = false)
    (hage : 2 ≤ age s.now c.limit.start)
    (hf : firstFailure (addrByte (serviceAddr s.lines.addrSelHigh)) c.mask s.sru.staging = some (n, i)) :
    exec .commitValidationEnd s = .next (s.backgroundFree.commitEnds r c .invalidTable
      [BitVec.ofNat 8 n, BitVec.ofNat 8 i]
      { kind := .commitFailed, severity := .warn, subject := 0, arg1 := statusCode .invalidTable
        arg2 := ((256 * n + i : Nat) : Int) }) := by
  have he : ¬age s.now c.limit.start < validationTime := Nat.not_lt.2 hage
  have hv : onValidationEnd s =
      failCommit c .invalidTable [BitVec.ofNat 8 n, BitVec.ofNat 8 i] ((256 * n + i : Nat) : Int) s := by
    simp [onValidationEnd, h.commitRec, hw, he, hf]
  rw [exec_quiet .commitValidationEnd nofun ha]
  simp only [commandAct, hv]
  rw [h.fails (by simp)]

/-- COMMIT_LIMIT_EXPIRY finds the commit not ready to switch (R182). -/
theorem CommitAwaited.limitFails (ha : s.agenda = []) (hd : c.limit.dur ≤ age s.now c.limit.start)
    (hu : c.waiting = false ∨ s.unmet c ≠ 0) :
    exec .commitLimitExpiry s = .next (s.backgroundFree.commitEnds r c .busy [BitVec.ofNat 8 (s.unmet c)]
      { kind := .commitFailed, severity := .warn, subject := 0, arg1 := statusCode .busy
        arg2 := ((s.unmet c : Nat) : Int) }) := by
  have hr : s.commitReady c = false := by
    rcases hu with hu | hu <;> simp [State.commitReady, hu]
  have hdue : c.limit.due s.now = true := decide_eq_true hd
  have hv : onCommitLimit s = failCommit c .busy [BitVec.ofNat 8 (s.unmet c)] (s.unmet c) s := by
    simp [onCommitLimit, h.commitRec, hdue, hr]
  rw [exec_quiet .commitLimitExpiry nofun ha]
  simp only [commandAct, hv]
  rw [h.fails (by simp)]

/-- The state with a commit's tables and generation in force. -/
theorem CommitAwaited.switched (tables : Tables) :
    CommitAwaited (s.setSru { s.sru with committed := tables, generation := c.gen }) r c :=
  ⟨h.waits, h.background, h.code, h.rests⟩

end

/-- A bit of a mask that stays clear of another. -/
theorem bitAt_clear {mask m : Byte} (h : mask &&& m = 0) {i : Nat} (hi : bitAt m i = true) : bitAt mask i = false := by
  have : (mask &&& m).getLsbD i = false := by rw [h]; simp
  unfold bitAt at hi ⊢
  simpa [hi] using this

/-- COMMIT_SWITCH of a commit of ROUTES, GUARDS and SNOOPS alone, which no other block is told of (R181). -/
theorem CommitAwaited.exec_switch {s : State} {r : Response} {c : CommitRec} (h : CommitAwaited s r c)
    (ha : s.agenda = []) (hw : c.waiting = true) (hu : s.unmet c = 0) (hm : c.mask &&& 0xF4 = 0) :
    exec .commitSwitch s = .next (State.commitEnds
      (s.setSru { s.sru with
        committed := switchedTables c.mask s.sru.committed s.sru.staging, generation := c.gen }).backgroundFree
      r c .done (Builtin.le2 c.gen.toNat ++ [c.mask])
      { kind := .commitDone, severity := .info, subject := 0, arg1 := c.gen.toNat, arg2 := c.mask.toNat }) := by
  have bit : ∀ i, bitAt 0xF4 i = true → bitAt c.mask i = false := fun i hi => bitAt_clear hm hi
  have hr : s.commitReady c = true := by simp [State.commitReady, hw, hu]
  have hs : onCommitSwitch s = switchCommit c s := by simp [onCommitSwitch, h.commitRec, hr]
  have ht : switchTasks c.mask s.sru.committed = [] := by
    simp [switchTasks, tasksIf, bit 2 rfl, bit 4 rfl, bit 5 rfl, bit 6 rfl, bit 7 rfl]
  have hf : ∀ u : State, u.forceTables c.mask = u := fun u => by
    simp [State.forceTables, bit 6 rfl, bit 7 rfl]
  rw [exec_quiet .commitSwitch nofun ha]
  simp only [commandAct, hs, switchCommit, ht, hf, List.nil_append]
  exact congrArg _ ((h.switched _).switches (by simp [Builtin.le2]) _)

/-- The first part of O23: READOUT bytes and stalls. -/
theorem readout_and_stalls (s : State) (ha : s.agenda = []) :
    (s.uli.phase = .readout → exec .readoutByte s = .next { s with uli := { s.uli with
      reply := .data (if s.uli.answerPos < s.uli.answer.length then s.uli.answer.getD s.uli.answerPos 0 else 0xFF)
      answerPos := s.uli.answerPos + 1, lastActivity := s.now } }) ∧
    (age s.now s.uli.lastActivity < 35 → exec .hostStallLimit s = .next s) ∧
    (35 ≤ age s.now s.uli.lastActivity →
      ((s.uli.phase = .readout ∨ s.uli.phase = .drain) → exec .hostStallLimit s = .next s.linkIdle) ∧
      (∀ t, s.uli.txn = some t → s.uli.byteHold = none →
        (t.snap = none → (s.uli.phase = .address ∨ s.uli.phase = .command ∨ s.uli.phase = .writeData) →
          exec .hostStallLimit s = .next s.linkIdle) ∧
        (t.snap ≠ none → (s.uli.phase = .address ∨ s.uli.phase = .command) →
          exec .hostStallLimit s = .next (s.linkIdle.withRecord t.addr t.cmd .none .abandoned)) ∧
        (t.snap ≠ none → s.uli.phase = .writeData →
          exec .hostStallLimit s = .next (s.linkIdle.withRecord t.addr t.cmd .write .abandoned)))) := by
  rw [exec_readoutByte ha, exec_hostStallLimit ha]
  refine ⟨fun hp => by rw [onReadoutByte_eq hp], fun h => by rw [onStall_early h], fun h => ⟨fun hp => ?_,
    fun t ht hb => ⟨fun hn hp => ?_, fun hn hp => ?_, fun hn hp => ?_⟩⟩⟩
  · rw [onStall_readout h hp]
  · have service : ∀ dir, abandon dir s = s.linkIdle := fun dir => by rw [abandon_eq ht, hn]; rfl
    rcases or_assoc.2 hp with hp | hp
    · rw [onStall_unwritten h hp, service]
    · rw [onStall_written h hp hb, service]
  · rw [onStall_unwritten h hp, abandon_eq ht, if_pos (Option.isSome_iff_ne_none.2 hn)]
  · rw [onStall_written h hp hb, abandon_eq ht, if_pos (Option.isSome_iff_ne_none.2 hn)]

/-- The second part of O23: the response reads and their limit. -/
theorem response_reads (s : State) (ha : s.agenda = []) :
    (∀ r : Response, s.sru.response = some r → r.payload.length ≤ 28 →
      let buffer := [BitVec.ofNat 8 r.payload.length, r.code, r.tag, BitVec.ofNat 8 (statusCode r.status)] ++
        r.payload ++ List.replicate (28 - r.payload.length) 0xFF
      (s.uli.phase = .idle → exec .responseRead s = .next (s.answering buffer)) ∧
      (s.uli.phase = .idle → r.current = false → exec .waitingResponseRead s = .next (s.answering buffer)) ∧
      (s.uli.phase = .idle → r.current = true → exec .waitingResponseRead s = .next (s.holding
        { addr := serviceAddr s.lines.addrSelHigh, snap := none, cmd := some 0xF1, data := [], inLane := false })) ∧
      (∀ t since, s.uli.phase = .held → s.uli.txn = some t → t.snap = none → s.uli.heldSince = some since →
        exec .waitingReadLimit s = .next (if 30 ≤ age s.now since then s.answering buffer else s))) ∧
    (s.uli.phase = .idle → s.sru.response = none →
      exec .responseRead s = .next (s.answering ([0x00, 0x00, 0x00, 0xFF] ++ List.replicate 28 0xFF))) := by
  rw [exec_responseRead ha, exec_waitingResponseRead ha, exec_waitingReadLimit ha]
  refine ⟨fun r hr hl => ?_, fun hp hn => ?_⟩
  · intro buffer
    have answer : answerResponse s = s.answering buffer := by rw [answerResponse_eq, hr, responseBuffer_some hl]
    refine ⟨fun hp => ?_, fun hp hc => ?_, fun hp hc => ?_, fun t since hp ht hn hs => ?_⟩
    · rw [onResponseRead_idle hp, turnToResponse_answers rfl (.inl rfl), answer]
    · rw [onResponseRead_idle hp, turnToResponse_answers rfl (.inr ⟨rfl, by simp [hr, hc]⟩), answer]
    · rw [onResponseRead_idle hp, turnToResponse_holds rfl (by simp [hr, hc])]
      rfl
    · rw [onWaitingLimit_eq hp ht hn hs, answer]
  · rw [onResponseRead_idle hp, turnToResponse_answers rfl (.inl rfl), answerResponse_eq, hn, responseBuffer_none]

/-- Settles O23: readout, stalls and response reads, then the ends that release a waiting read. -/
theorem readsAreAnswered : Obligations.ReadsAreAnswered := by
  refine ⟨readout_and_stalls, response_reads, fun s r hw => ?_⟩
  intro free acted generation
  refine ⟨fun code status payload hp hb => ?operation, fun bay hb hr => ?swap, fun hr => ?reset, fun hr => ?other,
    fun ha => ⟨fun x held hx hage hb hr => ?save, fun c hb hr hrest => ?commit⟩⟩
  case operation =>
    have hcode : backgroundCode s.sru.background = code := by
      rcases hb with ⟨⟨c, hb⟩, rfl⟩ | ⟨hb, rfl⟩ | ⟨⟨bay, hb⟩, rfl⟩ <;> rw [hb] <;> rfl
    exact ⟨fun hr => backgroundEnd_released s r hw status payload hp (hr.trans hcode.symm),
      fun hr => backgroundEnd_other hw hp (by rwa [hcode])⟩
  case swap =>
    rw [handle_swapEnd hb]
    exact backgroundEnd_released s r hw _ _ (by simp) (by rw [hr, hb]; rfl)
  case reset =>
    exact congrArg (·, []) ((onResetDone_released hw).1 hr)
  case other =>
    exact congrArg (·, []) ((onResetDone_released hw).2 hr)
  case save =>
    intro offset bytes got smi failed
    simp only [exec_savePage ha hx hage]
    have ended := fun (ack : Bool) => saveEnd_released hw hb hr (s.smi.saveEnds x ack held)
    refine ⟨fun hg hd => ?_, fun hg => ?_, ?_⟩
    · rw [savePage_done hd hg]
      exact congrArg _ (ended true .done x.gen.toNat)
    · rw [savePage_failed (.inr hg)]
      exact congrArg _ (ended true .failed (pageOffset x.done))
    · rw [savePage_failed (.inl rfl)]
      exact congrArg _ (ended false .failed (pageOffset x.done))
  case commit =>
    intro ends fails
    have h : CommitAwaited s r c := ⟨hw, hb, hr, hrest⟩
    exact ⟨fun n i hwait hage hf => h.validationFails ha hwait hage hf, fun hd hu => h.limitFails ha hd hu,
      fun hwait hu hm => ⟨_, h.exec_switch ha hwait hu hm, by rw [State.commitEnds_committed]; rfl⟩⟩

end Sys2Proof.Machine
end

section
/-!
SUPPORT. Placing at a segment port, the eviction, and what a boundary selects and starts (R29 to R34, R42).
-/

namespace Sys2Proof.Machine

/-! ## The queue of a port (R28, R31, R32) -/

/-- No transaction of a class waits. -/
theorem firstOf_none {cls : TxnClass} {q : List EngTxn} (h : ∀ y ∈ q, y.cls ≠ cls) : firstOf cls q = none := by
  simpa [firstOf] using h

/-- The oldest of its class: none of that class stands before it. -/
theorem firstOf_first {cls : TxnClass} {front back : List EngTxn} {v : EngTxn} (hv : v.cls = cls)
    (hf : ∀ y ∈ front, y.cls ≠ cls) : firstOf cls (front ++ v :: back) = some v := by
  have : (front.find? fun t => t.cls == cls) = none := firstOf_none hf
  simp [firstOf, this, hv]

/-- The victim of a MOTION transaction: the oldest POLL, else the oldest CONTROL (R31). -/
theorem evictee_eq (q : List EngTxn) : evictee q = (firstOf .poll q).or (firstOf .control q) := by
  unfold evictee firstOf
  cases q.find? fun t => t.cls == .poll <;> rfl

/-- Among MOTION transactions there is no victim. -/
theorem evictee_none {q : List EngTxn} (h : ∀ y ∈ q, y.cls = .motion) : evictee q = none := by
  rw [evictee_eq, firstOf_none fun y hy => by simp [h y hy], firstOf_none fun y hy => by simp [h y hy]]
  rfl

/-- The victim in a queue: the oldest POLL, or the oldest CONTROL where no POLL waits (R31). -/
theorem evictee_oldest {q front back : List EngTxn} {v : EngTxn} (hq : q = front ++ v :: back)
    (hv : v.cls = .poll ∧ (∀ y ∈ front, y.cls ≠ .poll) ∨
      v.cls = .control ∧ (∀ y ∈ front, y.cls ≠ .control) ∧ ∀ y ∈ q, y.cls ≠ .poll) : evictee q = some v := by
  rw [evictee_eq]
  rcases hv with ⟨hc, hp⟩ | ⟨hc, hp, hn⟩
  · rw [hq, firstOf_first hc hp]; rfl
  · rw [firstOf_none hn, hq, firstOf_first hc hp]; rfl

/-- A transaction taken out of the queue by its arrival number. -/
theorem withoutArrival_append {front back : List EngTxn} {v : EngTxn} (h : ∀ y ∈ front, y.arrival ≠ v.arrival) :
    withoutArrival (front ++ v :: back) v.arrival = front ++ back := by
  unfold withoutArrival
  rw [List.eraseP_append_right _ (by simpa using h)]
  simp

/-! ## Placement (R29 to R31, R39, R40) -/

section
variable {s : State} {seg : Seg} (x : EngTxn)

/-- A SUSPENDED or ISOLATED port answers ABSENT. -/
theorem place_away (h : (s.port seg).state = .suspended ∨ (s.port seg).state = .isolated) :
    handle (.place seg x) s = (s, [.engineDone seg x .absent none []]) := by
  simp [handle, placeEngine, h, absentTask]

variable (h : ¬((s.port seg).state = .suspended ∨ (s.port seg).state = .isolated))
include h

/-- A transaction joins a queue with room. -/
theorem place_joins (hl : (s.port seg).queue.length < 8) : handle (.place seg x) s =
    (s.setPort seg ((s.port seg).join x), if (s.port seg).state = .idle then [.boundary seg] else []) := by
  simp only [handle, placeEngine, h, if_false, queueLimit, hl, if_true, boundaryIfIdle]

variable (hl : 8 ≤ (s.port seg).queue.length)
include hl

/-- At a full queue a transaction that is not MOTION, or that meets MOTION transactions alone, is refused. -/
theorem place_full (hx : x.cls ≠ .motion ∨ ∀ y ∈ (s.port seg).queue, y.cls = .motion) :
    handle (.place seg x) s = (s, [.engineDone seg x .absent (some .full) []]) := by
  simp only [handle, placeEngine, h, if_false, queueLimit, Nat.not_lt.2 hl]
  split
  · next hm => rw [evictee_none (hx.resolve_left (not_not.2 hm))]; rfl
  · rfl

/-- A MOTION transaction removes the victim of a full queue, and is placed again behind its completion. -/
theorem place_evicts {front back : List EngTxn} {v : EngTxn} (hx : x.cls = .motion)
    (hq : (s.port seg).queue = front ++ v :: back) (hf : ∀ y ∈ front, y.arrival ≠ v.arrival)
    (hv : evictee (s.port seg).queue = some v) : handle (.place seg x) s =
      (s.setPort seg { s.port seg with queue := front ++ back },
        [.engineDone seg v .absent (some .evicted) [], .place seg x]) := by
  have hw : withoutArrival (s.port seg).queue v.arrival = front ++ back := by rw [hq, withoutArrival_append hf]
  simp only [handle, placeEngine, h, if_false, queueLimit, Nat.not_lt.2 hl, hx, if_true, hv, hw, absentTask]

end

/-! ## The arbiter's choice (R32, R42) -/

/-- A port whose mark a boundary leaves as it is: it is not in commit hold, or a MOTION transaction waits. -/
theorem Port.readyMark_keeps {p : Port} (h : p.mark = .none ∨ (firstOf .motion p.queue).isSome) :
    p.readyMark = p.mark := by
  unfold Port.readyMark
  rcases h with h | h
  · simp [h]
  · simp [Option.isNone_eq_false_iff.2 h]

/-- The oldest MOTION transaction is selected before all others. -/
theorem Port.select_motion {p : Port} {x : EngTxn} (h : firstOf .motion p.queue = some x) :
    p.select = some (.engine x) := by
  simp [Port.select, h]

section
variable {p : Port} (hm : firstOf .motion p.queue = none) (hk : p.mark = .none)
include hm hk

/-- Then the pass lane. -/
theorem Port.select_lane {x : LaneTxn} (hl : p.lane = some x) : p.select = some (.lane x) := by
  simp [Port.select, hm, hk, hl]

/-- Then the oldest CONTROL transaction. -/
theorem Port.select_control (hl : p.lane = none) {x : EngTxn} (h : firstOf .control p.queue = some x) :
    p.select = some (.engine x) := by
  simp [Port.select, hm, hk, hl, h]

/-- Then the oldest POLL transaction. -/
theorem Port.select_poll (hl : p.lane = none) (hc : firstOf .control p.queue = none) {x : EngTxn}
    (h : firstOf .poll p.queue = some x) : p.select = some (.engine x) := by
  simp [Port.select, hm, hk, hl, hc, h]

end

/-- The queued transaction that R32 puts first is selected, at a port whose mark the boundary leaves as it is. -/
theorem Port.select_queued {p : Port} {front back : List EngTxn} {x : EngTxn} (hq : p.queue = front ++ x :: back)
    (hx : x.cls = .motion ∧ (∀ y ∈ front, y.cls ≠ .motion) ∨
      (∀ y ∈ p.queue, y.cls ≠ .motion) ∧ p.mark = .none ∧ p.lane = none ∧
        (x.cls = .control ∧ (∀ y ∈ front, y.cls ≠ .control) ∨
          x.cls = .poll ∧ (∀ y ∈ p.queue, y.cls ≠ .control) ∧ ∀ y ∈ front, y.cls ≠ .poll)) :
    p.readyMark = p.mark ∧ p.select = some (.engine x) := by
  have first : ∀ cls, x.cls = cls → (∀ y ∈ front, y.cls ≠ cls) → firstOf cls p.queue = some x := fun cls hc hf => by
    rw [hq, firstOf_first hc hf]
  rcases hx with ⟨hc, hf⟩ | ⟨hn, hk, hl, ⟨hc, hf⟩ | ⟨hc, hcon, hf⟩⟩
  · have hm := first .motion hc hf
    exact ⟨Port.readyMark_keeps (.inr (by rw [hm]; rfl)), Port.select_motion hm⟩
  · exact ⟨Port.readyMark_keeps (.inl hk), Port.select_control (firstOf_none hn) hk hl (first .control hc hf)⟩
  · exact ⟨Port.readyMark_keeps (.inl hk),
      Port.select_poll (firstOf_none hn) hk hl (firstOf_none hcon) (first .poll hc hf)⟩

/-! ## What a boundary starts (R23, R32 to R34) -/

/-- A port that is not IDLE reaches no boundary. -/
theorem boundary_not_idle {s : State} {seg : Seg} (h : (s.port seg).state ≠ .idle) :
    handle (.boundary seg) s = (s, []) := by
  simp [handle, atBoundary, h]

section
variable {s : State} {seg : Seg} (hs : (s.port seg).state = .idle)
  (hk : (s.port seg).readyMark = (s.port seg).mark)
include hs hk

/-- A selected engine transaction leaves the queue: at a closed gate it completes ABSENT, else it starts and its issuer
is told. -/
theorem boundary_engine {x : EngTxn} (hx : (s.port seg).select = some (.engine x)) {queue : List EngTxn}
    (hq : withoutArrival (s.port seg).queue x.arrival = queue) : handle (.boundary seg) s =
      if s.gateClosed x.gate then (s.setPort seg { s.port seg with queue := queue.map passOver },
        [.engineDone seg x .absent none [], .boundary seg])
      else (tellStart x (s.setPort seg { s.port seg with
        queue := queue.map passOver, state := .busy, running := some (.engine x, s.now) }), []) := by
  have he : { s.port seg with mark := (s.port seg).readyMark } = s.port seg := by rw [hk]
  simp only [handle, atBoundary]
  rw [he, hx]
  simp [hs, hk, hq, absentTask]

/-- A selected pass-lane transaction completes ABSENT at a closed gate, else it starts and the entry of a write is
marked. -/
theorem boundary_lane {x : LaneTxn} (hx : (s.port seg).select = some (.lane x)) : handle (.boundary seg) s =
    if s.gateClosed x.snap.gate then
      (s.setPort seg { s.port seg with queue := (s.port seg).queue.map passOver, lane := none },
        [.laneDone x .absent [] 0, .boundary seg])
    else (markWritten x (s.setPort seg { s.port seg with
      queue := (s.port seg).queue.map passOver, state := .busy, running := some (.lane, s.now) }), []) := by
  have he : { s.port seg with mark := (s.port seg).readyMark } = s.port seg := by rw [hk]
  simp only [handle, atBoundary]
  rw [he, hx]
  simp [hs, hk]

end

/-- The Motion Unit keeps no record of the start of its read. -/
theorem tellStart_mtu {x : EngTxn} (h : x.issuer = .mtu) (s : State) : tellStart x s = s := by
  simp [tellStart, h]

/-- A queued driver write executes (R144). -/
theorem tellStart_brc {x : EngTxn} (h : x.issuer = .brc) {s : State} {code : Nat} (hw : s.brc.write = .queued code) :
    tellStart x s = { s with brc := { s.brc with write := .executing code } } := by
  simp [tellStart, h, hw]

/-- A poll entry is IN_FLIGHT (R47). -/
theorem tellStart_ple {x : EngTxn} {tag : PollTag} (h : x.issuer = .ple tag) (s : State) : tellStart x s =
    if tag.orphan then s else s.setPoll tag.place { s.poll tag.place with state := .inFlight } := by
  simp [tellStart, h]

/-- A transaction through a pass window marks no entry (R23). -/
theorem markWritten_window {x : LaneTxn} (h : x.snap.key = none) (s : State) : markWritten x s = s := by
  simp [markWritten, h]

/-- A write marks bit 1 of byte 11 of the lowest place of its key, and nothing else of ROUTES changes (R23, log
entry 54). -/
theorem markWritten_marks {x : LaneTxn} {key : Byte} {place : Nat} {r : RouteSnap} {s : State} (hw : x.write = true)
    (hx : x.snap.key = some key) (hl : s.sru.committed.routes.length = 392)
    (hp : routePlace s.sru.committed.routes key = some place) (hr : routeOf s.sru.committed key = some r)
    (hs : r.seg = x.snap.seg) (hd : r.down = x.snap.down) : ∃ routes, markWritten x s =
      { s with sru := { s.sru with committed := { s.sru.committed with routes := routes } } } ∧
      routes.length = 392 ∧ ∀ i, byteAt routes i =
        if i = 12 * place + 11 then byteAt s.sru.committed.routes i ||| 2 else byteAt s.sru.committed.routes i := by
  have hlt := (routePlace_eq_some.1 hp).1
  refine ⟨mapIndicator s.sru.committed.routes place (· ||| 2), ?_, ?_, fun i => ?_⟩
  · simp [markWritten, hx, hp, hr, hw, hs, hd]
  · simp [mapIndicator, putRun, hl]; omega
  · rw [mapIndicator, byteAt_putRun_single _ (by omega)]
    split
    · next h => rw [h]
    · rfl

/-- Settles O43: placing by the room in the queue, then a boundary by the order in which the arbiter selects. -/
theorem portsPlaceAndSelect : Obligations.PortsPlaceAndSelect := by
  refine ⟨fun s seg x => ⟨place_away x, fun h1 h2 => ?place⟩, fun s seg => ?boundary⟩
  case place =>
    have h := not_or.2 ⟨h1, h2⟩
    exact ⟨place_joins x h, fun hl => ⟨place_full x h hl,
      fun front v back hx hq hf hv => place_evicts x h hl hx hq hf (evictee_oldest hq hv)⟩⟩
  case boundary =>
    intro p boundary noMotion noControl passed
    refine ⟨boundary_not_idle, fun hs => ⟨fun hn hk => boundary_held hs hn hk, fun hq hl hk =>
      boundary_rests seg s (.inr ⟨hq, hl⟩) hk, fun front x back hq hf hx => ?engine, fun x hn hk hl => ?lane⟩⟩
    case engine =>
      intro q started
      obtain ⟨hkeep, hsel⟩ := Port.select_queued hq hx
      have handled := boundary_engine hs hkeep hsel (queue := front ++ back) (by rw [hq, withoutArrival_append hf])
      refine ⟨fun hg => handled.trans (if_pos hg), fun hg => ?_⟩
      have starts : boundary = (tellStart x started, []) := handled.trans (if_neg (by simp [hg]))
      rw [starts]
      refine ⟨fun hi => ?_, fun code hi hc => ?_, fun tag hi => ?_⟩
      · rw [tellStart_mtu hi]
      · rw [tellStart_brc hi (s := started) hc]; rfl
      · rw [tellStart_ple hi]; rfl
    case lane =>
      intro q started
      have handled := boundary_lane hs (Port.readyMark_keeps (.inl hk)) (Port.select_lane (firstOf_none hn) hk hl)
      refine ⟨fun hg => handled.trans (if_pos hg), fun hg => ?_⟩
      have starts : boundary = (markWritten x started, []) := handled.trans (if_neg (by simp [hg]))
      rw [starts]
      refine ⟨fun h => ?_, fun key place r hw hx hlen hp hr hseg hdown => ?_⟩
      · rcases h with h | h
        · rw [markWritten_read h]
        · rw [markWritten_window h]
      · obtain ⟨routes, hm, facts⟩ := markWritten_marks (s := started) hw hx hlen hp hr hseg hdown
        exact ⟨routes, congrArg (·, []) hm, facts⟩

end Sys2Proof.Machine
end

section
/-!
SUPPORT. What ends at a segment port: the end of a driver write, the time limit of an executing transaction, the end of a
recovery and of a suspension (R36 to R39, R145).
-/

namespace Sys2Proof.Machine

/-! ## The end of a driver write (R145) -/

/-- A driver write that is DONE is the level written. -/
theorem driverDone_done (segment code : Nat) (s : State) : driverDone segment code .done s = { s with brc := { s.brc with
    write := .none, written := code, noneWritten := false, owed := false, failures := 0 } } := by
  simp [driverDone, writeFailures]

/-- One that fails is owed again; the third failure in a row raises BACKLIGHT_WRITE_FAILED. -/
theorem driverDone_failed (segment code : Nat) {o : TxOutcome} (h : isFailure o = true) (s : State) :
    let t : State := { s with brc := { s.brc with
      write := .none, owed := true, failures := min (s.brc.failures + 1) 255 } }
    driverDone segment code o s = if s.brc.failures = 2 then t.notify
      { kind := .backlightWriteFailed, severity := .warn, subject := segment, arg1 := outcomeCode o, arg2 := code }
    else t := by
  have hd : o ≠ .done := fun e => by simp [e, isFailure] at h
  have hb : (o != .done) = true := by simpa using hd
  have hn : (min (s.brc.failures + 1) 255 = 3 ∧ s.brc.failures = 2) ↔ s.brc.failures = 2 := by omega
  simp [driverDone, writeFailures, h, hd, hb, satAdd, hn]

/-- A driver write completes to the Brightness Controller. -/
theorem handle_engineDone_brc {x : EngTxn} (hi : x.issuer = .brc) (seg : Seg) (o : TxOutcome)
    (reason : Option AbsentReason) (data : List Byte) (s : State) :
    handle (.engineDone seg x o reason data) s = (driverDone (segNumber seg) (u16 x.data 0) o s, []) := by
  simp only [handle, engineDone, hi, alone]

/-- A pass-lane write completes to the Upstream Link Interface (R24, R26). -/
theorem handle_laneDone_write {x : LaneTxn} (hw : x.write = true) (o : TxOutcome) (data : List Byte) (trailer : Byte)
    (s : State) : handle (.laneDone x o data trailer) s = (if o = .done then s.withRecord x.addr (some x.cmd) .write o
      else (s.withRecord x.addr (some x.cmd) .write o).notify
        { kind := .passWriteFailed, severity := .warn, subject := segNumber x.snap.seg, arg1 := s.uli.seq.toNat
          arg2 := outcomeCode o }, []) :=
  laneDone_write hw o data trailer s

/-! ## The time limit of a transaction (R36, R38) -/

/-- The limit passes 25 ms after the start. -/
theorem limitPassed_eq {p : Port} {x : Running} {since : Time} (h : p.running = some (x, since)) (now : Time) :
    limitPassed p now = decide (25 ≤ age now since) := by
  simp only [limitPassed, h]
  rfl

/-- Before 25 ms the transaction goes on. -/
theorem timeOutRunning_early {s : State} {seg : Seg} {x : Running} {since : Time}
    (hr : (s.port seg).running = some (x, since)) (h : age s.now since < 25) : timeOutRunning seg s = (s, []) := by
  simp [timeOutRunning, limitPassed_eq hr, h]

section
variable {s : State} {seg : Seg} {since : Time} (hage : 25 ≤ age s.now since)
include hage

/-- A transaction in the pass lane leaves it with TIMEOUT. -/
theorem timeOutRunning_lane {w : LaneTxn} (hr : (s.port seg).running = some (.lane, since))
    (hl : (s.port seg).lane = some w) :
    timeOutRunning seg s = (s.setPort seg ((s.port seg).timedOut s.now), [.laneDone w .timeout [] 0]) := by
  simp [timeOutRunning, limitPassed_eq hr, hage, hr, hl]

/-- An engine transaction completes TIMEOUT. -/
theorem timeOutRunning_engine {w : EngTxn} (hr : (s.port seg).running = some (.engine w, since)) :
    timeOutRunning seg s =
      (s.setPort seg ((s.port seg).timedOut s.now), [.engineDone seg w .timeout none []]) := by
  simp [timeOutRunning, limitPassed_eq hr, hage, hr]

end

/-- The port recovers, its count advanced, and the lane is free where its transaction executed. -/
theorem Port.timedOut_eq {p : Port} {x : Running} {since : Time} (h : p.running = some (x, since)) (now : Time) :
    p.timedOut now = { p with
      state := .recovering, running := none, lane := if x = .lane then none else p.lane
      timeouts := if p.clearCount then 0 else min (p.timeouts + 1) 3
      clearCount := false, recovery := some { start := now, dur := 1 } } := by
  simp [Port.timedOut, h, satAdd, recoveryTime]

/-! ## Recovery and suspension (R37 to R39) -/

section
variable {s : State} {seg : Seg} {x : Timer}

theorem endRecovery_early (hx : (s.port seg).recovery = some x) (h : age s.now x.start < x.dur) :
    endRecovery seg s = (s, []) := by
  simp [endRecovery, hx, timerDue, Timer.due, h]

section
variable (hs : (s.port seg).state = .recovering) (hx : (s.port seg).recovery = some x) (h : x.dur ≤ age s.now x.start)
include hs hx h

/-- Below three timeouts the port is IDLE, and reaches a boundary. -/
theorem endRecovery_idle (ht : (s.port seg).timeouts < 3) : endRecovery seg s =
    (s.setPort seg { s.port seg with state := .idle, recovery := none, wire := recoveryItems }, [.boundary seg]) := by
  simp [endRecovery, hs, hx, timerDue, Timer.due, h, ht]

/-- At three a port that holds nothing is SUSPENDED. -/
theorem endRecovery_suspends (ht : (s.port seg).timeouts = 3) (hb : (s.port seg).bare) (hm : (s.port seg).mark = .none) :
    endRecovery seg s = (s.setPort seg { s.port seg with
        state := .suspended, recovery := none, wire := recoveryItems
        suspension := some { start := s.now, dur := 1000 } },
      [.post { kind := .segmentSuspended, severity := .warn, subject := segNumber seg, arg1 := 0, arg2 := 0 }]) := by
  obtain ⟨hq, hl, -⟩ := hb
  simp [endRecovery, hs, hx, timerDue, Timer.due, h, ht, Port.suspended, readyIfHeld, hm, hq, hl, absentTasks, absentLane,
    suspensionTime]

end

theorem endSuspension_early (hx : (s.port seg).suspension = some x) (h : age s.now x.start < x.dur) :
    endSuspension seg s = (s, []) := by
  simp [endSuspension, hx, timerDue, Timer.due, h]

/-- A port back in traffic, with its notice (R39). -/
def State.resumed (s : State) (seg : Seg) : State :=
  (s.setPort seg { s.port seg with state := .idle, suspension := none, timeouts := 0 }).notify
    { kind := .segmentResumed, severity := .info, subject := segNumber seg, arg1 := 0, arg2 := 0 }

/-- The suspension ends: the port's SETUP entries are told, and it reaches a boundary. -/
theorem endSuspension_due (hs : (s.port seg).state = .suspended) (hx : (s.port seg).suspension = some x)
    (h : x.dur ≤ age s.now x.start) : endSuspension seg s = (s.resumed seg, [.setupSegment seg, .boundary seg]) := by
  simp [endSuspension, hs, hx, timerDue, Timer.due, h, State.resumed]

end

/-- The boundary at a port that holds nothing and is in no commit hold ends a run. -/
theorem run_bare_boundary (n : Nat) {s : State} {seg : Seg} {p : Port} (hp : s.port seg = p) (hb : p.bare)
    (hm : p.mark = .none) : run (n + 1) [.boundary seg] s = s := by
  subst hp
  obtain ⟨hq, hl, -⟩ := hb
  exact run_boundaries [seg] s (n + 1) (by simpa using ⟨.inr ⟨hq, hl⟩, hm⟩) (by simp)

/-! ## The timer events -/

theorem exec_transactionTimeLimit {s : State} (h : s.agenda = []) (seg : Seg) : exec (.transactionTimeLimit seg) s =
    .next (run stepFuel (timeOutRunning seg s).2 (timeOutRunning seg s).1) :=
  exec_quiet (.transactionTimeLimit seg) nofun h

theorem exec_recoveryEnd {s : State} (h : s.agenda = []) (seg : Seg) : exec (.recoveryEnd seg) s =
    .next (run stepFuel (endRecovery seg s).2 (endRecovery seg s).1) := exec_quiet (.recoveryEnd seg) nofun h

theorem exec_suspensionExpiry {s : State} (h : s.agenda = []) (seg : Seg) : exec (.suspensionExpiry seg) s =
    .next (run stepFuel (endSuspension seg s).2 (endSuspension seg s).1) := exec_quiet (.suspensionExpiry seg) nofun h

/-- An event of R52 gives the SETUP entries of the segment a pending run. -/
theorem setupEvent_poll_some {s : State} {place : Fin 24} {e : PollEntry} (h : s.pollEntry place = some e) (seg : Seg) :
    (setupEvent seg s).1.poll place = if e.kind = .setup ∧ s.keySeg e.target = some seg then
      (s.poll place).pendSetup s.now e.phase else s.poll place := by
  simp only [setupEvent, State.mapPolls_poll, h]

/-- An empty place keeps its status. -/
theorem setupEvent_poll_none {s : State} {place : Fin 24} (h : s.pollEntry place = none) (seg : Seg) :
    (setupEvent seg s).1.poll place = s.poll place := by
  simp only [setupEvent, State.mapPolls_poll, h]

/-- The port after an event of R52. -/
theorem setupEvent_resumed_port (s : State) (seg : Seg) : (setupEvent seg (s.resumed seg)).1.port seg =
    { s.port seg with state := .idle, suspension := none, timeouts := 0 } := by
  simp [State.port, State.resumed]

/-- The end of a suspension at such a port: an event of R52 for its SETUP entries, and nothing else starts. -/
theorem exec_suspensionExpiry_due {s : State} {seg : Seg} {x : Timer} (ha : s.agenda = [])
    (hs : (s.port seg).state = .suspended) (hx : (s.port seg).suspension = some x) (h : x.dur ≤ age s.now x.start)
    (hb : (s.port seg).bare) (hm : (s.port seg).mark = .none) :
    exec (.suspensionExpiry seg) s = .next (setupEvent seg (s.resumed seg)).1 := by
  rw [exec_suspensionExpiry ha, endSuspension_due hs hx h]
  exact congrArg _ (run_bare_boundary 4094 (setupEvent_resumed_port s seg) hb hm)

/-- Settles O42: the time limit by what executes, then the end of a recovery and of a suspension. -/
theorem portTimersExpire : Obligations.PortTimersExpire := by
  refine ⟨fun s seg x since ha hr => ?limit, fun s seg x ha hb hm => ?ends⟩
  case limit =>
    have hport := Port.timedOut_eq hr s.now
    rw [exec_transactionTimeLimit ha]
    refine ⟨fun h => ?early, fun h => ⟨fun w hx hl hw => ?lane, fun w hx hi => ?driver⟩⟩
    case early => rw [timeOutRunning_early hr h, run_nil]
    case lane =>
      subst hx
      rw [timeOutRunning_lane h hr hl, run_only (handle_laneDone_write hw ..), hport]
      rfl
    case driver =>
      subst hx
      rw [timeOutRunning_engine h hr, run_only (handle_engineDone_brc hi ..), driverDone_failed _ _ rfl, hport]
      rfl
  case ends =>
    intro wire
    rw [exec_recoveryEnd ha]
    refine ⟨fun hs hx => ⟨fun h => ?_, fun h ht => ?idle, fun h ht => ?suspended⟩,
      fun hs hx => ⟨fun h => ?_, fun h => ?resumed⟩⟩
    · rw [endRecovery_early hx h, run_nil]
    case idle =>
      rw [endRecovery_idle hs hx h ht]
      exact congrArg _ (run_bare_boundary 4095 (State.setPort_port_self ..) hb hm)
    case suspended =>
      rw [endRecovery_suspends hs hx h ht hb hm]
      exact congrArg _ (run_only rfl)
    · rw [exec_suspensionExpiry ha, endSuspension_early hx h, run_nil]
    case resumed =>
      refine ⟨_, exec_suspensionExpiry_due ha hs hx h hb hm, ?_⟩
      refine ⟨by simp [State.resumed], by simp [State.resumed], fun place => ?_, by simp [State.resumed]⟩
      cases he : s.pollEntry place with
      | none => exact setupEvent_poll_none (s := s.resumed seg) he seg
      | some e => exact setupEvent_poll_some (s := s.resumed seg) he seg

end Sys2Proof.Machine
end

section
/-!
SUPPORT. What a transaction puts on its segment and ends with, and its completion at the port (R5, R22, R24, R26, R35, R38,
R49, R145).
-/

namespace Sys2Proof.Machine

/-! ## The items of Table 2-3 -/

/-- A write is driven whole, from its address byte to its trailer. -/
theorem WireTxn.driven_write {f : WireTxn} (h : f.write = true) :
    f.driven = [addressByte f.down false, f.cmd] ++ f.data ++ f.sentTrailer.toList := if_pos h

/-- Of a read the port drives the two address bytes and the command. -/
theorem WireTxn.driven_read {f : WireTxn} (h : f.write = false) :
    f.driven = [addressByte f.down false, f.cmd, addressByte f.down true] := if_neg (by simp [h])

/-- The bytes of a write stand behind its start. -/
theorem WireTxn.opening_write {f : WireTxn} (h : f.write = true) (n acked : Nat) : f.opening n acked =
    [.start] ++ (List.range n).map (fun i => .sent (f.driven.getD i 0) (decide (i < acked))) := by
  simp [WireTxn.opening, h, List.map_eq_flatMap]

/-- A write whose every byte is acknowledged. -/
theorem WireTxn.opening_whole {f : WireTxn} (h : f.write = true) : f.opening f.driven.length f.driven.length =
    [.start] ++ f.driven.map fun b => .sent b true := by
  rw [WireTxn.opening_write h]
  congr 1
  apply List.ext_getElem
  · simp
  · intro i hi _
    have : i < f.driven.length := by simpa using hi
    simp [this]

/-- Its driven bytes are three. -/
theorem WireTxn.driven_read_length {f : WireTxn} (h : f.write = false) : f.driven.length = 3 := by
  rw [WireTxn.driven_read h]; rfl

/-- The first bytes of a read, with the repeated start before its second address byte. -/
theorem WireTxn.opening_read {f : WireTxn} (h : f.write = false) :
    f.opening 1 0 = [.start, .sent (addressByte f.down false) false] ∧
    f.opening 2 1 = [.start, .sent (addressByte f.down false) true, .sent f.cmd false] ∧
    f.opening 3 2 = [.start, .sent (addressByte f.down false) true, .sent f.cmd true, .restart,
      .sent (addressByte f.down true) false] ∧
    f.opening 3 3 = [.start, .sent (addressByte f.down false) true, .sent f.cmd true, .restart,
      .sent (addressByte f.down true) true] := by
  simp [WireTxn.opening, h, WireTxn.driven_read h, List.range_succ]

/-! ## Outcomes (R35) -/

theorem WireTxn.finish_refused {f : WireTxn} {n : Nat} (h : n < f.driven.length) : f.finish (.notAcknowledged n) = some
    { outcome := f.nackOutcome n, data := [], trailer := 0, wire := f.opening (n + 1) n ++ [.stop] } := if_pos h

/-- A byte the port does not drive cannot be refused. -/
theorem WireTxn.finish_beyond {f : WireTxn} {n : Nat} (h : f.driven.length ≤ n) : f.finish (.notAcknowledged n) = none :=
  if_neg (Nat.not_lt.2 h)

section
variable {f : WireTxn}

/-- A write that is refused: NACK_TARGET at its address byte, else NACK_DATA, and a stop at once. -/
theorem WireTxn.finish_write_refused (h : f.write = true) {n : Nat} (hn : n < f.driven.length) :
    f.finish (.notAcknowledged n) = some
      { outcome := if n = 0 then .nackTarget else .nackData, data := [], trailer := 0
        wire := [.start] ++ (List.range (n + 1)).map (fun i => .sent (f.driven.getD i 0) (decide (i < n))) ++
          [.stop] } := by
  rw [WireTxn.finish_refused hn, WireTxn.opening_write h]
  simp [WireTxn.nackOutcome, h]

/-- A write that is exchanged is DONE. -/
theorem WireTxn.finish_written (h : f.write = true) (data : List Byte) (trailer : Byte) :
    f.finish (.exchanged data trailer) = some
      { outcome := .done, data := [], trailer := trailer
        wire := [.start] ++ f.driven.map (fun b => .sent b true) ++ [.stop] } := by
  simp only [WireTxn.finish, h, if_true, exchangeOutcome, WireTxn.exchange, WireTxn.opening_whole h,
    List.append_nil]
  rfl

/-- A read that is refused: NACK_TARGET at its address bytes, NACK_DATA at its command, and a stop at once. -/
theorem WireTxn.finish_read_refused (h : f.write = false) :
    f.finish (.notAcknowledged 0) = some { outcome := .nackTarget, data := [], trailer := 0
                                           wire := [.start, .sent (addressByte f.down false) false, .stop] } ∧
    f.finish (.notAcknowledged 1) = some { outcome := .nackData, data := [], trailer := 0
                                           wire := [.start, .sent (addressByte f.down false) true,
                                             .sent f.cmd false, .stop] } ∧
    f.finish (.notAcknowledged 2) = some { outcome := .nackTarget, data := [], trailer := 0
                                           wire := [.start, .sent (addressByte f.down false) true,
                                             .sent f.cmd true, .restart, .sent (addressByte f.down true) false,
                                             .stop] } := by
  have hl := WireTxn.driven_read_length h
  obtain ⟨h1, h2, h3, -⟩ := WireTxn.opening_read h
  refine ⟨?_, ?_, ?_⟩
  · rw [WireTxn.finish_refused (by omega), h1]; rfl
  · rw [WireTxn.finish_refused (by omega), h2]; simp [WireTxn.nackOutcome]
  · rw [WireTxn.finish_refused (by omega), h3]; simp [WireTxn.nackOutcome, h]

/-- A read that is exchanged: DONE, or CRC_BAD where it is checked and its trailer does not match. -/
theorem WireTxn.finish_read (h : f.write = false) (data : List Byte) (trailer : Byte) :
    f.finish (.exchanged data trailer) = some
      { outcome := if f.checked = true ∧ trailer ≠ readTrailer f.down f.cmd (received f.readLen data)
          then .crcBad else .done
        data := received f.readLen data
        trailer := trailer
        wire := [.start, .sent (addressByte f.down false) true, .sent f.cmd true, .restart,
            .sent (addressByte f.down true) true] ++
          takenItems (received f.readLen data ++ if f.checked then [trailer] else []) ++ [.stop] } := by
  obtain ⟨-, -, -, hall⟩ := WireTxn.opening_read h
  simp [WireTxn.finish, h, exchangeOutcome, WireTxn.exchange, WireTxn.driven_read_length h, hall]

end

/-- The outcomes of a transaction that reaches its stop: DONE, or a failure of the device; CRC_BAD only where it is
checked. -/
theorem WireTxn.finish_outcome {f : WireTxn} {answer : DeviceAnswer} {e : WireEnd} (h : f.finish answer = some e) :
    (e.outcome = .done ∨ isFailure e.outcome = true) ∧ (f.checked = false → e.outcome ≠ .crcBad) := by
  cases answer with
  | notAcknowledged n =>
    by_cases hn : n < f.driven.length
    · rw [WireTxn.finish_refused hn] at h
      cases h
      simp only [WireTxn.nackOutcome]
      split <;> simp [isFailure]
    · rw [WireTxn.finish_beyond (Nat.not_lt.1 hn)] at h
      cases h
  | exchanged data trailer =>
    cases hw : f.write with
    | true =>
      rw [WireTxn.finish_written hw] at h
      cases h
      simp
    | false =>
      rw [WireTxn.finish_read hw] at h
      cases h
      dsimp only
      split <;> simp_all [isFailure]

/-! ## The completion at the port (R35, R38) -/

section
variable {s : State} {seg : Seg} {since : Time} {answer : DeviceAnswer}

/-- A refusal of a byte that is not driven changes nothing. -/
theorem completeRunning_engine_none {x : EngTxn} (hr : (s.port seg).running = some (.engine x, since))
    (h : x.form.finish answer = none) : completeRunning seg answer s = (s, []) := by
  simp [completeRunning, hr, h]

theorem completeRunning_engine {x : EngTxn} {e : WireEnd} (hr : (s.port seg).running = some (.engine x, since))
    (h : x.form.finish answer = some e) : completeRunning seg answer s = (s.setPort seg ((s.port seg).ended e.wire),
      [.engineDone seg x e.outcome none e.data, .portIdle seg]) := by
  simp [completeRunning, hr, h]

theorem completeRunning_lane_none {x : LaneTxn} (hr : (s.port seg).running = some (.lane, since))
    (hl : (s.port seg).lane = some x) (h : x.form.finish answer = none) : completeRunning seg answer s = (s, []) := by
  simp [completeRunning, hr, hl, h]

theorem completeRunning_lane {x : LaneTxn} {e : WireEnd} (hr : (s.port seg).running = some (.lane, since))
    (hl : (s.port seg).lane = some x) (h : x.form.finish answer = some e) :
    completeRunning seg answer s = (s.setPort seg ((s.port seg).ended e.wire),
      [.laneDone x e.outcome e.data e.trailer, .portIdle seg]) := by
  simp [completeRunning, hr, hl, h]

end

/-- A port whose completion has been delivered is IDLE, which is a boundary (R35). -/
theorem handle_portIdle {s : State} {seg : Seg} (hs : (s.port seg).state = .busy) (hr : (s.port seg).running = none) :
    handle (.portIdle seg) s = (s.setPort seg { s.port seg with state := .idle }, [.boundary seg]) := by
  simp [handle, returnToIdle, hs, hr]

/-- A port that holds nothing any more, IDLE with the count 0 and the items of its latest transaction. -/
def Port.finished (p : Port) (wire : List BusItem) : Port :=
  { p with state := .idle, running := none, lane := none, timeouts := 0, clearCount := false, wire := wire }

/-- With nothing else at the port, its lane is free after the completion. -/
theorem Port.ended_idle {p : Port} {x : Running} {since : Time} (hr : p.running = some (x, since))
    (h : x = .lane ∨ p.lane = none) (wire : List BusItem) :
    { p.ended wire with state := .idle } = p.finished wire := by
  rcases h with h | h <;> simp [Port.ended, Port.finished, hr, h]

/-- A family replaced twice at one segment. -/
theorem PerSeg.set_set {α : Type} (p : PerSeg α) (i : Seg) (x y : α) : (p.set i x).set i y = p.set i y := by
  cases i <;> rfl

/-- The transaction that reaches its stop completes to its issuer in a few tasks that leave the ports alone; with nothing
else at the port, this is all its completion starts, and the port is then finished. -/
theorem exec_completes {s u : State} {seg : Seg} {x : Running} {since : Time} {answer : DeviceAnswer} {t : Task}
    {wire : List BusItem} (ha : s.agenda = []) (hs : (s.port seg).state = .busy) (hq : (s.port seg).queue = [])
    (hm : (s.port seg).mark = .none) (hr : (s.port seg).running = some (x, since))
    (hl : x = .lane ∨ (s.port seg).lane = none)
    (hc : completeRunning seg answer s = (s.setPort seg ((s.port seg).ended wire), [t, .portIdle seg]))
    (hrun : run 4 [t] (s.setPort seg ((s.port seg).ended wire)) = u) (hu : u.agenda = [])
    (hp : u.ports = s.ports.set seg ((s.port seg).ended wire)) : exec (.portTransactionComplete seg answer) s =
      .next { u with ports := s.ports.set seg ((s.port seg).finished wire) } := by
  have hport : u.port seg = (s.port seg).ended wire := by simp [State.port, hp]
  have hidle : handle (.portIdle seg) u =
      ({ u with ports := s.ports.set seg ((s.port seg).finished wire) }, [.boundary seg]) := by
    rw [handle_portIdle (by rw [hport]; exact hs) (by rw [hport]; rfl), hport, Port.ended_idle hr hl, State.setPort, hp,
      PerSeg.set_set]
  obtain ⟨m, hm4, e⟩ := run_append (hrun ▸ hu) (show 4 ≤ stepFuel by decide)
  obtain ⟨n, rfl⟩ : ∃ n, m = n + 1 + 1 := ⟨m - 2, by simp only [stepFuel] at hm4; omega⟩
  rw [exec_quiet (.portTransactionComplete seg answer) nofun ha]
  simp only [commandAct, hc]
  have hrest := e [.portIdle seg]
  rw [hrun, run_cons, hidle] at hrest
  refine congrArg _ (hrest.trans ?_)
  exact run_bare_boundary n (PerSeg.get_set_self ..) ⟨hq, rfl, rfl⟩ hm

/-! ## The issuer's part (R5, R24, R26, R49) -/

/-- A run of one task that starts nothing. -/
theorem run_single (n : Nat) {t : Task} {s u : State} (h : handle t s = (u, [])) : run (n + 1) [t] s = u := by
  rw [run_cons, h, List.nil_append, run_nil]

/-- A PERIODIC read without descriptors completes to its entry alone. -/
theorem run_periodicDone (n : Nat) {s : State} {x : EngTxn} {tag : PollTag} {entry : PollEntry} (hx : x.issuer = .ple tag)
    (ho : tag.orphan = false) (hd : tag.descs = []) (he : s.pollEntry tag.place = some entry)
    (hk : entry.kind = .periodic) (seg : Seg) (o : TxOutcome) (reason : Option AbsentReason) (data : List Byte) :
    run (n + 2) [.engineDone seg x o reason data] s =
      s.setPoll tag.place ((s.poll tag.place).completed s.now o) := by
  have h : handle (.engineDone seg x o reason data) s =
      (s.setPoll tag.place ((s.poll tag.place).completed s.now o), [.pollKind tag.place o []]) := by
    simp [handle, engineDone, hx, pollDone, ho, hd, descriptorTasks, completionResults]
  have hp : (s.setPoll tag.place ((s.poll tag.place).completed s.now o)).pollEntry tag.place = some entry := he
  have hrule : handle (.pollKind tag.place o []) (s.setPoll tag.place ((s.poll tag.place).completed s.now o)) =
      (s.setPoll tag.place ((s.poll tag.place).completed s.now o), []) := by
    simp only [handle, pollKindRule, hp, Option.map_some, hk]
  rw [run_cons, h]
  exact run_single n hrule

/-- The status after DONE or a failure of the device (R49). -/
theorem PollStatus.completed_eq (p : PollStatus) (now : Time) {o : TxOutcome} (h : o = .done ∨ isFailure o = true) :
    p.completed now o = { p with
      state := .idle, lastOutcome := some o, lastCompletion := some now
      failures := if o = .done then 0 else min (p.failures + 1) 255 } := by
  have ha : (o == .absent) = false := beq_false_of_ne (by rintro rfl; simp [isFailure] at h)
  have hl : (o == .lost) = false := beq_false_of_ne (by rintro rfl; simp [isFailure] at h)
  have hf : ¬o = .done → isFailure o = true := h.resolve_left
  simp only [PollStatus.completed, ha, hl, Bool.or_false]
  split
  · rfl
  · next hd => simp [hf hd, satAdd]

/-- A read through a pass window without a trailer is answered, or NACKed (R5, R22). -/
theorem handle_laneDone_window {x : LaneTxn} (hw : x.write = false) (hr : x.recorded = false) (hk : x.snap.key = none)
    (hc : x.snap.checked = false) {o : TxOutcome} (ho : o ≠ .crcBad) (data : List Byte) (trailer : Byte) (s : State) :
    handle (.laneDone x o data trailer) s =
      (if o = .done then (s.withRecord x.addr (some x.cmd) .read .done).answering data
        else s.turnedAway x.addr (some x.cmd) .read o, []) := by
  simp only [handle, laneDone_read hw, hr, handoff_none (x := x) (.inr hk), Bool.false_eq_true, if_false]
  split
  · next hd => rw [hd, answerRead_bytes x (.inl rfl)]; simp [forwardedAnswer, hc]
  · next hd => rw [answerRead_nack x hd ho]

theorem exec_portTransactionComplete {s : State} (h : s.agenda = []) (seg : Seg) (answer : DeviceAnswer) :
    exec (.portTransactionComplete seg answer) s =
      .next (run stepFuel (completeRunning seg answer s).2 (completeRunning seg answer s).1) :=
  exec_quiet (.portTransactionComplete seg answer) nofun h

/-- Settles O41: the ends of a write and of a read on the segment, then the completion by what the port executes. -/
theorem portTransactionCompletes : Obligations.PortTransactionCompletes := by
  refine ⟨fun f => ?wire, fun x => rfl, fun x => rfl, fun s seg answer since ha hs hq hm => ?completes⟩
  case wire =>
    intro a r bytes
    refine ⟨fun h => ?_, fun h => ?_⟩
    · have hd : f.driven = bytes := WireTxn.driven_write h
      rw [← hd]
      exact ⟨fun n hn => WireTxn.finish_write_refused h hn, fun n hn => WireTxn.finish_beyond hn,
        WireTxn.finish_written h⟩
    · obtain ⟨h0, h1, h2⟩ := WireTxn.finish_read_refused h
      have hl := WireTxn.driven_read_length h
      exact ⟨h0, h1, h2, fun n hn => WireTxn.finish_beyond (by omega), WireTxn.finish_read h⟩
  case completes =>
    intro port complete
    have stays : completeRunning seg answer s = (s, []) → complete = .next s := fun h => by
      simp only [complete]
      rw [exec_portTransactionComplete ha, h, run_nil]
    refine ⟨fun x hr hn => stays (completeRunning_engine_none hr hn), fun x e hr hl he => ?engine,
      fun x e hr hl => ⟨fun hn => stays (completeRunning_lane_none hr hl hn), fun he => ?lane⟩⟩
    case engine =>
      obtain ⟨hout, -⟩ := WireTxn.finish_outcome he
      have completes := fun {u : State} => exec_completes (u := u) ha hs hq hm hr (.inr hl)
        (completeRunning_engine hr he)
      refine ⟨fun hi hd => ?_, fun tag entry hi ho hds hen hk => ?_⟩
      · refine (completes (run_single 3 (handle_engineDone_brc hi ..)) (by simpa using ha) (by simp)).trans ?_
        rw [hd, driverDone_done]
        rfl
      · refine (completes (run_periodicDone 2 (s := s.setPort seg ((s.port seg).ended e.wire)) hi ho hds hen hk ..) ha
          rfl).trans ?_
        rw [PollStatus.completed_eq _ _ hout]
        rfl
    case lane =>
      obtain ⟨-, hcrc⟩ := WireTxn.finish_outcome he
      have completes := fun {u : State} => exec_completes (u := u) ha hs hq hm hr (.inl rfl)
        (completeRunning_lane hr hl he)
      refine ⟨fun hw => ?_, fun hw hrec hk hc => ?_⟩
      · refine (completes (run_single 3 (handle_laneDone_write hw ..)) ?_ ?_).trans ?_
        · split <;> exact ha
        · split <;> rfl
        · split <;> rfl
      · refine (completes (run_single 3 (handle_laneDone_window hw hrec hk hc (hcrc hc) ..)) ?_ ?_).trans ?_
        · split <;> exact ha
        · split <;> rfl
        · split <;> rfl

end Sys2Proof.Machine
end

section
/-!
SUPPORT. A FRESH slot past its freshness limit (R64), and what its readers make of it (R66, R72, R76, R77, R100).
-/

namespace Sys2Proof.Machine

/-! ## The expiry (R64) -/

/-- A slot is past its limit: FRESH, with a limit other than 0, and older than that. -/
theorem State.expired_iff (s : State) (slot : Fin 32) : s.expired slot = true ↔ (s.slot slot).state = .fresh ∧
    freshnessLimit s.sru.committed.slots slot ≠ 0 ∧
      ∃ since, (s.slot slot).time = some since ∧ freshnessLimit s.sru.committed.slots slot < age s.now since := by
  cases h : (s.slot slot).time <;> simp [State.expired, h, and_assoc]

theorem exec_slotStale_fresh {s : State} {slot : Fin 32} (h : s.agenda = []) (hx : s.expired slot = false) :
    exec (.slotStale slot) s = .next s := by
  have hc : commandAct (.slotStale slot) s = (s, []) := by simp [commandAct, hx, alone]
  rw [exec_start (.slotStale slot) nofun h (by rw [hc]), hc]

theorem exec_slotStale_expired {s : State} {slot : Fin 32} (h : s.agenda = []) (hx : s.expired slot = true) :
    exec (.slotStale slot) s = .next (run stepFuel [.slotLapsed slot] (makeStale slot s).1) := by
  rw [exec_quiet (.slotStale slot) nofun h]
  simp [commandAct, hx, makeStale]

/-! ## The readers of a lapsed slot (R66, R72) -/

/-- The slots from 15 on are bound to no bay (R62). -/
theorem slotBay_unread {slot : Fin 32} (h : 15 ≤ slot.val) : slotBay slot = none := by
  simp [slotBay, show ¬slot.val < 5 by omega, show ¬slot.val < 10 by omega]

/-- The eligibilities read slots below 15 alone. -/
theorem State.setSlot_eligibleNow (s : State) {slot : Fin 32} (h : 15 ≤ slot.val) (r : Slot) (x : Src) :
    (s.setSlot slot r).eligibleNow x = s.eligibleNow x := by
  have read : ∀ i : Fin 32, i.val < 15 → (s.setSlot slot r).freshValue i = s.freshValue i := fun i hi => by
    unfold State.freshValue State.fresh
    rw [State.setSlot_slot_ne s r (by rintro rfl; omega)]
  have pack : ∀ bay active, (s.setSlot slot r).packSlots bay active = s.packSlots bay active := fun bay active => by
    simp only [State.packSlots, read (voltageSlot bay) (by cases bay <;> decide),
      read (temperatureSlot bay) (by cases bay <;> decide)]
    rfl
  unfold State.eligibleNow
  simp only [pack, read bridgeSlot (by decide)]
  rfl

/-- Eligibilities that are up to date stay as they are (R72). -/
theorem State.refresh_settled {s : State} (h : s.eligibilityChanges = false) : s.refresh = s := by
  simp only [State.eligibilityChanges, Bool.or_eq_false_iff, bne_eq_false_iff_eq] at h
  obtain ⟨⟨⟨hdc, ha⟩, hb⟩, hbr⟩ := h
  simp [State.refresh, State.refreshed, State.source, PerSrc.get, hdc, ha, hb, hbr]

/-- A slot that no reader takes lapses alone. -/
theorem handle_slotLapsed_unread {s : State} {slot : Fin 32} (h : 15 ≤ slot.val)
    (he : s.eligibilityChanges = false) : handle (.slotLapsed slot) s = (s, []) := by
  have hn : isEnergySlot slot = false := by
    simp only [isEnergySlot, energySlot, Bool.or_eq_false_iff, beq_eq_false_iff_ne]
    constructor <;> rintro rfl <;> omega
  simp [handle, tellLapsed, powerOnLapse, bayOnLapse, slotBay_unread h, hn, afterInput, he, State.refresh_settled he,
    tasksIf]

/-- The tasks that the readers of a STALE slot start. -/
def rereads : Task → Bool
  | .trigger => true
  | .alternates => true
  | .reselect => true
  | .admissionCheck _ => true
  | _ => false

/-- The Power Path Controller alone has changed, and neither the attempt it awaits nor its ON source. -/
def Reread (s t : State) : Prop :=
  ∃ p l, t = { s with ppc := p, agenda := l } ∧ p.attempt = s.ppc.attempt ∧ p.onSrc = s.ppc.onSrc

theorem Reread.refl (s : State) : Reread s s := ⟨s.ppc, s.agenda, rfl, rfl, rfl⟩

theorem Reread.trans {s t u : State} (h : Reread s t) (k : Reread t u) : Reread s u := by
  obtain ⟨p, l, rfl, ha, ho⟩ := h
  obtain ⟨q, m, rfl, ka, ko⟩ := k
  exact ⟨q, m, rfl, ka.trans ha, ko.trans ho⟩

/-- While an attempt is awaited and no admission runs, such a task leaves marks in the Power Path Controller alone, and
starts only such tasks (R77, R84, R86, R100). -/
theorem handle_rereads {t : Task} {s : State} (ht : rereads t = true) (ha : s.ppc.attempt.isSome = true)
    (hb : ∀ bay, (s.bay bay).state ≠ .identifying) :
    Reread s (handle t s).1 ∧ ∀ u ∈ (handle t s).2, rereads u = true := by
  have he : s.ppc.engaged = true := by simp [Ppc.engaged, ha]
  cases t <;> simp only [rereads, Bool.false_eq_true] at ht
  case trigger =>
    have hr : s.repeatTakeover = [] := by
      unfold State.repeatTakeover
      split
      · simp [tasksIf, he]
      · rfl
    simp only [handle, onTrigger]
    split
    · exact ⟨.refl s, by simp⟩
    · exact ⟨.refl s, by simp [hr, rereads]⟩
  case alternates =>
    simp only [handle, checkAlternates, he, if_true]
    exact ⟨⟨_, _, rfl, rfl, rfl⟩, by simp⟩
  case reselect =>
    simp only [handle, reselect, State.reselectionWaits, he, Bool.true_or, if_true]
    exact ⟨⟨_, _, rfl, rfl, rfl⟩, by simp⟩
  case admissionCheck bay =>
    have hc : s.admits bay = false := by simp [State.admits, hb bay]
    simp [handle, checkAdmission, hc, Reread.refl]

/-- A run of such tasks. -/
theorem run_rereads (fuel : Nat) {ts : List Task} {s : State} (ht : ∀ t ∈ ts, rereads t = true)
    (ha : s.ppc.attempt.isSome = true) (hb : ∀ bay, (s.bay bay).state ≠ .identifying) :
    Reread s (run fuel ts s) := by
  have kept : ∀ t u, rereads t = true → Reread s u → Reread u (handle t u).1 ∧ ∀ v ∈ (handle t u).2, rereads v = true := by
    rintro t u ht ⟨p, l, rfl, hp, -⟩
    exact handle_rereads ht (hp ▸ ha) hb
  exact run_keeps_class (Reread s) (fun t => rereads t = true)
    (fun _ ts k => k.trans ⟨_, ts, rfl, rfl, rfl⟩) (fun t u ht k => k.trans (kept t u ht k).1)
    (fun t u ht k => (kept t u ht k).2) fuel ts s ht (.refl s)

/-- The readers of a slot that has become STALE start such tasks alone: the Power Path Controller brings the
eligibilities up to date, the classifier keeps the value, and a bay controller looks at its admission. -/
theorem handle_slotLapsed_stale {s : State} {slot : Fin 32} (h : (s.slot slot).state = .stale) :
    Reread s (handle (.slotLapsed slot) s).1 ∧ ∀ u ∈ (handle (.slotLapsed slot) s).2, rereads u = true := by
  have hp : Reread s (powerOnLapse slot s).1 ∧ ∀ u ∈ (powerOnLapse slot s).2, rereads u = true := by
    unfold powerOnLapse
    split
    · exact ⟨.refl s, by simp⟩
    · refine ⟨⟨s.refresh.ppc, s.agenda, rfl, rfl, rfl⟩, fun u hu => ?_⟩
      obtain ⟨-, rfl⟩ : _ ∧ u = .trigger := by simpa [afterInput] using hu
      rfl
  have hb : ∀ u ∈ bayOnLapse slot, rereads u = true := by
    intro u hu
    unfold bayOnLapse at hu
    split at hu
    · simp at hu
    · obtain ⟨-, rfl⟩ : _ ∧ u = .admissionCheck _ := by simpa [tasksIf] using hu
      rfl
  refine ⟨hp.1, fun u hu => ?_⟩
  have hu : u ∈ (powerOnLapse slot s).2 ∨ u ∈ bayOnLapse slot := by simpa [handle, tellLapsed, h, tasksIf] using hu
  exact hu.elim (hp.2 u) (hb u)

/-- The whole lapse of a slot that has become STALE, while an attempt is awaited and no admission runs. -/
theorem run_slotLapsed_stale {s : State} {slot : Fin 32} (h : (s.slot slot).state = .stale)
    (ha : s.ppc.attempt.isSome = true) (hb : ∀ bay, (s.bay bay).state ≠ .identifying) :
    Reread s (run stepFuel [.slotLapsed slot] s) := by
  obtain ⟨told, starts⟩ := handle_slotLapsed_stale h
  rw [run_step, List.append_nil]
  refine told.trans (run_rereads 4095 starts ?_ ?_)
  all_goals obtain ⟨p, l, e, hp, -⟩ := told; rw [e]
  · exact hp ▸ ha
  · exact hb

/-- Settles O46: the expiry read out of the slot, then the lapse of a slot that no reader takes and of one whose readers
wait. -/
theorem slotBecomesStale : Obligations.SlotBecomesStale := by
  intro s slot ha
  refine ⟨s.expired_iff slot, exec_slotStale_fresh ha, fun hx => ?_⟩
  intro slots
  rw [exec_slotStale_expired ha hx]
  refine ⟨fun h he => congrArg _ (run_only (handle_slotLapsed_unread h ?_)), fun hatt hbay => ⟨_, rfl, ?_⟩⟩
  · simpa [State.eligibilityChanges, makeStale, State.setSlot_eligibleNow s h] using he
  · obtain ⟨p, l, e, hp, ho⟩ := run_slotLapsed_stale (s := (makeStale slot s).1) (slot := slot) (by simp [makeStale])
      hatt hbay
    rw [e]
    exact ⟨rfl, hp, ho, rfl, rfl, rfl, rfl, rfl, rfl, rfl, rfl, rfl, rfl⟩

end Sys2Proof.Machine
end

section
/-!
SUPPORT. A poll entry that falls due: what the command for its place starts, and the run that follows (R29, R48, R50, R52
to R54).
-/

namespace Sys2Proof.Machine

/-- A status replaced twice at one place. -/
@[simp] theorem State.setPoll_setPoll (s : State) (place : Fin 24) (p q : PollStatus) :
    (s.setPoll place p).setPoll place q = s.setPoll place q := by
  simp [State.setPoll]

/-! ## The run of an entry (R48) -/

section
variable {s : State} {place : Fin 24} {e : PollEntry} {p : PollStatus} (he : s.pollEntry place = some e)
  (hp : s.poll place = p)
include he hp

/-- A run that meets its entry's transaction still placed waits behind it, or is missed (R50, R52, R54). -/
theorem pollRun_meets (h : p.state ≠ .idle) :
    handle (.pollRun place) s = (s.setPoll place (p.meetsPlaced e.kind), []) := by
  simp [handle, runPoll, he, hp, h]

variable (h : p.state = .idle)
include h

/-- Without a route it is NO_ROUTE (R48, step 1). -/
theorem pollRun_noRoute (hn : routeOf s.sru.committed e.target = none) : handle (.pollRun place) s =
    (s.setPoll place (p.noRoute.ifSetup e.kind fun q => q.retrySetup s.now), refusedReport place .noRoute e.kind) := by
  simp [handle, runPoll, he, hp, h, hn]

variable {r : RouteSnap} (hr : routeOf s.sru.committed e.target = some r)
include hr

/-- At a closed gate it is SKIPPED, and a SETUP run waits for the gate (R48, R53). -/
theorem pollRun_gated (hg : s.gateClosed r.gate = true) : handle (.pollRun place) s =
    (s.setPoll place (PollStatus.ifSetup { p with skipped := true } e.kind PollStatus.waitForGate),
      refusedReport place .absent e.kind) := by
  simp [handle, runPoll, he, hp, h, hr, hg]

variable (hg : s.gateClosed r.gate = false)
include hg

/-- At a SUSPENDED or ISOLATED port it is SKIPPED, and a SETUP run ends (R48, R52). -/
theorem pollRun_away (ha : (s.port r.seg).state = .suspended ∨ (s.port r.seg).state = .isolated) :
    handle (.pollRun place) s =
      (s.setPoll place (PollStatus.ifSetup { p with skipped := true } e.kind PollStatus.endSetup),
        refusedReport place .absent e.kind) := by
  simp [handle, runPoll, he, hp, h, hr, hg, ha]

/-- Else its transaction is placed (R48). -/
theorem pollRun_places (ha : ¬((s.port r.seg).state = .suspended ∨ (s.port r.seg).state = .isolated)) :
    handle (.pollRun place) s =
      (s.setPoll place { p with state := .queued }, [.place r.seg (pollTxn place e r)]) := by
  simp only [handle, runPoll, he, hp, h, hr, hg, ha]
  rfl

end

/-! ## The due time (R50, R52, R54) -/

/-- The places that fall due with a place stand in rising order. -/
theorem dueWith_rises (s : State) (place : Fin 24) : (s.dueWith place).Pairwise (· < ·) :=
  (List.pairwise_lt_finRange 24).filter _

/-- They are those up to the place that have its due time (log entry 50). -/
theorem mem_dueWith (s : State) (place q : Fin 24) :
    q ∈ s.dueWith place ↔ q ≤ place ∧ s.dueTime q = s.dueTime place := by
  simp [State.dueWith, allPlaces]

section
variable {s : State} (h : s.agenda = []) (place : Fin 24)
include h

theorem exec_periodicDue : exec (.periodicDue place) s = .next (run stepFuel
    (tasksIf (s.isDue place fun k => k == .periodic) ((s.dueWith place).map Task.fallsDue)) s) :=
  exec_quiet (.periodicDue place) nofun h

theorem exec_setupRunDue : exec (.setupRunDue place) s = .next (run stepFuel
    (tasksIf (s.isDue place fun k => k == .setup) ((s.dueWith place).map Task.fallsDue)) s) :=
  exec_quiet (.setupRunDue place) nofun h

theorem exec_admitRunDue : exec (.admitRunDue place) s = .next (run stepFuel
    (tasksIf (s.isDue place fun k => isAdmission k) ((s.dueWith place).map Task.fallsDue)) s) :=
  exec_quiet (.admitRunDue place) nofun h

end

/-- An entry is due alone: traffic is open, and its due time has been reached, which no lower place shares. -/
structure DueAlone (s : State) (place : Fin 24) (e : PollEntry) (due : Time) : Prop where
  agenda : s.agenda = []
  opened : s.opened = true
  entry : s.pollEntry place = some e
  alone : s.dueWith place = [place]
  reached : reached s.now due = true
  waits : (s.poll place).waitsFor e.kind = some due

section
variable {s : State} {place : Fin 24} {e : PollEntry} {due : Time} (h : DueAlone s place e due)
include h

theorem DueAlone.isDue {test : PollKind → Bool} (ht : test e.kind = true) : s.isDue place test = true := by
  simp [State.isDue, State.kindIs, State.dueTime, dueReached, h.opened, h.entry, h.waits, h.reached, ht]

/-- The due time is taken, and the entry is run. -/
theorem DueAlone.handle_fallsDue : handle (.fallsDue place) s =
    (s.setPoll place ((s.poll place).fallen e), [.pollRun place]) := by
  simp [handle, entryFallsDue, dueReached, h.opened, h.entry, h.waits, h.reached]

/-- A PERIODIC entry's command takes the due time of its place. -/
theorem DueAlone.exec_periodic (hk : e.kind = .periodic) :
    exec (.periodicDue place) s = .next (run stepFuel [.fallsDue place] s) := by
  rw [exec_periodicDue h.agenda, h.isDue (by simp [hk]), h.alone]
  rfl

theorem DueAlone.exec_setup (hk : e.kind = .setup) :
    exec (.setupRunDue place) s = .next (run stepFuel [.fallsDue place] s) := by
  rw [exec_setupRunDue h.agenda, h.isDue (by simp [hk]), h.alone]
  rfl

theorem DueAlone.exec_admission {bay : Bay} (hk : e.kind = .admission bay) :
    exec (.admitRunDue place) s = .next (run stepFuel [.fallsDue place] s) := by
  rw [exec_admitRunDue h.agenda, h.isDue (by simp [hk, isAdmission]), h.alone]
  rfl

variable {c : Instr} (hc : exec c s = .next (run stepFuel [.fallsDue place] s)) {p : PollStatus}
  (hp : (s.poll place).fallen e = p)
include hc hp

/-- The run of an entry that places nothing and tells nothing is a change of its status alone. -/
theorem DueAlone.exec_ends {q : PollStatus} (hq : handle (.pollRun place) (s.setPoll place p) =
    ((s.setPoll place p).setPoll place q, [])) : exec c s = .next (s.setPoll place q) := by
  rw [hc, run_chain (hp ▸ h.handle_fallsDue) hq, State.setPoll_setPoll]

/-- The run of an IDLE entry whose port is busy or recovers, with room: its transaction joins the queue (R29). -/
theorem DueAlone.exec_places (hs : p.state = .idle) {r : RouteSnap} (hr : routeOf s.sru.committed e.target = some r)
    (hg : s.gateClosed r.gate = false) (hb : (s.port r.seg).state = .busy ∨ (s.port r.seg).state = .recovering)
    (hl : (s.port r.seg).queue.length < 8) : exec c s =
      .next ((s.setPoll place { p with state := .queued }).setPort r.seg ((s.port r.seg).join (pollTxn place e r))) := by
  have here : ¬((s.port r.seg).state = .suspended ∨ (s.port r.seg).state = .isolated) := by
    rcases hb with hb | hb <;> simp [hb]
  have busy : (s.port r.seg).state ≠ .idle := by rcases hb with hb | hb <;> simp [hb]
  have placed := pollRun_places (s := s.setPoll place p) h.entry (State.setPoll_poll_self ..) hs hr hg here
  have joins := place_joins (s := s.setPoll place { p with state := .queued }) (pollTxn place e r) here hl
  rw [State.setPoll_setPoll] at placed
  rw [hc, run_step, h.handle_fallsDue, hp]
  show Host.Outcome.next (run (4093 + 1 + 1) [.pollRun place] (s.setPoll place p)) = _
  rw [run_cons, placed]
  exact congrArg _ (run_single 4093 (joins.trans (congrArg _ (if_neg busy))))

end

/-- Settles O44: the commands that find nothing due and those that take all due places, then an entry due alone by its
kind and by what its run meets, then the reports of an admission's run. -/
theorem dueEntriesRun : Obligations.DueEntriesRun := by
  refine ⟨fun s place ha => ?notDue, fun s place => ⟨dueWith_rises s place, mem_dueWith s place, fun ha => ?taken⟩,
    fun s place e due ha ho he hd hr => ?alone, fun s place e bay he hk hi => ?reports⟩
  case notDue =>
    refine ⟨fun h => ?_, fun h => ?_, fun h => ?_⟩
    · rw [exec_periodicDue ha, h]; exact congrArg _ (run_nil ..)
    · rw [exec_setupRunDue ha, h]; exact congrArg _ (run_nil ..)
    · rw [exec_admitRunDue ha, h]; exact congrArg _ (run_nil ..)
  case taken =>
    refine ⟨fun h => ?_, fun h => ?_, fun h => ?_⟩
    · rw [exec_periodicDue ha, h]; rfl
    · rw [exec_setupRunDue ha, h]; rfl
    · rw [exec_admitRunDue ha, h]; rfl
  case alone =>
    intro p setup periodic admRun put placed noRoute route away room
    have entry : ∀ q, (s.setPoll place q).pollEntry place = some e := fun _ => he
    have read : ∀ q, (s.setPoll place q).poll place = q := fun q => State.setPoll_poll_self ..
    refine ⟨fun hk hn => ?periodic, fun hk hn ht => ?setup, fun bay hk hn => ?admission⟩
    case periodic =>
      have h : DueAlone s place e due := ⟨ha, ho, he, hd, hr, by simpa [PollStatus.waitsFor, hk] using hn⟩
      intro q
      have hc := h.exec_periodic hk
      have hq : p.fallen e = q := by simp [PollStatus.fallen, hk, q, hn]
      refine ⟨fun hs => h.exec_ends hc hq ?_, fun hs hw => h.exec_ends hc hq ?_,
        fun r hs hw hg => h.exec_ends hc hq ?_,
        fun r hs ⟨hw, hg, hb, hl⟩ => h.exec_places hc hq hs hw hg hb hl⟩
      · rw [pollRun_meets (entry q) (read q) hs, hk]; rfl
      · rw [pollRun_noRoute (entry q) (read q) hs hw, hk]; rfl
      · cases hgate : s.gateClosed r.gate with
        | true => rw [pollRun_gated (entry q) (read q) hs hw hgate, hk]; rfl
        | false => rw [pollRun_away (entry q) (read q) hs hw hgate (hg.resolve_left (by simp [hgate])), hk]; rfl
    case setup =>
      have h : DueAlone s place e due := ⟨ha, ho, he, hd, hr, by
        rw [hk]; exact (if_neg (ht ▸ Bool.false_ne_true)).trans hn⟩
      have hc := h.exec_setup hk
      let q : PollStatus := { p with dueTaken := true }
      have hq : p.fallen e = q := by simp [PollStatus.fallen, hk, q]
      refine ⟨fun hs => h.exec_ends hc hq ?_, fun hs hw => h.exec_ends hc hq ?_,
        fun r hs hw hg => h.exec_ends hc hq ?_, fun r hs hw hg hb => h.exec_ends hc hq ?_,
        fun r hs ⟨hw, hg, hb, hl⟩ => h.exec_places hc hq hs hw hg hb hl⟩
      · rw [pollRun_meets (entry q) (read q) hs, hk]; rfl
      · rw [pollRun_noRoute (entry q) (read q) hs hw, hk, ht]; rfl
      · rw [pollRun_gated (entry q) (read q) hs hw hg, hk, ht]; rfl
      · rw [pollRun_away (entry q) (read q) hs hw hg hb, hk, ht]; rfl
    case admission =>
      have h : DueAlone s place e due := ⟨ha, ho, he, hd, hr, by simpa [PollStatus.waitsFor, hk] using hn⟩
      have hc := h.exec_admission hk
      intro q
      have hq : p.fallen e = q := by simp [PollStatus.fallen, hk, q]
      refine ⟨fun hs => h.exec_ends hc hq ?_, fun r hs ⟨hw, hg, hb, hl⟩ => h.exec_places hc hq hs hw hg hb hl⟩
      rw [pollRun_meets (entry q) (read q) hs, hk]; rfl
  case reports =>
    refine ⟨fun hw => ?_, fun r hw hg => ?_⟩
    · rw [pollRun_noRoute he rfl hi hw, hk]; rfl
    · cases hgate : s.gateClosed r.gate with
      | true => rw [pollRun_gated he rfl hi hw hgate, hk]; rfl
      | false => rw [pollRun_away he rfl hi hw hgate (hg.resolve_left (by simp [hgate])), hk]; rfl

end Sys2Proof.Machine
end

section
/-!
SUPPORT. The completion of a poll transaction (R49, R50, R53, R54), the arithmetic of a descriptor (R56 to R59, R63), and
what the Poll Engine makes of a bay's state change (R53 to R55).
-/

namespace Sys2Proof.Machine

/-! ## The completion of a transaction (R49) -/

/-- The failures of the device (R49). -/
theorem isFailure_iff (o : TxOutcome) : isFailure o = true ↔
    o = .nackTarget ∨ o = .nackData ∨ o = .timeout ∨ o = .crcBad ∨ o = .noRoute := by
  cases o <;> decide

section
variable {x : EngTxn} {tag : PollTag} (hi : x.issuer = .ple tag) (seg : Seg) (outcome : TxOutcome)
  (why : Option AbsentReason) (data : List Byte) (s : State)
include hi

/-- A transaction that belongs to no entry any more runs its descriptors alone (R45). -/
theorem handle_engineDone_orphan (ho : tag.orphan = true) : handle (.engineDone seg x outcome why data) s =
    (s, if outcome = .done ∧ x.write = false then descriptorTasks tag.source tag.place.val tag.descs data else []) := by
  simp [handle, engineDone, hi, pollDone, ho]

/-- Any other changes its entry's status, runs its descriptors in list order, and then the rule of its kind (R49). -/
theorem handle_engineDone_ple (ho : tag.orphan = false) : handle (.engineDone seg x outcome why data) s =
    (s.setPoll tag.place ((s.poll tag.place).completed s.now outcome),
      (if outcome = .done ∧ x.write = false then descriptorTasks tag.source tag.place.val tag.descs data else []) ++
        [.pollKind tag.place outcome
          (if outcome = .done ∧ x.write = false then completionResults tag data s else [])]) := by
  simp [handle, engineDone, hi, pollDone, ho]

end

/-! ## The rule of the kind (R50, R53, R54) -/

section
variable {s : State} {place : Fin 24} {e : PollEntry} (he : s.pollEntry place = some e) (outcome : TxOutcome)
  (results : List (Fin 32 × DescResult))
include he

theorem handle_pollKind_periodic (hk : e.kind = .periodic) : handle (.pollKind place outcome results) s = (s, []) := by
  simp [handle, pollKindRule, he, hk]

theorem handle_pollKind_setup (hk : e.kind = .setup) : handle (.pollKind place outcome results) s =
    (s.setPoll place ((s.poll place).setupDone s.now outcome), [.pollAgain place]) := by
  simp [handle, pollKindRule, he, hk]

theorem handle_pollKind_admission {bay : Bay} (hk : e.kind = .admission bay) :
    handle (.pollKind place outcome results) s = (s, if (s.bay bay).state = .identifying then
      [.admissionReport bay place outcome results, .pollAgain place] else [.pollAgain place]) := by
  simp only [handle, pollKindRule, he, Option.map_some, hk, tasksIf, beq_iff_eq]
  split <;> rfl

end

/-- The end of a SETUP run (R53): that of a run which has not fallen due, or behind which another waits, is not its. -/
theorem PollStatus.setupDone_eq (p : PollStatus) (now : Time) (outcome : TxOutcome) : p.setupDone now outcome =
    if p.dueTaken = false ∨ p.runAfter = true then p else { p with
      dueTaken := false, nextDue := if isFailure outcome = true then some (later now 100) else none } := by
  simp only [PollStatus.setupDone, Bool.or_eq_true, Bool.not_eq_true']
  split
  · rfl
  · split <;> rfl

/-- A run that waited is placed behind the rule of the kind (R52, R54, log entry 70). -/
theorem handle_pollAgain (place : Fin 24) (s : State) : handle (.pollAgain place) s =
    if (s.poll place).runAfter then (s.setPoll place { s.poll place with runAfter := false }, [.pollRun place])
    else (s, []) := rfl

/-! ## The field of a response (R56) -/

/-- Bit `j` of the response is bit `j % 8` of its byte `j / 8` (R56). -/
theorem testBit_bitString (data : List Byte) : ∀ j,
    (bitString data).testBit j = (byteAt data (j / 8)).toNat.testBit (j % 8) := by
  induction data with
  | nil => simp [bitString, byteAt]
  | cons b bs ih =>
    intro j
    have split : bitString (b :: bs) = 2 ^ 8 * bitString bs + b.toNat := by
      simp only [bitString, List.foldr_cons]
      omega
    rw [split, Nat.testBit_two_pow_mul_add _ b.isLt]
    split
    · next h => simp [byteAt, Nat.div_eq_of_lt h, Nat.mod_eq_of_lt h]
    · next h =>
      obtain ⟨k, rfl⟩ : ∃ k, j = k + 8 := ⟨j - 8, by omega⟩
      rw [Nat.add_sub_cancel, ih, Nat.add_div_right k (by decide), Nat.add_mod_right]
      rfl

/-- A number in two's complement is negative by its highest bit. -/
theorem signed_eq {width n : Nat} (hw : 1 ≤ width) (hn : n < 2 ^ width) :
    signed width n = if n.testBit (width - 1) = true then (n : Int) - 2 ^ width else n := by
  obtain ⟨w, rfl⟩ : ∃ w, width = w + 1 := ⟨width - 1, by omega⟩
  rw [signed, Nat.add_sub_cancel]
  split
  · next h => rw [if_neg (by simp [Nat.testBit_lt_two_pow h])]
  · next h => rw [if_pos (Nat.testBit_of_two_pow_le_and_two_pow_add_one_gt (Nat.not_lt.1 h) hn)]

/-- The field of a descriptor, by its bits in the response (R56). -/
theorem extractField_eq {d : Descriptor} {data : List Byte} {raw : Nat} (hd : 1 ≤ d.length)
    (hr : ∀ j, raw.testBit j = (decide (j < d.length) &&
      (byteAt data ((d.position + j) / 8)).toNat.testBit ((d.position + j) % 8)))
    (hl : d.position + d.length ≤ 8 * data.length) : extractField d data = some
      (if d.signExtend = true ∧ raw.testBit (d.length - 1) = true then (raw : Int) - 2 ^ d.length else raw) := by
  have field : bitString data / 2 ^ d.position % 2 ^ d.length = raw := Nat.eq_of_testBit_eq fun j => by
    rw [hr, Nat.testBit_mod_two_pow, Nat.testBit_div_two_pow, testBit_bitString, Nat.add_comm]
  have below : raw < 2 ^ d.length := field ▸ Nat.mod_lt _ (Nat.two_pow_pos _)
  simp only [extractField, Nat.not_lt.2 hl, if_false, field, signed_eq hd below]
  cases d.signExtend <;> simp

theorem extractField_short {d : Descriptor} {data : List Byte} (h : 8 * data.length < d.position + d.length) :
    extractField d data = none := if_pos h

/-! ## The result of a descriptor (R57, R58, R63) -/

/-- A field is scaled, shifted toward minus infinity and offset; out of the range of a slot it saturates, out of the
limits it is implausible (R57, R58). -/
theorem descriptorValue_eq {d : Descriptor} {data : List Byte} {f : Int} (h : extractField d data = some f) :
    let v := f * d.multiplier / 2 ^ d.shift + d.offset
    descriptorValue d data = (if v < -2147483648 ∨ 2147483647 < v then .saturated
      else if v < d.low ∨ d.high < v then .implausible else .written, v) := by
  intro v
  have hv : scaleField d f = v := by simp [scaleField, v]
  have hs : (!inSlotRange v) = true ↔ v < -2147483648 ∨ 2147483647 < v := by
    simp [inSlotRange]
  simp only [descriptorValue, h, hv, hs]
  split
  · rfl
  · split <;> rfl

/-- Writes are refused in a slot of an EMPTY or SEATED bay (R63). -/
theorem State.noPack_iff (s : State) (slot : Fin 32) : s.noPack slot = true ↔
    ∃ bay, slotBay slot = some bay ∧ ((s.bay bay).state = .empty ∨ (s.bay bay).state = .seated) := by
  cases h : slotBay slot <;> simp [State.noPack, h]

section
variable (source : SlotSource) (place : Nat) {d : Descriptor} {data : List Byte} {s : State}

/-- A descriptor that ends OUT_OF_FRAME, SATURATED or NO_PACK changes nothing (R58). -/
theorem handle_descriptor_dropped {result : DescResult} (hr : s.descriptorResult d data = result)
    (h : result = .outOfFrame ∨ result = .saturated ∨ result = .noPack) :
    s.descriptorResult d data = result ∧ handle (.descriptor source place d data) s = (s, []) := by
  refine ⟨hr, ?_⟩
  simp only [handle, runDescriptor, hr]
  rcases h with rfl | rfl | rfl <;> rfl

/-- One that ends IMPLAUSIBLE advances the count of its slot (R59). -/
theorem handle_descriptor_implausible (hr : s.descriptorResult d data = .implausible) :
    handle (.descriptor source place d data) s =
      (countImplausible source place d.slot (descriptorValue d data).2 s, []) := by
  simp only [handle, runDescriptor, hr]

/-- One that ends WRITTEN writes its slot, and the readers are told (R63, R66). -/
theorem handle_descriptor_written (hr : s.descriptorResult d data = .written) :
    handle (.descriptor source place d data) s =
      (s.setSlot d.slot (writtenSlot (descriptorValue d data).2 s.now source), [.slotWritten d.slot (s.slot d.slot)]) := by
  simp only [handle, runDescriptor, hr]

end

/-! ## A bay's state change (R53 to R55) -/

/-- The SETUP runs that wait for the gate of a bay: those whose target resolves now to it (log entry 41). -/
theorem mem_gateWaiters (bay : Bay) (s : State) (place : Fin 24) : place ∈ gateWaiters bay s ↔
    (s.poll place).gateWait = true ∧ ∃ e r, s.pollEntry place = some e ∧
      routeOf s.sru.committed e.target = some r ∧ r.gate = some bay := by
  simp [gateWaiters, allPlaces, Option.any_eq_true]

/-- The places of a bay's admission list (R98). -/
theorem mem_admissionPlaces (s : State) (bay : Bay) (place : Fin 24) :
    place ∈ admissionPlaces s.sru.committed.polls bay ↔ ∃ e, s.pollEntry place = some e ∧ e.kind = .admission bay := by
  simp [admissionPlaces, allPlaces, State.pollEntry, Option.any_eq_true]

/-- A gate that opens releases the SETUP runs that wait for it (R53). -/
theorem pollBay_opens (bay : Bay) {old new : BayState} (ho : gateOpen old = false) (hn : gateOpen new = true) (s : State) :
    handle (.pollBay bay old new) s =
      (s.mapPolls fun i p => if i ∈ gateWaiters bay s then p.gateOpens s.now else p,
        (gateWaiters bay s).map Task.pollRun ++ tasksIf (new == .identifying) [.admissionBegin bay]) := by
  have hi : ¬(old = .identifying ∧ new ≠ .identifying) := by rintro ⟨rfl, -⟩; cases ho
  simp [handle, pollOnBay, ho, hn, hi]

/-- A bay that leaves IDENTIFYING drops the runs of its ADMIT entries that are not yet placed (R54). -/
theorem pollBay_leaves (bay : Bay) {new : BayState} (hn : new ≠ .identifying) (s : State) :
    handle (.pollBay bay .identifying new) s =
      (s.mapPolls fun i p => if i ∈ admissionPlaces s.sru.committed.polls bay then
        { p with admitDue := none, runAfter := false } else p, []) := by
  simp [handle, pollOnBay, hn, gateOpen, tasksIf]

/-- A bay that enters IDENTIFYING begins an admission (R54). -/
theorem pollBay_enters (bay : Bay) (old : BayState) (s : State) :
    Task.admissionBegin bay ∈ (handle (.pollBay bay old .identifying) s).2 := by
  simp [handle, pollOnBay, tasksIf]

/-- Settles O45: the completion and its status, the rule of the kind, a descriptor by its field, its value and its slot,
and a bay's state change by the gate and by the admission. -/
theorem pollReadsWriteSlots : Obligations.PollReadsWriteSlots := by
  refine ⟨fun s seg x tag outcome why data hi => ?completes, fun s place e outcome results he => ?kind,
    fun s source place d data raw hd hraw => ?descriptor, fun s bay old new => ?bay⟩
  case completes =>
    intro done p failed read runs
    refine ⟨fun ho => handle_engineDone_orphan hi seg outcome why data s ho, fun ho => ?_⟩
    simp only [done, handle_engineDone_ple hi seg outcome why data s ho]
    refine ⟨?_, rfl⟩
    simp only [PollStatus.completed, isFailure_iff, satAdd]
    rfl
  case kind =>
    intro p kind failed
    refine ⟨handle_pollKind_periodic he outcome results, fun hk => ?_,
      fun bay hk => handle_pollKind_admission he outcome results hk, handle_pollAgain place s⟩
    simp only [kind, handle_pollKind_setup he outcome results hk, PollStatus.setupDone_eq, isFailure_iff]
    rfl
  case descriptor =>
    intro done r f v noPack result
    refine ⟨fun h => ?short, fun h => ?whole⟩
    case short =>
      exact handle_descriptor_dropped source place (by simp [State.descriptorResult, descriptorValue, extractField_short h])
        (.inl rfl)
    case whole =>
      have hv : descriptorValue d data = (if v < -2147483648 ∨ 2147483647 < v then .saturated
          else if v < d.low ∨ d.high < v then .implausible else .written, v) :=
        descriptorValue_eq (extractField_eq hd hraw h)
      have value : (descriptorValue d data).2 = v := by rw [hv]
      refine ⟨fun hr => ?_, fun hlo hhi => ?_⟩
      · have hres : result = .saturated := by
          simp only [result, State.descriptorResult, hv]
          rw [if_pos hr]
        exact handle_descriptor_dropped source place hres (.inr (.inl rfl))
      have range : ¬(v < -2147483648 ∨ 2147483647 < v) := by omega
      refine ⟨fun hr => ?_, fun hl hh => ?_⟩
      · have hres : result = .implausible := by
          simp only [result, State.descriptorResult, hv]
          rw [if_neg range, if_pos hr]
        refine ⟨hres, ?_⟩
        simp only [done, handle_descriptor_implausible source place hres, value]
        rfl
      have limits : ¬(v < d.low ∨ d.high < v) := by omega
      have hres : result = if s.noPack d.slot then .noPack else .written := by
        simp only [result, State.descriptorResult, hv]
        rw [if_neg range, if_neg limits]
      refine ⟨fun hp => ?_, fun hp => ?_⟩
      · rw [(s.noPack_iff d.slot).2 hp] at hres
        exact handle_descriptor_dropped source place hres (.inr (.inr rfl))
      · rw [if_neg (mt (s.noPack_iff d.slot).1 hp)] at hres
        refine ⟨hres, ?_⟩
        simp only [done, handle_descriptor_written source place hres, value]
        rfl
  case bay =>
    intro told waits
    refine ⟨fun ho hn => ?opens, fun ho hn => ?leaves, fun hn => ?_, fun place => ?begins⟩
    case opens =>
      have free : ∀ place, place ∈ gateWaiters bay s ↔ waits place := mem_gateWaiters bay s
      simp only [told, pollBay_opens bay ho hn s, State.mapPolls_poll]
      refine ⟨fun place hw => if_pos ((free place).2 hw), fun place hw => if_neg (mt (free place).1 hw), fun place => ?_⟩
      simp [tasksIf, free]
    case leaves =>
      subst ho
      simp only [told, pollBay_leaves bay hn s, State.mapPolls_poll, mem_admissionPlaces]
      refine ⟨trivial, fun place => ?_⟩
      cases he : s.pollEntry place <;> simp
    · subst hn
      exact pollBay_enters bay old s
    case begins =>
      cases he : s.pollEntry place <;> simp [handle, beginAdmission, he]

end Sys2Proof.Machine
end

section
/-!
SUPPORT. The numbers that stand in an image, field behind field (R196, R197), and the bits of a packed trace (R167).
-/

namespace Sys2Proof.Machine

/-! ## Bytes of a joined image -/

theorem byteAt_append_left {a : List Byte} (b : List Byte) {i : Nat} (h : i < a.length) :
    byteAt (a ++ b) i = byteAt a i := List.getD_append _ _ _ _ h

theorem byteAt_append_right (a b : List Byte) (i : Nat) : byteAt (a ++ b) (a.length + i) = byteAt b i := by
  unfold byteAt
  rw [List.getD_append_right _ _ _ _ (by omega), Nat.add_sub_cancel_left]

/-- A number is read from the bytes at its places alone. -/
theorem numberAt_congr {a b : List Byte} : ∀ {width o p : Nat},
    (∀ i < width, byteAt a (o + i) = byteAt b (p + i)) → numberAt a o width = numberAt b p width
  | 0, _, _, _ => rfl
  | width + 1, o, p, h => by
    have first := h 0 (by omega)
    have rest : numberAt a (o + 1) width = numberAt b (p + 1) width := numberAt_congr fun i hi => by
      rw [Nat.add_assoc, Nat.add_assoc, Nat.add_comm 1]
      exact h (i + 1) (by omega)
    rw [numberAt, numberAt, rest, show byteAt a o = byteAt b p from first]

/-! ## Fields (R197) -/

/-- A run of bytes that is a field: its width, and the number it holds. -/
def IsField (bytes : List Byte) (width n : Nat) : Prop := bytes.length = width ∧ numberAt bytes 0 width = n

theorem f1_field (n : Nat) : IsField (f1 n) 1 (heldNumber 1 n) := by
  refine ⟨rfl, ?_⟩
  simp [f1, numberAt, byteAt, heldNumber]

/-- A number that fits its byte is held as it is. -/
theorem f1_field_of_le {n : Nat} (h : n ≤ 255) : IsField (f1 n) 1 n := by
  have held : heldNumber 1 n = n := Nat.min_eq_left h
  simpa only [held] using f1_field n

theorem f2_field (n : Nat) : IsField (f2 n) 2 (heldNumber 2 n) := by
  refine ⟨rfl, ?_⟩
  simp [f2, Builtin.le2, Builtin.b0, numberAt, byteAt, heldNumber]
  omega

theorem word4_field (w : BitVec 32) : IsField (word4 w) 4 w.toNat := by
  refine ⟨rfl, ?_⟩
  have := w.isLt
  simp [word4, numberAt, byteAt, Nat.shiftRight_eq_div_pow]
  omega

theorem time4_field (t : Time) : IsField (time4 t) 4 t.toNat := word4_field t

/-- An absent field is all ones. -/
theorem replicate_field : ∀ width, IsField (List.replicate width 0xFF) width (256 ^ width - 1)
  | 0 => ⟨rfl, rfl⟩
  | width + 1 => by
    obtain ⟨hl, hn⟩ := replicate_field width
    refine ⟨by rw [List.length_replicate], ?_⟩
    have rest : numberAt (List.replicate (width + 1) 0xFF) (0 + 1) width = 256 ^ width - 1 :=
      (numberAt_congr fun i _ => by
        rw [Nat.zero_add, Nat.zero_add]
        exact byteAt_append_right [0xFF] (List.replicate width 0xFF) i).trans hn
    have first : byteAt (List.replicate (width + 1) (0xFF : Byte)) 0 = 0xFF := rfl
    have pos : 0 < 256 ^ width := Nat.pow_pos (by decide)
    rw [numberAt, rest, first, Nat.pow_succ]
    simp only [BitVec.reduceToNat]
    omega

/-- An optional field holds its number, or all ones (R197). -/
theorem optField_field {α : Type} {width : Nat} {g : α → List Byte} {num : α → Nat}
    (hg : ∀ x, IsField (g x) width (heldNumber width (num x))) (o : Option α) :
    IsField (optField width (o.map g)) width (heldOption width (o.map num)) := by
  cases o with
  | none => exact replicate_field width
  | some x => exact hg x

/-- An optional time (R197). -/
theorem optTime_field (o : Option Time) :
    IsField (optField 4 (o.map time4)) 4 (heldOption 4 (o.map fun t => t.toNat)) := by
  refine optField_field (fun t => ?_) o
  have held : heldNumber 4 t.toNat = t.toNat := Nat.min_eq_left (by have := t.isLt; omega)
  simpa only [held] using time4_field t

/-- An optional 2-byte number (R197). -/
theorem optNumber_field (o : Option Nat) : IsField (optField 2 (o.map f2)) 2 (heldOption 2 o) := by
  simpa using optField_field (num := id) f2_field o

/-! ## Fields one behind another -/

/-- From an offset on, an image is the given fields one behind another, and a tail from the offset behind them. -/
inductive Fields : Nat → List Byte → List (Nat × Nat × Nat) → Nat → List Byte → Prop
  | nil {o : Nat} {tail : List Byte} : Fields o tail [] o tail
  | cons {o e width n : Nat} {bytes image tail : List Byte} {fs : List (Nat × Nat × Nat)} (h : IsField bytes width n)
      (rest : Fields (o + width) image fs e tail) : Fields o (bytes ++ image) ((o, width, n) :: fs) e tail

section
variable {o e : Nat} {image tail : List Byte} {fs : List (Nat × Nat × Nat)}

/-- Each field is read at its offset, also behind further bytes. -/
theorem Fields.readsAs_behind (h : Fields o image fs e tail) (front : List Byte) (hf : front.length = o) :
    readsAs (front ++ image) fs := by
  induction h generalizing front with
  | nil => simp [Machine.readsAs]
  | @cons o e width n bytes image tail fs h rest ih =>
    obtain ⟨hw, hn⟩ := h
    intro f hmem
    rcases List.mem_cons.1 hmem with rfl | hmem
    · refine (numberAt_congr fun i hi => ?_).trans hn
      rw [Nat.zero_add, ← hf, byteAt_append_right, byteAt_append_left _ (hw ▸ hi)]
    · rw [← List.append_assoc]
      exact ih (front ++ bytes) (by rw [List.length_append, hf, hw]) f hmem

/-- The tail stands behind the fields. -/
theorem Fields.split (h : Fields o image fs e tail) : ∃ front, image = front ++ tail ∧ o + front.length = e := by
  induction h with
  | nil => exact ⟨[], rfl, rfl⟩
  | @cons o e width n bytes image tail fs h rest ih =>
    obtain ⟨front, rfl, hl⟩ := ih
    exact ⟨bytes ++ front, by simp, by rw [List.length_append, h.1, ← Nat.add_assoc, hl]⟩

variable (h : Fields 0 image fs e tail)
include h

theorem Fields.readsAs : readsAs image fs := h.readsAs_behind [] rfl

theorem Fields.length : image.length = e + tail.length := by
  obtain ⟨front, rfl, hl⟩ := h.split
  rw [List.length_append, ← hl, Nat.zero_add]

theorem Fields.byteAt_tail (i : Nat) : byteAt image (e + i) = byteAt tail i := by
  obtain ⟨front, rfl, hl⟩ := h.split
  rw [← hl, Nat.zero_add, byteAt_append_right]

end

/-! ## The trace (R167) -/

/-- Bits taken as a number, the first the most significant. -/
theorem testBit_foldl_bits (bits : List Bool) : ∀ i,
    (bits.foldl (fun (n : Nat) (b : Bool) => 2 * n + (if b then 1 else 0)) 0).testBit i = bits.reverse.getD i false := by
  induction bits using List.reverseRecOn with
  | nil => simp
  | append_singleton bits b ih =>
    intro i
    simp only [List.foldl_append, List.foldl_cons, List.foldl_nil, List.reverse_append]
    cases i with
    | zero => cases b <;> simp
    | succ i =>
      rw [Nat.testBit_succ]
      refine Eq.trans (congrArg (Nat.testBit · i) ?_) (ih i)
      split <;> omega

/-- A bit of a byte made of eight bits. -/
theorem getLsbD_bitsByte {bits : List Bool} (h : bits.length = 8) {j : Nat} (hj : j < 8) :
    (bitsByte bits).getLsbD (7 - j) = bits.getD j false := by
  rw [bitsByte, BitVec.getLsbD_ofNat, testBit_foldl_bits, List.getD_reverse _ (by omega), h]
  simp only [show 7 - j < 8 by omega, decide_true, Bool.true_and]
  congr 1
  omega

/-- A bit of the codes laid side by side: each takes twelve, the most significant first. -/
theorem codeBits_getD (codes : List Nat) : ∀ n, (codes.flatMap codeBits).getD n false =
    (codes[n / 12]?.map fun c => c.testBit (11 - n % 12)).getD false := by
  induction codes with
  | nil => simp
  | cons c codes ih =>
    intro n
    rw [List.flatMap_cons]
    have width : (codeBits c).length = 12 := by simp [codeBits]
    by_cases h : n < 12
    · rw [List.getD_append _ _ _ _ (by omega), Nat.div_eq_of_lt h, Nat.mod_eq_of_lt h]
      simp [codeBits, h]
    · obtain ⟨m, rfl⟩ : ∃ m, n = m + 12 := ⟨n - 12, by omega⟩
      rw [List.getD_append_right _ _ _ _ (by omega), width, Nat.add_sub_cancel, ih, Nat.add_div_right m (by decide),
        Nat.add_mod_right]
      rfl

/-- Bit `n` of a packed trace, the first the most significant of the first byte (R167). -/
theorem getLsbD_packTrace (codes : List Nat) {n : Nat} (h : n < 288) : (byteAt (packTrace codes) (n / 8)).getLsbD
    (7 - n % 8) = (codes[n / 12]?.map fun c => c.testBit (11 - n % 12)).getD false := by
  have byte : byteAt (packTrace codes) (n / 8) =
      bitsByte ((List.range 8).map fun j => (codes.flatMap codeBits).getD (8 * (n / 8) + j) false) := by
    simp [byteAt, packTrace, show n / 8 < 36 by omega]
  have bit : 8 * (n / 8) + n % 8 = n := Nat.div_add_mod n 8
  rw [byte, getLsbD_bitsByte (by simp) (Nat.mod_lt _ (by decide)), ← codeBits_getD]
  simp [Nat.mod_lt, bit]

end Sys2Proof.Machine
end

section
/-!
SUPPORT. A whole request that starts nothing, answered by its first change (R173, R174, R177), and READ_POLL_STATUS,
READ_DROP and CLEAR_DROP with their images (R47, R167, R170, Tables 12-5 and 12-7).
-/

namespace Sys2Proof.Machine

/-! ## Requests that start nothing (R173, R174) -/

/-- The state in which a whole service write is decoded: its last byte has been acknowledged (R2, R173). -/
def State.heard (s : State) : State := { s with uli := { s.uli with reply := .ack, lastActivity := s.now } }

/-- A request that passes the checks of R174 is answered by its act. -/
theorem exec_request {s : State} (h : s.servesRequests) {c : Instr} {q : Request} {tag : Byte} {p : List Byte}
    (hc : c = q.command tag p false) (ht : q.takes p.length = true) (hb : q.background = false)
    (ha : q ≠ .settingsRead) {a : Answer} (act : q.act p s.heard = a) (hs : a.tasks = []) :
    exec c s = .next (respond q.code tag a).1 := by
  obtain ⟨hag, hp, hr⟩ := h
  subst hc
  have written : commandAct (q.command tag p false) s = (s.heard, [.request q.code tag p]) := by
    have heard : serviceWrite q.code tag p s = (s.heard, [.request q.code tag p]) := by
      simp only [serviceWrite, State.heard, hp]
      rfl
    cases q
    case settingsRead => exact absurd rfl ha
    all_goals exact heard
  have answer : answerOf q p s.heard = a := by
    simp [answerOf, ht, hb, act, show s.heard.sru.resetPending = false from hr]
  have decoded : handle (.request q.code tag p) s.heard = ((respond q.code tag a).1, []) := by
    simp only [handle, decodeRequest, requestOf_code, answer, respond, hs]
  rw [exec_quiet _ (by cases q <;> nofun) hag, written]
  exact congrArg _ (run_only decoded)

/-- A refusal changes the response record alone (R174). -/
theorem respond_refusal (code tag : Byte) (status : Status) (s : State) :
    (respond code tag (refusal status s.heard)).1 = s.answered code tag status [] := rfl

/-- An answer without a payload stands beside the state it acts on (R174). -/
theorem respond_acting (code tag : Byte) (s : State) :
    (respond code tag (acting (s.heard, []))).1 = s.answered code tag .ok [] := rfl

/-- Part 0 of a long read-out replaces the snapshot (R177). -/
theorem respond_firstPart (code tag : Byte) (subject : Option Byte) (image : List Byte) (s : State) :
    (respond code tag (firstPart code subject image s.heard)).1 = s.partAnswer code tag subject 0 image := rfl

/-- A later part comes from the snapshot (R177). -/
theorem respond_laterPart (code tag : Byte) (subject : Option Byte) {k : Nat} (hk : k ≠ 0) (image : List Byte)
    (s : State) :
    (respond code tag (laterPart code subject k s.heard)).1 = s.partAnswer code tag subject k image := by
  have snap : s.heard.sru.snapshot = s.sru.snapshot := rfl
  rw [State.partAnswer, if_neg hk, laterPart, snap]
  cases s.sru.snapshot with
  | none => rfl
  | some x =>
    dsimp only
    split <;> rfl

theorem laterPart_tasks (code : Byte) (subject : Option Byte) (k : Nat) (s : State) :
    (laterPart code subject k s).tasks = [] := by
  unfold laterPart
  split
  · split <;> rfl
  · rfl

/-! ## READ_POLL_STATUS (R47) -/

section
variable {s : State} (h : s.servesRequests) (tag : Byte)
include h

theorem exec_readPollStatus_beyond {place : Byte} (hp : 23 < place.toNat) (k : Byte) :
    exec (.readPollStatus tag [place, k]) s = .next (s.answered 0x40 tag .notApplicable []) := by
  have act : Request.act .readPollStatus [place, k] s.heard = refusal .notApplicable s.heard := if_pos hp
  exact (exec_request h (q := .readPollStatus) (tag := tag) rfl rfl rfl nofun act rfl).trans
    (congrArg _ (respond_refusal ..))

theorem exec_readPollStatus_later {place k : Byte} (hp : place.toNat ≤ 23) (hk : k ≠ 0) :
    exec (.readPollStatus tag [place, k]) s = .next (s.partAnswer 0x40 tag (some place) k.toNat []) := by
  have hk : k.toNat ≠ 0 := fun e => hk (BitVec.eq_of_toNat_eq e)
  have act : Request.act .readPollStatus [place, k] s.heard = laterPart 0x40 (some place) k.toNat s.heard :=
    (if_neg (Nat.not_lt.2 hp)).trans (if_neg hk)
  exact (exec_request h (q := .readPollStatus) (tag := tag) rfl rfl rfl nofun act (laterPart_tasks ..)).trans
    (congrArg _ (respond_laterPart 0x40 tag (some place) hk [] s))

/-- Part 0 clears the marks it reports (R47). -/
theorem exec_readPollStatus_first (place : Fin 24) : exec (.readPollStatus tag [BitVec.ofNat 8 place.val, 0]) s = .next
    ((s.clearMarks place).partAnswer 0x40 tag (some (BitVec.ofNat 8 place.val)) 0 (pollImage place s)) := by
  have hu : u8 [BitVec.ofNat 8 place.val, 0] 0 = place.val := Nat.mod_eq_of_lt (by omega)
  have act : Request.act .readPollStatus [BitVec.ofNat 8 place.val, 0] s.heard =
      firstPart 0x40 (some (BitVec.ofNat 8 place.val)) (pollImage place s) (s.clearMarks place).heard := by
    have in_list : ¬23 < place.val := by omega
    have named : Fin.ofNat 24 place.val = place := Fin.ofNat_val_eq_self place
    simp only [Request.act, requestReadPoll, hu, in_list, if_false, named]
    rfl
  exact (exec_request h (q := .readPollStatus) (tag := tag) rfl rfl rfl nofun act rfl).trans
    (congrArg _ (respond_firstPart ..))

end

/-! ## READ_DROP and CLEAR_DROP (R170) -/

/-- The index byte of a place of the log. -/
theorem logIndex (i : Fin 4) (rest : List Byte) : u8 (BitVec.ofNat 8 i.val :: rest) 0 = i.val ∧
    ¬3 < i.val ∧ Fin.ofNat 4 i.val = i :=
  ⟨Nat.mod_eq_of_lt (by omega), by omega, Fin.ofNat_val_eq_self i⟩

section
variable {s : State} (h : s.servesRequests) (tag : Byte)
include h

theorem exec_readDrop_beyond {i : Byte} (hi : 3 < i.toNat) (k : Byte) :
    exec (.readDrop tag [i, k]) s = .next (s.answered 0x30 tag .notApplicable []) := by
  have act : Request.act .readDrop [i, k] s.heard = refusal .notApplicable s.heard := if_pos hi
  exact (exec_request h (q := .readDrop) (tag := tag) rfl rfl rfl nofun act rfl).trans
    (congrArg _ (respond_refusal ..))

theorem exec_clearDrop_beyond {i : Byte} (hi : 3 < i.toNat) :
    exec (.clearDrop tag [i]) s = .next (s.answered 0x31 tag .notApplicable []) := by
  have act : Request.act .clearDrop [i] s.heard = refusal .notApplicable s.heard := if_pos (.inl hi)
  exact (exec_request h (q := .clearDrop) (tag := tag) rfl rfl rfl nofun act rfl).trans
    (congrArg _ (respond_refusal ..))

theorem exec_readDrop_later {i k : Byte} (hi : i.toNat ≤ 3) (hk : k ≠ 0) :
    exec (.readDrop tag [i, k]) s = .next (s.partAnswer 0x30 tag (some i) k.toNat []) := by
  have hk : k.toNat ≠ 0 := fun e => hk (BitVec.eq_of_toNat_eq e)
  have act : Request.act .readDrop [i, k] s.heard = laterPart 0x30 (some i) k.toNat s.heard :=
    (if_neg (Nat.not_lt.2 hi)).trans (if_neg hk)
  exact (exec_request h (q := .readDrop) (tag := tag) rfl rfl rfl nofun act (laterPart_tasks ..)).trans
    (congrArg _ (respond_laterPart 0x30 tag (some i) hk [] s))

variable (i : Fin 4)

theorem exec_readDrop_empty (hn : s.mtu.logAt i = none) :
    exec (.readDrop tag [BitVec.ofNat 8 i.val, 0]) s = .next (s.answered 0x30 tag .notApplicable []) := by
  obtain ⟨hu, hi, named⟩ := logIndex i [0]
  have act : Request.act .readDrop [BitVec.ofNat 8 i.val, 0] s.heard = refusal .notApplicable s.heard := by
    have empty : s.heard.mtu.logAt i = none := hn
    simp only [Request.act, requestReadDrop, hu, hi, if_false, named, empty]
    rfl
  exact (exec_request h (q := .readDrop) (tag := tag) rfl rfl rfl nofun act rfl).trans
    (congrArg _ (respond_refusal ..))

/-- Part 0 marks the record read, and gives it as it was (R170). -/
theorem exec_readDrop_first {r : DropRec} (hr : s.mtu.logAt i = some r) :
    exec (.readDrop tag [BitVec.ofNat 8 i.val, 0]) s = .next ((s.setLog i (some { r with read := true })).partAnswer 0x30
      tag (some (BitVec.ofNat 8 i.val)) 0 (dropImage r)) := by
  obtain ⟨hu, hi, named⟩ := logIndex i [0]
  have act : Request.act .readDrop [BitVec.ofNat 8 i.val, 0] s.heard =
      firstPart 0x30 (some (BitVec.ofNat 8 i.val)) (dropImage r) (s.setLog i (some { r with read := true })).heard := by
    have held : s.heard.mtu.logAt i = some r := hr
    simp only [Request.act, requestReadDrop, hu, hi, if_false, named, held]
    rfl
  exact (exec_request h (q := .readDrop) (tag := tag) rfl rfl rfl nofun act rfl).trans
    (congrArg _ (respond_firstPart ..))

theorem exec_clearDrop_empty (hn : s.mtu.logAt i = none) :
    exec (.clearDrop tag [BitVec.ofNat 8 i.val]) s = .next (s.answered 0x31 tag .notApplicable []) := by
  obtain ⟨hu, -⟩ := logIndex i []
  have act : Request.act .clearDrop [BitVec.ofNat 8 i.val] s.heard = refusal .notApplicable s.heard := by
    have empty : s.heard.mtu.logAt i = none := hn
    simp [Request.act, requestClearDrop, hu, empty]
  exact (exec_request h (q := .clearDrop) (tag := tag) rfl rfl rfl nofun act rfl).trans
    (congrArg _ (respond_refusal ..))

/-- The record leaves the log, and its place the order (R170). -/
theorem exec_clearDrop_held {r : DropRec} (hr : s.mtu.logAt i = some r) :
    exec (.clearDrop tag [BitVec.ofNat 8 i.val]) s = .next (State.answered { s with mtu := { s.mtu with
      log := s.mtu.log.set i none, order := s.mtu.order.filter fun j => decide (j ≠ i) } } 0x31 tag .ok []) := by
  have others : (s.mtu.order.filter fun j => decide (j ≠ i)) = s.mtu.order.filter (· != i) :=
    List.filter_congr fun j _ => by simp [bne, beq_eq_decide]
  rw [others]
  obtain ⟨hu, hi, named⟩ := logIndex i []
  have act : Request.act .clearDrop [BitVec.ofNat 8 i.val] s.heard = acting (State.heard { s with mtu := { s.mtu with
      log := s.mtu.log.set i none, order := s.mtu.order.filter (· != i) } }, []) := by
    have held : s.heard.mtu.logAt i = some r := hr
    simp only [Request.act, requestClearDrop, hu, hi, named, held, Option.isNone_some, Bool.false_eq_true, or_self, if_false]
    rfl
  exact (exec_request h (q := .clearDrop) (tag := tag) rfl rfl rfl nofun act rfl).trans
    (congrArg _ (respond_acting ..))

end

/-! ## The images (Tables 12-5 and 12-7) -/

/-- Four flag bits fit a byte. -/
theorem flagBits_le : ∀ a b c d : Bool, flagBit a 0 + flagBit b 1 + flagBit c 2 + flagBit d 3 ≤ 255 := by decide

/-- The fields of READ_POLL_STATUS for an entry (Table 12-5). -/
theorem pollImage_entry {s : State} {place : Fin 24} (h : (s.pollEntry place).isSome = true) :
    let p := s.poll place
    Fields 0 (pollImage place s) [(0, 4, s.now.toNat), (4, 1, place.val), (5, 1, 1), (6, 1, pollStateCode p.state),
      (7, 1, flagBit p.skipped 0 + flagBit p.late 1 + flagBit p.nextDue.isSome 2 + flagBit p.lastCompletion.isSome 3),
      (8, 4, heldOption 4 (p.nextDue.map fun t => t.toNat)), (12, 1, heldOption 1 (p.lastOutcome.map outcomeCode)),
      (13, 1, heldNumber 1 p.failures), (14, 4, heldOption 4 (p.lastCompletion.map fun t => t.toNat))] 18 [] := by
  intro p
  have outcome : IsField (f1 (outcomeCodeOpt p.lastOutcome)) 1 (heldOption 1 (p.lastOutcome.map outcomeCode)) := by
    cases p.lastOutcome <;> exact f1_field _
  have state : pollStateCode p.state ≤ 255 := by cases p.state <;> decide
  have image : pollImage place s = time4 s.now ++ (f1 place.val ++ (f1 1 ++ (f1 (pollStateCode p.state) ++
      (f1 (flagBit p.skipped 0 + flagBit p.late 1 + flagBit p.nextDue.isSome 2 + flagBit p.lastCompletion.isSome 3) ++
      (optField 4 (p.nextDue.map time4) ++ (f1 (outcomeCodeOpt p.lastOutcome) ++ (f1 p.failures ++
      (optField 4 (p.lastCompletion.map time4) ++ [])))))))) := by
    simp [pollImage, h, p]
  rw [image]
  exact .cons (time4_field _) <| .cons (f1_field_of_le (by omega)) <| .cons (f1_field_of_le (by decide)) <|
    .cons (f1_field_of_le state) <| .cons (f1_field_of_le (flagBits_le ..)) <| .cons (optTime_field _) <|
    .cons outcome <| .cons (f1_field _) <| .cons (optTime_field _) .nil

/-- The fields of READ_POLL_STATUS for an empty place (R197, log entry 37). -/
theorem pollImage_empty {s : State} {place : Fin 24} (h : (s.pollEntry place).isSome = false) :
    Fields 0 (pollImage place s) [(0, 4, s.now.toNat), (4, 1, place.val), (5, 1, 0), (6, 1, 0xFF), (7, 1, 0),
      (8, 4, 0xFFFFFFFF), (12, 2, 0xFFFF), (14, 4, 0xFFFFFFFF)] 18 [] := by
  have image : pollImage place s = time4 s.now ++ (f1 place.val ++ (f1 0 ++ (f1 0xFF ++ (f1 0 ++
      (List.replicate 4 0xFF ++ (List.replicate 2 0xFF ++ (List.replicate 4 0xFF ++ []))))))) := by
    simp [pollImage, h]
  rw [image]
  exact .cons (time4_field _) <| .cons (f1_field_of_le (by omega)) <| .cons (f1_field_of_le (by decide)) <|
    .cons (f1_field_of_le (by decide)) <| .cons (f1_field_of_le (by decide)) <| .cons (replicate_field 4) <|
    .cons (replicate_field 2) <| .cons (replicate_field 4) .nil

/-- The fields of a drop record, with the packed trace behind them (Table 12-7, R167). -/
theorem dropImage_fields (r : DropRec) :
    let snap := fun (f : DropSnap → Nat) => heldOption 1 (r.snap.map f)
    let codes := r.before ++ [r.peakTrace] ++ r.after
    Fields 0 (dropImage r) [(0, 2, r.seq.toNat), (2, 1, dropCode r.kind),
      (3, 1, flagBit r.followed 0 + flagBit r.read 1 + flagBit r.parkToImpact.isSome 2 + flagBit r.snap.isSome 3),
      (4, 4, r.start.toNat), (8, 2, heldNumber 2 r.freeFall), (10, 2, heldOption 2 r.parkToImpact),
      (12, 2, heldNumber 2 r.peakCode), (14, 1, axisCode r.axis), (15, 1, heldNumber 1 r.impacts),
      (16, 2, heldNumber 2 r.settle), (18, 1, snap fun x => srcCode x.onSrc), (19, 1, snap fun x => classCode x.cls),
      (20, 1, snap fun x => bayStateCode x.bayA), (21, 1, snap fun x => bayStateCode x.bayB),
      (22, 1, heldNumber 1 codes.length)] 23 (packTrace codes) := by
  intro snap codes
  have seq : IsField (f2 r.seq.toNat) 2 r.seq.toNat := by
    have held : heldNumber 2 r.seq.toNat = r.seq.toNat := Nat.min_eq_left (by have := r.seq.isLt; omega)
    simpa only [held] using f2_field r.seq.toNat
  have kind : dropCode r.kind ≤ 255 := by cases r.kind <;> decide
  have axis : axisCode r.axis ≤ 255 := by cases r.axis <;> decide
  have snapped : ∀ f : DropSnap → Nat, IsField (optField 1 (r.snap.map fun x => f1 (f x))) 1 (snap f) :=
    fun f => optField_field (fun x => f1_field (f x)) r.snap
  have count : r.before.length + 1 + r.after.length = codes.length := by simp [codes]; omega
  have trace : r.before ++ ([r.peakTrace] ++ r.after) = codes := by simp [codes]
  simp only [dropImage, List.append_assoc, count, trace]
  exact .cons seq <| .cons (f1_field_of_le kind) <| .cons (f1_field_of_le (flagBits_le ..)) <|
    .cons (time4_field _) <| .cons (f2_field _) <| .cons (optNumber_field _) <| .cons (f2_field _) <|
    .cons (f1_field_of_le axis) <| .cons (f1_field _) <| .cons (f2_field _) <| .cons (snapped _) <|
    .cons (snapped _) <| .cons (snapped _) <| .cons (snapped _) <| .cons (f1_field _) .nil

/-- Settles O29: the three requests by what their bytes name, then the images field by field. -/
theorem pollAndDropReadsAct : Obligations.PollAndDropReadsAct := by
  intro s tag h
  refine ⟨exec_readPollStatus_first h tag, fun place k hp => exec_readPollStatus_beyond h tag hp k,
    fun place k hp hk => exec_readPollStatus_later h tag hp hk,
    fun i r hr => ⟨exec_readDrop_first h tag i hr, exec_clearDrop_held h tag i hr⟩,
    fun i hn => ⟨exec_readDrop_empty h tag i hn, exec_clearDrop_empty h tag i hn⟩,
    fun i k hi hk => exec_readDrop_later h tag hi hk,
    fun i k hi => ⟨exec_readDrop_beyond h tag hi k, exec_clearDrop_beyond h tag hi⟩, fun place => ?poll, fun r => ?drop⟩
  case poll =>
    intro image p
    cases he : (s.pollEntry place).isSome with
    | true =>
      have fields := pollImage_entry he
      obtain ⟨head, rest⟩ := List.forall_mem_append (l₁ := [_, _]).1 fields.readsAs
      exact ⟨fields.length, head, rest⟩
    | false =>
      have fields := pollImage_empty he
      obtain ⟨head, rest⟩ := List.forall_mem_append (l₁ := [_, _]).1 fields.readsAs
      exact ⟨fields.length, head, rest⟩
  case drop =>
    intro image snap codes
    have fields := dropImage_fields r
    have trace : (packTrace codes).length = 36 := by simp [packTrace]
    refine ⟨fields.length.trans (by rw [trace]), fields.readsAs, fun n hn => ?_⟩
    rw [fields.byteAt_tail, getLsbD_packTrace codes hn]
    cases codes[n / 12]? <;> rfl

end Sys2Proof.Machine
end

section
/-!
SUPPORT. The state and the command that refute O13: the flag is set before and after the command and clears within it.
-/

namespace Sys2Proof.Machine

/-- A slot FRESH since 1,000 ms. -/
def freshSlot (value : Int) : Slot :=
  { state := .fresh, value := value, time := some 1000, source := some .poll, implausible := 0 }

/-- The motion read that SP4 executes. -/
def motionRead : EngTxn :=
  { issuer := .mtu, cls := .motion, arrival := 0, passedOver := 0, gate := none, write := false, down := 0x19, cmd := 0
    data := [], readLen := 24, checked := false }

/-- Bay A is ACTIVE and its pack the ON source; DC stands by at the rail's voltage. The Motion Unit is in SENSOR_LOST
under the shock-hold flag, with a read under way; bay A's latch line has been open for 500 ms, which has not been taken
yet; and a SUPPLY reload waits. -/
def latchOpenUnderFlag : State :=
  let s := State.reset
  { s with
    now := 1000
    uli := { s.uli with phase := .idle }
    lines := { s.lines with dcinOk := true }
    ports := { s.ports with p4 := { s.ports.p4 with state := .busy, running := some (.engine motionRead, 990) } }
    slots := (s.slots.set 13 (freshSlot 19000)).set 14 (freshSlot 19000)
    ppc := { s.ppc with
      sources := { s.ppc.sources with a := { s.ppc.sources.a with sw := .on, onSince := some 500 } }
      managed := true
      onSrc := some .a
      startup := none
      supplyDue := true }
    bays := { s.bays with a := { s.bays.a with
      state := .active, present := true, latchClosed := true
      latchFilter := { line := false, out := true, since := some 500 } } }
    brc := { s.brc with write := .executing 500 }
    mtu := { s.mtu with state := .sensorLost, shockHold := true, placed := true }
    smi := { s.smi with activity := .idle } }

/-- The read completes; its first sample is a blow. -/
def blowRead : Instr := .portTransactionComplete .sp4 (.exchanged (0xFF :: 0x7F :: List.replicate 30 0) 0)

/-- The state after it. -/
def afterBlow : State := perform (commandAct blowRead) latchOpenUnderFlag

theorem exec_blowRead : exec blowRead latchOpenUnderFlag = .next afterBlow := by
  rw [exec_eq (by simp [blowRead]), afterBlow]

/-- The first sample ends SENSOR_LOST, which clears the flag; the SUPPLY reload takes the latch change there, and the bay
is released by its latch; the sample then sets the flag again. -/
theorem afterBlow_released : afterBlow.agenda = [] ∧ afterBlow.mtu.shockHold = true ∧
    (afterBlow.bay .a).state = .releasing ∧ (afterBlow.bay .a).origin = some .latch := by
  decide +kernel

/-- Refutes O13: the flag that is set before and after a command may clear within it. The first sample of a motion read
in SENSOR_LOST clears it; a SUPPLY reload that waits without an attempt, which no hypothesis excludes, is then taken with
the latch change that is due, and sends the ACTIVE bay to RELEASING with origin LATCH; the same sample, a blow, sets the
flag again. -/
theorem not_shockHoldHoldsOff : ¬ Obligations.ShockHoldHoldsOff := by
  intro h
  obtain ⟨ha, hf, hr, ho⟩ := afterBlow_released
  have := (h blowRead latchOpenUnderFlag afterBlow rfl ha exec_blowRead rfl hf).1 .a (.inr rfl) hr
  exact absurd (ho.symm.trans this) (by decide)

end Sys2Proof.Machine
end

section
/-!
SUPPORT. The induction for a property that speaks of the tasks still to be worked off: what a run does not reach stays
on the agenda, and the property then speaks of that (log entry 4).
-/

namespace Sys2Proof.Machine

/-- A property of the state and of the tasks still to be worked off, such as "told, or still to be told": a handling
takes its task and adds those it starts. -/
structure Stacked (I : State → List Task → Prop) : Prop where
  mono : ∀ {s l l'}, I s l → l ⊆ l' → I s l'
  agenda : ∀ {s l} ts, I s l → I { s with agenda := ts } l
  kept : ∀ t s l, I s (t :: l) → I (handle t s).1 ((handle t s).2 ++ l)

theorem Stacked.run {I : State → List Task → Prop} (hI : Stacked I) : ∀ fuel ts s, I s ts →
    I (run fuel ts s) (run fuel ts s).agenda := by
  intro fuel
  induction fuel with
  | zero =>
    intro ts s h
    cases ts with
    | nil => exact hI.mono h (by simp)
    | cons t ts => exact hI.agenda (t :: ts) h
  | succ fuel ih =>
    intro ts s h
    cases ts with
    | nil => exact hI.mono h (by simp)
    | cons t ts => exact ih _ _ (hI.kept t s ts h)

/-- A first change that keeps the property, whatever is still to be worked off, carries it through a whole handling. -/
theorem Stacked.perform {I : State → List Task → Prop} (hI : Stacked I) {f : State → Act}
    (first : ∀ s l, I s l → I (f s).1 ((f s).2 ++ l)) {s : State} (h : I s s.agenda) :
    I (perform f s) (perform f s).agenda := by
  refine hI.run _ _ _ (hI.mono (first _ _ (hI.agenda [] (hI.run stepFuel s.agenda _ (hI.agenda [] h)))) ?_)
  intro t ht
  simpa [or_comm] using ht

/-- A step keeps such a property of the agenda, when power-on reset and every first change do, and when it reads neither
the queue of commands nor the timebase. -/
theorem Stacked.step {I : State → List Task → Prop} (hI : Stacked I)
    (queue : ∀ {s l} cs, I s l → I { s with pending := cs } l)
    (timebase : ∀ {s l} n, I s l → I { s with now := n } l)
    (acts : ∀ c s l, I s l → I (commandAct c s).1 ((commandAct c s).2 ++ l))
    (reset : ∀ (s : State) a b, I (State.afterReset s.pending s.lines a b s.smi.memory s.smi.answers) [])
    {s t : State} (hs : I s s.agenda) (h : step s = .next t) : I t t.agenda := by
  unfold Machine.step at h
  split at h
  next c rest _ =>
    rcases exec_cases h with ⟨-, rfl⟩ | ⟨-, rfl⟩
    · exact reset { s with pending := rest } _ _
    · exact hI.perform (acts c) (queue rest hs)
  next =>
    cases h
    exact hI.perform (fun _ _ h => h) (timebase _ hs)

end Sys2Proof.Machine
end

section
/-!
SUPPORT. What an operation of the Power Path Controller does to its record, said once: most leave the switches, the ON
source, the attempt and the bays as they are; the rest keep SHDN_REQ and the path mode to what they follow (R71, R89),
and begin no attempt under the shock-hold flag but that of a release of origin REQUEST (R77).
-/

namespace Sys2Proof.Machine

/-- SHDN_REQ follows the causes, and the path mode the ON source. -/
def Ppc.follows (p : Ppc) : Prop := p.shdnReq = (p.causeBridge || p.causeNoAlternate) ∧ p.managed = p.onSrc.isSome

theorem Ppc.request_follows {p : Ppc} (h : p.managed = p.onSrc.isSome) : p.request.follows := ⟨rfl, h⟩

/-! ## Operations that move nothing -/

/-- The switches, the ON source, the attempt and the bays are as they were, and SHDN_REQ and the path mode still
follow. -/
structure Quiet (s t : State) : Prop where
  source : ∀ x, (t.source x).sw = (s.source x).sw ∧ (t.source x).onSince = (s.source x).onSince
  onSrc : t.ppc.onSrc = s.ppc.onSrc
  attempt : t.ppc.attempt = s.ppc.attempt
  follows : s.ppc.follows → t.ppc.follows
  bays : t.bays = s.bays
  flag : t.mtu.shockHold = s.mtu.shockHold

theorem Quiet.refl (s : State) : Quiet s s := ⟨fun _ => ⟨rfl, rfl⟩, rfl, rfl, id, rfl, rfl⟩

theorem Quiet.trans {s t u : State} (h : Quiet s t) (k : Quiet t u) : Quiet s u where
  source x := ⟨(k.source x).1.trans (h.source x).1, (k.source x).2.trans (h.source x).2⟩
  onSrc := k.onSrc.trans h.onSrc
  attempt := k.attempt.trans h.attempt
  follows hs := k.follows (h.follows hs)
  bays := k.bays.trans h.bays
  flag := k.flag.trans h.flag

/-- A change of what is neither a switch nor the ON source, the attempt, the causes or the path mode. -/
theorem Quiet.of_ppc {s t : State} (hs : t.ppc.sources = s.ppc.sources) (ho : t.ppc.onSrc = s.ppc.onSrc)
    (ha : t.ppc.attempt = s.ppc.attempt) (hf : s.ppc.follows → t.ppc.follows) (hb : t.bays = s.bays)
    (hm : t.mtu.shockHold = s.mtu.shockHold) : Quiet s t :=
  ⟨fun x => by simp [State.source, hs], ho, ha, hf, hb, hm⟩

/-- An operation that leaves the Power Path Controller, the bays and the Motion Unit alone. -/
theorem Quiet.of_eq {s t : State} (hp : t.ppc = s.ppc) (hb : t.bays = s.bays) (hm : t.mtu.shockHold = s.mtu.shockHold) :
    Quiet s t :=
  .of_ppc (by rw [hp]) (by rw [hp]) (by rw [hp]) (by rw [hp]; exact id) hb hm

theorem notify_quiet (s : State) (p : Post) : Quiet s (s.notify p) := .of_eq rfl rfl rfl

theorem refresh_quiet (s : State) : Quiet s s.refresh where
  source x := by cases x <;> exact ⟨rfl, rfl⟩
  onSrc := rfl
  attempt := rfl
  follows h := h
  bays := rfl
  flag := rfl

/-- The causes change with SHDN_REQ. -/
theorem request_quiet (s : State) (bridge alternate : Bool) : Quiet s
    { s with ppc := Ppc.request { s.ppc with causeBridge := bridge, causeNoAlternate := alternate } } :=
  .of_ppc rfl rfl rfl (fun h => Ppc.request_follows h.2) rfl rfl

theorem setHeldOff_quiet (s : State) (x : Src) (held : Bool) : Quiet s (s.setHeldOff x held) where
  source y := by
    by_cases h : y = x
    · subst h; simp [State.setHeldOff]
    · simp [State.setHeldOff, State.setSource_source_ne, h]
  onSrc := rfl
  attempt := rfl
  follows h := h
  bays := rfl
  flag := rfl

theorem heldBack_quiet (s : State) (kind : WalkKind) : Quiet s (s.heldBack kind) := .of_ppc rfl rfl rfl id rfl rfl

theorem moveTold_quiet (s : State) : Quiet s s.moveTold := .of_ppc rfl rfl rfl id rfl rfl

theorem takeDueSupply_quiet (s : State) : Quiet s s.takeDueSupply := .of_ppc rfl rfl rfl id rfl rfl

theorem dropRelease_quiet (s : State) (bay : Bay) : Quiet s (s.dropRelease bay) := .of_ppc rfl rfl rfl id rfl rfl

theorem releasePending_quiet (s : State) : Quiet s s.releasePending := .of_ppc rfl rfl rfl id rfl rfl

theorem forceSupply_quiet (s : State) : Quiet s s.forceSupply := .of_ppc rfl rfl rfl id rfl rfl

theorem bridgeStopFor_quiet (s : State) (target : Src) : Quiet s (s.bridgeStopFor target) := by
  unfold State.bridgeStopFor
  split
  · exact .of_ppc rfl rfl rfl id rfl rfl
  · exact .refl s

theorem endWalk_quiet (kind : WalkKind) (s : State) : Quiet s (endWalk kind s).1 := by cases kind <;> exact .refl s

theorem goOn_quiet (kind : WalkKind) (rest : List Src) (s : State) : Quiet s (goOn kind rest s).1 := by
  unfold goOn
  split
  · exact moveTold_quiet s
  · exact .refl s

theorem reselect_quiet (s : State) : Quiet s (reselect s).1 := by
  unfold reselect startSelection
  split <;> exact .of_ppc rfl rfl rfl id rfl rfl

theorem checkAlternates_quiet (s : State) : Quiet s (checkAlternates s).1 := by
  unfold checkAlternates
  split <;> exact .of_ppc rfl rfl rfl id rfl rfl

theorem addBridgeCause_quiet (why : Int) (s : State) : Quiet s (addBridgeCause why s) := by
  unfold addBridgeCause
  split
  · exact .refl s
  · exact (request_quiet s true s.ppc.causeNoAlternate).trans (notify_quiet ..)

theorem checkBridge_quiet (s : State) : Quiet s (checkBridge s) := by
  unfold checkBridge
  split
  · exact addBridgeCause_quiet ..
  · exact .refl s

theorem expireBridge_quiet (s : State) : Quiet s (expireBridge s).1 := by
  unfold expireBridge
  split
  · exact .refl s
  · exact Quiet.trans (t := { s with ppc := { s.ppc with bridge := none } }) (.of_ppc rfl rfl rfl id rfl rfl)
      (addBridgeCause_quiet ..)

theorem noAlternate_quiet (lost : Src) (s : State) : Quiet s (noAlternate lost s).1 := by
  unfold noAlternate
  split
  · exact .refl s
  · exact (request_quiet s s.ppc.causeBridge true).trans (notify_quiet ..)

theorem dropNoAlternate_quiet (s : State) : Quiet s s.dropNoAlternate := by
  unfold State.dropNoAlternate
  (repeat' split)
  · exact .refl s
  · exact request_quiet s s.ppc.causeBridge false
  · exact .refl s

theorem expireDwell_quiet (s : State) : Quiet s (expireDwell s).1 := by
  unfold expireDwell
  split
  · exact .refl s
  · exact .of_ppc rfl rfl rfl id rfl rfl

theorem emptySource_quiet (s : State) (bay : Bay) : Quiet s (s.emptySource bay) := by
  unfold State.emptySource
  split
  · exact (dropRelease_quiet s bay).trans (setHeldOff_quiet ..)
  · exact .refl s

theorem supplyReload_quiet (s : State) : Quiet s s.supplyReload.1 := by
  unfold State.supplyReload
  split
  · exact .of_ppc rfl rfl rfl id rfl rfl
  · exact forceSupply_quiet s

/-! ## Attempts and causes over any operation -/

/-- SHDN_REQ and the path mode still follow, and an attempt that is awaited was awaited before, is that of a release of
origin REQUEST, or began with the shock-hold flag clear. -/
structure Turn (s t : State) : Prop where
  follows : s.ppc.follows → t.ppc.follows
  flag : t.mtu.shockHold = s.mtu.shockHold
  attempt : ∀ a, t.ppc.attempt = some a → s.ppc.attempt = some a ∨ a.kind.explicit = true ∨ s.mtu.shockHold = false

theorem Quiet.turn {s t : State} (h : Quiet s t) : Turn s t := ⟨h.follows, h.flag, fun _ ha => .inl (h.attempt ▸ ha)⟩

theorem Turn.trans {s t u : State} (h : Turn s t) (k : Turn t u) : Turn s u where
  follows hs := k.follows (h.follows hs)
  flag := k.flag.trans h.flag
  attempt a ha := by
    rcases k.attempt a ha with ha | ha | hf
    · exact h.attempt a ha
    · exact .inr (.inl ha)
    · exact .inr (.inr (h.flag ▸ hf))

/-- An operation that changes no cause, and neither the ON source nor the attempt. -/
theorem Turn.of_ppc {s t : State} (hf : s.ppc.follows → t.ppc.follows) (ha : t.ppc.attempt = s.ppc.attempt)
    (hm : t.mtu.shockHold = s.mtu.shockHold) : Turn s t := ⟨hf, hm, fun _ h => .inl (ha ▸ h)⟩

theorem setSource_turn (s : State) (x : Src) (r : SourceRec) : Turn s (s.setSource x r) := .of_ppc id rfl rfl

theorem commandOn_turn (x : Src) (s : State) : Turn s (commandOn x s).1 :=
  .of_ppc (by rw [commandOn_ppc]; exact id) (by rw [commandOn_ppc]; rfl) (by simp)

theorem commandOff_turn (x : Src) (sw : Switch) (s : State) : Turn s (commandOff x sw s).1 :=
  .of_ppc (by rw [commandOff_ppc]; exact id) (by rw [commandOff_ppc]; rfl) (by simp)

theorem setIdleSwitch_turn (s : State) (x : Src) (sw : Switch) : Turn s (s.setIdleSwitch x sw) := by
  unfold State.setIdleSwitch
  split
  · exact (Quiet.refl s).turn
  · exact setSource_turn ..

theorem restoreStandby_turn (s : State) (bay : Bay) : Turn s (s.restoreStandby bay) := by
  unfold State.restoreStandby
  split
  · exact setIdleSwitch_turn ..
  · exact (Quiet.refl s).turn

theorem holdOff_turn (s : State) (bay : Bay) (held : Bool) : Turn s (s.holdOff bay held) := by
  refine (setHeldOff_quiet s (baySrc bay) held).turn.trans ?_
  cases held
  · exact restoreStandby_turn ..
  · exact setIdleSwitch_turn ..

theorem enterSwitch_turn (s : State) (bay : Bay) : Turn s (s.enterSwitch bay) := by
  unfold State.enterSwitch
  (repeat' split)
  · exact setIdleSwitch_turn ..
  · exact setIdleSwitch_turn ..
  · exact (Quiet.refl _).turn

/-- A turn-on command that the flag does not stop. -/
theorem beginAttempt_turn {kind : WalkKind} {s : State} (h : kind.explicit = true ∨ s.mtu.shockHold = false)
    (target : Src) (rest : List Src) : Turn s (beginAttempt kind target rest s).1 where
  follows := (commandOn_turn target s).follows
  flag := by simp
  attempt _ ha := by
    obtain rfl := Option.some.inj ha
    exact .inr h

theorem walkOn_turn (kind : WalkKind) (candidates : List Src) (s : State) : Turn s (walkOn kind candidates s).1 := by
  unfold walkOn
  split
  · exact (Quiet.refl s).turn
  split
  · exact (heldBack_quiet s kind).turn
  next hf =>
    have hk : kind.explicit = true ∨ s.mtu.shockHold = false := by
      cases hk : kind.explicit <;> simp_all
    split
    · exact (endWalk_quiet kind s).turn
    · split
      · exact (endWalk_quiet kind s).turn
      split
      · exact beginAttempt_turn hk ..
      · exact (Quiet.refl s).turn

/-- An attempt that ends without success. -/
theorem failAttempt_turn (a : Attempt) (sw : Switch) (result : MoveResult) (s : State) :
    Turn s (failAttempt a sw result s).1 := by
  refine Turn.trans ?_ (bridgeStopFor_quiet ..).turn
  exact (commandOff_turn a.target sw s).trans ⟨id, rfl, nofun⟩

/-- An attempt that completes. -/
theorem completeAttempt_turn (result : MoveResult) (severity : Severity) (lost : Bool) (s : State) :
    Turn s (completeAttempt result severity lost s).1 := by
  unfold completeAttempt
  split
  · exact (Quiet.refl s).turn
  · exact ⟨fun _ => ⟨rfl, rfl⟩, by simp, nofun⟩

/-- A takeover awaits no attempt but one that was awaited. -/
theorem takeOver_turn (lost target : Src) (urgent : Bool) (s : State) : Turn s (takeOver lost target urgent s).1 := by
  have left : Turn s (leaveForTakeover lost s).1 := by
    unfold leaveForTakeover restSource
    refine (commandOff_turn lost .off s).trans ?_
    (repeat' split)
    · exact (Quiet.refl _).turn
    · exact commandOff_turn ..
    · exact (Quiet.refl _).turn
  refine (left.trans (commandOn_turn target _)).trans ?_
  exact ⟨fun _ => ⟨rfl, rfl⟩, by simp [takeOver], fun a ha => .inl ha⟩

theorem onTakeover_turn (lost : Src) (urgent : Bool) (s : State) : Turn s (onTakeover lost urgent s).1 := by
  unfold onTakeover
  (repeat' split)
  · exact (Quiet.refl s).turn
  · exact takeOver_turn ..
  · exact (Quiet.refl s).turn
  · exact takeOver_turn ..
  · exact (noAlternate_quiet ..).turn
  · exact (Quiet.refl s).turn

theorem repeatedTakeover_turn (lost : Src) (s : State) : Turn s (repeatedTakeover lost s).1 := by
  unfold repeatedTakeover
  split
  · exact onTakeover_turn ..
  · exact (Quiet.refl s).turn

theorem loseTarget_turn (a : Attempt) (urgent trigger : Bool) (s : State) :
    Turn s (loseTarget a urgent trigger s).1 := by
  have failed := failAttempt_turn a .off .aborted s
  unfold loseTarget
  split
  · exact failed.trans (takeDueSupply_quiet _).turn
  · exact failed
  · exact failed.trans (onTakeover_turn ..)
  · exact failed.trans (onTakeover_turn ..)

theorem onLoss_turn (x : Src) (urgent trigger : Bool) (s : State) : Turn s (onLoss x urgent trigger s).1 := by
  unfold onLoss
  (repeat' split)
  · exact loseTarget_turn ..
  · exact completeAttempt_turn ..
  · exact (Quiet.refl s).turn
  · exact onTakeover_turn ..
  · exact (Quiet.refl s).turn

theorem bridgeAttempt_turn {s : State} (h : s.mtu.shockHold = false) : Turn s (bridgeAttempt s).1 :=
  have dropped : Turn s { s with ppc := { s.ppc with bridgeDue := false } } := .of_ppc id rfl rfl
  dropped.trans (beginAttempt_turn (s := { s with ppc := { s.ppc with bridgeDue := false } }) (.inr h) .br [])

theorem confirmAttempt_turn (s : State) : Turn s (confirmAttempt s).1 := by
  unfold confirmAttempt
  split
  · exact completeAttempt_turn ..
  · exact (Quiet.refl s).turn

theorem expireConfirm_turn (s : State) : Turn s (expireConfirm s).1 := by
  unfold expireConfirm
  (repeat' split)
  · exact (Quiet.refl s).turn
  · exact (Quiet.refl s).turn
  · exact ((failAttempt_turn ..).trans (notify_quiet ..).turn).trans (takeDueSupply_quiet _).turn

theorem takeWaiting_turn (s : State) : Turn s (takeWaiting s).1 := by
  unfold takeWaiting
  (repeat' split)
  · exact (Quiet.refl s).turn
  · exact (takeDueSupply_quiet s).turn
  · exact (dropRelease_quiet s _).turn
  · exact (dropRelease_quiet s _).turn
  · exact (checkAlternates_quiet s).turn
  · exact (releasePending_quiet s).turn
  · exact .of_ppc id rfl rfl
  · exact bridgeAttempt_turn (by simp_all)
  · exact (Quiet.refl s).turn

theorem onReleaseRequest_turn (bay : Bay) (origin : Origin) (s : State) : Turn s (onReleaseRequest bay origin s).1 := by
  unfold onReleaseRequest
  (repeat' split)
  · exact (Quiet.refl s).turn
  · exact .of_ppc id rfl rfl
  · exact (Quiet.refl s).turn
  · exact setSource_turn ..

/-- The state in which DC has been brought to the new level of its line (R68, R72). -/
def State.withDcin (s : State) (high : Bool) : State :=
  (State.refresh { s with lines := { s.lines with dcinOk := high } }).setIdleSwitch .dc (if high then .standby else .off)

theorem onDcin_eq (high : Bool) (s : State) : onDcin high s = if s.lines.dcinOk = high then (s, [])
    else if high then (s.withDcin high, [.trigger]) else onLoss .dc true true (s.withDcin high) := rfl

theorem withDcin_turn (s : State) (high : Bool) : Turn s (s.withDcin high) := by
  have lined : Turn s { s with lines := { s.lines with dcinOk := high } } := .of_ppc id rfl rfl
  exact (lined.trans (refresh_quiet _).turn).trans (setIdleSwitch_turn ..)

theorem onDcin_turn (high : Bool) (s : State) : Turn s (onDcin high s).1 := by
  rw [onDcin_eq]
  (repeat' split)
  · exact (Quiet.refl s).turn
  · exact withDcin_turn ..
  · exact (withDcin_turn ..).trans (onLoss_turn ..)

theorem powerOnBay_turn (bay : Bay) (old new : BayState) (s : State) : Turn s (powerOnBay bay old new s).1 := by
  have entered : Turn s ((s.emptySource bay).enterSwitch bay).refresh :=
    ((emptySource_quiet s bay).turn.trans (enterSwitch_turn ..)).trans (refresh_quiet _).turn
  unfold powerOnBay
  dsimp only
  (repeat' split)
  · exact entered.trans (onLoss_turn ..)
  · exact entered
  · exact entered
  · exact entered

theorem packTooHot_turn (bay : Bay) (s : State) : Turn s (packTooHot bay s).1 := by
  have held : Turn s (s.holdOff bay true).refresh := (holdOff_turn s bay true).trans (refresh_quiet _).turn
  unfold packTooHot
  dsimp only
  split
  · exact held.trans (onLoss_turn ..)
  · exact held

theorem packCool_turn (bay : Bay) (s : State) : Turn s (packCool bay s).1 :=
  ((holdOff_turn s bay false).trans (dropNoAlternate_quiet _).turn).trans (refresh_quiet _).turn

theorem powerOnWrite_turn (slot : Fin 32) (old : Slot) (s : State) : Turn s (powerOnWrite slot old s).1 := by
  unfold powerOnWrite temperatureWritten
  (repeat' split)
  · exact (refresh_quiet s).turn
  · exact (refresh_quiet s).turn
  · exact (Quiet.refl s).turn
  · exact (Quiet.refl s).turn
  · exact (Quiet.refl s).turn
  · exact (Quiet.refl s).turn
  · exact packTooHot_turn ..
  · exact packCool_turn ..
  · exact packTooHot_turn ..
  · exact packCool_turn ..
  · exact ((checkBridge_quiet s).trans (refresh_quiet _)).turn
  · exact (Quiet.refl s).turn
  · exact (Quiet.refl s).turn

theorem powerOnLapse_quiet (slot : Fin 32) (s : State) : Quiet s (powerOnLapse slot s).1 := by
  unfold powerOnLapse
  split
  · exact .refl s
  · exact refresh_quiet s

theorem expireStartup_turn (s : State) : Turn s (expireStartup s).1 := by
  unfold expireStartup
  dsimp only
  (repeat' split)
  · exact (Quiet.refl s).turn
  · exact .of_ppc id rfl rfl
  · exact .of_ppc id rfl rfl
  · refine Turn.trans (t := { s with ppc := { s.ppc with startup := none, startupExpired := true } })
      (.of_ppc id rfl rfl) (bridgeAttempt_turn ?_)
    simp_all

theorem giveUpAttempt_turn (s : State) : Turn s (giveUpAttempt s).1 := by
  unfold giveUpAttempt
  (repeat' split)
  · exact (Quiet.refl s).turn
  · exact (Quiet.refl s).turn
  · exact (failAttempt_turn ..).trans (heldBack_quiet ..).turn

theorem powerOnFlag_turn (set : Bool) (s : State) : Turn s (powerOnFlag set s).1 := by
  unfold powerOnFlag
  split
  · exact giveUpAttempt_turn s
  · exact (Quiet.refl s).turn

/-- The eligibilities and the held-off marks under the SUPPLY table in force (R90). -/
def State.resupplied (s : State) : State := (((s.reholdBay .a).reholdBay .b).dropNoAlternate).refresh

/-- The timers under the SUPPLY table in force, whose switch has been told (R90). -/
def State.retimed (s : State) : State :=
  { s with ppc := { s.ppc with
    switching := false, bridge := retime s.ppc.bridge (1000 * s.supply.bridgeTime), dwell := s.dwellLeft } }

theorem supplyPowerSwitch_eq (s : State) :
    supplyPowerSwitch s = ((expireBridge s.resupplied.retimed).1, [.trigger, .settled]) := rfl

theorem retimed_quiet (s : State) : Quiet s s.retimed := .of_ppc rfl rfl rfl id rfl rfl

theorem supplyPowerSwitch_turn (s : State) : Turn s (supplyPowerSwitch s).1 := by
  have held : Turn s s.resupplied :=
    (((holdOff_turn s .a _).trans (holdOff_turn _ .b _)).trans (dropNoAlternate_quiet _).turn).trans
      (refresh_quiet _).turn
  rw [supplyPowerSwitch_eq]
  exact held.trans ((retimed_quiet _).trans (expireBridge_quiet _)).turn

end Sys2Proof.Machine
end

section
/-!
SUPPORT. The sources and the bays' switches through the operations of the Power Path Controller (R71, R79, R82, R85,
R95): each operation that turns a source ON or takes it off keeps the ON source and the awaited target the ones that are
ON, and keeps every bay's switch to the bay's state, or the bay's change still to be told (R94).
-/

namespace Sys2Proof.Machine

/-- A bay's switch is as its state has it (R95, Table 4-3): ON only where the bay carries the load, OFF in the states
without an admitted pack. -/
def State.switchFits (s : State) (bay : Bay) : Prop :=
  ((s.source (baySrc bay)).sw = .on → (s.bay bay).carries = true) ∧
    (offState (s.bay bay).state = true → (s.source (baySrc bay)).sw = .off)

/-- A change of the bay's state is still to be told to the Power Path Controller. -/
def Untold (bay : Bay) (ts : List Task) : Prop := ∃ old new, Task.powerBay bay old new ∈ ts

theorem Untold.mono {bay : Bay} {l l' : List Task} (h : Untold bay l) (hl : l ⊆ l') : Untold bay l' := by
  obtain ⟨old, new, h⟩ := h
  exact ⟨old, new, hl h⟩

theorem Untold.left {bay : Bay} {l : List Task} (h : Untold bay l) (l' : List Task) : Untold bay (l ++ l') :=
  h.mono (by simp)

theorem Untold.right {bay : Bay} {l : List Task} (h : Untold bay l) (l' : List Task) : Untold bay (l' ++ l) :=
  h.mono (by simp)

/-- A bay's switch fits its state, or the bay's change is still to be told. -/
def State.fitsOrUntold (s : State) (l : List Task) (bay : Bay) : Prop := s.switchFits bay ∨ Untold bay l

/-- The sources are as R71 has them, and each bay's switch fits or is still to be told. -/
structure LoadSafe (s : State) (l : List Task) : Prop where
  sources : s.sourcesSafe
  bays : ∀ bay, s.fitsOrUntold l bay

theorem State.switchesSafe_iff (s : State) : s.switchesSafe ↔ ∀ bay, s.fitsOrUntold s.agenda bay := by
  have split_or : ∀ p q r : Prop, (p ∨ r) ∧ (q ∨ r) ↔ (p ∧ q) ∨ r := fun p q r => by tauto
  unfold State.switchesSafe State.fitsOrUntold State.switchFits
  refine forall_congr' fun bay => ?_
  show _ ↔ _ ∨ s.newsDue bay
  tauto

theorem loadSafe_iff (s : State) : LoadSafe s s.agenda ↔ s.sourcesSafe ∧ s.switchesSafe :=
  ⟨fun h => ⟨h.sources, s.switchesSafe_iff.2 h.bays⟩, fun h => ⟨h.1, s.switchesSafe_iff.1 h.2⟩⟩

theorem LoadSafe.mono {s : State} {l l' : List Task} (h : LoadSafe s l) (hl : l ⊆ l') : LoadSafe s l' :=
  ⟨h.sources, fun bay => (h.bays bay).imp_right (·.mono hl)⟩

/-! ## Operations that move nothing -/

theorem Quiet.switchFits {s t : State} (h : Quiet s t) {bay : Bay} (hs : s.switchFits bay) : t.switchFits bay := by
  have hb : t.bay bay = s.bay bay := by simp [State.bay, h.bays]
  simpa [State.switchFits, (h.source _).1, hb] using hs

theorem Quiet.sourcesSafe {s t : State} (h : Quiet s t) (hs : s.sourcesSafe) : t.sourcesSafe := by
  obtain ⟨h1, h2, h3, h4⟩ := hs
  refine ⟨fun x => ?_, fun x hx => ?_, fun a ha => ?_, fun x hx => ?_⟩
  · rw [(h.source x).2, h.onSrc]; exact h1 x
  · rw [(h.source x).1]; exact h2 x (h.onSrc ▸ hx)
  · rw [(h.source a.target).1, h.onSrc]; exact h3 a (h.attempt ▸ ha)
  · rw [h.onSrc, h.attempt]; exact h4 x ((h.source x).1 ▸ hx)

theorem Quiet.fitsOrUntold {s t : State} (h : Quiet s t) {l : List Task} {bay : Bay} (hs : s.fitsOrUntold l bay) :
    t.fitsOrUntold l bay := hs.imp_left h.switchFits

theorem Quiet.loadSafe {s t : State} (h : Quiet s t) {l : List Task} (hs : LoadSafe s l) : LoadSafe t l :=
  ⟨h.sourcesSafe hs.sources, fun bay => h.fitsOrUntold (hs.bays bay)⟩

/-! ## Bays that move -/

/-- What a bay controller's operation does: a bay keeps its state and its was-active mark, or its change is to be
told. -/
structure BaysMove (s : State) (a : Act) : Prop where
  bay : ∀ i, ((a.1.bay i).state = (s.bay i).state ∧ (a.1.bay i).wasActive = (s.bay i).wasActive) ∨ Untold i a.2

theorem switchFits_congr {s t : State} {bay : Bay} (hs : (t.source (baySrc bay)).sw = (s.source (baySrc bay)).sw)
    (hb : (t.bay bay).state = (s.bay bay).state) (hw : (t.bay bay).wasActive = (s.bay bay).wasActive)
    (h : s.switchFits bay) : t.switchFits bay := by
  simpa [State.switchFits, BayRec.carries, hs, hb, hw] using h

/-- An operation of a bay controller that leaves the Power Path Controller alone. -/
theorem BaysMove.loadSafe {s : State} {a : Act} (h : BaysMove s a) (hp : a.1.ppc = s.ppc) {l : List Task}
    (hs : LoadSafe s l) : LoadSafe a.1 (a.2 ++ l) := by
  refine ⟨by simpa [State.sourcesSafe, State.source, hp] using hs.sources, fun bay => ?_⟩
  rcases h.bay bay with ⟨hb, hw⟩ | hu
  · exact ((hs.bays bay).imp_left (switchFits_congr (by simp [State.source, hp]) hb hw)).imp_right (·.right _)
  · exact .inr (hu.left _)

theorem BaysMove.of_bays {s : State} {a : Act} (h : a.1.bays = s.bays) : BaysMove s a :=
  ⟨fun i => .inl (by simp [State.bay, h])⟩

/-- A record replaced by one of the same state and was-active mark. -/
theorem setBay_moves (s : State) (bay : Bay) {r : BayRec} (ts : List Task) (hs : r.state = (s.bay bay).state)
    (hw : r.wasActive = (s.bay bay).wasActive) : BaysMove s (s.setBay bay r, ts) where
  bay i := by
    by_cases h : i = bay
    · subst h; exact .inl (by simpa using ⟨hs, hw⟩)
    · exact .inl (by simp [State.setBay_bay_ne s r h])

theorem mem_bayNews (bay : Bay) (old new : BayState) (notices : List Task) :
    Task.powerBay bay old new ∈ bayNews bay old new notices := by simp [bayNews]

theorem bayGoto_bay_ne {i bay : Bay} (h : i ≠ bay) (new : BayState) (r : BayRec) (notices : List Task) (s : State) :
    (bayGoto bay new r notices s).1.bay i = s.bay i := State.setBay_bay_ne s _ h

/-- A bay that enters a state tells it (R94). -/
theorem bayGoto_moves (bay : Bay) (new : BayState) (r : BayRec) (notices : List Task) (s : State) :
    BaysMove s (bayGoto bay new r notices s) where
  bay i := by
    by_cases h : i = bay
    · subst h; exact .inr ⟨_, _, mem_bayNews ..⟩
    · exact .inl (by simp [bayGoto_bay_ne h])

/-- An operation after a change of the record that keeps its state and its was-active mark. -/
theorem BaysMove.after_setBay {s : State} {bay : Bay} {r : BayRec} {a : Act} (h : BaysMove (s.setBay bay r) a)
    (hs : r.state = (s.bay bay).state) (hw : r.wasActive = (s.bay bay).wasActive) : BaysMove s a where
  bay i := by
    refine (h.bay i).imp_left fun ⟨h1, h2⟩ => ?_
    rcases (setBay_moves s bay [] hs hw).bay i with ⟨k1, k2⟩ | ⟨_, _, k⟩
    · exact ⟨h1.trans k1, h2.trans k2⟩
    · simp at k

theorem toReady_moves (bay : Bay) (r : BayRec) (s : State) : BaysMove s (toReady bay r s) := by
  unfold toReady toFaulted
  split <;> exact bayGoto_moves ..

theorem toReady_bay_ne {i bay : Bay} (h : i ≠ bay) (r : BayRec) (s : State) : (toReady bay r s).1.bay i = s.bay i := by
  unfold toReady toFaulted
  split <;> exact bayGoto_bay_ne h ..

/-! ## The switch commands (R104, R106) -/

theorem srcBay_baySrc (bay : Bay) : srcBay (baySrc bay) = some bay := by cases bay <;> rfl

theorem baySrc_inj {i bay : Bay} : baySrc i = baySrc bay ↔ i = bay := by cases i <;> cases bay <;> simp [baySrc]

/-- A source is a pack, or none is told of it. -/
theorem src_cases (x : Src) : (∃ bay, x = baySrc bay) ∨ srcBay x = none := by
  cases x
  · exact .inr rfl
  · exact .inl ⟨.a, rfl⟩
  · exact .inl ⟨.b, rfl⟩
  · exact .inr rfl

theorem srcBay_none {x : Src} (h : srcBay x = none) (bay : Bay) : baySrc bay ≠ x := by
  rintro rfl
  simp [srcBay_baySrc] at h

theorem commandOff_pack (bay : Bay) (sw : Switch) (s : State) :
    commandOff (baySrc bay) sw s = onSwitchOff bay (s.leaveOn (baySrc bay) sw) := by cases bay <;> rfl

theorem commandOff_noPack {x : Src} (h : srcBay x = none) (sw : Switch) (s : State) :
    commandOff x sw s = (s.leaveOn x sw, []) := by simp [commandOff, tellBay, h]

theorem commandOn_pack (bay : Bay) (s : State) :
    commandOn (baySrc bay) s = onSwitchOn bay (s.setSwitch (baySrc bay) .on) := by cases bay <;> rfl

theorem commandOn_noPack {x : Src} (h : srcBay x = none) (s : State) : commandOn x s = (s.setSwitch x .on, []) := by
  simp [commandOn, tellBay, h]

theorem onSwitchOff_bay_ne {i bay : Bay} (h : i ≠ bay) (s : State) : (onSwitchOff bay s).1.bay i = s.bay i := by
  unfold onSwitchOff
  dsimp only
  (repeat' split)
  · exact toReady_bay_ne h ..
  · exact State.setBay_bay_ne s _ h
  · rfl

theorem onSwitchOn_bay_ne {i bay : Bay} (h : i ≠ bay) (s : State) : (onSwitchOn bay s).1.bay i = s.bay i := by
  unfold onSwitchOn
  dsimp only
  (repeat' split)
  · exact bayGoto_bay_ne h ..
  · exact State.setBay_bay_ne s _ h
  · rfl

/-- A bay whose switch leaves ON stays in its state, or its change is to be told. -/
theorem onSwitchOff_state (bay : Bay) (s : State) :
    ((onSwitchOff bay s).1.bay bay).state = (s.bay bay).state ∨ Untold bay (onSwitchOff bay s).2 := by
  unfold onSwitchOff
  dsimp only
  (repeat' split)
  · exact ((toReady_moves bay _ s).bay bay).imp_left (·.1)
  · exact .inl (by simp)
  · exact .inl rfl

/-- A bay that is no pack of the source keeps its record. -/
theorem commandOff_bay_ne {x : Src} {bay : Bay} (h : baySrc bay ≠ x) (sw : Switch) (s : State) :
    (commandOff x sw s).1.bay bay = s.bay bay := by
  rcases src_cases x with ⟨i, rfl⟩ | hn
  · rw [commandOff_pack]; exact onSwitchOff_bay_ne (fun e => h (by rw [e])) _
  · rw [commandOff_noPack hn]; rfl

theorem commandOn_bay_ne {x : Src} {bay : Bay} (h : baySrc bay ≠ x) (s : State) :
    (commandOn x s).1.bay bay = s.bay bay := by
  rcases src_cases x with ⟨i, rfl⟩ | hn
  · rw [commandOn_pack]; exact onSwitchOn_bay_ne (fun e => h (by rw [e])) _
  · rw [commandOn_noPack hn]; rfl

@[simp] theorem leaveOn_source_self (s : State) (x : Src) (sw : Switch) :
    (s.leaveOn x sw).source x = { s.source x with sw := sw, onSince := none } := by simp [State.leaveOn]

theorem leaveOn_source_ne {x y : Src} (h : y ≠ x) (s : State) (sw : Switch) : (s.leaveOn x sw).source y = s.source y :=
  State.setSource_source_ne s _ h

theorem source_congr {s t : State} (h : t.ppc = s.ppc) (x : Src) : t.source x = s.source x := by simp [State.source, h]

@[simp] theorem commandOff_source_self (x : Src) (sw : Switch) (s : State) :
    (commandOff x sw s).1.source x = { s.source x with sw := sw, onSince := none } := by
  rw [source_congr (commandOff_ppc x sw s), leaveOn_source_self]

theorem commandOff_source_ne {x y : Src} (h : y ≠ x) (sw : Switch) (s : State) :
    (commandOff x sw s).1.source y = s.source y := by
  rw [source_congr (commandOff_ppc x sw s), leaveOn_source_ne h]

@[simp] theorem commandOn_source_self (x : Src) (s : State) :
    (commandOn x s).1.source x = { s.source x with sw := .on } := by
  rw [source_congr (commandOn_ppc x s)]; simp [State.setSwitch]

theorem commandOn_source_ne {x y : Src} (h : y ≠ x) (s : State) : (commandOn x s).1.source y = s.source y := by
  rw [source_congr (commandOn_ppc x s)]; exact State.setSource_source_ne s _ h

/-- A source that leaves ON: its own bay's switch fits whatever it was before, and the other bays keep theirs. -/
theorem commandOff_fits {x : Src} {sw : Switch} {s : State} {l : List Task} (hsw : sw ≠ .on)
    (hoff : ∀ bay, x = baySrc bay → offState (s.bay bay).state = true → sw = .off) {bay : Bay}
    (h : baySrc bay ≠ x → s.fitsOrUntold l bay) :
    (commandOff x sw s).1.fitsOrUntold ((commandOff x sw s).2 ++ l) bay := by
  by_cases hx : baySrc bay = x
  · subst hx
    have hs : ((commandOff (baySrc bay) sw s).1.source (baySrc bay)).sw = sw := by simp
    rcases onSwitchOff_state bay (s.leaveOn (baySrc bay) sw) with hb | hu
    · refine .inl ⟨fun h => absurd (hs.symm.trans h) hsw, fun h => hs.trans (hoff bay rfl ?_)⟩
      rw [commandOff_pack, hb] at h
      exact h
    · rw [commandOff_pack]; exact .inr (hu.left l)
  · refine ((h hx).imp_left (switchFits_congr ?_ ?_ ?_)).imp_right (·.right _)
    · rw [commandOff_source_ne hx]
    · rw [commandOff_bay_ne hx]
    · rw [commandOff_bay_ne hx]

/-- A source that is commanded ON in a bay that may carry the load (R95). -/
theorem commandOn_fits {x : Src} {s : State} {l : List Task} (hadm : s.admitted x = true) {bay : Bay}
    (h : baySrc bay ≠ x → s.fitsOrUntold l bay) : (commandOn x s).1.fitsOrUntold ((commandOn x s).2 ++ l) bay := by
  by_cases hx : baySrc bay = x
  · subst hx
    have hb : (s.bay bay).state = .ready ∨ (s.bay bay).state = .active := by
      simpa [State.admitted, srcBay_baySrc] using hadm
    rw [commandOn_pack]
    have hb' : ((s.setSwitch (baySrc bay) .on).bay bay) = s.bay bay := rfl
    unfold onSwitchOn
    dsimp only
    rw [hb']
    rcases hb with hb | hb
    · rw [if_pos hb]
      exact .inr (Untold.left ⟨_, _, mem_bayNews ..⟩ l)
    · simp only [hb, reduceCtorEq, if_false]
      refine .inl ⟨fun _ => ?_, fun h => ?_⟩
      · rw [hb']; simp [BayRec.carries, hb]
      · rw [hb', hb] at h; simp [offState] at h
  · refine ((h hx).imp_left (switchFits_congr ?_ ?_ ?_)).imp_right (·.right _)
    · rw [commandOn_source_ne hx]
    · rw [commandOn_bay_ne hx]
    · rw [commandOn_bay_ne hx]

/-! ## Attempts and takeovers (R79 to R82, R85) -/

/-- Where one source alone is ON, as the ON source and with the one on-since time, the sources are as R71 has them. -/
theorem sourcesSafe_alone {s : State} {x : Src} (ha : s.ppc.attempt = none) (ho : s.ppc.onSrc = some x)
    (hx : (s.source x).sw = .on ∧ (s.source x).onSince.isSome = true)
    (hy : ∀ y, y ≠ x → (s.source y).sw ≠ .on ∧ (s.source y).onSince = none) : s.sourcesSafe := by
  refine ⟨fun y => ?_, fun y h => ?_, by simp [ha], fun y h => ?_⟩
  · by_cases e : y = x
    · subst e; simp [ho, hx.2]
    · simp [ho, (hy y e).2, Ne.symm e]
  · obtain rfl : x = y := by simpa [ho] using h
    exact hx.1
  · by_cases e : y = x
    · exact .inl (e ▸ ho)
    · exact absurd h (hy y e).1

/-- A source that is neither the ON source nor the awaited target is not ON and has no on-since time. -/
theorem State.sourcesSafe.rests {s : State} (h : s.sourcesSafe) {x : Src} (ho : s.ppc.onSrc ≠ some x)
    (ha : ∀ a, s.ppc.attempt = some a → a.target ≠ x) : (s.source x).sw ≠ .on ∧ (s.source x).onSince = none := by
  obtain ⟨h1, -, -, h4⟩ := h
  refine ⟨fun hx => ?_, by simpa [ho] using h1 x⟩
  rcases h4 x hx with h | ⟨a, h, ht⟩
  · exact ho h
  · exact ha a h ht

theorem restState_ne_on (s : State) (x : Src) : s.restState x ≠ .on := by
  unfold State.restState standbyOrOff
  (repeat' split) <;> decide

theorem restState_off {s : State} {bay : Bay} (h : offState (s.bay bay).state = true) :
    s.restState (baySrc bay) = .off := by
  unfold State.restState
  rw [srcBay_baySrc]
  cases hb : (s.bay bay).state <;> simp_all [offState]

/-- What a state and a switch state given to a source have to meet (Table 4-3). -/
def Rests (s : State) (x : Src) (sw : Switch) : Prop :=
  sw ≠ .on ∧ ∀ bay, x = baySrc bay → offState (s.bay bay).state = true → sw = .off

theorem rests_off (s : State) (x : Src) : Rests s x .off := ⟨by decide, fun _ _ _ => rfl⟩

theorem rests_restState (s : State) (x : Src) : Rests s x (s.restState x) :=
  ⟨restState_ne_on s x, fun bay hx h => by subst hx; exact restState_off h⟩

/-- A turn-on command to a source that is neither ON nor departing, with no attempt awaited. -/
theorem beginAttempt_loadSafe {s : State} {l : List Task} (h : LoadSafe s l) (kind : WalkKind) {target : Src}
    (rest : List Src) (ha : s.ppc.attempt = none) (ho : s.ppc.onSrc ≠ some target) (hadm : s.admitted target = true) :
    LoadSafe (beginAttempt kind target rest s).1 ((beginAttempt kind target rest s).2 ++ l) := by
  have hs : ∀ x, (beginAttempt kind target rest s).1.source x = (commandOn target s).1.source x := fun _ => rfl
  have ho' : (beginAttempt kind target rest s).1.ppc.onSrc = s.ppc.onSrc := by
    show (commandOn target s).1.ppc.onSrc = _
    rw [commandOn_ppc]; rfl
  obtain ⟨h1, h2, -, h4⟩ := h.sources
  refine ⟨⟨fun x => ?_, fun x hx => ?_, fun a haa => ?_, fun x hx => ?_⟩, fun bay => ?_⟩
  · rw [hs, ho', ← h1]
    by_cases e : x = target
    · subst e; simp
    · rw [commandOn_source_ne e]
  · rw [ho'] at hx
    have e : x ≠ target := by rintro rfl; exact ho hx
    rw [hs, commandOn_source_ne e]; exact h2 x hx
  · obtain rfl := Option.some.inj haa
    exact ⟨by simp [hs], ho'.symm, by rw [ho']; exact ho⟩
  · by_cases e : x = target
    · exact .inr ⟨_, rfl, e.symm⟩
    · rw [hs, commandOn_source_ne e] at hx
      refine .inl (ho' ▸ ?_)
      rcases h4 x hx with h | ⟨a, h, -⟩
      · exact h
      · simp [ha] at h
  · have hf := commandOn_fits (l := l) hadm (bay := bay) fun _ => h.bays bay
    refine (hf.imp_left (switchFits_congr rfl rfl rfl)).imp_right (·.mono ?_)
    intro t ht
    simp only [beginAttempt, List.mem_append] at ht ⊢
    tauto

/-- An attempt that ends without success takes its target off. -/
theorem failAttempt_loadSafe {s : State} {l : List Task} (hs : s.sourcesSafe) {a : Attempt}
    (ha : s.ppc.attempt = some a)
    {sw : Switch} (hsw : Rests s a.target sw) (result : MoveResult)
    (hb : ∀ bay, baySrc bay ≠ a.target → s.fitsOrUntold l bay) :
    LoadSafe (failAttempt a sw result s).1 ((failAttempt a sw result s).2 ++ l) := by
  refine (bridgeStopFor_quiet ((commandOff a.target sw s).1.closeAttempt result) a.target).loadSafe ?_
  have hc : ∀ x, ((commandOff a.target sw s).1.closeAttempt result).source x = (commandOff a.target sw s).1.source x :=
    fun _ => rfl
  have ho : ((commandOff a.target sw s).1.closeAttempt result).ppc.onSrc = s.ppc.onSrc := by
    show (commandOff a.target sw s).1.ppc.onSrc = _
    rw [commandOff_ppc]; rfl
  obtain ⟨-, -, hne⟩ := hs.2.2.1 a ha
  refine ⟨⟨fun x => ?_, fun x hx => ?_, nofun, fun x hx => .inl ?_⟩, fun bay => ?_⟩
  · rw [hc, ho]
    by_cases e : x = a.target
    · subst e; simp [hne]
    · rw [commandOff_source_ne e]; exact hs.1 x
  · rw [ho] at hx
    rw [hc, commandOff_source_ne (by rintro rfl; exact hne hx)]
    exact hs.2.1 x hx
  · rw [ho]
    rw [hc] at hx
    by_cases e : x = a.target
    · subst e; simp [hsw.1] at hx
    · rw [commandOff_source_ne e] at hx
      rcases hs.2.2.2 x hx with h | ⟨c, h, ht⟩
      · exact h
      · obtain rfl : a = c := by simpa [ha] using h
        exact absurd ht.symm e
  · exact (commandOff_fits hsw.1 hsw.2 (hb bay)).imp_left (switchFits_congr rfl rfl rfl)

/-- Sources that leave ON: those named are off and without an on-since time, the rest and their bays are untouched, and
every bay fits that fitted before or whose own source left. -/
structure Leaves (s : State) (left : Src → Prop) (a : Act) : Prop where
  off : ∀ x, left x → (a.1.source x).sw ≠ .on ∧ (a.1.source x).onSince = none
  kept : ∀ x, ¬left x → a.1.source x = s.source x
  bay : ∀ i, ¬left (baySrc i) → a.1.bay i = s.bay i
  fits : ∀ l i, (¬left (baySrc i) → s.fitsOrUntold l i) → a.1.fitsOrUntold (a.2 ++ l) i
  ppc : a.1.ppc.onSrc = s.ppc.onSrc ∧ a.1.ppc.attempt = s.ppc.attempt

theorem commandOff_leaves {s : State} {x : Src} {sw : Switch} (h : Rests s x sw) :
    Leaves s (· = x) (commandOff x sw s) where
  off y hy := by subst hy; simpa using h.1
  kept y hy := commandOff_source_ne hy sw s
  bay i hi := commandOff_bay_ne hi sw s
  fits l i hi := commandOff_fits h.1 h.2 hi
  ppc := by rw [commandOff_ppc]; exact ⟨rfl, rfl⟩

theorem leaves_none (s : State) {left : Src → Prop} (h : ∀ x, ¬left x) : Leaves s left (s, []) where
  off x hx := absurd hx (h x)
  kept _ _ := rfl
  bay _ _ := rfl
  fits _ _ hi := hi (h _)
  ppc := ⟨rfl, rfl⟩

theorem leaveOld_leaves (old : Option Src) (lost : Bool) (s : State) :
    Leaves s (fun x => old = some x) (leaveOld old lost s) := by
  cases old with
  | none => exact leaves_none s (by simp)
  | some y =>
    have h : Leaves s (· = y) (commandOff y (if lost then .off else s.restState y) s) := commandOff_leaves (by
      cases lost
      · exact rests_restState s y
      · exact rests_off s y)
    simpa only [leaveOld, Option.some.injEq, eq_comm (a := y)] using h

theorem leaveForTakeover_leaves (lost : Src) (s : State) :
    Leaves s (fun x => x = lost ∨ s.ppc.onSrc = some x) (leaveForTakeover lost s) := by
  have first := commandOff_leaves (rests_off s lost)
  unfold leaveForTakeover
  dsimp only
  by_cases ho : s.ppc.onSrc = some lost
  · simpa only [ho, if_true, List.append_nil, Option.some.injEq, eq_comm (a := lost), or_self] using first
  rw [if_neg ho]
  cases hs : s.ppc.onSrc with
  | none => simpa only [restSource, List.append_nil, reduceCtorEq, or_false] using first
  | some y =>
    have hy : y ≠ lost := fun e => ho (by rw [hs, e])
    have second := commandOff_leaves (rests_restState (commandOff lost .off s).1 y)
    simp only [restSource, Option.some.injEq, eq_comm (a := y)]
    refine ⟨fun x hx => ?_, fun x hx => ?_, fun i hi => ?_, fun l i hi => ?_, ?_⟩
    · by_cases e : x = y
      · exact second.off x e
      · rw [second.kept x e]; exact first.off x (hx.resolve_right e)
    · rw [second.kept x (fun e => hx (.inr e)), first.kept x (fun e => hx (.inl e))]
    · rw [second.bay i (fun e => hi (.inr e)), first.bay i (fun e => hi (.inl e))]
    · have k := second.fits ((commandOff lost .off s).2 ++ l) i fun hiy =>
        first.fits l i fun hil => hi (by rintro (e | e); exacts [hil e, hiy e])
      refine k.imp_right (·.mono ?_)
      intro t
      simp only [List.mem_append]
      tauto
    · exact ⟨second.ppc.1.trans first.ppc.1, second.ppc.2.trans first.ppc.2⟩

theorem carriesFrom_source_self (s : State) (x : Src) :
    (s.carriesFrom x).source x = { s.source x with onSince := some s.now } := by simp [State.carriesFrom]

theorem carriesFrom_source_ne {x y : Src} (h : y ≠ x) (s : State) : (s.carriesFrom x).source y = s.source y :=
  State.setSource_source_ne s _ h

/-- An awaited attempt that completes (R79): the target carries the load from now, after the old source has left. -/
theorem completeAttempt_fields {s : State} {a : Attempt} (ha : s.ppc.attempt = some a) (result : MoveResult)
    (severity : Severity) (lost : Bool) :
    let c := completeAttempt result severity lost s
    let v := leaveOld a.old lost s
    c.1.ppc.onSrc = some a.target ∧ c.1.ppc.attempt = none ∧ (∀ x, c.1.source x = (v.1.carriesFrom a.target).source x) ∧
      c.1.bays = v.1.bays ∧
      c.2 = v.2 ++ ([.classify] : List Task) ++ doneTasks a.kind ++ ([.moved, .settled] : List Task) := by
  unfold completeAttempt
  rw [ha]
  exact ⟨rfl, rfl, fun _ => rfl, rfl, rfl⟩

/-- An awaited attempt that completes leaves its target alone ON. -/
theorem completeAttempt_loadSafe {s : State} {l : List Task} (hs : s.sourcesSafe) {a : Attempt}
    (ha : s.ppc.attempt = some a) (result : MoveResult) (severity : Severity) (lost : Bool)
    (hb : ∀ bay, a.old ≠ some (baySrc bay) → s.fitsOrUntold l bay) :
    LoadSafe (completeAttempt result severity lost s).1 ((completeAttempt result severity lost s).2 ++ l) := by
  obtain ⟨hon, hold, hne⟩ := hs.2.2.1 a ha
  have left := leaveOld_leaves a.old lost s
  have hta : a.old ≠ some a.target := by rw [hold]; exact hne
  obtain ⟨eo, ea, es, eb, et⟩ := completeAttempt_fields ha result severity lost
  refine ⟨sourcesSafe_alone ea eo ?_ fun y hy => ?_, fun bay => ?_⟩
  · rw [es, carriesFrom_source_self, left.kept _ hta]
    exact ⟨hon, by simp⟩
  · rw [es, carriesFrom_source_ne hy]
    by_cases e : a.old = some y
    · exact left.off y e
    · rw [left.kept y e]
      refine hs.rests (by rw [← hold]; exact e) fun c hc => ?_
      obtain rfl : a = c := by simpa [ha] using hc
      exact Ne.symm hy
  · refine ((left.fits l bay (hb bay)).imp_left (switchFits_congr ?_ ?_ ?_)).imp_right (·.mono ?_)
    · rw [es]
      by_cases e : baySrc bay = a.target
      · rw [e, carriesFrom_source_self]
      · rw [carriesFrom_source_ne e]
    · simp [State.bay, eb]
    · simp [State.bay, eb]
    · rw [et]
      intro t
      simp only [List.mem_append]
      tauto

/-- A takeover (R85): the target carries the load from now, after the sources that were ON have left. -/
theorem takeOver_fields (lost target : Src) (urgent : Bool) (s : State) :
    let c := takeOver lost target urgent s
    let v := leaveForTakeover lost s
    let b := commandOn target v.1
    c.1.ppc.onSrc = some target ∧ c.1.ppc.attempt = b.1.ppc.attempt ∧
      (∀ x, c.1.source x = (b.1.carriesFrom target).source x) ∧ c.1.bays = b.1.bays ∧
      c.2 = v.2 ++ b.2 ++ ([.classify] : List Task) ++ tasksIf (target == .br) [.bridgeCheck] ++ s.departed ++
        ([.moved, .settled] : List Task) :=
  ⟨rfl, rfl, fun _ => rfl, rfl, rfl⟩

/-- A takeover leaves its target alone ON. -/
theorem takeOver_loadSafe {s : State} {l : List Task} (hs : s.sourcesSafe) (ha : s.ppc.attempt = none)
    {lost target : Src}
    (hl : target ≠ lost) (ho : s.ppc.onSrc ≠ some target) (hadm : s.admitted target = true) (urgent : Bool)
    (hb : ∀ bay, baySrc bay ≠ lost → s.fitsOrUntold l bay) :
    LoadSafe (takeOver lost target urgent s).1 ((takeOver lost target urgent s).2 ++ l) := by
  have left := leaveForTakeover_leaves lost s
  have hne : ¬(target = lost ∨ s.ppc.onSrc = some target) := by tauto
  obtain ⟨eo, ea, es, eb, et⟩ := takeOver_fields lost target urgent s
  have hadm' : (leaveForTakeover lost s).1.admitted target = true := by
    rcases src_cases target with ⟨i, rfl⟩ | hn
    · simpa [State.admitted, srcBay_baySrc, left.bay i hne] using hadm
    · simp [State.admitted, hn]
  refine ⟨sourcesSafe_alone (ea.trans ?_) eo ?_ fun y hy => ?_, fun bay => ?_⟩
  · rw [commandOn_ppc]; exact left.ppc.2.trans ha
  · rw [es, carriesFrom_source_self]; simp
  · rw [es, carriesFrom_source_ne hy, commandOn_source_ne hy]
    by_cases e : y = lost ∨ s.ppc.onSrc = some y
    · exact left.off y e
    · rw [left.kept y e]
      exact hs.rests (fun h => e (.inr h)) (by simp [ha])
  · have f := commandOn_fits (l := (leaveForTakeover lost s).2 ++ l) hadm' (bay := bay) fun _ =>
      left.fits l bay fun h => hb bay fun e => h (.inl e)
    refine (f.imp_left (switchFits_congr ?_ ?_ ?_)).imp_right (·.mono ?_)
    · rw [es]
      by_cases e : baySrc bay = target
      · rw [e, carriesFrom_source_self]
      · rw [carriesFrom_source_ne e]
    · simp [State.bay, eb]
    · simp [State.bay, eb]
    · rw [et]
      intro t
      simp only [List.mem_append]
      tauto

/-- A candidate may be chosen, and is not the excluded one (R73, R85). -/
theorem mem_candidates {s : State} {excluded : Option Src} {c : Src} (h : c ∈ s.candidates excluded) :
    s.choosable c = true ∧ excluded ≠ some c := by
  unfold State.candidates at h
  dsimp only at h
  (repeat' split at h) <;> exact by simpa using (List.mem_filter.1 h).2

/-- A takeover from a lost or faulted source, with no attempt awaited: the lost source's own bay has to fit already only
where nothing takes it off. -/
theorem onTakeover_loadSafe {s : State} {l : List Task} (hs : s.sourcesSafe) (ha : s.ppc.attempt = none) {lost : Src}
    {urgent : Bool} (hbr : lost ≠ .br ∨ urgent = false)
    (hb : ∀ bay, (baySrc bay = lost → urgent = false ∨ s.ppc.onSrc ≠ some lost) → s.fitsOrUntold l bay) :
    LoadSafe (onTakeover lost urgent s).1 ((onTakeover lost urgent s).2 ++ l) := by
  have others : ∀ bay, baySrc bay ≠ lost → s.fitsOrUntold l bay := fun bay h => hb bay fun e => absurd e h
  unfold onTakeover
  split
  next c rest hc =>
    have hmem := mem_candidates (s := s) (excluded := some lost) (c := c) (by rw [hc]; simp)
    have hcl : c ≠ lost := fun e => hmem.2 (by rw [e])
    split
    next ho =>
      have : s.ppc.onSrc ≠ some lost := by rw [ho]; simpa using hcl
      exact ⟨hs, fun bay => (hb bay fun _ => .inr this).imp_right (·.right _)⟩
    next ho =>
      exact takeOver_loadSafe hs ha hcl ho (by simpa [State.choosable] using (Bool.and_eq_true_iff.1 hmem.1).2) urgent
        others
  next =>
    split
    next hu =>
      have hl : lost ≠ .br := hbr.resolve_right (by simp [hu])
      split
      next ho =>
        have : s.ppc.onSrc ≠ some lost := by rw [ho]; simpa using hl.symm
        exact ⟨hs, fun bay => (hb bay fun _ => .inr this).imp_right (·.right _)⟩
      next ho => exact takeOver_loadSafe hs ha hl.symm ho rfl true others
    next hu =>
      have all : LoadSafe s l := ⟨hs, fun bay => hb bay fun _ => .inl (by simpa using hu)⟩
      split
      · exact ((noAlternate_quiet lost s).loadSafe all).mono (by simp)
      · exact all.mono fun t ht => by simp [ht]

theorem repeatedTakeover_loadSafe {s : State} {l : List Task} (h : LoadSafe s l) (lost : Src) :
    LoadSafe (repeatedTakeover lost s).1 ((repeatedTakeover lost s).2 ++ l) := by
  unfold repeatedTakeover
  split
  next hc =>
    have ha : s.ppc.attempt = none := by simp_all
    exact onTakeover_loadSafe h.sources ha (.inr rfl) fun bay _ => h.bays bay
  next => exact h.mono (by simp)

/-- The target of an awaited attempt is lost. -/
theorem loseTarget_loadSafe {s : State} {l : List Task} (hs : s.sourcesSafe) {a : Attempt} (ha : s.ppc.attempt = some a)
    {urgent : Bool} (trigger : Bool) (hbr : a.target ≠ .br ∨ urgent = false)
    (hb : ∀ bay, baySrc bay ≠ a.target → s.fitsOrUntold l bay) :
    LoadSafe (loseTarget a urgent trigger s).1 ((loseTarget a urgent trigger s).2 ++ l) := by
  have failed := failAttempt_loadSafe hs ha (rests_off s a.target) .aborted hb
  have taken : LoadSafe (onTakeover a.target urgent (failAttempt a .off .aborted s).1).1
      ((onTakeover a.target urgent (failAttempt a .off .aborted s).1).2 ++ ((failAttempt a .off .aborted s).2 ++ l)) :=
    onTakeover_loadSafe failed.sources ((bridgeStopFor_quiet _ _).attempt.trans rfl) hbr fun bay _ => failed.bays bay
  unfold loseTarget
  split
  · refine ((takeDueSupply_quiet _).loadSafe failed).mono fun t => ?_
    simp only [resumeWalk, List.mem_append]; tauto
  · refine failed.mono fun t => ?_
    simp only [List.mem_append]; tauto
  · refine taken.mono fun t => ?_
    simp only [List.mem_append]; tauto
  · refine taken.mono fun t => ?_
    simp only [List.mem_append]; tauto

/-- A source is lost or faulted: its own bay has to fit already unless the loss takes its switch off. -/
theorem onLoss_loadSafe {s : State} {l : List Task} (hs : s.sourcesSafe) {x : Src} {urgent : Bool} (trigger : Bool)
    (hbr : x ≠ .br ∨ urgent = false)
    (hb : ∀ bay, (baySrc bay = x → urgent = false ∨ (s.source x).sw ≠ .on) → s.fitsOrUntold l bay) :
    LoadSafe (onLoss x urgent trigger s).1 ((onLoss x urgent trigger s).2 ++ l) := by
  have others : ∀ bay, baySrc bay ≠ x → s.fitsOrUntold l bay := fun bay h => hb bay fun e => absurd e h
  unfold onLoss
  cases ha : s.ppc.attempt with
  | none =>
    dsimp only
    split
    next ho =>
      refine onTakeover_loadSafe hs ha hbr fun bay h => hb bay fun e => (h e).imp_right fun h => absurd ho h
    next ho =>
      have off := (hs.rests ho (by simp [ha])).1
      exact ⟨hs, fun bay => (hb bay fun _ => .inr off).imp_right (·.right _)⟩
  | some a =>
    dsimp only
    split
    next ht => subst ht; exact loseTarget_loadSafe hs ha trigger hbr others
    next ht =>
      split
      next ho =>
        refine completeAttempt_loadSafe hs ha _ _ true fun bay h => others bay fun e => h (by rw [ho, e])
      next ho =>
        have off := (hs.rests (x := x) (by rw [← (hs.2.2.1 a ha).2.1]; exact ho) fun c hc => by
          obtain rfl : a = c := by simpa [ha] using hc
          exact ht).1
        exact ⟨hs, fun bay => (hb bay fun _ => .inr off).imp_right (·.right _)⟩

end Sys2Proof.Machine
end

section
/-!
SUPPORT. Every operation of the Power Path Controller keeps the sources and the bays' switches safe (R71, R95).
-/

namespace Sys2Proof.Machine

/-- A change of what is neither a switch nor the ON source, the attempt or a bay. -/
theorem LoadSafe.of_ppc {s t : State} {l : List Task} (h : LoadSafe s l) (hs : t.ppc.sources = s.ppc.sources)
    (ho : t.ppc.onSrc = s.ppc.onSrc) (ha : t.ppc.attempt = s.ppc.attempt) (hb : t.bays = s.bays) : LoadSafe t l := by
  refine ⟨by simpa [State.sourcesSafe, State.source, hs, ho, ha] using h.sources, fun bay => ?_⟩
  simpa [State.fitsOrUntold, State.switchFits, State.source, State.bay, hs, hb] using h.bays bay

/-! ## Switches of sources that are not ON (R68, R87) -/

theorem setIdleSwitch_source (s : State) (x : Src) (sw : Switch) (y : Src) : (s.setIdleSwitch x sw).source y =
    if y = x ∧ (s.source x).sw ≠ .on then { s.source y with sw := sw } else s.source y := by
  unfold State.setIdleSwitch
  split
  next h => simp [h]
  next h =>
    by_cases e : y = x
    · subst e; simp [h, State.setSwitch]
    · simp [e, State.setSwitch, State.setSource_source_ne]

@[simp] theorem setIdleSwitch_onSrc (s : State) (x : Src) (sw : Switch) :
    (s.setIdleSwitch x sw).ppc.onSrc = s.ppc.onSrc ∧ (s.setIdleSwitch x sw).ppc.attempt = s.ppc.attempt := by
  unfold State.setIdleSwitch
  split <;> exact ⟨rfl, rfl⟩

/-- Such a change makes nothing ON and takes nothing ON off. -/
theorem setIdleSwitch_on {s : State} {x : Src} {sw : Switch} (hsw : sw ≠ .on) (y : Src) :
    ((s.setIdleSwitch x sw).source y).sw = .on ↔ (s.source y).sw = .on := by
  rw [setIdleSwitch_source]
  split
  next h => obtain ⟨rfl, h⟩ := h; simp [hsw, h]
  next => rfl

/-- The sources read of the switches whether they are ON, and of the records the on-since times. -/
theorem sourcesSafe_congr {s t : State} (hsw : ∀ x, (t.source x).sw = .on ↔ (s.source x).sw = .on)
    (ht : ∀ x, (t.source x).onSince = (s.source x).onSince) (ho : t.ppc.onSrc = s.ppc.onSrc)
    (ha : t.ppc.attempt = s.ppc.attempt) (h : s.sourcesSafe) : t.sourcesSafe := by
  simpa [State.sourcesSafe, hsw, ht, ho, ha] using h

theorem setIdleSwitch_sourcesSafe {s : State} (h : s.sourcesSafe) (x : Src) {sw : Switch} (hsw : sw ≠ .on) :
    (s.setIdleSwitch x sw).sourcesSafe :=
  sourcesSafe_congr (setIdleSwitch_on hsw) (fun y => by rw [setIdleSwitch_source]; split <;> rfl)
    (setIdleSwitch_onSrc ..).1 (setIdleSwitch_onSrc ..).2 h

theorem setIdleSwitch_fits {s : State} {x : Src} {sw : Switch} (hr : Rests s x sw) {l : List Task} {bay : Bay}
    (h : s.fitsOrUntold l bay) : (s.setIdleSwitch x sw).fitsOrUntold l bay := by
  have hb : (s.setIdleSwitch x sw).bay bay = s.bay bay := by simp [State.bay]
  refine h.imp_left fun ⟨h1, h2⟩ => ⟨fun hon => ?_, fun hoff => ?_⟩
  · rw [hb]; exact h1 ((setIdleSwitch_on hr.1 _).1 hon)
  · rw [hb] at hoff
    rw [setIdleSwitch_source]
    split
    next e => exact hr.2 bay e.1.symm hoff
    next => exact h2 hoff

theorem setIdleSwitch_loadSafe {s : State} {x : Src} {sw : Switch} (hr : Rests s x sw) {l : List Task}
    (h : LoadSafe s l) : LoadSafe (s.setIdleSwitch x sw) l :=
  ⟨setIdleSwitch_sourcesSafe h.sources x hr.1, fun bay => setIdleSwitch_fits hr (h.bays bay)⟩

theorem standbyOrOff_ne_on (held : Bool) : standbyOrOff held ≠ .on := by cases held <;> decide

theorem restoreStandby_loadSafe {s : State} {l : List Task} (h : LoadSafe s l) (bay : Bay) :
    LoadSafe (s.restoreStandby bay) l := by
  unfold State.restoreStandby
  split
  next hb =>
    refine setIdleSwitch_loadSafe ⟨standbyOrOff_ne_on _, fun i hi hoff => ?_⟩ h
    obtain rfl := baySrc_inj.1 hi
    rcases hb with hb | hb <;> simp [hb, offState] at hoff
  next => exact h

theorem holdOff_loadSafe {s : State} {l : List Task} (h : LoadSafe s l) (bay : Bay) (held : Bool) :
    LoadSafe (s.holdOff bay held) l := by
  have marked := (setHeldOff_quiet s (baySrc bay) held).loadSafe h
  cases held
  · exact restoreStandby_loadSafe marked bay
  · exact setIdleSwitch_loadSafe (rests_off _ _) marked

/-- The switch a bay's state sets on entry (Table 4-3). -/
def State.entrySwitch (s : State) (bay : Bay) : Option Switch :=
  if offState (s.bay bay).state then some .off
  else if (s.bay bay).state = .ready then some (standbyOrOff (s.source (baySrc bay)).heldOff) else none

theorem enterSwitch_eq (s : State) (bay : Bay) : s.enterSwitch bay =
    match s.entrySwitch bay with | some sw => s.setIdleSwitch (baySrc bay) sw | none => s := by
  unfold State.enterSwitch State.entrySwitch
  dsimp only
  (repeat' split) <;> simp_all

theorem entrySwitch_rests {s : State} {bay : Bay} {sw : Switch} (h : s.entrySwitch bay = some sw) :
    Rests s (baySrc bay) sw := by
  unfold State.entrySwitch at h
  (repeat' split at h)
  · obtain rfl := Option.some.inj h
    exact rests_off ..
  next hoff _ =>
    obtain rfl := Option.some.inj h
    exact ⟨standbyOrOff_ne_on _, fun i hi k => absurd (baySrc_inj.1 hi ▸ k) hoff⟩
  · simp at h

theorem carries_not_off {r : BayRec} (h : r.carries = true) : offState r.state = false := by
  unfold BayRec.carries at h
  split at h <;> simp_all [offState]

/-- On entry the sources stay safe. -/
theorem enterSwitch_sourcesSafe {s : State} (h : s.sourcesSafe) (bay : Bay) : (s.enterSwitch bay).sourcesSafe := by
  rw [enterSwitch_eq]
  split
  next sw hsw => exact setIdleSwitch_sourcesSafe h _ (entrySwitch_rests hsw).1
  next => exact h

/-- On entry a switch that fits goes on fitting. -/
theorem enterSwitch_fits {s : State} {l : List Task} {i : Bay} (h : s.fitsOrUntold l i) (bay : Bay) :
    (s.enterSwitch bay).fitsOrUntold l i := by
  rw [enterSwitch_eq]
  split
  next sw hsw => exact setIdleSwitch_fits (entrySwitch_rests hsw) h
  next => exact h

/-- Entry makes nothing ON and takes nothing ON off. -/
theorem enterSwitch_on (s : State) (bay : Bay) (x : Src) :
    ((s.enterSwitch bay).source x).sw = .on ↔ (s.source x).sw = .on := by
  rw [enterSwitch_eq]
  split
  next sw hsw => exact setIdleSwitch_on (entrySwitch_rests hsw).1 x
  next => rfl

/-- After entry the bay's own switch fits, unless it is ON in a bay that does not carry the load. -/
theorem enterSwitch_own {s : State} {bay : Bay} (h : (s.source (baySrc bay)).sw ≠ .on ∨ (s.bay bay).carries = true) :
    (s.enterSwitch bay).switchFits bay := by
  have hb : (s.enterSwitch bay).bay bay = s.bay bay := by simp [State.bay]
  refine ⟨fun hon => ?_, fun hoff => ?_⟩
  · rw [hb]; exact h.resolve_left (not_not.2 ((enterSwitch_on s bay _).1 hon))
  · rw [hb] at hoff
    have hne : (s.source (baySrc bay)).sw ≠ .on := h.resolve_right fun hc => by simp [carries_not_off hc] at hoff
    have he : s.entrySwitch bay = some .off := by simp [State.entrySwitch, hoff]
    rw [enterSwitch_eq, he]
    simp [setIdleSwitch_source, hne]

/-! ## The controller's handlings -/

section
variable {s : State} {l : List Task} (h : LoadSafe s l)
include h

theorem bridgeAttempt_loadSafe (ha : s.ppc.attempt = none) (ho : s.ppc.onSrc = none) :
    LoadSafe (bridgeAttempt s).1 ((bridgeAttempt s).2 ++ l) :=
  beginAttempt_loadSafe (s := { s with ppc := { s.ppc with bridgeDue := false } })
    (h.of_ppc rfl rfl rfl rfl) .bridge [] ha (by simp [ho]) rfl

theorem walkOn_loadSafe (kind : WalkKind) (candidates : List Src) :
    LoadSafe (walkOn kind candidates s).1 ((walkOn kind candidates s).2 ++ l) := by
  have ended : LoadSafe (endWalk kind s).1 ((endWalk kind s).2 ++ l) :=
    ((endWalk_quiet kind s).loadSafe h).mono (by simp)
  unfold walkOn
  split
  · exact h.mono (by simp)
  next ha =>
    split
    · exact ((heldBack_quiet s kind).loadSafe h).mono (by simp)
    split
    · exact ended
    next c rest =>
      split
      · exact ended
      next ho =>
        split
        next hc =>
          have hadm : s.admitted c = true := by simp_all [State.choosable]
          exact beginAttempt_loadSafe h kind rest (by simpa using ha) ho hadm
        next => exact h.mono (by simp)

theorem confirmAttempt_loadSafe : LoadSafe (confirmAttempt s).1 ((confirmAttempt s).2 ++ l) := by
  unfold confirmAttempt
  split
  · cases ha : s.ppc.attempt with
    | none => simpa [completeAttempt, ha] using h
    | some a => exact completeAttempt_loadSafe h.sources ha _ _ _ fun bay _ => h.bays bay
  · exact h.mono (by simp)

theorem expireConfirm_loadSafe : LoadSafe (expireConfirm s).1 ((expireConfirm s).2 ++ l) := by
  unfold expireConfirm
  split
  · exact h.mono (by simp)
  next a ha =>
    split
    · exact h.mono (by simp)
    · have failed := failAttempt_loadSafe h.sources ha (rests_restState s a.target) .confirmTimeout
        fun bay _ => h.bays bay
      refine (((notify_quiet ..).trans (takeDueSupply_quiet _)).loadSafe failed).mono fun t => ?_
      simp only [resumeWalk, List.mem_append]; tauto

theorem giveUpAttempt_loadSafe : LoadSafe (giveUpAttempt s).1 ((giveUpAttempt s).2 ++ l) := by
  unfold giveUpAttempt
  split
  · exact h.mono (by simp)
  next a ha =>
    split
    · exact h.mono (by simp)
    · have failed := failAttempt_loadSafe h.sources ha (rests_restState s a.target) .aborted fun bay _ => h.bays bay
      refine ((heldBack_quiet ..).loadSafe failed).mono fun t => ?_
      simp only [List.mem_append]; tauto

theorem takeWaiting_loadSafe : LoadSafe (takeWaiting s).1 ((takeWaiting s).2 ++ l) := by
  unfold takeWaiting
  split
  · exact h.mono (by simp)
  next he =>
    have ha : s.ppc.attempt = none := by simp_all [Ppc.engaged]
    (repeat' split)
    · exact ((takeDueSupply_quiet s).loadSafe h).mono (by simp)
    · exact ((dropRelease_quiet s _).loadSafe h).mono (by simp)
    · exact ((dropRelease_quiet s _).loadSafe h).mono (by simp)
    · exact ((checkAlternates_quiet s).loadSafe h).mono (by simp)
    · exact ((releasePending_quiet s).loadSafe h).mono (by simp)
    · exact h.of_ppc rfl rfl rfl rfl
    · exact bridgeAttempt_loadSafe h ha (by simp_all)
    · exact h.mono (by simp)

theorem onReleaseRequest_loadSafe (bay : Bay) (origin : Origin) :
    LoadSafe (onReleaseRequest bay origin s).1 ((onReleaseRequest bay origin s).2 ++ l) := by
  unfold onReleaseRequest
  split
  · exact h.mono (by simp)
  split
  · exact h.of_ppc rfl rfl rfl rfl
  split
  · exact h.mono (by simp)
  next he ho =>
    have ha : s.ppc.attempt = none := by simp_all [Ppc.engaged]
    have hx := h.sources.rests (x := baySrc bay) ho (by simp [ha])
    refine ⟨sourcesSafe_congr (s := s) (fun x => ?_) (fun x => ?_) rfl rfl h.sources, fun i => ?_⟩
    · by_cases e : x = baySrc bay
      · subst e; simp [hx.1]
      · rw [leaveOn_source_ne e]
    · by_cases e : x = baySrc bay
      · subst e; simp [hx.2]
      · rw [leaveOn_source_ne e]
    · refine ((h.bays i).imp_left fun ⟨h1, h2⟩ => ?_).imp_right (·.right _)
      by_cases e : baySrc i = baySrc bay
      · exact ⟨fun hon => by simp [e] at hon, fun _ => by simp [e]⟩
      · unfold State.switchFits
        rw [leaveOn_source_ne e]
        exact ⟨h1, h2⟩

theorem withDcin_loadSafe (high : Bool) : LoadSafe (s.withDcin high) l := by
  refine setIdleSwitch_loadSafe ⟨by cases high <;> decide, by rintro (_ | _) hi <;> simp [baySrc] at hi⟩ ?_
  exact (refresh_quiet _).loadSafe (h.of_ppc rfl rfl rfl rfl)

theorem onDcin_loadSafe (high : Bool) : LoadSafe (onDcin high s).1 ((onDcin high s).2 ++ l) := by
  rw [onDcin_eq]
  split
  · exact h.mono (by simp)
  have lined := withDcin_loadSafe h high
  split
  · exact lined.mono (by simp)
  · exact onLoss_loadSafe lined.sources true (.inl (by decide)) fun bay _ => lined.bays bay

theorem packTooHot_loadSafe (bay : Bay) : LoadSafe (packTooHot bay s).1 ((packTooHot bay s).2 ++ l) := by
  have held := (refresh_quiet _).loadSafe (holdOff_loadSafe h bay true)
  unfold packTooHot
  dsimp only
  split
  · exact onLoss_loadSafe held.sources _ (.inr rfl) fun i _ => held.bays i
  · exact held.mono (by simp)

theorem powerOnWrite_loadSafe (slot : Fin 32) (old : Slot) :
    LoadSafe (powerOnWrite slot old s).1 ((powerOnWrite slot old s).2 ++ l) := by
  have refreshed : ∀ {t : State}, LoadSafe t l → LoadSafe (afterInput false t).1 ((afterInput false t).2 ++ l) :=
    fun k => ((refresh_quiet _).loadSafe k).mono (by simp [afterInput])
  have temperature : ∀ bay, LoadSafe (temperatureWritten bay s).1 ((temperatureWritten bay s).2 ++ l) := fun bay => by
    unfold temperatureWritten
    split
    · exact packTooHot_loadSafe h bay
    · exact refreshed ((dropNoAlternate_quiet _).loadSafe (holdOff_loadSafe h bay false))
  unfold powerOnWrite
  split
  · exact refreshed h
  · exact refreshed h
  · exact h.mono (by simp)
  · exact h.mono (by simp)
  · exact temperature .a
  · exact temperature .b
  · exact refreshed ((checkBridge_quiet s).loadSafe h)
  · exact h.mono (by simp)
  · exact h.mono (by simp)

theorem expireStartup_loadSafe : LoadSafe (expireStartup s).1 ((expireStartup s).2 ++ l) := by
  have expired : LoadSafe { s with ppc := { s.ppc with startup := none, startupExpired := true } } l :=
    h.of_ppc rfl rfl rfl rfl
  unfold expireStartup
  dsimp only
  (repeat' split)
  · exact h.mono (by simp)
  · exact expired.mono (by simp)
  · exact expired.of_ppc rfl rfl rfl rfl
  next ho he => exact bridgeAttempt_loadSafe expired (by simp_all [Ppc.engaged]) (by simp_all)

theorem supplyPowerSwitch_loadSafe : LoadSafe (supplyPowerSwitch s).1 ((supplyPowerSwitch s).2 ++ l) := by
  have held := holdOff_loadSafe (holdOff_loadSafe h .a (s.heldOffNow .a)) .b ((s.reholdBay .a).heldOffNow .b)
  have resupplied : LoadSafe s.resupplied l := ((dropNoAlternate_quiet _).trans (refresh_quiet _)).loadSafe held
  rw [supplyPowerSwitch_eq]
  exact (((retimed_quiet _).trans (expireBridge_quiet _)).loadSafe resupplied).mono (by simp)

end

/-- The Power Path Controller is told a bay's state: the bay's switch then fits, for what is ON in a state that does not
carry the load is lost (R82, R85, R95). -/
theorem powerOnBay_loadSafe {s : State} {l : List Task} (bay : Bay) (old new : BayState) (hs : s.sourcesSafe)
    (hb : ∀ i, i ≠ bay → s.fitsOrUntold l i) :
    LoadSafe (powerOnBay bay old new s).1 ((powerOnBay bay old new s).2 ++ l) := by
  have emptied := emptySource_quiet s bay
  have q := refresh_quiet ((s.emptySource bay).enterSwitch bay)
  have sources : ((s.emptySource bay).enterSwitch bay).refresh.sourcesSafe :=
    q.sourcesSafe (enterSwitch_sourcesSafe (emptied.sourcesSafe hs) bay)
  have others : ∀ i, i ≠ bay → ((s.emptySource bay).enterSwitch bay).refresh.fitsOrUntold l i := fun i hi =>
    q.fitsOrUntold (enterSwitch_fits (emptied.fitsOrUntold (hb i hi)) bay)
  have hbay : (s.emptySource bay).bay bay = s.bay bay := by simp [State.bay]
  have settled : ((s.source (baySrc bay)).sw ≠ .on ∨ (s.bay bay).carries = true) →
      LoadSafe ((s.emptySource bay).enterSwitch bay).refresh l := fun hf => ⟨sources, fun i => by
    by_cases e : i = bay
    · subst e
      exact .inl (q.switchFits (enterSwitch_own (by rw [hbay, (emptied.source _).1]; exact hf)))
    · exact others i e⟩
  unfold powerOnBay
  dsimp only
  split
  next hl =>
    refine onLoss_loadSafe sources _ (.inl (by cases bay <;> decide)) fun i hi => ?_
    by_cases e : i = bay
    · subst e
      refine absurd ((q.source _).1 ▸ (enterSwitch_on _ i _).2 ((emptied.source _).1 ▸ hl.1)) ((hi rfl).resolve_left ?_)
      decide
    · exact others i e
  next hl =>
    have safe := settled (by by_cases e : (s.source (baySrc bay)).sw = .on <;> simp_all)
    split
    · exact safe.mono (by simp)
    · exact safe.mono (by simp)

end Sys2Proof.Machine
end

section
/-!
SUPPORT. The bay controllers' operations: a bay keeps its state and its was-active mark, or tells its change (R94).
-/

namespace Sys2Proof.Machine

theorem toReleased_moves (bay : Bay) (r : BayRec) (s : State) : BaysMove s (toReleased bay r s) := bayGoto_moves ..

theorem toReleasing_moves (bay : Bay) (origin : Origin) (s : State) : BaysMove s (toReleasing bay origin s) :=
  bayGoto_moves ..

theorem toIdentifying_moves (bay : Bay) (s : State) : BaysMove s (toIdentifying bay s) := bayGoto_moves ..

theorem failAdmission_moves (bay : Bay) (reason : FaultReason) (arg2 : Int) (s : State) :
    BaysMove s (failAdmission bay reason arg2 s) := bayGoto_moves ..

theorem onReleaseDone_moves (bay : Bay) (s : State) : BaysMove s (onReleaseDone bay s) := by
  unfold onReleaseDone
  dsimp only
  split
  · exact toReleased_moves ..
  · exact .of_bays rfl

theorem onReleaseBlocked_moves (bay : Bay) (s : State) : BaysMove s (onReleaseBlocked bay s) := by
  unfold onReleaseBlocked
  dsimp only
  split
  · exact bayGoto_moves ..
  · exact .of_bays rfl

theorem onAlternate_moves (bay : Bay) (s : State) : BaysMove s (onAlternate bay s) := by
  unfold onAlternate
  dsimp only
  split
  · exact bayGoto_moves ..
  · exact .of_bays rfl

theorem onReport_moves (bay : Bay) (place : Fin 24) (outcome : TxOutcome) (results : List (Fin 32 × DescResult))
    (s : State) : BaysMove s (onReport bay place outcome results s) := by
  unfold onReport
  dsimp only
  (repeat' split)
  · exact .of_bays rfl
  · exact setBay_moves _ _ _ rfl rfl
  · exact setBay_moves _ _ _ rfl rfl
  · exact setBay_moves _ _ _ rfl rfl
  · exact (failAdmission_moves bay .attempts place.val _).after_setBay rfl rfl

theorem checkAdmission_moves (bay : Bay) (s : State) : BaysMove s (checkAdmission bay s) := by
  unfold checkAdmission
  split
  · exact bayGoto_moves ..
  · exact .of_bays rfl

theorem actOnWord_moves (bay : Bay) (value : Int) (s : State) : BaysMove s (actOnWord bay value s) := by
  unfold actOnWord
  dsimp only
  (repeat' split)
  · exact failAdmission_moves ..
  · exact .of_bays rfl
  · exact failAdmission_moves ..
  · exact .of_bays rfl
  · exact setBay_moves _ _ _ rfl rfl
  · exact setBay_moves _ _ _ rfl rfl
  · exact setBay_moves _ _ _ rfl rfl
  · exact setBay_moves _ _ _ rfl rfl
  all_goals exact .of_bays rfl

theorem onStatusWord_moves (bay : Bay) (value : Int) (s : State) : BaysMove s (onStatusWord bay value s) :=
  (actOnWord_moves bay value (s.readWord bay value)).after_setBay rfl rfl

theorem toSeated_moves (bay : Bay) (s : State) : BaysMove s (toSeated bay s) := by
  unfold toSeated
  split
  · exact bayGoto_moves ..
  · exact setBay_moves _ _ _ rfl rfl

theorem toEmpty_moves (bay : Bay) (s : State) : BaysMove s (toEmpty bay s) := by
  unfold toEmpty
  split
  · exact setBay_moves _ _ _ rfl rfl
  · exact bayGoto_moves ..

theorem onSeatExpiry_moves (bay : Bay) (s : State) : BaysMove s (onSeatExpiry bay s) := by
  unfold onSeatExpiry
  dsimp only
  (repeat' split)
  · exact toIdentifying_moves ..
  · exact setBay_moves _ _ _ rfl rfl
  · exact .of_bays rfl

theorem onIdentifyExpiry_moves (bay : Bay) (s : State) : BaysMove s (onIdentifyExpiry bay s) := by
  unfold onIdentifyExpiry
  split
  · exact failAdmission_moves ..
  · exact .of_bays rfl

theorem latchCloses_moves (bay : Bay) (s : State) : BaysMove s (latchCloses bay s) := by
  unfold latchCloses
  dsimp only
  (repeat' split)
  · exact bayGoto_moves ..
  · exact toReady_moves ..
  · exact bayGoto_moves ..
  · exact .of_bays rfl
  · exact bayGoto_moves ..
  all_goals exact .of_bays rfl

theorem latchOpens_moves (bay : Bay) (s : State) : BaysMove s (latchOpens bay s) := by
  unfold latchOpens latchOpensAdmitted
  dsimp only
  (repeat' split)
  · exact toReleased_moves ..
  · exact bayGoto_moves ..
  · exact bayGoto_moves ..
  · exact bayGoto_moves ..
  · exact bayGoto_moves ..
  all_goals exact .of_bays rfl

theorem onLatch_moves (bay : Bay) (s : State) : BaysMove s (onLatch bay s) := by
  unfold onLatch
  dsimp only
  (repeat' split)
  · exact .of_bays rfl
  · exact setBay_moves _ _ _ rfl rfl
  · exact (latchCloses_moves bay _).after_setBay rfl rfl
  · exact (latchOpens_moves bay _).after_setBay rfl rfl

theorem onPresence_moves (bay : Bay) (s : State) : BaysMove s (onPresence bay s) := by
  unfold onPresence
  dsimp only
  (repeat' split)
  · exact .of_bays rfl
  · exact setBay_moves _ _ _ rfl rfl
  · exact (toSeated_moves bay _).after_setBay rfl rfl
  · exact (toEmpty_moves bay _).after_setBay rfl rfl

theorem restartAdmission_moves (bay : Bay) (s : State) : BaysMove s (restartAdmission bay s) := by
  unfold restartAdmission
  split
  · exact setBay_moves _ _ _ rfl rfl
  · exact .of_bays rfl

theorem onFlagCleared_moves (bay : Bay) (s : State) : BaysMove s (onFlagCleared bay s) := by
  unfold onFlagCleared
  split
  · exact toReleasing_moves ..
  · exact .of_bays rfl

theorem onLine_moves (bay : Bay) (line : BayLine) (active : Bool) (s : State) :
    BaysMove s (onLine bay line active s, []) := by
  cases line <;> exact setBay_moves _ _ _ rfl rfl

theorem Request.act_moves (r : Request) (p : List Byte) (s : State) :
    BaysMove s ((r.act p s).state, (r.act p s).tasks) := by
  cases r
  case requestSwap =>
    simp only [Request.act, requestSwapOf]
    split
    · exact ⟨(toReleasing_moves _ .request (s.setSru _)).bay⟩
    · exact .of_bays rfl
  case retryBay =>
    simp only [Request.act, requestRetry]
    split
    · exact toIdentifying_moves ..
    · exact .of_bays rfl
  all_goals
    refine .of_bays ?_
    simp only [Request.act, requestIdentify, requestStageWrite, requestStageRead, requestTableRead, requestDiscard,
      requestCommit, requestSave, requestSettingsRead, requestSettingsWrite, requestFetch, requestAlertLevel,
      requestTelemetry, requestReadBay, requestReadPower, requestReadBrightness, requestBrightness, requestReadDrop,
      requestClearDrop, requestReadMotion, requestReadPoll, requestReadLink, requestClearIndicators, requestReset,
      readImageRun, longRead, firstPart, laterPart, acceptCommit]
    (repeat' split) <;> simp [refusal, reading, acting, State.clearMarks, State.setLog]

theorem respond_moves {code tag : Byte} {a : Answer} {s : State} (h : BaysMove s (a.state, a.tasks)) :
    BaysMove s (respond code tag a) := ⟨by simpa [respond, State.bay] using h.bay⟩

theorem refusal_moves (status : Status) (s : State) : BaysMove s ((refusal status s).state, (refusal status s).tasks) :=
  .of_bays rfl

theorem answerOf_moves (r : Request) (p : List Byte) (s : State) :
    BaysMove s ((answerOf r p s).state, (answerOf r p s).tasks) := by
  unfold answerOf
  (repeat' split)
  · exact refusal_moves ..
  · exact refusal_moves ..
  · exact refusal_moves ..
  · exact Request.act_moves ..

theorem decodeRequest_moves (code tag : Byte) (p : List Byte) (s : State) :
    BaysMove s (decodeRequest code tag p s) := by
  unfold decodeRequest
  split
  · exact respond_moves (answerOf_moves ..)
  · exact respond_moves (refusal_moves ..)

end Sys2Proof.Machine
end

section
/-!
SUPPORT. The shock-hold flag (R163): an operation that sets it tells its change.
-/

namespace Sys2Proof.Machine

/-- Where the flag is set after an operation, it was set before, or its change is to be told. -/
structure FlagTold (s : State) (a : Act) : Prop where
  told : a.1.mtu.shockHold = true → s.mtu.shockHold = true ∨ Task.flagChanged true ∈ a.2

theorem FlagTold.of_flag {s : State} {a : Act} (h : a.1.mtu.shockHold = s.mtu.shockHold) : FlagTold s a :=
  ⟨fun ha => .inl (h ▸ ha)⟩

/-- An operation that ends the flag, or leaves it clear. -/
theorem FlagTold.of_clear {s : State} {a : Act} (h : a.1.mtu.shockHold = true → s.mtu.shockHold = true) :
    FlagTold s a :=
  ⟨fun ha => .inl (h ha)⟩

/-- The state an operation starts from may change in all but its flag. -/
theorem FlagTold.from_flag {s t : State} {a : Act} (h : FlagTold t a) (hf : t.mtu.shockHold = s.mtu.shockHold) :
    FlagTold s a := ⟨hf ▸ h.told⟩

/-- A flag that is set, with its change told. -/
theorem mem_flagTasks (was : Bool) : was = true ∨ Task.flagChanged true ∈ flagTasks was true := by
  cases was <;> simp [flagTasks, tasksIf]

theorem enterFalling_told (start : Time) (q : Sample) (s : State) : FlagTold s (enterFalling start q s) :=
  ⟨fun _ => mem_flagTasks _⟩

theorem enterImpact_told (q : Sample) (s : State) : FlagTold s (enterImpact q s) := by
  unfold enterImpact
  dsimp only
  split
  · exact .of_flag rfl
  · exact ⟨fun _ => mem_flagTasks _⟩

theorem knock_told (q : Sample) (s : State) : FlagTold s (knock q s) := (enterImpact_told q _).from_flag rfl

theorem enterNormal_told (t : Time) (s : State) : FlagTold s (enterNormal t s) := by
  have clears : (s.mtu.normal s.motionParams s.now t).shockHold = true → s.mtu.shockHold = true := by
    simpa [Mtu.normal] using fun h _ => h
  unfold enterNormal
  dsimp only
  split <;> exact .of_clear clears

theorem offerRecord_flag (r : DropRec) (s : State) : (offerRecord r s).mtu.shockHold = s.mtu.shockHold := by
  unfold offerRecord
  split <;> rfl

theorem closeRecord_flag (followed : Bool) (t : Time) (s : State) :
    (closeRecord followed t s).mtu.shockHold = s.mtu.shockHold := by
  unfold closeRecord
  split
  · rfl
  · exact offerRecord_flag ..

theorem parkExpires_flag (s : State) : (parkExpires s).mtu.shockHold = s.mtu.shockHold := by
  unfold parkExpires
  split <;> rfl

theorem windowFull_flag (m : Mtu) (window : Nat) (t : Time) : (m.windowFull window t).shockHold = m.shockHold := by
  unfold Mtu.windowFull
  split <;> rfl

theorem shockExpires_told (s : State) : FlagTold s (shockExpires s) := by
  unfold shockExpires
  split
  · exact .of_clear nofun
  · exact .of_flag rfl

theorem actNormal_told (c : SampleClass) (q : Sample) (s : State) : FlagTold s (actNormal c q s) := by
  cases c
  case low =>
    simp only [actNormal]
    split
    · exact (enterFalling_told ..).from_flag rfl
    · exact .of_flag rfl
  case high => exact knock_told ..
  case band => exact .of_flag rfl
  case mid => exact .of_flag rfl

theorem actFalling_told (c : SampleClass) (q : Sample) (s : State) : FlagTold s (actFalling c q s) := by
  cases c
  case low => exact .of_flag rfl
  case high => exact (enterImpact_told ..).from_flag rfl
  case band => exact .of_flag rfl
  case mid => exact .of_flag rfl

theorem actSettling_told (c : SampleClass) (q : Sample) (s : State) : FlagTold s (actSettling c q s) := by
  cases c
  case low =>
    simp only [actSettling]
    split
    · exact (enterFalling_told ..).from_flag (closeRecord_flag ..)
    · exact .of_flag rfl
  case high => exact (knock_told ..).from_flag (closeRecord_flag ..)
  case band =>
    simp only [actSettling]
    split
    · exact (enterNormal_told ..).from_flag (closeRecord_flag ..)
    · exact .of_flag rfl
  case mid => exact .of_flag rfl

theorem actSample_told (c : SampleClass) (q : Sample) (s : State) : FlagTold s (actSample c q s) := by
  unfold actSample
  split
  · exact actNormal_told ..
  · exact actFalling_told ..
  · exact .of_flag (windowFull_flag ..)
  · exact actSettling_told ..
  · exact .of_flag rfl

theorem takeSample_told (x y z : Int) (t : Time) (s : State) : FlagTold s (takeSample x y z t s) := by
  unfold takeSample
  split
  · exact .of_clear nofun
  · exact (actSample_told ..).from_flag rfl

theorem takeMotionTable_told (s : State) : FlagTold s (takeMotionTable s) := by
  unfold takeMotionTable
  dsimp only
  split
  · exact (shockExpires_told _).from_flag (parkExpires_flag _)
  · exact .of_flag rfl

theorem onSettleLimit_told (s : State) : FlagTold s (onSettleLimit s) := by
  unfold onSettleLimit
  split
  · exact (enterNormal_told ..).from_flag (closeRecord_flag ..)
  · exact .of_flag rfl

theorem onSampleLoss_told (s : State) : FlagTold s (onSampleLoss s) := by
  unfold onSampleLoss
  dsimp only
  (repeat' split) <;> exact .of_flag rfl

theorem onFallLimit_told (s : State) : FlagTold s (onFallLimit s) := by
  unfold onFallLimit
  (repeat' split) <;> exact .of_flag rfl

theorem onRetryTimer_told (s : State) : FlagTold s (onRetryTimer s) := by
  unfold onRetryTimer
  (repeat' split) <;> exact .of_flag rfl

theorem placeMotionRead_told (s : State) : FlagTold s (placeMotionRead s) := by
  unfold placeMotionRead
  (repeat' split) <;> exact .of_flag rfl

theorem motionDone_flag (outcome : TxOutcome) (data : List Byte) (s : State) :
    (motionDone outcome data s).1.mtu.shockHold = s.mtu.shockHold := by
  unfold motionDone
  split <;> rfl

end Sys2Proof.Machine
end

section
/-!
SUPPORT. Every handling and every command, for the Power Path Controller's record: what it does to the switches, the
attempt, the causes and the flag.
-/

namespace Sys2Proof.Machine

/-! ## The causes, the path mode and the attempt (R71, R77, R89) -/

/-- A handling leaves the Power Path Controller's record as it is, or takes one of its operations. -/
theorem handle_turn (t : Task) (s : State) : (handle t s).1.ppc = s.ppc ∨ Turn s (handle t s).1 := by
  cases t
  case slotWritten => exact .inr (powerOnWrite_turn ..)
  case slotLapsed => exact .inr (powerOnLapse_quiet ..).turn
  case trigger =>
    left
    simp only [handle, onTrigger]
    split <;> rfl
  case powerBay => exact .inr (powerOnBay_turn ..)
  case walk => exact .inr (walkOn_turn ..)
  case goOn => exact .inr (goOn_quiet ..).turn
  case moved => exact .inr (moveTold_quiet ..).turn
  case confirm => exact .inr (confirmAttempt_turn ..)
  case settled => exact .inr (takeWaiting_turn ..)
  case releaseRequest => exact .inr (onReleaseRequest_turn ..)
  case reselect => exact .inr (reselect_quiet ..).turn
  case alternates => exact .inr (checkAlternates_quiet ..).turn
  case takeover => exact .inr (repeatedTakeover_turn ..)
  case bridgeCheck => exact .inr (checkBridge_quiet ..).turn
  case flagPower => exact .inr (powerOnFlag_turn ..)
  case supplySwitch => exact .inr (forceSupply_quiet ..).turn
  case supplyPower => exact .inr (supplyPowerSwitch_turn ..)
  case openPower => exact .inr (refresh_quiet ..).turn
  all_goals exact .inl (by simp [handle, alone, decodeMalformed, refusal])

theorem takeLoad_quiet (answered : Bool) (s : State) : Quiet s (s.takeLoad answered) := by
  unfold State.takeLoad
  dsimp only
  split <;> exact .of_eq rfl rfl rfl

theorem setSru_quiet (s : State) (r : Sru) : Quiet s (s.setSru r) := .of_eq rfl rfl rfl

theorem forceMotion_quiet (s : State) : Quiet s s.forceMotion := .of_eq rfl rfl rfl

theorem actReset_quiet (answered : Bool) (s : State) : Quiet s (actReset answered s).1 := by
  have emptied : Quiet s { s with ntq := s.ntq.emptied, uli := { s.uli with ring := [] } } := .of_eq rfl rfl rfl
  have loaded := emptied.trans (takeLoad_quiet answered _)
  exact ((loaded.trans (setSru_quiet _ _)).trans (forceMotion_quiet _)).trans (supplyReload_quiet _)

theorem openTraffic_quiet (answered : Bool) (s : State) : Quiet s (openTraffic answered s).1 :=
  (takeLoad_quiet answered s).trans (.of_eq rfl rfl rfl)

theorem onLoadEnd_quiet (answered : Bool) (s : State) : Quiet s (onLoadEnd answered s).1 := by
  unfold onLoadEnd
  (repeat' split)
  · exact actReset_quiet ..
  · exact openTraffic_quiet ..
  all_goals exact .refl s

theorem forceTables_quiet (mask : Byte) (s : State) : Quiet s (s.forceTables mask) := by
  unfold State.forceTables
  dsimp only
  (repeat' split)
  · exact .trans (forceSupply_quiet s) (.of_eq rfl rfl rfl)
  · exact .of_eq rfl rfl rfl
  · exact forceSupply_quiet s
  · exact .refl s

theorem mapPorts_quiet (s : State) (segs : List Seg) (f : Port → Port) : Quiet s (s.mapPorts segs f) :=
  .of_eq (by simp) (by simp) (by simp)

theorem switchCommit_quiet (c : CommitRec) (s : State) : Quiet s (switchCommit c s).1 := by
  unfold switchCommit
  dsimp only
  exact ((setSru_quiet s _).trans (forceTables_quiet c.mask _)).trans (mapPorts_quiet ..)

theorem onCommitSwitch_quiet (s : State) : Quiet s (onCommitSwitch s).1 := by
  unfold onCommitSwitch
  (repeat' split)
  · exact .refl s
  · exact switchCommit_quiet ..
  · exact .refl s

theorem onCommitLimit_quiet (s : State) : Quiet s (onCommitLimit s).1 := by
  unfold onCommitLimit
  (repeat' split)
  · exact .refl s
  · exact .refl s
  · exact switchCommit_quiet ..
  · exact .refl s

theorem slotStale_quiet (slot : Fin 32) (s : State) :
    Quiet s (if s.expired slot then makeStale slot s else alone s).1 := by
  split
  · exact .of_eq rfl rfl rfl
  · exact .refl s

/-- A command's first change, in the same way. -/
theorem commandAct_turn (c : Instr) (s : State) : (commandAct c s).1.ppc = s.ppc ∨ Turn s (commandAct c s).1 := by
  cases c
  case settingsLoadEnd => exact .inr (onLoadEnd_quiet ..).turn
  case commitSwitch => exact .inr (onCommitSwitch_quiet s).turn
  case commitLimitExpiry => exact .inr (onCommitLimit_quiet s).turn
  case slotStale => exact .inr (slotStale_quiet ..).turn
  case presenceRise =>
    simp only [commandAct]
    split <;> exact .inl (by simp [alone])
  case presenceFall =>
    simp only [commandAct]
    split <;> exact .inl (by simp [alone])
  case dcinOkChange => exact .inr (onDcin_turn ..)
  case confirmTimerExpiry => exact .inr (expireConfirm_turn s)
  case startupLimitExpiry => exact .inr (expireStartup_turn s)
  case dwellTimerExpiry => exact .inr (expireDwell_quiet s).turn
  case bridgeTimerExpiry => exact .inr (expireBridge_quiet s).turn
  all_goals exact .inl (by simp [commandAct, alone])

theorem powerSafe_of_turn {s t : State} (h : t.ppc = s.ppc ∨ Turn s t) (hs : s.powerSafe) : t.powerSafe := by
  rcases h with h | h
  · simpa [State.powerSafe, h] using hs
  · exact h.follows hs

/-! ## The flag -/

theorem Request.act_flag (r : Request) (p : List Byte) (s : State) :
    (r.act p s).state.mtu.shockHold = s.mtu.shockHold := by
  cases r
  all_goals
    simp only [Request.act, requestIdentify, requestStageWrite, requestStageRead, requestTableRead, requestDiscard,
      requestCommit, requestSave, requestSettingsRead, requestSettingsWrite, requestFetch, requestAlertLevel,
      requestTelemetry, requestReadBay, requestReadPower, requestReadBrightness, requestBrightness, requestReadDrop,
      requestClearDrop, requestReadMotion, requestReadPoll, requestReadLink, requestClearIndicators, requestReset,
      requestSwapOf, requestRetry, readImageRun, longRead, firstPart, laterPart, acceptCommit]
    (repeat' split) <;> simp [refusal, reading, acting, State.clearMarks, State.setLog]

theorem decodeRequest_flag (code tag : Byte) (p : List Byte) (s : State) :
    (decodeRequest code tag p s).1.mtu.shockHold = s.mtu.shockHold := by
  unfold decodeRequest answerOf
  (repeat' split) <;> simp [refusal, Request.act_flag]

/-- Only an operation of the Motion Unit sets the flag, and tells it. -/
theorem handle_told (t : Task) (s : State) : FlagTold s (handle t s) := by
  cases t
  case motionRead => exact placeMotionRead_told s
  case sample => exact takeSample_told ..
  case motionSwitch => exact takeMotionTable_told s
  case openMotion => exact .of_flag rfl
  case engineDone =>
    refine .of_flag ?_
    simp only [handle, engineDone]
    split
    · simp
    · simp [alone]
    · exact motionDone_flag ..
  case request => exact .of_flag (decodeRequest_flag ..)
  all_goals exact .of_flag (by simp [handle, alone, decodeMalformed, refusal, takeSupplyTable])

theorem commandAct_told (c : Instr) (s : State) : FlagTold s (commandAct c s) := by
  cases c
  case settingsLoadEnd => exact .of_flag (onLoadEnd_quiet ..).flag
  case commitSwitch => exact .of_flag (onCommitSwitch_quiet s).flag
  case commitLimitExpiry => exact .of_flag (onCommitLimit_quiet s).flag
  case slotStale => exact .of_flag (slotStale_quiet ..).flag
  case presenceRise =>
    simp only [commandAct]
    split <;> exact .of_flag (by simp [alone])
  case presenceFall =>
    simp only [commandAct]
    split <;> exact .of_flag (by simp [alone])
  case motionRetryTimer => exact onRetryTimer_told s
  case sampleLossExpiry => exact onSampleLoss_told s
  case fallLimitExpiry => exact onFallLimit_told s
  case settleLimitExpiry => exact onSettleLimit_told s
  case parkHoldExpiry => exact .of_flag (parkExpires_flag s)
  case shockHoldExpiry => exact shockExpires_told s
  all_goals exact .of_flag (by simp [commandAct, alone])

/-! ## The attempt under the flag (R77) -/

/-- Under the flag the awaited attempt is that of a release of origin REQUEST, or the flag is still to be told. -/
def State.held (s : State) (l : List Task) : Prop :=
  s.mtu.shockHold = true → ∀ a, s.ppc.attempt = some a →
    a.kind.explicit = true ∨ Task.flagChanged true ∈ l ∨ Task.flagPower true ∈ l

theorem State.held.mono {s : State} {l l' : List Task} (h : s.held l) (hl : l ⊆ l') : s.held l' :=
  fun hf a ha => (h hf a ha).imp_right (Or.imp (hl ·) (hl ·))

theorem State.held.of_eq {s t : State} {l : List Task} (h : s.held l) (hf : t.mtu.shockHold = s.mtu.shockHold)
    (ha : t.ppc.attempt = s.ppc.attempt) : t.held l := by
  unfold State.held at h ⊢
  rwa [hf, ha]

theorem Turn.held {s t : State} (h : Turn s t) {l : List Task} (hs : s.held l) : t.held l := fun hf a ha => by
  rcases h.attempt a ha with awaited | explicit | clear
  · exact hs (h.flag ▸ hf) a awaited
  · exact .inl explicit
  · simp [h.flag, clear] at hf

/-- An operation that tells a flag it sets, and begins no attempt but as the flag allows. -/
theorem FlagTold.held {s : State} {a : Act} (h : FlagTold s a) (ht : a.1.ppc = s.ppc ∨ Turn s a.1) {l : List Task}
    (hs : s.held l) : a.1.held (a.2 ++ l) := by
  rcases ht with hp | ht
  · intro hf x hx
    rcases h.told hf with was | told
    · exact (hs was x (hp ▸ hx)).imp_right (Or.imp (List.mem_append_right _ ·) (List.mem_append_right _ ·))
    · exact .inr (.inl (List.mem_append_left _ told))
  · exact (ht.held hs).mono (by simp)

@[simp] theorem failAttempt_attempt (a : Attempt) (sw : Switch) (result : MoveResult) (s : State) :
    (failAttempt a sw result s).1.ppc.attempt = none := (bridgeStopFor_quiet ..).attempt

theorem giveUpAttempt_held (s : State) (l : List Task) : (giveUpAttempt s).1.held l := by
  intro _ a ha
  unfold giveUpAttempt at ha
  split at ha
  next h => simp [h] at ha
  next x h =>
    split at ha
    next explicit => exact .inl (by simp_all)
    next => simp [State.heldBack] at ha

theorem powerOnFlag_held (set : Bool) (s : State) {l : List Task} (hs : s.held (Task.flagPower set :: l)) :
    (powerOnFlag set s).1.held ((powerOnFlag set s).2 ++ l) := by
  unfold powerOnFlag
  split
  · exact giveUpAttempt_held s _
  next h =>
    intro hf a ha
    have unset : set = false := by simp_all
    simpa [unset] using hs hf a ha

theorem handle_held (t : Task) (s : State) (l : List Task) (hs : s.held (t :: l)) :
    (handle t s).1.held ((handle t s).2 ++ l) := by
  by_cases h : t = .flagChanged true
  · subst h
    intro hf a ha
    simp [handle, flagNews]
  by_cases h' : ∃ set, t = .flagPower set
  · obtain ⟨set, rfl⟩ := h'
    exact powerOnFlag_held set s hs
  · refine (handle_told t s).held (handle_turn t s) fun hf a ha => ?_
    have e : Task.flagPower true ≠ t := fun e => h' ⟨true, e.symm⟩
    simpa [Ne.symm h, e] using hs hf a ha

/-! ## The switches and the sources (R71, R95) -/

theorem handle_loadSafe (t : Task) (s : State) (l : List Task) (hs : LoadSafe s (t :: l)) :
    LoadSafe (handle t s).1 ((handle t s).2 ++ l) := by
  have told : (∀ bay old new, t ≠ .powerBay bay old new) → LoadSafe s l := fun h =>
    ⟨hs.sources, fun bay => (hs.bays bay).imp_right fun ⟨old, new, hm⟩ =>
      ⟨old, new, (List.mem_cons.1 hm).resolve_left (h bay old new).symm⟩⟩
  cases t
  case powerBay bay old new =>
    refine powerOnBay_loadSafe bay old new hs.sources fun i hi => (hs.bays i).imp_right fun ⟨old', new', hm⟩ => ?_
    refine ⟨old', new', (List.mem_cons.1 hm).resolve_left fun e => hi ?_⟩
    injection e
  all_goals replace hs := told nofun
  case slotWritten slot old =>
    refine (powerOnWrite_loadSafe hs slot old).mono fun x hx => ?_
    simp only [handle, tellWritten, List.mem_append] at hx ⊢
    tauto
  case slotLapsed slot => exact ((powerOnLapse_quiet slot s).loadSafe hs).mono (by simp [handle])
  case walk => exact walkOn_loadSafe hs ..
  case goOn kind rest => exact ((goOn_quiet kind rest s).loadSafe hs).mono (by simp [handle])
  case moved => exact ((moveTold_quiet s).loadSafe hs).mono (by simp)
  case confirm => exact confirmAttempt_loadSafe hs
  case settled => exact takeWaiting_loadSafe hs
  case releaseRequest => exact onReleaseRequest_loadSafe hs ..
  case reselect => exact ((reselect_quiet s).loadSafe hs).mono (by simp)
  case alternates => exact ((checkAlternates_quiet s).loadSafe hs).mono (by simp)
  case takeover lost => exact repeatedTakeover_loadSafe hs lost
  case bridgeCheck => exact ((checkBridge_quiet s).loadSafe hs).mono (by simp)
  case flagPower set =>
    simp only [handle, powerOnFlag]
    split
    · exact giveUpAttempt_loadSafe hs
    · exact hs.mono (by simp)
  case supplySwitch => exact ((forceSupply_quiet s).loadSafe hs).mono (by simp)
  case supplyPower => exact supplyPowerSwitch_loadSafe hs
  case openPower => exact ((refresh_quiet s).loadSafe hs).mono (by simp)
  case request => exact (decodeRequest_moves ..).loadSafe (by simp) hs
  case releaseDone => exact (onReleaseDone_moves ..).loadSafe (by simp) hs
  case releaseBlocked => exact (onReleaseBlocked_moves ..).loadSafe (by simp) hs
  case alternate => exact (onAlternate_moves ..).loadSafe (by simp) hs
  case admissionReport => exact (onReport_moves ..).loadSafe (by simp) hs
  case admissionCheck => exact (checkAdmission_moves ..).loadSafe (by simp) hs
  case statusWord => exact (onStatusWord_moves ..).loadSafe (by simp) hs
  case seat => exact (toSeated_moves ..).loadSafe (by simp) hs
  case seatExpiry => exact (onSeatExpiry_moves ..).loadSafe (by simp) hs
  case identifyExpiry => exact (onIdentifyExpiry_moves ..).loadSafe (by simp) hs
  case latchTaken => exact (onLatch_moves ..).loadSafe (by simp) hs
  case presenceTaken => exact (onPresence_moves ..).loadSafe (by simp) hs
  case admissionRestart => exact (restartAdmission_moves ..).loadSafe (by simp) hs
  case flagBay => exact (onFlagCleared_moves ..).loadSafe (by simp) hs
  case supplyBay bay => exact BaysMove.loadSafe (a := supplyBaySwitch bay s) (setBay_moves s bay _ rfl rfl) rfl hs
  case openBay bay => exact BaysMove.loadSafe (a := openBayLines bay s) (setBay_moves s bay _ rfl rfl) rfl hs
  case trigger =>
    refine BaysMove.loadSafe (.of_bays ?_) ?_ hs <;> simp only [handle, onTrigger] <;> split <;> rfl
  all_goals
    exact BaysMove.loadSafe (.of_bays (by simp [handle, alone, decodeMalformed, refusal]))
      (by simp [handle, alone, decodeMalformed, refusal]) hs

theorem commandAct_loadSafe (c : Instr) (s : State) (l : List Task) (hs : LoadSafe s l) :
    LoadSafe (commandAct c s).1 ((commandAct c s).2 ++ l) := by
  have quiet : Quiet s (commandAct c s).1 → LoadSafe (commandAct c s).1 ((commandAct c s).2 ++ l) := fun h =>
    (h.loadSafe hs).mono (by simp)
  cases c
  case settingsLoadEnd => exact quiet (onLoadEnd_quiet ..)
  case commitSwitch => exact quiet (onCommitSwitch_quiet s)
  case commitLimitExpiry => exact quiet (onCommitLimit_quiet s)
  case slotStale => exact quiet (slotStale_quiet ..)
  case dcinOkChange => exact onDcin_loadSafe hs _
  case confirmTimerExpiry => exact expireConfirm_loadSafe hs
  case startupLimitExpiry => exact expireStartup_loadSafe hs
  case dwellTimerExpiry => exact quiet (expireDwell_quiet s)
  case bridgeTimerExpiry => exact quiet (expireBridge_quiet s)
  case lineLevelChange => exact (onLine_moves ..).loadSafe (by simp) hs
  case latchChange => exact (onLatch_moves ..).loadSafe (by simp) hs
  case presenceRise =>
    simp only [commandAct]
    split
    · exact (onPresence_moves ..).loadSafe (by simp) hs
    · exact hs
  case presenceFall =>
    simp only [commandAct]
    split
    · exact hs
    · exact (onPresence_moves ..).loadSafe (by simp) hs
  case seatTimerExpiry => exact (onSeatExpiry_moves ..).loadSafe (by simp) hs
  case identifyTimerExpiry => exact (onIdentifyExpiry_moves ..).loadSafe (by simp) hs
  all_goals exact BaysMove.loadSafe (.of_bays (by simp [commandAct, alone])) (by simp [commandAct, alone]) hs

/-! ## The step -/

/-- The switches, the sources and the flag's attempts, which speak of the tasks still to be worked off. -/
theorem loadSafe_stacked : Stacked LoadSafe where
  mono := LoadSafe.mono
  agenda _ h := ⟨h.sources, h.bays⟩
  kept := handle_loadSafe

theorem held_stacked : Stacked State.held where
  mono := State.held.mono
  agenda _ h := h
  kept := handle_held

/-- After POWER_ON_RESET no source is ON. -/
theorem afterReset_loadSafe (s : State) (a b : PerBay Bool) :
    LoadSafe (State.afterReset s.pending s.lines a b s.smi.memory s.smi.answers) [] := by
  have off : ∀ x, ((Ppc.reset s.lines.dcinOk).sources.get x).sw ≠ .on ∧
      ((Ppc.reset s.lines.dcinOk).sources.get x).onSince = none := by
    intro x
    cases x <;> cases s.lines.dcinOk <;> decide
  have bays : ∀ bay : Bay, ((Ppc.reset s.lines.dcinOk).sources.get (baySrc bay)).sw = .off := by
    intro bay
    cases bay <;> rfl
  refine ⟨⟨fun x => ?_, nofun, nofun, fun x hx => absurd hx (off x).1⟩,
    fun bay => .inl ⟨fun hx => ?_, fun _ => bays bay⟩⟩
  · show ((Ppc.reset s.lines.dcinOk).sources.get x).onSince.isSome = _
    rw [(off x).2]
    rfl
  · exact absurd hx (off _).1

end Sys2Proof.Machine
end

section
/-!
CLAIM. O6, every step keeps the Power Path Controller's record.
-/

namespace Sys2Proof.Machine

/-- Settles O6: the sources and the bays' switches by an induction over the tasks of a step (`Stacked`), where a bay's
switch fits its state or the bay's change is still to be told; the flag in the same way. -/
theorem stepKeepsPowerRecord : Obligations.StepKeepsPowerRecord := by
  intro s t h
  refine ⟨?_, fun hs hw => ?_, fun hs => ?_⟩
  · exact fun hs => step_keeps State.powerSafe (fun _ _ h => h) (fun _ _ h => h) (fun _ _ h => h)
      (fun t s => powerSafe_of_turn (handle_turn t s)) (fun c s => powerSafe_of_turn (commandAct_turn c s))
      (fun _ _ _ _ => ⟨rfl, rfl⟩) hs h
  · rw [← loadSafe_iff]
    exact loadSafe_stacked.step (fun _ h => ⟨h.sources, h.bays⟩) (fun _ h => ⟨h.sources, h.bays⟩) commandAct_loadSafe
      afterReset_loadSafe ((loadSafe_iff s).2 ⟨hs, hw⟩) h
  · exact held_stacked.step (fun _ h => h) (fun _ h => h)
      (fun c x l hx => (commandAct_told c x).held (commandAct_turn c x) hx) (fun _ _ _ => nofun) hs h

end Sys2Proof.Machine
end

section
/-!
SUPPORT. What follows a move that completes while nothing waits for it: the classifier, the brightness step behind a
driver write and the bridge voltage check change their own records alone (R83, R85, R88).
-/

namespace Sys2Proof.Machine

/-! ## Work that waits for nothing -/

/-- Nothing waits for the end of an attempt, or what waits is held by the flag (R77, R83). -/
def State.waitsNothing (s : State) : Prop :=
  s.ppc.supplyDue = false ∧ s.ppc.waitRelease = { a := none, b := none } ∧
    s.ppc.waitCheck = { a := false, b := false } ∧
    (s.mtu.shockHold = true ∨ s.ppc.pending = false ∧ s.ppc.bridgeDue = false)

theorem takeWaiting_nothing {s : State} (h : s.waitsNothing) : takeWaiting s = (s, []) := by
  obtain ⟨supply, release, check, held⟩ := h
  rcases held with flag | ⟨pending, bridge⟩
  · simp [takeWaiting, supply, release, check, State.releaseReady, PerBay.get, State.reselectionWaits, flag]
  · simp [takeWaiting, supply, release, check, State.releaseReady, PerBay.get, pending, bridge]

theorem State.powerIdle.waitsNothing {s : State} (h : s.powerIdle) : s.waitsNothing := by
  obtain ⟨-, -, pending, bridge, supply, -, release, check⟩ := h
  exact ⟨supply, release, check, .inr ⟨pending, bridge⟩⟩

/-- The same apart from an attempt that is awaited. -/
theorem waitsNothing_of_idle {s : State} (h : { s with ppc := { s.ppc with attempt := none } }.powerIdle) :
    s.waitsNothing := by
  have idle : State.waitsNothing _ := h.waitsNothing
  exact idle

/-! ## The tasks behind a move -/

/-- The tasks behind a completed move, and those they start. -/
def tells : Task → Bool
  | .classify => true
  | .ceiling => true
  | .brightStep => true
  | .bridgeCheck => true
  | .moved => true
  | .settled => true
  | _ => false

/-- What those tasks leave as it is: all but the classifier's and the brightness record, the notices, the move told and
the BRIDGE cause. -/
structure Told (s t : State) : Prop where
  lines : t.lines = s.lines
  uli : t.uli = s.uli
  ports : t.ports = s.ports
  bays : t.bays = s.bays
  mtu : t.mtu = s.mtu
  sru : t.sru = s.sru
  write : t.brc.write = s.brc.write
  ppc : ∃ moving cause request, t.ppc = { s.ppc with moving := moving, causeBridge := cause, shdnReq := request }

theorem Told.refl (s : State) : Told s s := ⟨rfl, rfl, rfl, rfl, rfl, rfl, rfl, _, _, _, rfl⟩

theorem Told.trans {s t u : State} (h : Told s t) (k : Told t u) : Told s u where
  lines := k.lines.trans h.lines
  uli := k.uli.trans h.uli
  ports := k.ports.trans h.ports
  bays := k.bays.trans h.bays
  mtu := k.mtu.trans h.mtu
  sru := k.sru.trans h.sru
  write := k.write.trans h.write
  ppc := by
    obtain ⟨_, _, _, hp⟩ := h.ppc
    obtain ⟨moving, cause, request, kp⟩ := k.ppc
    exact ⟨moving, cause, request, by rw [kp, hp]⟩

theorem Waited.told {s t : State} (h : Waited s t) (hp : t.ppc = s.ppc) : Told s t :=
  ⟨h.lines, h.uli, h.ports, h.bays, h.mtu, h.sru, h.write, _, _, _, hp⟩

theorem Told.waitsNothing {s t : State} (h : Told s t) (hs : s.waitsNothing) : t.waitsNothing := by
  obtain ⟨_, _, _, hp⟩ := h.ppc
  simpa [State.waitsNothing, hp, h.mtu] using hs

theorem Told.source {s t : State} (h : Told s t) (x : Src) : t.source x = s.source x := by
  obtain ⟨_, _, _, hp⟩ := h.ppc
  rw [State.source, hp]
  rfl

/-- The ON source, the path mode, the attempt, its record and the timers. -/
theorem Told.path {s t : State} (h : Told s t) : t.ppc.onSrc = s.ppc.onSrc ∧ t.ppc.managed = s.ppc.managed ∧
    t.ppc.attempt = s.ppc.attempt ∧ t.ppc.record = s.ppc.record ∧ t.ppc.bridge = s.ppc.bridge ∧
    t.ppc.causeNoAlternate = s.ppc.causeNoAlternate := by
  obtain ⟨_, _, _, hp⟩ := h.ppc
  rw [hp]
  exact ⟨rfl, rfl, rfl, rfl, rfl, rfl⟩

theorem addBridgeCause_told (why : Int) (s : State) : Told s (addBridgeCause why s) := by
  unfold addBridgeCause
  split
  · exact .refl s
  · exact ⟨rfl, rfl, rfl, rfl, rfl, rfl, rfl, _, _, _, rfl⟩

theorem checkBridge_told (s : State) : Told s (checkBridge s) := by
  unfold checkBridge
  split
  · exact addBridgeCause_told ..
  · exact .refl s

theorem handle_tells {t : Task} {s : State} {code : Nat} (ht : tells t = true) (hs : s.waitsNothing)
    (hw : s.brc.write = .executing code) :
    Told s (handle t s).1 ∧ ∀ u ∈ (handle t s).2, tells u = true := by
  cases t <;> simp only [tells, Bool.false_eq_true] at ht
  case moved => exact ⟨⟨rfl, rfl, rfl, rfl, rfl, rfl, rfl, _, _, _, rfl⟩, by simp [handle, alone]⟩
  case settled => simp [handle, takeWaiting_nothing hs, Told.refl]
  case bridgeCheck => exact ⟨checkBridge_told s, by simp [handle, alone]⟩
  case classify =>
    refine ⟨(evaluateClass_waited s).told (by simp), ?_⟩
    simp only [handle, evaluateClass]
    split <;> simp [tells]
  case ceiling =>
    simp only [handle, recomputeCeiling]
    (repeat' split)
    · exact ⟨.refl s, by simp⟩
    · exact ⟨.refl s, by simp⟩
    · exact ⟨⟨rfl, rfl, rfl, rfl, rfl, rfl, rfl, _, _, _, rfl⟩, by simp [tells]⟩
  case brightStep =>
    have k := brightnessStep_waited hw
    exact ⟨k.1.told (by simp), by simp [handle, k.2]⟩

/-- The run of the tasks behind a completed move, while a driver write executes. -/
theorem run_tells (fuel : Nat) {ts : List Task} {s : State} {code : Nat} (ht : ∀ t ∈ ts, tells t = true)
    (hs : s.waitsNothing) (hw : s.brc.write = .executing code) : Told s (run fuel ts s) :=
  run_keeps_class (fun u => Told s u) (fun t => tells t = true)
    (fun _ _ k => k.trans ⟨rfl, rfl, rfl, rfl, rfl, rfl, rfl, _, _, _, rfl⟩)
    (fun _ _ ht k => k.trans (handle_tells ht (k.waitsNothing hs) (k.write.trans hw)).1)
    (fun _ _ ht k => (handle_tells ht (k.waitsNothing hs) (k.write.trans hw)).2) fuel ts s ht (.refl s)

/-! ## A trigger that waits -/

/-- What a trigger leaves while an attempt is awaited or a move is told (R77, R84). -/
def State.triggerWaits (s : State) : State :=
  { s with ppc := { s.ppc with waitCheck := s.dueChecks, pending := true } }

@[simp] theorem State.triggerWaits_source (s : State) (x : Src) : s.triggerWaits.source x = s.source x := rfl

theorem run_trigger_waits {s : State} (ho : s.opened = true) (he : s.ppc.engaged = true) :
    run stepFuel [.trigger] s = s.triggerWaits := by
  have news : handle .trigger s = (s, [.alternates, .reselect]) := by
    simp only [handle, onTrigger, ho, State.repeatTakeover, he]
    cases s.ppc.onSrc <;> simp [tasksIf]
  have checks : handle .alternates s = ({ s with ppc := { s.ppc with waitCheck := s.dueChecks } }, []) := by
    simp [handle, checkAlternates, he]
  rw [run_step, news]
  show run (4094 + 1) [.alternates, .reselect] s = _
  rw [run_cons, checks]
  refine (run_cons 4093 ..).trans ?_
  have waits : ∀ p, (({ s with ppc := { s.ppc with waitCheck := p } } : State)).reselectionWaits = true := fun p => by
    simp_all [State.reselectionWaits, Ppc.engaged]
  simp [handle, reselect, waits, State.triggerWaits]

end Sys2Proof.Machine
end

section
/-!
SUPPORT. What a takeover and a completed attempt leave, field by field (R79, R81, R85, R88, R89).
-/

namespace Sys2Proof.Machine

/-- What waits, and what the flag holds, is as it was. -/
structure WaitsSame (s t : State) : Prop where
  supplyDue : t.ppc.supplyDue = s.ppc.supplyDue
  waitCheck : t.ppc.waitCheck = s.ppc.waitCheck
  pending : t.ppc.pending = s.ppc.pending
  bridgeDue : t.ppc.bridgeDue = s.ppc.bridgeDue
  flag : t.mtu.shockHold = s.mtu.shockHold

theorem WaitsSame.waitsNothing {s t : State} (h : WaitsSame s t) (hr : t.ppc.waitRelease = { a := none, b := none })
    (hs : s.waitsNothing) : t.waitsNothing := by
  obtain ⟨supply, -, check, held⟩ := hs
  exact ⟨h.supplyDue.trans supply, hr, h.waitCheck.trans check, by rwa [h.flag, h.pending, h.bridgeDue]⟩

/-! ## A takeover -/

/-- What a takeover from the ON source to another leaves of the Power Path Controller and of the notices. -/
structure TakenOver (x c : Src) (urgent : Bool) (s t : State) : Prop where
  onSrc : t.ppc.onSrc = some c
  managed : t.ppc.managed = true
  attempt : t.ppc.attempt = s.ppc.attempt
  record : t.ppc.record = some (takeoverRecord x c s.now)
  bridge : t.ppc.bridge = if c = .br then some { start := s.now, dur := 1000 * s.supply.bridgeTime } else none
  noAlternate : t.ppc.causeNoAlternate = false
  cause : t.ppc.causeBridge = (s.ppc.causeBridge && c == .br)
  request : t.ppc.shdnReq = t.ppc.causeBridge
  target : t.source c = { s.source c with sw := .on, onSince := some s.now }
  lost : t.source x = { s.source x with sw := .off, onSince := none }
  others : ∀ y, y ≠ x → y ≠ c → t.source y = s.source y
  release : srcBay x = none → t.ppc.waitRelease = s.ppc.waitRelease
  waits : WaitsSame s t
  ntq : t.ntq = s.ntq.post s.now (sourceChanged (lossSeverity urgent) c (some x) .fault)

theorem takeOver_takenOver {x c : Src} {s : State} (ho : s.ppc.onSrc = some x) (hne : c ≠ x) (urgent : Bool) :
    TakenOver x c urgent s (takeOver x c urgent s).1 := by
  have ppc := takeOver_lost_ppc x c urgent s ho
  have source : ∀ y, (takeOver x c urgent s).1.source y =
      ((((s.leaveOn x .off).setSwitch c .on).carriesFrom c).source y) := fun y => by
    simp [State.source, ppc, Ppc.nowOn, Ppc.request]
  have switched : ∀ y, y ≠ c → (((s.leaveOn x .off).setSwitch c .on).carriesFrom c).source y =
      (s.leaveOn x .off).source y := fun y hy => by
    rw [carriesFrom_source_ne hy]
    exact State.setSource_source_ne _ _ hy
  constructor
  case onSrc => rw [ppc]; rfl
  case managed => rw [ppc]; rfl
  case attempt => rw [ppc]; rfl
  case record => rw [ppc]
  case bridge => rw [ppc]; cases c <;> rfl
  case noAlternate => rw [ppc]; rfl
  case cause => rw [ppc]; rfl
  case request => rw [ppc]; exact Bool.or_false _
  case target =>
    rw [source, carriesFrom_source_self, State.setSwitch, State.setSource_source_self, leaveOn_source_ne hne]
    rfl
  case lost => rw [source, switched x hne.symm, leaveOn_source_self]
  case others =>
    intro y hx hc
    rw [source, switched y hc, leaveOn_source_ne hx]
  case release =>
    intro hx
    rw [ppc]
    simp [ho, hx]
  case waits => exact ⟨by rw [ppc]; rfl, by rw [ppc]; rfl, by rw [ppc]; rfl, by rw [ppc]; rfl, by simp⟩
  case ntq => simp [takeOver, leaveForTakeover, ho, State.carriesFrom]

/-- A takeover from one source that is no pack to another (R85): no bay is told. -/
theorem takeOver_noPacks {x c : Src} {s : State} (hx : srcBay x = none) (hc : srcBay c = none)
    (ho : s.ppc.onSrc = some x) (urgent : Bool) : (takeOver x c urgent s).1.bays = s.bays ∧
      (takeOver x c urgent s).2 = .classify :: (tasksIf (c == .br) [.bridgeCheck] ++ [.moved, .settled]) := by
  obtain ⟨-, -, -, bays, tasks⟩ := takeOver_fields x c urgent s
  rw [bays, tasks]
  simp [leaveForTakeover, ho, commandOff_noPack hx, commandOn_noPack hc, State.departed, hx]

/-! ## The bays of the sources that leave ON and come ON (R103, R104, R106) -/

/-- The record an ACTIVE bay takes as its switch leaves ON: READY, or FAULTED with fault-pending set (R103). -/
def BayRec.left (r : BayRec) (now : Time) : BayRec :=
  if r.faultPending then
    { r with
      state := .faulted, entry := now, faultReason := some .status, faultPending := false
      identify := none, admission := [], wasActive := false }
  else { r with state := .ready, entry := now, wasActive := false }

theorem commandOff_bay_active {s : State} {bay : Bay} (h : (s.bay bay).state = .active) (sw : Switch) :
    (commandOff (baySrc bay) sw s).1.bay bay = (s.bay bay).left s.now := by
  have hb : (s.leaveOn (baySrc bay) sw).bay bay = s.bay bay := rfl
  rw [commandOff_pack]
  simp only [onSwitchOff, hb, h, if_true, toReady, BayRec.left]
  split <;> simp [toFaulted, bayGoto, State.leaveOn]

/-- A pack whose bay does not carry the load leaves ON without a change of its bay. -/
theorem commandOff_bays_notCarrying {s : State} {bay : Bay} (h : (s.bay bay).carries = false) (sw : Switch) :
    (commandOff (baySrc bay) sw s).1.bays = s.bays := by
  have hb : (s.leaveOn (baySrc bay) sw).bay bay = s.bay bay := rfl
  rw [commandOff_pack]
  simp only [onSwitchOff, hb]
  split
  next ha => simp [BayRec.carries, ha] at h
  split
  next hs =>
    have e : { s.bay bay with wasActive := false } = s.bay bay := by
      have : (s.bay bay).wasActive = false := by simpa [BayRec.carries, hs] using h
      rw [← this]
    rw [e]
    simp [State.leaveOn, State.bay]
  · rfl

theorem commandOn_bay_ready {s : State} {bay : Bay} (h : (s.bay bay).state = .ready) :
    (commandOn (baySrc bay) s).1.bay bay = { s.bay bay with state := .active, entry := s.now } := by
  have hb : (s.setSwitch (baySrc bay) .on).bay bay = s.bay bay := rfl
  rw [commandOn_pack]
  simp [onSwitchOn, hb, h, bayGoto]

theorem commandOn_bay_active {s : State} {bay : Bay} (h : (s.bay bay).state = .active) :
    (commandOn (baySrc bay) s).1 = s.setSwitch (baySrc bay) .on := by
  have hb : (s.setSwitch (baySrc bay) .on).bay bay = s.bay bay := rfl
  rw [commandOn_pack]
  simp [onSwitchOn, hb, h]

/-- A takeover tells the bays of its two sources alone. -/
theorem takeOver_bay {x c : Src} {s : State} (ho : s.ppc.onSrc = some x) (urgent : Bool) (bay : Bay) :
    (takeOver x c urgent s).1.bay bay = (commandOn c (commandOff x .off s).1).1.bay bay := by
  obtain ⟨-, -, -, bays, -⟩ := takeOver_fields x c urgent s
  simp [State.bay, bays, leaveForTakeover, ho]

/-! ## An attempt that completes -/

/-- What a completed attempt leaves of the Power Path Controller and of the notices; its old source took the state
`sw`. -/
structure Completed (a : Attempt) (result : MoveResult) (severity : Severity) (sw : Src → Switch)
    (s t : State) : Prop where
  onSrc : t.ppc.onSrc = some a.target
  managed : t.ppc.managed = true
  attempt : t.ppc.attempt = none
  moving : t.ppc.moving = true
  record : t.ppc.record = s.ppc.record.map fun r => { r with finish := some s.now, result := some result }
  noAlternate : t.ppc.causeNoAlternate = false
  dwell : t.ppc.dwell = s.dwellStart a.target
  target : t.source a.target = { s.source a.target with onSince := some s.now }
  old : ∀ y, a.old = some y → t.source y = { s.source y with sw := sw y, onSince := none }
  release : t.ppc.waitRelease = s.ppc.waitRelease
  waits : WaitsSame s t
  ntq : t.ntq = s.ntq.post s.now (sourceChanged severity a.target a.old a.reason)

theorem leaveOld_ppc (old : Option Src) (lost : Bool) (s : State) :
    ∃ sources, (leaveOld old lost s).1.ppc = { s.ppc with sources := sources } := by
  cases old with
  | none => exact ⟨_, rfl⟩
  | some x => exact ⟨_, commandOff_ppc ..⟩

theorem completeAttempt_completed {s : State} {a : Attempt} (ha : s.ppc.attempt = some a) (ht : a.old ≠ some a.target)
    (result : MoveResult) (severity : Severity) (lost : Bool) :
    Completed a result severity (fun y => if lost then .off else s.restState y) s
      (completeAttempt result severity lost s).1 := by
  obtain ⟨onSrc, attempt, source, -, -⟩ := completeAttempt_fields ha result severity lost
  have old : ∀ y, a.old = some y → (leaveOld a.old lost s).1.source y =
      { s.source y with sw := if lost then .off else s.restState y, onSince := none } := fun y hy => by
    rw [hy]; exact commandOff_source_self ..
  have kept : (leaveOld a.old lost s).1.source a.target = s.source a.target := by
    cases h : a.old with
    | none => rfl
    | some x => exact commandOff_source_ne (fun e => ht (by rw [h, e])) ..
  have hnow : (leaveOld a.old lost s).1.now = s.now := by simp
  obtain ⟨sources, ppc⟩ := leaveOld_ppc a.old lost s
  constructor
  case onSrc => exact onSrc
  case attempt => exact attempt
  case target => rw [source, carriesFrom_source_self, kept, hnow]
  case old =>
    intro y hy
    rw [source, carriesFrom_source_ne (fun e => ht (by rw [hy, e])), old y hy]
  case waits =>
    constructor <;> simp [completeAttempt, ha, State.closeAttempt, State.carriesFrom, Ppc.nowOn, Ppc.request, ppc]
  all_goals
    simp [completeAttempt, ha, State.closeAttempt, State.carriesFrom, Ppc.nowOn, Ppc.request, ppc, MoveRec.ended]

/-- The work behind an attempt that is no release's and whose old source is no pack: it changes no bay, and only what
`Told` leaves open. -/
theorem run_completed {s : State} {a : Attempt} (ha : s.ppc.attempt = some a) (ht : a.old ≠ some a.target)
    (hk : ∀ bay origin, a.kind ≠ .release bay origin) (hp : ∀ y, a.old = some y → srcBay y = none)
    (hs : s.waitsNothing) {code : Nat} (hw : s.brc.write = .executing code) (result : MoveResult) (severity : Severity)
    (lost : Bool) (fuel : Nat) :
    let c := completeAttempt result severity lost s
    c.1.bays = s.bays ∧ Told c.1 (run fuel c.2 c.1) := by
  have done := completeAttempt_completed ha ht result severity lost
  obtain ⟨-, -, -, bays, tasks⟩ := completeAttempt_fields ha result severity lost
  have left : (leaveOld a.old lost s).1.bays = s.bays ∧ (leaveOld a.old lost s).2 = [] := by
    cases h : a.old with
    | none => exact ⟨rfl, rfl⟩
    | some y => simp [leaveOld, commandOff_noPack (hp y h)]
  have noDone : doneTasks a.kind = [] := by
    cases h : a.kind with
    | release bay origin => exact absurd h (hk bay origin)
    | _ => rfl
  refine ⟨bays.trans left.1, run_tells (code := code) fuel ?_ ?_ ?_⟩
  · rw [tasks, left.2, noDone]; decide
  · exact done.waits.waitsNothing (done.release.trans hs.2.1) hs
  · simpa using hw

end Sys2Proof.Machine
end

section
/-!
SUPPORT. DC-in's changes (R68, R72): the state an operation on DC starts from, and the takeover to BR.
-/

namespace Sys2Proof.Machine

@[simp] theorem State.refresh_source (s : State) (x : Src) : s.refresh.source x = s.refreshed x := by cases x <;> rfl

/-- A change of DC-in changes its line and the source records alone. -/
theorem withDcin_eq (s : State) (high : Bool) : ∃ sources, s.withDcin high =
    { s with lines := { s.lines with dcinOk := high }, ppc := { s.ppc with sources := sources } } := by
  unfold State.withDcin State.setIdleSwitch
  split <;> exact ⟨_, rfl⟩

theorem withDcin_eligible (s : State) (high : Bool) (x : Src) : ((s.withDcin high).source x).eligible =
    State.eligibleNow { s with lines := { s.lines with dcinOk := high } } x := by
  unfold State.withDcin
  rw [setIdleSwitch_source]
  split <;> simp [State.refreshed]

theorem withDcin_sw (s : State) (high : Bool) (x : Src) : ((s.withDcin high).source x).sw =
    if x = .dc ∧ (s.source .dc).sw ≠ .on then (if high then .standby else .off) else (s.source x).sw := by
  have before : ∀ y, (State.source (State.refresh { s with lines := { s.lines with dcinOk := high } }) y).sw =
      (s.source y).sw := by
    intro y
    rw [State.refresh_source]
    rfl
  unfold State.withDcin
  rw [setIdleSwitch_source, before]
  split
  · rfl
  · exact before x

/-- The candidates when neither DC nor a pack may be chosen: BR, if it may (R73). -/
theorem candidates_noPrimary {s : State} {excluded : Option Src}
    (hdc : (s.choosable .dc && excluded != some .dc) = false)
    (hp : ∀ bay, (s.choosable (baySrc bay) && excluded != some (baySrc bay)) = false) :
    s.candidates excluded = [Src.br].filter fun x => s.choosable x && excluded != some x := by
  have none : ∀ packs : List Bay,
      (Src.dc :: packs.map baySrc).filter (fun x => s.choosable x && excluded != some x) = [] := by
    intro packs
    rw [List.filter_eq_nil_iff]
    intro x hx
    simp only [List.mem_cons, List.mem_map] at hx
    obtain rfl | ⟨bay, -, rfl⟩ := hx
    · simp only [hdc, Bool.false_eq_true, not_false_eq_true]
    · simp only [hp, Bool.false_eq_true, not_false_eq_true]
  simp only [State.candidates, none, List.isEmpty_nil, if_true]

/-- A presence or DC-in loss with no primary candidate left goes to BR, eligible or not (R85). -/
theorem onTakeover_bridge {s : State} {lost : Src} (hdc : (s.choosable .dc && some lost != some .dc) = false)
    (hp : ∀ bay, (s.choosable (baySrc bay) && some lost != some (baySrc bay)) = false) (ho : s.ppc.onSrc ≠ some .br) :
    onTakeover lost true s = takeOver lost .br true s := by
  rw [onTakeover, candidates_noPrimary hdc hp]
  simp only [List.filter]
  cases s.choosable .br && some lost != some .br <;> simp [ho]

end Sys2Proof.Machine
end

section
/-!
CLAIM. O51, DC-in's changes.
-/

namespace Sys2Proof.Machine

theorem exec_dcinOkChange {s : State} (h : s.agenda = []) (high : Bool) :
    exec (.dcinOkChange high) s = .next (run stepFuel (onDcin high s).2 (onDcin high s).1) :=
  exec_quiet (.dcinOkChange high) nofun h

/-- DC rises while a confirm is awaited: its trigger waits (R68, R77). -/
theorem exec_dcinRise {s : State} (h : s.agenda = []) (hd : s.lines.dcinOk = false) (ho : s.opened = true)
    (ha : s.ppc.attempt.isSome = true) : exec (.dcinOkChange true) s = .next (s.withDcin true).triggerWaits := by
  obtain ⟨sources, e⟩ := withDcin_eq s true
  have acts : onDcin true s = (s.withDcin true, [.trigger]) := by simp [onDcin_eq, hd]
  rw [exec_dcinOkChange h, acts, run_trigger_waits]
  · rw [e]; exact ho
  · rw [e]; simp [Ppc.engaged, ha]

/-- DC, the ON source, falls with no eligible pack: the tasks of the takeover to BR (R82, R85, R88). -/
theorem exec_dcinFall {s : State} (h : s.agenda = []) (hd : s.lines.dcinOk = true) (ha : s.ppc.attempt = none)
    (ho : s.ppc.onSrc = some .dc) (hp : ∀ bay, s.eligibleNow (baySrc bay) = false) :
    exec (.dcinOkChange false) s = .next (run stepFuel (takeOver .dc .br true (s.withDcin false)).2
      (takeOver .dc .br true (s.withDcin false)).1) := by
  have el : ∀ bay, ((s.withDcin false).source (baySrc bay)).eligible = false := by
    intro bay
    rw [withDcin_eligible]
    have := hp bay
    cases bay <;> exact this
  obtain ⟨sources, e⟩ := withDcin_eq s false
  have loss : onLoss .dc true true (s.withDcin false) = onTakeover .dc true (s.withDcin false) := by
    rw [e]
    simp [onLoss, ha, ho]
  have on : (s.withDcin false).ppc.onSrc = some .dc := by rw [e]; exact ho
  rw [exec_dcinOkChange h, onDcin_eq, if_neg (by simp [hd]), if_neg (by simp), loss,
    onTakeover_bridge (by simp) (fun bay => by simp [State.choosable, el]) (by simp [on])]

/-- DC falls as the from source of an awaited attempt: its target completes it at once (R82). -/
theorem exec_dcinFromLost {s : State} (h : s.agenda = []) (hd : s.lines.dcinOk = true) {a : Attempt}
    (ha : s.ppc.attempt = some a) (hold : a.old = some .dc) (ht : a.target ≠ .dc) :
    exec (.dcinOkChange false) s =
      .next (run stepFuel (completeAttempt .fromLost .urgent true (s.withDcin false)).2
        (completeAttempt .fromLost .urgent true (s.withDcin false)).1) := by
  have loss : onLoss .dc true true (s.withDcin false) = completeAttempt .fromLost .urgent true (s.withDcin false) := by
    obtain ⟨sources, e⟩ := withDcin_eq s false
    simp [onLoss, e, ha, hold, ht, lossSeverity]
  rw [exec_dcinOkChange h, onDcin_eq, if_neg (by simp [hd]), if_neg (by simp), loss]

/-- Settles O51: `withDcin` is what a change of the line does of itself; the rest is a trigger that waits, a takeover,
or an attempt that completes, and the work behind each changes none of what is stated. -/
theorem dcInChanges : Obligations.DcInChanges := by
  intro s h
  refine ⟨fun high hh => ?_, fun hd ho ha hon => ?_, fun code hd hidle ho hna hnb hw => ?_,
    fun a x code hd ha hx hold htar hkind hidle hw => ?_⟩
  · rw [exec_dcinOkChange h, onDcin_eq, if_pos hh, run_nil]
  · refine ⟨_, exec_dcinRise h hd (by simpa [State.opened] using ho) ha, ?_⟩
    have sw : ((s.withDcin true).source .dc).sw = .standby := by simp [withDcin_sw, hon]
    have el := withDcin_eligible s true .dc
    obtain ⟨sources, e⟩ := withDcin_eq s true
    rw [e] at sw el ⊢
    exact ⟨rfl, sw, el, rfl, rfl, rfl, rfl, rfl, rfl, rfl, rfl, rfl, rfl⟩
  · obtain ⟨sources, e⟩ := withDcin_eq s false
    have on : (s.withDcin false).ppc.onSrc = some .dc := by rw [e]; exact ho
    have moved := takeOver_takenOver on (c := .br) (by decide) true
    obtain ⟨bays, tasks⟩ := takeOver_noPacks (c := .br) rfl rfl on true
    have waits : (s.withDcin false).waitsNothing := by rw [e]; exact hidle.waitsNothing
    have told := run_tells stepFuel (ts := (takeOver .dc .br true (s.withDcin false)).2) (by rw [tasks]; decide)
      (moved.waits.waitsNothing ((moved.release rfl).trans waits.2.1) waits)
      (show _ = WriteRec.executing code by simpa [e] using hw)
    refine ⟨_, exec_dcinFall h hd hidle.1 ho (by rintro (_ | _) <;> assumption), ?_⟩
    have frame := takeOver_frame .dc .br true (s.withDcin false)
    generalize takeOver .dc .br true (s.withDcin false) = a at moved bays told frame
    generalize run stepFuel a.2 a.1 = t at told
    obtain ⟨-, -, -, lines, uli, ports, -, -, -, -, mtu, sru, -⟩ := frame
    obtain ⟨onSrc, -, attempt, record, bridge, -⟩ := told.path
    rw [e] at moved bays lines uli ports mtu sru
    exact ⟨told.lines.trans lines, onSrc.trans moved.onSrc, by rw [told.source, moved.lost],
      by rw [told.source, moved.lost], by rw [told.source, moved.target], by rw [told.source, moved.target],
      attempt.trans (moved.attempt.trans hidle.1),
      record.trans moved.record, bridge.trans moved.bridge, told.bays.trans bays, told.mtu.trans mtu,
      told.ports.trans ports, told.sru.trans sru, told.uli.trans uli⟩
  · obtain ⟨sources, e⟩ := withDcin_eq s false
    have at' : (s.withDcin false).ppc.attempt = some a := by rw [e]; exact ha
    have hne : a.old ≠ some a.target := by rw [hold]; exact fun h => htar (Option.some.inj h).symm
    have done := completeAttempt_completed at' hne .fromLost .urgent true
    have waits : (s.withDcin false).waitsNothing := by rw [e]; exact waitsNothing_of_idle hidle
    obtain ⟨bays, told⟩ := run_completed at' hne hkind (by rw [hold]; rintro _ ⟨⟩; rfl) waits
      (show _ = WriteRec.executing code by simpa [e] using hw) .fromLost .urgent true stepFuel
    have frame := completeAttempt_frame .fromLost .urgent true (s.withDcin false)
    refine ⟨_, exec_dcinFromLost h hd ha hold htar, ?_⟩
    generalize completeAttempt .fromLost .urgent true (s.withDcin false) = c at done bays told frame
    generalize run stepFuel c.2 c.1 = t at told
    obtain ⟨-, -, -, lines, uli, ports, -, -, -, -, mtu, sru, -⟩ := frame
    obtain ⟨onSrc, managed, attempt, record, -⟩ := told.path
    rw [e] at done bays lines uli ports mtu sru
    exact ⟨told.lines.trans lines, onSrc.trans done.onSrc, managed.trans done.managed, attempt.trans done.attempt,
      by rw [told.source, done.old .dc hold]; rfl, by rw [told.source, done.old .dc hold],
      by rw [told.source, done.target], record.trans (done.record.trans (by rw [hx]; rfl)), told.bays.trans bays,
      told.mtu.trans mtu, told.ports.trans ports, told.sru.trans sru, told.uli.trans uli⟩

end Sys2Proof.Machine
end

section
/-!
CLAIM. O54, how an awaited attempt ends: its feedback confirms, or its confirm timer expires.
-/

namespace Sys2Proof.Machine

/-- A change of a feedback line is its level. -/
def State.withFeedback (s : State) (x : Src) (conducting : Bool) : State :=
  { s with lines := { s.lines with feedback := s.lines.feedback.set x conducting } }

theorem onFeedback_eq (x : Src) (conducting : Bool) (s : State) : onFeedback x conducting s =
    (s.withFeedback x conducting,
      if conducting && s.ppc.attempt.any fun a => a.target == x then [.confirm] else []) := rfl

/-- The awaited feedback confirms (R79). -/
theorem handle_confirm {s : State} {a : Attempt} (ha : s.ppc.attempt = some a)
    (hf : s.lines.feedback.get a.target = true) :
    handle .confirm s = completeAttempt .confirmed .info false s := by
  simp [handle, confirmAttempt, ha, hf]

/-- The awaited line conducts: the attempt completes (R79). -/
theorem exec_feedbackConfirms {s : State} (h : s.agenda = []) {a : Attempt} (ha : s.ppc.attempt = some a) :
    exec (.feedbackConducting a.target true) s = .next
      (run 4095 (completeAttempt .confirmed .info false (s.withFeedback a.target true)).2
        (completeAttempt .confirmed .info false (s.withFeedback a.target true)).1) := by
  have acts : onFeedback a.target true s = (s.withFeedback a.target true, [.confirm]) := by simp [onFeedback_eq, ha]
  have confirms := handle_confirm (s := s.withFeedback a.target true) ha (by simp [State.withFeedback])
  rw [exec_quiet (.feedbackConducting a.target true) nofun h]
  show Host.Outcome.next (run stepFuel (onFeedback a.target true s).2 (onFeedback a.target true s).1) = _
  rw [acts, run_step, confirms, List.append_nil]

/-- A command whose first change is none. -/
theorem exec_still {c : Instr} (hc : c ≠ .powerOnReset) {s : State} (h : s.agenda = [])
    (hs : commandAct c s = (s, [])) :
    exec c s = .next s := by
  rw [exec_start c hc h (by rw [hs]), hs]

theorem run_first {n : Nat} {t : Task} {s s' : State} {us : List Task} (h : handle t s = (s', us)) (ts : List Task) :
    run (n + 1) (t :: ts) s = run n (us ++ ts) s' := by
  rw [run_cons, h]

theorem bridgeStopFor_eq (s : State) (target : Src) :
    ∃ bridge, s.bridgeStopFor target = { s with ppc := { s.ppc with bridge := bridge } } := by
  unfold State.bridgeStopFor
  split <;> exact ⟨_, rfl⟩

/-- A walk that goes on with no candidate left ends, or waits for the flag (R77). -/
theorem run_goOn_nil {kind : WalkKind} {s : State} (hm : s.ppc.moving = true) (ha : s.ppc.attempt = none)
    (hk : ∀ bay origin, kind ≠ .release bay origin) (hs : s.waitsNothing) :
    run stepFuel [.goOn kind []] s = s.moveTold ∨ run stepFuel [.goOn kind []] s = s.moveTold.heldBack kind := by
  have goes : handle (.goOn kind []) s = (s.moveTold, [.walk kind []]) := by simp [handle, goOn, hm]
  have waits : s.moveTold.waitsNothing := hs
  have ends : handle (.walk kind []) s.moveTold = (s.moveTold, [.settled]) ∨
      s.mtu.shockHold = true ∧ handle (.walk kind []) s.moveTold = (s.moveTold.heldBack kind, [.settled]) := by
    have ended : endWalk kind s.moveTold = (s.moveTold, [.settled]) := by
      cases kind with
      | release bay origin => exact absurd rfl (hk bay origin)
      | _ => rfl
    have ha' : s.moveTold.ppc.attempt = none := ha
    simp only [handle, walkOn, ha', ended]
    split
    · simp at *
    split
    next hf => exact .inr ⟨by simp_all [State.moveTold], rfl⟩
    · exact .inl rfl
  have settled : handle .settled s.moveTold = (s.moveTold, []) := takeWaiting_nothing waits
  have start := (run_first (n := 4095) goes [])
  rcases ends with ends | ⟨hf, ends⟩
  · left
    rw [stepFuel, start, List.append_nil, run_first (n := 4094) ends, List.append_nil, run_first (n := 4093) settled]
    rfl
  · right
    have heldWaits : (s.moveTold.heldBack kind).waitsNothing := by
      obtain ⟨supply, release, check, -⟩ := waits
      refine ⟨supply, ?_, check, .inl hf⟩
      cases kind with
      | release bay origin => exact absurd rfl (hk bay origin)
      | _ => exact release
    have settled : handle .settled (s.moveTold.heldBack kind) = (s.moveTold.heldBack kind, []) :=
      takeWaiting_nothing heldWaits
    rw [stepFuel, start, List.append_nil, run_first (n := 4094) ends, List.append_nil, run_first (n := 4093) settled]
    rfl

/-- The state an expired confirm leaves for a target that is no pack, before the walk goes on (R70, R80). -/
def State.unconfirmed (s : State) (a : Attempt) : State :=
  ((((s.leaveOn a.target (s.restState a.target)).closeAttempt .confirmTimeout).bridgeStopFor a.target).notify
    (failedNotice a)).takeDueSupply

/-- The notice of an expired confirm: for the bridge attempt STARTUP_NO_SOURCE alone (R70, R80, log entry 17). -/
theorem failedNotice_eq (a : Attempt) : failedNotice a = if a.kind = .bridge then
    { kind := .startupNoSource, severity := .urgent, subject := 0, arg1 := 0, arg2 := 0 }
  else
    { kind := .handoverFailed, severity := .warn, subject := srcNumber a.target, arg1 := srcCode a.old
      arg2 := reasonCode a.reason } := by
  unfold failedNotice
  cases a.kind <;> rfl

theorem unconfirmed_eq (s : State) (a : Attempt) : ∃ bridge, s.unconfirmed a = { s with
    ntq := s.ntq.post s.now (failedNotice a)
    ppc := { s.ppc with
      sources := s.ppc.sources.set a.target
        { s.source a.target with sw := s.restState a.target, onSince := none }
      attempt := none
      moving := true
      record := s.ppc.record.map fun r => r.ended s.now .confirmTimeout
      supplyDue := false
      bridge := bridge } } := by
  obtain ⟨bridge, e⟩ := bridgeStopFor_eq
    ((s.leaveOn a.target (s.restState a.target)).closeAttempt .confirmTimeout) a.target
  exact ⟨bridge, by rw [State.unconfirmed, e]; rfl⟩

theorem expireConfirm_noPack {s : State} {a : Attempt} (ha : s.ppc.attempt = some a)
    (ht : a.confirm.dur ≤ age s.now a.confirm.start) (hn : srcBay a.target = none) (hd : s.ppc.supplyDue = false) :
    expireConfirm s = (s.unconfirmed a, [.goOn a.kind a.rest]) := by
  have due : a.confirm.due s.now = true := by simp [Timer.due, ht]
  simp only [expireConfirm, ha, due, failAttempt, commandOff_noPack hn]
  obtain ⟨bridge, e⟩ := bridgeStopFor_eq
    ((s.leaveOn a.target (s.restState a.target)).closeAttempt .confirmTimeout) a.target
  have none : (((s.leaveOn a.target (s.restState a.target)).closeAttempt .confirmTimeout).bridgeStopFor
      a.target).ppc.supplyDue = false := by rw [e]; exact hd
  simp [resumeWalk, State.dueSupply, none, tasksIf, State.unconfirmed]

/-- Settles O54: the completed attempt field by field (`Completed`), and the expired one (`State.unconfirmed`), behind
which the walk ends. -/
theorem attemptsEnd : Obligations.AttemptsEnd := by
  intro s h
  refine ⟨fun x conducting hc => ?_, fun a ha hf hne => ?_, fun a x ha hx hk hne hp hidle =>
    ⟨fun code hw => ?_, fun ht => ?_, fun ht hr hn => ?_⟩⟩
  · have none : (conducting && s.ppc.attempt.any fun a => a.target == x) = false := by
      rcases hc with rfl | hc
      · rfl
      · cases e : s.ppc.attempt with
        | none => simp
        | some a => simp [hc a e]
    exact exec_start (.feedbackConducting x conducting) nofun h (by simp [commandAct, onFeedback_eq, none])
  · simp only [handle_confirm ha hf]
    have done := completeAttempt_completed ha hne .confirmed .info false
    obtain ⟨-, -, -, bays, tasks⟩ := completeAttempt_fields ha .confirmed .info false
    refine ⟨done.attempt, done.moving, done.onSrc, done.managed, by rw [done.target], by rw [done.target],
      fun y hy => ?_, done.record, done.noAlternate, done.dwell.trans ?_, done.ntq, fun bay hb hactive => ?_,
      fun bay origin hk => ?_⟩
    · rw [done.old y hy]; simp
    · simp [State.dwellStart, timerNow]
    · have left : (completeAttempt .confirmed .info false s).1.bay bay =
          (commandOff (baySrc bay) (s.restState (baySrc bay)) s).1.bay bay := by
        simp [State.bay, bays, hb, leaveOld]
      rw [left, commandOff_bay_active hactive]
      rfl
    · rw [tasks, hk]; simp [doneTasks]
  · have at' : (s.withFeedback a.target true).ppc.attempt = some a := ha
    have done := completeAttempt_completed at' hne .confirmed .info false
    obtain ⟨bays, told⟩ := run_completed at' hne hk hp (waitsNothing_of_idle hidle) hw .confirmed .info false 4095
    have frame := completeAttempt_frame .confirmed .info false (s.withFeedback a.target true)
    refine ⟨_, exec_feedbackConfirms h ha, ?_⟩
    generalize completeAttempt .confirmed .info false (s.withFeedback a.target true) = c at done bays told frame
    generalize run 4095 c.2 c.1 = t at told
    obtain ⟨-, -, -, lines, uli, ports, -, -, -, -, mtu, sru, -⟩ := frame
    obtain ⟨onSrc, managed, attempt, record, -, noAlternate⟩ := told.path
    refine ⟨told.lines.trans lines, attempt.trans done.attempt, onSrc.trans done.onSrc, managed.trans done.managed,
      by rw [told.source, done.target]; rfl, by rw [told.source, done.target]; rfl, fun y hy => ?_,
      record.trans (done.record.trans (by rw [State.withFeedback, hx]; rfl)), noAlternate.trans done.noAlternate,
      told.bays.trans bays, told.mtu.trans mtu, told.ports.trans ports, told.sru.trans sru, told.uli.trans uli⟩
    rw [told.source, done.old y hy]
    exact ⟨rfl, rfl⟩
  · exact exec_still (c := .confirmTimerExpiry) nofun h (by simp [commandAct, expireConfirm, ha, Timer.due, ht])
  · have waits := waitsNothing_of_idle hidle
    have acts : commandAct .confirmTimerExpiry s = (s.unconfirmed a, [.goOn a.kind []]) := by
      rw [← hr]; exact expireConfirm_noPack ha ht hn waits.1
    obtain ⟨bridge, e⟩ := unconfirmed_eq s a
    have waits' : (s.unconfirmed a).waitsNothing := by rw [e]; exact ⟨rfl, waits.2⟩
    have ran := run_goOn_nil (by rw [e]) (by rw [e]) hk waits'
    refine ⟨_, by rw [exec_quiet .confirmTimerExpiry nofun h, acts], ?_⟩
    rw [← failedNotice_eq]
    rcases ran with ran | ran <;> rw [ran, e] <;>
      exact ⟨rfl, rfl, by simp [State.source, State.moveTold, State.heldBack],
        by simp [State.moveTold, State.heldBack, hx, MoveRec.ended], rfl, rfl, rfl, rfl, rfl, rfl, rfl, rfl⟩

end Sys2Proof.Machine
end

section
/-!
CLAIM. O55, the timers of the Power Path Controller.
-/

namespace Sys2Proof.Machine

theorem timerDue_some (now : Time) (x : Timer) : timerDue now (some x) = decide (x.dur ≤ age now x.start) := rfl

/-- The state a bridge attempt leaves (R70): BR is ON, awaited, and the bridge timer runs. -/
def State.bridging (s : State) : State :=
  { s with ppc := { s.ppc with
    sources := s.ppc.sources.set .br { s.source .br with sw := .on }
    bridgeDue := false
    bridge := some (timerNow s (1000 * s.supply.bridgeTime))
    record := some (startedRecord s.ppc.onSrc .br .policy s.now)
    attempt := some { kind := .bridge, target := .br, old := s.ppc.onSrc, reason := .policy
                      confirm := timerNow s confirmTime, rest := [] } } }

theorem bridgeAttempt_eq (s : State) :
    bridgeAttempt s = (s.bridging, .bridgeCheck :: tasksIf s.lines.feedback.br [.confirm]) := rfl

/-- The value the bridge notice carries (R88). -/
theorem bridgeValue_eq (s : State) : (match s.freshValue bridgeSlot with | some v => v | none => 0) =
    if (s.slot 12).state = .fresh then (s.slot 12).value else 0 := by
  by_cases hf : (s.slot 12).state = .fresh <;> simp [State.freshValue, State.fresh, bridgeSlot, hf]

theorem dueChecks_eq (s : State) : s.dueChecks =
    { a := s.ppc.waitCheck.a || decide ((s.bay .a).state = .releaseBlocked)
      b := s.ppc.waitCheck.b || decide ((s.bay .b).state = .releaseBlocked) } := by
  simp only [State.dueChecks, beq_eq_decide]

/-- Settles O55: each timer's first change, and behind it a trigger that waits, or the bridge voltage check. -/
theorem powerTimersExpire : Obligations.PowerTimersExpire := by
  intro s x h
  refine ⟨fun hx => ⟨fun ht => ?_, fun ht => ⟨fun ho => ?_, fun ho hw => ?_, fun ho ha hm hsw hf hb => ?_⟩⟩,
    fun hx => ⟨fun ht => ?_, fun ht hp ha => ?_⟩, fun hx => ⟨fun ht => ?_, fun ht hc => ?_, fun ht hc => ?_⟩⟩
  · exact exec_still (c := .startupLimitExpiry) nofun h
      (by simp [commandAct, expireStartup, hx, timerDue_some, ht])
  · rw [exec_start .startupLimitExpiry nofun h] <;> simp [commandAct, expireStartup, hx, timerDue_some, ht, ho]
  · have engaged : (s.ppc.engaged || s.mtu.shockHold) = true := by
      rcases hw with hw | hw <;> simp [Ppc.engaged, hw]
    rw [exec_start .startupLimitExpiry nofun h] <;>
      simp [commandAct, expireStartup, hx, timerDue_some, ht, ho, engaged]
  · have free : (s.ppc.engaged || s.mtu.shockHold) = false := by simp [Ppc.engaged, ha, hm, hsw, hf]
    have acts : commandAct .startupLimitExpiry s =
        bridgeAttempt { s with ppc := { s.ppc with startup := none, startupExpired := true } } := by
      simp [commandAct, expireStartup, hx, timerDue_some, ht, ho, free]
    have ran : exec .startupLimitExpiry s =
        .next (checkBridge { s with ppc := { s.ppc with startup := none, startupExpired := true } }.bridging) := by
      rw [exec_quiet .startupLimitExpiry nofun h, acts, bridgeAttempt_eq]
      simp only [hb]
      exact congrArg _ (run_only rfl)
    refine ⟨_, ran, ?_⟩
    have told := checkBridge_told { s with ppc := { s.ppc with startup := none, startupExpired := true } }.bridging
    have brc : (checkBridge { s with ppc := { s.ppc with startup := none, startupExpired := true } }.bridging).brc =
      s.brc := by simp [State.bridging]
    generalize checkBridge _ = t at told brc
    obtain ⟨_, _, _, ppc⟩ := told.ppc
    refine ⟨by rw [told.source]; simp [State.bridging, State.source], ?_, ?_, ?_, ?_, ?_, ?_, told.bays, brc, told.mtu,
      told.ports, told.sru⟩
    all_goals rw [ppc]
    all_goals simp [State.bridging, ho, startedRecord, timerNow, confirmTime, State.supply]
  · exact exec_still (c := .dwellTimerExpiry) nofun h (by simp [commandAct, expireDwell, hx, timerDue_some, ht])
  · have acts : commandAct .dwellTimerExpiry s = ({ s with ppc := { s.ppc with dwell := none } }, [.trigger]) := by
      simp [commandAct, expireDwell, hx, timerDue_some, ht]
    rw [exec_quiet .dwellTimerExpiry nofun h, acts, run_trigger_waits]
    · rw [State.triggerWaits, dueChecks_eq]
      rfl
    · simpa [State.opened] using hp
    · simp [Ppc.engaged, ha]
  · exact exec_still (c := .bridgeTimerExpiry) nofun h (by simp [commandAct, expireBridge, hx, timerDue_some, ht])
  · rw [exec_start .bridgeTimerExpiry nofun h] <;>
      simp [commandAct, expireBridge, hx, timerDue_some, ht, addBridgeCause, hc]
  · rw [exec_start .bridgeTimerExpiry nofun h] <;>
      simp [commandAct, expireBridge, hx, timerDue_some, ht, addBridgeCause, hc]
    rw [← bridgeValue_eq]
    rfl

end Sys2Proof.Machine
end

section
/-!
SUPPORT. What a loss and a hold-off start from: the source records alone have changed, with the eligibilities up to date
(R72, R87, R95); and where the emergency takeover goes (R85).
-/

namespace Sys2Proof.Machine

/-- An eligibility reads of the sources the held-off mark alone. -/
theorem eligibleNow_congr {s t : State} {x : Src} (hl : t.lines = s.lines) (hb : t.bays = s.bays)
    (hs : t.slots = s.slots) (hr : t.sru = s.sru) (hh : (t.source x).heldOff = (s.source x).heldOff) :
    t.eligibleNow x = s.eligibleNow x := by
  have fresh : ∀ slot, t.freshValue slot = s.freshValue slot := fun slot => by
    simp [State.freshValue, State.fresh, State.slot, hs]
  have supply : t.supply = s.supply := by simp [State.supply, hr]
  have packs : ∀ bay active, t.packSlots bay active = s.packSlots bay active := fun bay active => by
    simp only [State.packSlots, fresh, supply]
  have bays : ∀ bay, t.bay bay = s.bay bay := fun bay => by simp [State.bay, hb]
  unfold State.eligibleNow
  simp only [fresh, packs, bays, supply, hl, hh]

theorem eligibleNow_heldOff {s : State} {bay : Bay} (h : (s.source (baySrc bay)).heldOff = true) :
    s.eligibleNow (baySrc bay) = false := by
  simp [State.eligibleNow, srcBay_baySrc, h]

theorem setIdleSwitch_eq (s : State) (x : Src) (sw : Switch) :
    ∃ sources, s.setIdleSwitch x sw = { s with ppc := { s.ppc with sources := sources } } := by
  unfold State.setIdleSwitch
  split <;> exact ⟨_, rfl⟩

/-- A hold-off, and its end, change the source records alone. -/
theorem holdOff_eq (s : State) (bay : Bay) (held : Bool) :
    ∃ sources, s.holdOff bay held = { s with ppc := { s.ppc with sources := sources } } := by
  have first : ∀ r sw, ∃ sources, (s.setSource (baySrc bay) r).setIdleSwitch (baySrc bay) sw =
      { s with ppc := { s.ppc with sources := sources } } := fun r sw => by
    obtain ⟨sources, e⟩ := setIdleSwitch_eq (s.setSource (baySrc bay) r) (baySrc bay) sw
    exact ⟨sources, e⟩
  unfold State.holdOff State.restoreStandby
  dsimp only
  (repeat' split)
  · exact first ..
  · exact first ..
  · exact ⟨_, rfl⟩

/-- The state in which the Power Path Controller knows a bay's change (R68, R72, R83, R87). -/
def State.knowing (s : State) (bay : Bay) : State := ((s.emptySource bay).enterSwitch bay).refresh

theorem knowing_eq (s : State) (bay : Bay) : ∃ sources release, s.knowing bay =
    { s with ppc := { s.ppc with sources := sources, waitRelease := release } } := by
  have emptied : ∃ sources release, s.emptySource bay =
      { s with ppc := { s.ppc with sources := sources, waitRelease := release } } := by
    unfold State.emptySource
    split <;> exact ⟨_, _, rfl⟩
  obtain ⟨sources, release, e⟩ := emptied
  have entered : ∃ sources, (s.emptySource bay).enterSwitch bay =
      { s with ppc := { s.ppc with sources := sources, waitRelease := release } } := by
    rw [enterSwitch_eq]
    split
    · obtain ⟨sources, e'⟩ := setIdleSwitch_eq (s.emptySource bay) (baySrc bay) _
      exact ⟨sources, by rw [e', e]⟩
    · exact ⟨sources, e⟩
  obtain ⟨sources, e⟩ := entered
  exact ⟨_, release, by rw [State.knowing, e]; rfl⟩

/-- An emergency takeover goes to DC while it may be chosen (R73, R85). -/
theorem onTakeover_dc {s : State} {lost : Src} (hl : lost ≠ .dc) (hd : (s.source .dc).eligible = true)
    (ho : s.ppc.onSrc ≠ some .dc) (urgent : Bool) : onTakeover lost urgent s = takeOver lost .dc urgent s := by
  have can : (s.choosable .dc && some lost != some .dc) = true := by
    simp [State.choosable, State.admitted, srcBay, hd, hl]
  have first : ∃ rest, s.candidates (some lost) = .dc :: rest := by
    simp only [State.candidates, List.filter_cons, can, if_true, List.isEmpty_cons, Bool.false_eq_true, if_false]
    exact ⟨_, rfl⟩
  obtain ⟨rest, e⟩ := first
  simp [onTakeover, e, ho]

/-- The eligibilities are then as the inputs have them, the bay's own apart. -/
theorem knowing_eligible {s : State} {bay : Bay} {x : Src} (h : x ≠ baySrc bay) :
    ((s.knowing bay).source x).eligible = s.eligibleNow x := by
  rw [State.knowing, State.refresh_source]
  refine eligibleNow_congr (by simp) (by simp) (by simp) (by simp) ?_
  have emptied : ((s.emptySource bay).source x).heldOff = (s.source x).heldOff := by
    unfold State.emptySource
    split
    · exact congrArg _ (State.setSource_source_ne _ _ h)
    · rfl
  rw [enterSwitch_eq]
  split
  · rw [setIdleSwitch_source, if_neg (by simp [h]), emptied]
  · exact emptied

theorem eq_or_eq_otherBay (bay : Bay) : ∀ i, i = bay ∨ i = otherBay bay := by
  cases bay <;> rintro (_ | _) <;> simp [otherBay]

/-- Where neither DC nor the other pack may be chosen, no primary candidate is left to a lost pack (R73, R85). -/
theorem noPrimary {s : State} {bay : Bay} (hd : (s.source .dc).eligible = false)
    (hp : (s.source (baySrc (otherBay bay))).eligible = false) :
    (s.choosable .dc && some (baySrc bay) != some .dc) = false ∧
      ∀ i, (s.choosable (baySrc i) && some (baySrc bay) != some (baySrc i)) = false := by
  refine ⟨by simp [State.choosable, hd], fun i => ?_⟩
  rcases eq_or_eq_otherBay bay i with rfl | rfl
  · simp
  · simp [State.choosable, hp]

end Sys2Proof.Machine
end

section
/-!
CLAIM. O53, the losses and the hold-offs that move the load, and those that do not.
-/

namespace Sys2Proof.Machine

/-- The ON pack's bay has left the states that carry the load: a takeover (R82, R85). -/
theorem powerOnBay_lost {s : State} {bay : Bay} (hon : (s.source (baySrc bay)).sw = .on)
    (hc : (s.bay bay).carries = false) (ha : s.ppc.attempt = none) (ho : s.ppc.onSrc = some (baySrc bay))
    (old new : BayState) : powerOnBay bay old new s = onTakeover (baySrc bay) true (s.knowing bay) := by
  have known : (s.knowing bay).ppc.attempt = none ∧ (s.knowing bay).ppc.onSrc = some (baySrc bay) := by
    obtain ⟨sources, release, e⟩ := knowing_eq s bay
    rw [e]
    exact ⟨ha, ho⟩
  obtain ⟨ha', ho'⟩ := known
  unfold powerOnBay
  dsimp only
  rw [if_pos ⟨hon, by simp [hc]⟩]
  show onLoss (baySrc bay) true _ (s.knowing bay) = _
  simp [onLoss, ha', ho']

/-- A pack whose bay does not carry the load any more is lost to a source that is no pack: no bay changes. -/
theorem takeOver_bays_notCarrying {s : State} {bay : Bay} {c : Src} (ho : s.ppc.onSrc = some (baySrc bay))
    (hc : (s.bay bay).carries = false) (hp : srcBay c = none) (urgent : Bool) :
    (takeOver (baySrc bay) c urgent s).1.bays = s.bays := by
  obtain ⟨-, -, -, bays, -⟩ := takeOver_fields (baySrc bay) c urgent s
  have left := commandOff_bays_notCarrying hc .off
  rw [bays, commandOn_noPack hp]
  simpa [leaveForTakeover, ho] using left

/-- Where the takeover from a lost pack goes: to DC while DCIN_OK is high, and to BR with no pack besides (R85). -/
theorem lostPack_target {s : State} {bay : Bay} {target : Src} (ho : s.ppc.onSrc = some (baySrc bay))
    (ht : s.lines.dcinOk = true ∧ target = .dc ∨
      s.lines.dcinOk = false ∧ s.eligibleNow (baySrc (otherBay bay)) = false ∧ target = .br) :
    onTakeover (baySrc bay) true (s.knowing bay) = takeOver (baySrc bay) target true (s.knowing bay) := by
  have known : (s.knowing bay).ppc.onSrc = some (baySrc bay) := by
    obtain ⟨sources, release, e⟩ := knowing_eq s bay
    rw [e]
    exact ho
  have dc : ((s.knowing bay).source .dc).eligible = s.lines.dcinOk := knowing_eligible (by cases bay <;> decide)
  rcases ht with ⟨hd, rfl⟩ | ⟨hd, hp, rfl⟩
  · exact onTakeover_dc (by cases bay <;> decide) (dc.trans hd) (by rw [known]; cases bay <;> decide) true
  · have none := noPrimary (bay := bay) (dc.trans hd) ((knowing_eligible (by cases bay <;> decide)).trans hp)
    exact onTakeover_bridge none.1 none.2 (by rw [known]; cases bay <;> decide)

theorem powerOnWrite_temperature (bay : Bay) (old : Slot) (s : State) :
    powerOnWrite (temperatureSlot bay) old s = temperatureWritten bay s := by cases bay <;> rfl

/-- A temperature above the limit (R87): behind the Power Path Controller's part come the tasks of the slot's other
readers. -/
theorem handle_hot {s : State} {bay : Bay} (h : (s.supply.temperature : Int) < (s.slot (temperatureSlot bay)).value)
    (old : Slot) : ∃ rest, handle (.slotWritten (temperatureSlot bay) old) s =
      ((packTooHot bay s).1, (packTooHot bay s).2 ++ rest) := by
  refine ⟨tasksIf (isEnergySlot (temperatureSlot bay)) [.energy] ++ bayOnWrite (temperatureSlot bay) s, ?_⟩
  simp only [handle, tellWritten, powerOnWrite_temperature, temperatureWritten, if_pos h, List.append_assoc]

theorem handle_cool {s : State} {bay : Bay} (h : (s.slot (temperatureSlot bay)).value ≤ (s.supply.temperature : Int))
    (old : Slot) : (handle (.slotWritten (temperatureSlot bay) old) s).1 =
      ((s.holdOff bay false).dropNoAlternate).refresh := by
  simp only [handle, tellWritten, powerOnWrite_temperature, temperatureWritten, if_neg (Int.not_lt.2 h)]
  rfl

/-- The state in which a pack is held off, with the eligibilities up to date (R72, R87). -/
def State.tooHot (s : State) (bay : Bay) : State := (s.holdOff bay true).refresh

theorem tooHot_eq (s : State) (bay : Bay) :
    ∃ sources, s.tooHot bay = { s with ppc := { s.ppc with sources := sources } } := by
  obtain ⟨sources, e⟩ := holdOff_eq s bay true
  exact ⟨_, by rw [State.tooHot, e]; rfl⟩

/-- The held-off pack: not eligible, and OFF unless it is ON. -/
theorem tooHot_source (s : State) (bay : Bay) : (s.tooHot bay).source (baySrc bay) =
    { s.source (baySrc bay) with
      heldOff := true
      sw := if (s.source (baySrc bay)).sw = .on then .on else .off
      eligible := false } := by
  have held : ((s.holdOff bay true).source (baySrc bay)).heldOff = true := by simp [State.holdOff_source]
  rw [State.tooHot, State.refresh_source, State.refreshed, eligibleNow_heldOff held]
  simp [State.holdOff_source]

theorem tooHot_eligible {s : State} {bay : Bay} {x : Src} (h : x ≠ baySrc bay) :
    ((s.tooHot bay).source x).eligible = s.eligibleNow x := by
  rw [State.tooHot, State.refresh_source]
  exact eligibleNow_congr (by simp) (by simp) (by simp) (by simp) (by simp [State.holdOff_source, h])

/-- The pack held off was eligible: an eligibility changes. -/
theorem holdOff_changes {s : State} {bay : Bay} (h : (s.source (baySrc bay)).eligible = true) :
    (s.holdOff bay true).eligibilityChanges = true := by
  have held : ((s.holdOff bay true).source (baySrc bay)).heldOff = true := by simp [State.holdOff_source]
  have was : ((s.holdOff bay true).source (baySrc bay)).eligible = true := by simp [State.holdOff_source, h]
  have now := eligibleNow_heldOff held
  cases bay
  · have was : (s.holdOff .a true).ppc.sources.a.eligible = true := was
    have now : (s.holdOff .a true).eligibleNow .a = false := now
    simp [State.eligibilityChanges, was, now]
  · have was : (s.holdOff .b true).ppc.sources.b.eligible = true := was
    have now : (s.holdOff .b true).eligibleNow .b = false := now
    simp [State.eligibilityChanges, was, now]

/-- A pack that carries nothing, and that no attempt is about, is held off alone (R87). -/
theorem packTooHot_idle {s : State} {bay : Bay} (ho : s.ppc.onSrc ≠ some (baySrc bay)) (ha : s.ppc.attempt = none) :
    packTooHot bay s = (s.tooHot bay, tasksIf (s.holdOff bay true).eligibilityChanges [.trigger]) := by
  simp [packTooHot, ho, ha, State.tooHot]

/-- The ON pack: a takeover, under the hold-off (R82, R85). -/
theorem packTooHot_on {s : State} {bay : Bay} (ho : s.ppc.onSrc = some (baySrc bay)) (ha : s.ppc.attempt = none) :
    packTooHot bay s = onTakeover (baySrc bay) false (s.tooHot bay) := by
  have known : (s.tooHot bay).ppc.attempt = none ∧ (s.tooHot bay).ppc.onSrc = some (baySrc bay) := by
    obtain ⟨sources, e⟩ := tooHot_eq s bay
    rw [e]
    exact ⟨ha, ho⟩
  obtain ⟨ha', ho'⟩ := known
  unfold packTooHot
  dsimp only
  rw [if_pos (by simp [ho])]
  show onLoss (baySrc bay) false _ (s.tooHot bay) = _
  simp [onLoss, ha', ho']

theorem dropNoAlternate_source (s : State) (x : Src) : s.dropNoAlternate.source x = s.source x := by
  unfold State.dropNoAlternate
  (repeat' split) <;> rfl

theorem dropNoAlternate_on {s : State} {x : Src} (ho : s.ppc.onSrc = some x) (hh : (s.source x).heldOff = false) :
    s.dropNoAlternate = { s with ppc := Ppc.request { s.ppc with causeNoAlternate := false } } := by
  simp [State.dropNoAlternate, ho, hh]

/-- Settles O53: a takeover from the ON pack field by field (`TakenOver`), from the state in which the bay's change or
the hold-off is known. -/
theorem lossesMoveTheLoad : Obligations.LossesMoveTheLoad := by
  intro s bay
  refine ⟨fun old new target hon hc ha ho ht => ?_, fun old hot => ⟨fun ho ha => ?_, fun ho hon ha hc hd hp hb => ?_,
    fun ho ha hactive hd => ?_⟩, fun old cool => ?_⟩
  · have acts : handle (.powerBay bay old new) s = takeOver (baySrc bay) target true (s.knowing bay) :=
      (powerOnBay_lost hon hc ha ho old new).trans (lostPack_target ho ht)
    have hne : target ≠ baySrc bay := by
      rcases ht with ⟨-, rfl⟩ | ⟨-, -, rfl⟩ <;> cases bay <;> decide
    obtain ⟨sources, release, e⟩ := knowing_eq s bay
    have on : (s.knowing bay).ppc.onSrc = some (baySrc bay) := by rw [e]; exact ho
    have taken := takeOver_takenOver on hne true
    simp only [acts]
    rw [e] at taken ⊢
    refine ⟨taken.onSrc, taken.managed, taken.attempt.trans ha, by rw [taken.lost], by rw [taken.lost],
      by rw [taken.target], by rw [taken.target], taken.record, taken.bridge, taken.ntq, ?_⟩
    rw [e] at on
    have noPack : srcBay target = none := by rcases ht with ⟨-, rfl⟩ | ⟨-, -, rfl⟩ <;> rfl
    exact takeOver_bays_notCarrying on hc noPack true
  · obtain ⟨rest, acts⟩ := handle_hot hot old
    rw [packTooHot_idle ho ha] at acts
    obtain ⟨sources, e⟩ := tooHot_eq s bay
    simp only [acts, tooHot_source]
    refine ⟨trivial, trivial, trivial, by rw [e], fun hel => ?_⟩
    simp [holdOff_changes hel, tasksIf]
  · obtain ⟨rest, acts⟩ := handle_hot hot old
    have dc : ((s.tooHot bay).source .dc).eligible = false := (tooHot_eligible (by cases bay <;> decide)).trans hd
    have other : ((s.tooHot bay).source (baySrc (otherBay bay))).eligible = false :=
      (tooHot_eligible (by cases bay <;> decide)).trans hp
    have bridge : (s.tooHot bay).choosable .br = false := by
      have el : ((s.tooHot bay).source .br).eligible = false := (tooHot_eligible (by cases bay <;> decide)).trans hb
      simp [State.choosable, el]
    obtain ⟨none, nopacks⟩ := noPrimary dc other
    have source := tooHot_source s bay
    obtain ⟨sources, e⟩ := tooHot_eq s bay
    have stays : onTakeover (baySrc bay) false (s.tooHot bay) = noAlternate (baySrc bay) (s.tooHot bay) := by
      have on : (s.tooHot bay).ppc.onSrc = some (baySrc bay) := by rw [e]; exact ho
      simp [onTakeover, candidates_noPrimary none nopacks, bridge, on]
    rw [packTooHot_on ho ha, stays] at acts
    have standsNot : (s.tooHot bay).ppc.causeNoAlternate = false := by rw [e]; exact hc
    simp only [acts, noAlternate, standsNot, srcBay_baySrc]
    refine ⟨by simp [e, Ppc.request, ho], ?_, ?_, rfl, by simp [Ppc.request], by simp [e, State.slot]⟩
    · show ((s.tooHot bay).source (baySrc bay)).heldOff = true
      rw [source]
    · show ((s.tooHot bay).source (baySrc bay)).sw = .on
      rw [source, if_pos hon]
  · obtain ⟨rest, acts⟩ := handle_hot hot old
    have dc : ((s.tooHot bay).source .dc).eligible = true := (tooHot_eligible (by cases bay <;> decide)).trans hd
    have source := tooHot_source s bay
    obtain ⟨sources, e⟩ := tooHot_eq s bay
    have on : (s.tooHot bay).ppc.onSrc = some (baySrc bay) := by rw [e]; exact ho
    have taken := takeOver_takenOver on (c := .dc) (by cases bay <;> decide) false
    rw [packTooHot_on ho ha, onTakeover_dc (by cases bay <;> decide) dc (by rw [on]; cases bay <;> decide)] at acts
    simp only [acts]
    refine ⟨by rw [taken.lost, source], by rw [taken.lost], taken.onSrc, by rw [taken.target], ?_⟩
    rw [taken.ntq, e]
    rfl
  · simp only [handle_cool cool]
    have quiet := (dropNoAlternate_quiet (s.holdOff bay false)).trans (refresh_quiet _)
    have source := State.holdOff_source s bay false (baySrc bay)
    rw [if_pos rfl] at source
    have held : ((s.holdOff bay false).source (baySrc bay)).heldOff = false := by rw [source]
    obtain ⟨sources, e⟩ := holdOff_eq s bay false
    refine ⟨?_, by rw [quiet.onSrc, e], by rw [quiet.attempt, e], fun hon hb => ?_, fun ho => ?_⟩
    · rw [State.refresh_source]
      exact (congrArg SourceRec.heldOff (dropNoAlternate_source _ _)).trans held
    · rw [(quiet.source _).1, source]
      simp [hon, hb]
    · have on : (s.holdOff bay false).ppc.onSrc = some (baySrc bay) := by rw [e]; exact ho
      have dropped := dropNoAlternate_on on held
      rw [State.refresh_ppc, dropped, e]
      exact ⟨rfl, Bool.or_false _⟩

end Sys2Proof.Machine
end

section
/-!
SUPPORT. When triggers, selections and checks act, and which sources may be chosen (R72 to R78, R84, R86).
-/

namespace Sys2Proof.Machine

variable (s : State)

/-! ## What waits (R77) -/

theorem engaged_iff : s.ppc.engaged = true ↔
    s.ppc.attempt.isSome = true ∨ s.ppc.moving = true ∨ s.ppc.switching = true := by
  simp [Ppc.engaged, or_assoc]

theorem onSuspect_iff : s.onSuspect = true ↔ ∃ bay, s.ppc.onSrc = some (baySrc bay) ∧ (s.bay bay).state = .suspect := by
  unfold State.onSuspect
  rcases h : s.ppc.onSrc with _ | x
  · simp
  rcases src_cases x with ⟨bay, rfl⟩ | hn
  · simp [srcBay_baySrc, baySrc_inj]
  · have : ∀ bay, x ≠ baySrc bay := fun bay => (srcBay_none hn bay).symm
    simp [hn, this]

theorem reselectionWaits_iff : s.reselectionWaits = true ↔
    s.ppc.attempt.isSome = true ∨ s.ppc.moving = true ∨ s.ppc.switching = true ∨ s.mtu.shockHold = true ∨
      ∃ bay, s.ppc.onSrc = some (baySrc bay) ∧ (s.bay bay).state = .suspect := by
  simp only [State.reselectionWaits, Bool.or_eq_true, engaged_iff, onSuspect_iff, or_assoc]

/-! ## Triggers (R76, R84, R86) -/

theorem handle_trigger_starting (h : s.uli.phase = .starting) : handle .trigger s = (s, []) := by
  simp [handle, onTrigger, State.opened, h]

/-- Where traffic is open, the repeat of a takeover comes before the checks and the selection. -/
theorem handle_trigger (h : s.uli.phase ≠ .starting) :
    handle .trigger s = (s, s.repeatTakeover ++ ([.alternates, .reselect] : List Task)) := by
  simp [handle, onTrigger, State.opened, h]

theorem repeatTakeover_none (h : s.ppc.causeNoAlternate = false ∨ s.ppc.engaged = true) : s.repeatTakeover = [] := by
  unfold State.repeatTakeover
  split
  · rcases h with h | h <;> simp [tasksIf, h]
  · rfl

theorem repeatTakeover_on {x : Src} (ho : s.ppc.onSrc = some x) (hc : s.ppc.causeNoAlternate = true)
    (he : s.ppc.engaged = false) : s.repeatTakeover = [.takeover x] := by
  simp [State.repeatTakeover, ho, hc, he, tasksIf]

theorem handle_reselect : handle .reselect s = if s.reselectionWaits = true
    then ({ s with ppc := { s.ppc with pending := true } }, [])
    else ({ s with ppc := { s.ppc with pending := false } },
      [.walk (if s.ppc.managed then .policy else .startup) (s.candidates none)]) := rfl

theorem handle_alternates_engaged (h : s.ppc.engaged = true) : handle .alternates s =
    ({ s with ppc := { s.ppc with waitCheck := s.dueChecks } }, []) := by
  simp [handle, checkAlternates, h]

theorem mem_blockedBays (bay : Bay) : bay ∈ s.blockedBays ↔ (s.bay bay).state = .releaseBlocked := by
  cases bay <;> simp [State.blockedBays]

/-! ## Sources that may be chosen (R72, R73, R95) -/

theorem choosable_iff (x : Src) : s.choosable x = true ↔ (s.source x).eligible = true ∧
    ∀ bay, x = baySrc bay → (s.bay bay).state = .ready ∨ (s.bay bay).state = .active := by
  rcases src_cases x with ⟨bay, rfl⟩ | hn
  · simp [State.choosable, State.admitted, srcBay_baySrc, baySrc_inj]
  · have : ∀ bay, x ≠ baySrc bay := fun bay => (srcBay_none hn bay).symm
    simp [State.choosable, State.admitted, hn, this]

theorem hasAlternate_iff (bay : Bay) : s.hasAlternate bay = true ↔
    ∃ x, x ≠ baySrc bay ∧ s.choosable x = true ∧ s.windowPasses x = true := by
  have all : ∀ x, x ∈ [Src.dc, Src.a, Src.b, Src.br] := fun x => by cases x <;> simp
  simp only [State.hasAlternate, List.any_eq_true, all, true_and, Bool.and_eq_true, bne_iff_ne, and_assoc]

theorem alternate_mem (h : s.ppc.engaged = false) (bay : Bay) : .alternate bay ∈ (handle .alternates s).2 ↔
    (s.bay bay).state = .releaseBlocked ∧ ∃ x, x ≠ baySrc bay ∧ s.choosable x = true ∧ s.windowPasses x = true := by
  have tasks : (handle .alternates s).2 = (s.blockedBays.filter s.hasAlternate).map Task.alternate := by
    simp [handle, checkAlternates, h]
  simp [tasks, mem_blockedBays, hasAlternate_iff]

/-- A FRESH slot's value decides, and else a default. -/
theorem freshMatch_iff (slot : Fin 32) (good : Int → Bool) (otherwise : Bool) :
    (match s.freshValue slot with | some v => good v | none => otherwise) = true ↔
      ((s.slot slot).state = .fresh → good (s.slot slot).value = true) ∧
        ((s.slot slot).state ≠ .fresh → otherwise = true) := by
  by_cases h : (s.slot slot).state = .fresh <;> simp [State.freshValue, State.fresh, h]

theorem eligibleNow_br : s.eligibleNow .br = true ↔
    ((s.slot 12).state = .fresh → (s.supply.bridgeLow : Int) ≤ (s.slot 12).value) ∧
      ((s.slot 12).state ≠ .fresh → True) := by
  have e : s.eligibleNow .br = (match s.freshValue bridgeSlot with
    | some v => decide ((s.supply.bridgeLow : Int) ≤ v) | none => true) := rfl
  rw [e, freshMatch_iff s bridgeSlot (fun v => decide ((s.supply.bridgeLow : Int) ≤ v)), decide_eq_true_iff]
  exact ⟨fun h => ⟨h.1, fun _ => trivial⟩, fun h => ⟨h.1, fun _ => rfl⟩⟩

theorem packSlots_iff (bay : Bay) (active : Bool) : s.packSlots bay active = true ↔
    (((s.slot (voltageSlot bay)).state = .fresh → (s.supply.cutoff : Int) ≤ (s.slot (voltageSlot bay)).value) ∧
        ((s.slot (voltageSlot bay)).state ≠ .fresh → active = true)) ∧
      (((s.slot (temperatureSlot bay)).state = .fresh →
          (s.slot (temperatureSlot bay)).value ≤ (s.supply.temperature : Int)) ∧
        ((s.slot (temperatureSlot bay)).state ≠ .fresh → active = true)) := by
  have e : s.packSlots bay active =
      ((match s.freshValue (voltageSlot bay) with
          | some v => decide ((s.supply.cutoff : Int) ≤ v) | none => active) &&
        (match s.freshValue (temperatureSlot bay) with
          | some v => decide (v ≤ (s.supply.temperature : Int)) | none => active)) := rfl
  rw [e, Bool.and_eq_true, freshMatch_iff s (voltageSlot bay) (fun v => decide ((s.supply.cutoff : Int) ≤ v)),
    freshMatch_iff s (temperatureSlot bay) (fun v => decide (v ≤ (s.supply.temperature : Int))), decide_eq_true_iff,
    decide_eq_true_iff]

/-- A pack is eligible in READY with both slots FRESH and within their limits, in ACTIVE with what is FRESH within them
(R72). -/
theorem eligibleNow_pack (bay : Bay) : s.eligibleNow (baySrc bay) = true ↔ (s.source (baySrc bay)).heldOff = false ∧
    ((s.bay bay).state = .ready ∧ s.packSlots bay false = true ∨
      (s.bay bay).state = .active ∧ s.packSlots bay true = true) := by
  simp only [State.eligibleNow, srcBay_baySrc]
  by_cases hr : (s.bay bay).state = .ready
  · have notActive : (BayState.ready == BayState.active) = false := rfl
    simp [hr, notActive]
  by_cases ha : (s.bay bay).state = .active <;> simp [hr, ha]

theorem windowPasses_iff (x : Src) : s.windowPasses x = true ↔
    (s.slot (sourceSlot x)).state = .fresh ∧ (s.slot 14).state = .fresh ∧
      (s.slot (sourceSlot x)).value ≤ (s.slot 14).value + s.supply.window ∧
      (s.slot 14).value ≤ (s.slot (sourceSlot x)).value + s.supply.window := by
  by_cases hx : (s.slot (sourceSlot x)).state = .fresh
  · by_cases hr : (s.slot 14).state = .fresh
    · simp only [State.windowPasses, State.freshValue, State.fresh, railSlot, hx, hr, beq_self_eq_true, if_true,
        decide_eq_true_eq, true_and]
      omega
    · simp [State.windowPasses, State.freshValue, State.fresh, railSlot, hx, hr]
  · simp [State.windowPasses, State.freshValue, State.fresh, hx]

/-! ## The candidates (R73 to R75, R85) -/

/-- The pack that comes first, and the other behind it. -/
def State.firstPack (s : State) : Bay :=
  if s.supply.balance then s.balancedPacks.headD .a else s.orderedPacks.headD .a

theorem otherBay_otherBay (bay : Bay) : otherBay (otherBay bay) = bay := by cases bay <;> rfl

theorem otherBay_ne (bay : Bay) : otherBay bay ≠ bay := by cases bay <;> decide

theorem packs_eq (s : State) : (if s.supply.balance then s.balancedPacks else s.orderedPacks) =
    [s.firstPack, otherBay s.firstPack] := by
  unfold State.firstPack State.balancedPacks State.orderedPacks
  dsimp only
  (repeat' split) <;> simp [otherBay_otherBay]

/-- Under ORDERED the bay that goes first does while it has its reserve (R74). -/
theorem firstPack_ordered (h : s.supply.balance = false) : s.firstPack = s.supply.first ↔
    (s.supply.reserve : Int) ≤ s.packEnergy s.supply.first := by
  simp only [State.firstPack, h, State.orderedPacks]
  by_cases e : (s.supply.reserve : Int) ≤ s.packEnergy s.supply.first <;> simp [e, otherBay_ne]

/-- Under BALANCE, with no pack ON, the bay with more energy (R75). -/
theorem firstPack_balance (h : s.supply.balance = true) (ho : ∀ bay, s.ppc.onSrc ≠ some (baySrc bay)) :
    s.firstPack = s.supply.first ↔ s.packEnergy (otherBay s.supply.first) ≤ s.packEnergy s.supply.first := by
  have none : s.ppc.onSrc.bind srcBay = none := by
    rcases e : s.ppc.onSrc with _ | x
    · rfl
    rcases src_cases x with ⟨bay, rfl⟩ | hn
    · exact absurd e (ho bay)
    · exact hn
  simp only [State.firstPack, h, State.balancedPacks, none]
  by_cases e : s.packEnergy s.supply.first < s.packEnergy (otherBay s.supply.first)
  · simp [e, otherBay_ne]
  · simp [e, Int.not_lt.1 e]

/-- Under BALANCE the ON pack goes behind once the other has the margin over it and its dwell is over (R75). -/
theorem firstPack_dwell (h : s.supply.balance = true) {bay : Bay} (ho : s.ppc.onSrc = some (baySrc bay)) {since : Time}
    (hs : (s.source (baySrc bay)).onSince = some since) : s.firstPack = otherBay bay ↔
      s.packEnergy bay + s.supply.margin ≤ s.packEnergy (otherBay bay) ∧ 1000 * s.supply.dwell ≤ age s.now since := by
  have on : s.ppc.onSrc.bind srcBay = some bay := by rw [ho]; exact srcBay_baySrc bay
  simp only [State.firstPack, h, State.balancedPacks, on, hs]
  by_cases e : s.packEnergy bay + s.supply.margin ≤ s.packEnergy (otherBay bay) ∧ 1000 * s.supply.dwell ≤ age s.now since
  · simp [e]
  · simp [e, (otherBay_ne bay).symm]

theorem candidates_eq (excluded : Option Src) :
    let primary := [Src.dc, baySrc s.firstPack, baySrc (otherBay s.firstPack)].filter
      fun c => s.choosable c && excluded != some c
    s.candidates excluded = if primary = [] then
      (if s.choosable .br = true ∧ excluded ≠ some .br then [.br] else []) else primary := by
  intro primary
  simp only [State.candidates, packs_eq, List.map_cons, List.map_nil]
  show (if primary.isEmpty = true then _ else primary) = _
  by_cases h : primary = []
  · rw [if_pos h, if_pos (List.isEmpty_iff.2 h)]
    by_cases hb : s.choosable .br = true ∧ excluded ≠ some .br <;> simp [hb]
  · rw [if_neg h, if_neg (mt List.isEmpty_iff.1 h)]

end Sys2Proof.Machine
end

section
/-!
SUPPORT. A walk's attempt, a release request, the flag's end of an attempt and the repeated takeover, field by field
(R77, R79, R81, R83, R86).
-/

namespace Sys2Proof.Machine

variable {s : State}

/-! ## The walk (R73, R77, R79) -/

theorem explicit_iff (kind : WalkKind) : kind.explicit = true ↔ ∃ bay, kind = .release bay .request := by
  cases kind with
  | release bay origin => cases origin <;> simp [WalkKind.explicit]
  | startup => simp [WalkKind.explicit]
  | bridge => simp [WalkKind.explicit]
  | policy => simp [WalkKind.explicit]

/-- The flag does not stop the walk. -/
theorem walk_free {kind : WalkKind} (h : s.mtu.shockHold = false ∨ ∃ bay, kind = .release bay .request) :
    (s.mtu.shockHold && !kind.explicit) = false := by
  rcases h with h | h
  · simp [h]
  · simp [(explicit_iff kind).2 h]

theorem handle_walk_awaited (h : s.ppc.attempt.isSome = true) (kind : WalkKind) (candidates : List Src) :
    handle (.walk kind candidates) s = (s, []) := by
  simp [handle, walkOn, h]

section
variable {kind : WalkKind} (ha : s.ppc.attempt = none)
  (hf : s.mtu.shockHold = false ∨ ∃ bay, kind = .release bay .request)
include ha hf

theorem handle_walk_nil : handle (.walk kind []) s = endWalk kind s := by
  simp [handle, walkOn, ha, walk_free hf]

theorem handle_walk_onSrc {c : Src} (ho : s.ppc.onSrc = some c) (rest : List Src) :
    handle (.walk kind (c :: rest)) s = endWalk kind s := by
  simp [handle, walkOn, ha, walk_free hf, ho]

theorem handle_walk_passes {c : Src} (ho : s.ppc.onSrc ≠ some c)
    (hc : ¬(s.choosable c = true ∧ (kind = .startup ∨ s.windowPasses c = true))) (rest : List Src) :
    handle (.walk kind (c :: rest)) s = (s, [.walk kind rest]) := by
  have not : (s.choosable c && (kind == .startup || s.windowPasses c)) = false := by simpa using hc
  simp [handle, walkOn, ha, walk_free hf, ho, not]

theorem handle_walk_begins {c : Src} (ho : s.ppc.onSrc ≠ some c) (hc : s.choosable c = true)
    (hw : kind = .startup ∨ s.windowPasses c = true) (rest : List Src) :
    handle (.walk kind (c :: rest)) s = beginAttempt kind c rest s := by
  have goes : (s.choosable c && (kind == .startup || s.windowPasses c)) = true := by simp [hc, hw]
  simp [handle, walkOn, ha, walk_free hf, ho, goes]

end

theorem attemptReason_eq (kind : WalkKind) (c : Src) : attemptReason kind c =
    match kind with
    | .release _ _ => .release | .bridge => .policy | .startup => if c = .dc then .dcArrival else .policy
    | .policy => if c = .dc then .dcArrival else .policy := by cases kind <;> rfl

/-- The bay of a source that may be commanded ON: a READY one is ACTIVE, every other keeps its record (R104). -/
theorem commandOn_bay {c : Src} (h : ∀ bay, c = baySrc bay → (s.bay bay).state = .ready ∨ (s.bay bay).state = .active)
    (bay : Bay) : (commandOn c s).1.bay bay = if c = baySrc bay ∧ (s.bay bay).state = .ready then
      { s.bay bay with state := .active, entry := s.now } else s.bay bay := by
  by_cases hc : c = baySrc bay
  · subst hc
    rcases h bay rfl with hr | ha
    · rw [commandOn_bay_ready hr, if_pos ⟨rfl, hr⟩]
    · rw [commandOn_bay_active ha, if_neg (by simp [ha])]
      rfl
  · rw [commandOn_bay_ne (fun e => hc e.symm), if_neg (by simp [hc])]

theorem onSwitchOn_confirm (bay : Bay) (s : State) : Task.confirm ∉ (onSwitchOn bay s).2 := by
  unfold onSwitchOn
  dsimp only
  (repeat' split) <;> simp [bayGoto, bayNews, tasksIf]

/-- The work of a turn-on command confirms at once where the line already conducts (R79). -/
theorem beginAttempt_confirm (kind : WalkKind) (c : Src) (rest : List Src) (s : State) :
    Task.confirm ∈ (beginAttempt kind c rest s).2 ↔ s.lines.feedback.get c = true := by
  have told : Task.confirm ∉ (commandOn c s).2 := by
    rcases src_cases c with ⟨bay, rfl⟩ | hn
    · rw [commandOn_pack]; exact onSwitchOn_confirm bay _
    · simp [commandOn_noPack hn]
  simp [beginAttempt, told, tasksIf]

/-- What an attempt that begins leaves, field by field (R79, R81, R88). -/
structure Begun (kind : WalkKind) (c : Src) (rest : List Src) (s t : State) : Prop where
  attempt : t.ppc.attempt = some { kind := kind, target := c, old := s.ppc.onSrc, reason := attemptReason kind c
                                   confirm := { start := s.now, dur := 5 }, rest := rest }
  record : t.ppc.record = some { origin := s.ppc.onSrc, target := c, reason := attemptReason kind c, start := s.now
                                 finish := none, result := none }
  target : (t.source c).sw = .on
  others : ∀ x, x ≠ c → t.source x = s.source x
  bridge : t.ppc.bridge = if c = .br then some { start := s.now, dur := 1000 * s.supply.bridgeTime } else s.ppc.bridge

theorem beginAttempt_begun (kind : WalkKind) (c : Src) (rest : List Src) (s : State) :
    Begun kind c rest s (beginAttempt kind c rest s).1 where
  attempt := rfl
  record := rfl
  target := congrArg SourceRec.sw (commandOn_source_self c s)
  others _ hx := commandOn_source_ne hx s
  bridge := rfl

/-! ## A release request (R83) -/

theorem handle_release_gone {bay : Bay} (h : (s.bay bay).state ≠ .releasing) (origin : Origin) :
    handle (.releaseRequest bay origin) s = (s, []) := by
  simp [handle, onReleaseRequest, h]

theorem handle_release_waits {bay : Bay} (h : (s.bay bay).state = .releasing) {origin : Origin}
    (hw : s.ppc.engaged = true ∨ origin = .latch ∧ s.mtu.shockHold = true) :
    handle (.releaseRequest bay origin) s =
      ({ s with ppc := { s.ppc with waitRelease := s.ppc.waitRelease.set bay (some origin) } }, []) := by
  have waits : (s.ppc.engaged || (origin == .latch && s.mtu.shockHold)) = true := by simpa using hw
  simp [handle, onReleaseRequest, h, waits]

section
variable {bay : Bay} (h : (s.bay bay).state = .releasing) (he : s.ppc.engaged = false) {origin : Origin}
  (hf : origin = .request ∨ s.mtu.shockHold = false)
include h he hf

theorem handle_release_walks (ho : s.ppc.onSrc = some (baySrc bay)) : handle (.releaseRequest bay origin) s =
    (s, [.walk (.release bay origin) (s.candidates (some (baySrc bay)))]) := by
  have free : (s.ppc.engaged || (origin == .latch && s.mtu.shockHold)) = false := by
    rcases hf with rfl | hf <;> simp [*]
  simp [handle, onReleaseRequest, h, free, ho]

theorem handle_release_idle (ho : s.ppc.onSrc ≠ some (baySrc bay)) : handle (.releaseRequest bay origin) s =
    (s.setSource (baySrc bay) { s.source (baySrc bay) with sw := .off, onSince := none }, [.releaseDone bay]) := by
  have free : (s.ppc.engaged || (origin == .latch && s.mtu.shockHold)) = false := by
    rcases hf with rfl | hf <;> simp [*]
  simp [handle, onReleaseRequest, h, free, ho, State.leaveOn]

end

/-! ## The flag (R77) -/

theorem handle_flag_explicit (hs : s.mtu.shockHold = true) {a : Attempt} (ha : s.ppc.attempt = some a)
    (hk : ∃ bay, a.kind = .release bay .request) : handle (.flagPower true) s = (s, []) := by
  simp [handle, powerOnFlag, hs, giveUpAttempt, ha, (explicit_iff a.kind).2 hk]

/-- The attempt given up for the flag (R77): its target takes its rest state (log entry 18). -/
theorem handle_flag_givesUp (hs : s.mtu.shockHold = true) {a : Attempt} (ha : s.ppc.attempt = some a)
    (hk : ∀ bay, a.kind ≠ .release bay .request) : (handle (.flagPower true) s).1 =
      (failAttempt a (s.restState a.target) .aborted s).1.heldBack a.kind := by
  have implicit : a.kind.explicit = false := by
    rw [Bool.eq_false_iff]
    exact fun e => let ⟨bay, e⟩ := (explicit_iff a.kind).1 e; hk bay e
  simp [handle, powerOnFlag, hs, giveUpAttempt, ha, implicit]

/-- What an attempt that ends without success leaves (R80, R81). -/
theorem failAttempt_fields (a : Attempt) (sw : Switch) (result : MoveResult) (s : State) :
    let t := (failAttempt a sw result s).1
    t.ppc.attempt = none ∧ t.ppc.onSrc = s.ppc.onSrc ∧ (t.source a.target).sw = sw ∧
      t.ppc.record = s.ppc.record.map fun r => { r with finish := some s.now, result := some result } := by
  obtain ⟨bridge, e⟩ := bridgeStopFor_eq ((commandOff a.target sw s).1.closeAttempt result) a.target
  simp only [failAttempt, e]
  refine ⟨rfl, by simp [State.closeAttempt, State.leaveOn], ?_, by
    simp [State.closeAttempt, State.leaveOn, MoveRec.ended]⟩
  exact congrArg SourceRec.sw (commandOff_source_self a.target sw s)

/-! ## The repeated takeover (R86) -/

theorem handle_takeover_not {x : Src} (h : s.ppc.attempt.isSome = true ∨ s.ppc.onSrc ≠ some x) :
    handle (.takeover x) s = (s, []) := by
  have not : (s.ppc.attempt.isNone && s.ppc.onSrc == some x) = false := by
    rcases h with h | h
    · obtain ⟨a, e⟩ := Option.isSome_iff_exists.1 h
      simp [e]
    · simp [h]
  simp [handle, repeatedTakeover, not]

section
variable {x : Src} (ha : s.ppc.attempt = none) (ho : s.ppc.onSrc = some x)
include ha ho

theorem handle_takeover : handle (.takeover x) s = onTakeover x false s := by
  simp [handle, repeatedTakeover, ha, ho]

/-- With no candidate nothing happens, and the notice is not raised again (R86). -/
theorem handle_takeover_none (hc : s.ppc.causeNoAlternate = true) (h : s.candidates (some x) = []) :
    handle (.takeover x) s = (s, []) := by
  simp [handle_takeover ha ho, onTakeover, h, ho, noAlternate, hc]

theorem handle_takeover_first {c : Src} {rest : List Src} (h : s.candidates (some x) = c :: rest) :
    c ≠ x ∧ handle (.takeover x) s = takeOver x c false s := by
  obtain ⟨-, hne⟩ := mem_candidates (s := s) (excluded := some x) (c := c) (by simp [h])
  have ne : c ≠ x := fun e => hne (by rw [e])
  have other : s.ppc.onSrc ≠ some c := by rw [ho]; exact hne
  exact ⟨ne, by simp [handle_takeover ha ho, onTakeover, h, other]⟩

end

/-- The bays a takeover tells (R103, R104). -/
theorem takeOver_bay_lost {bay : Bay} {c : Src} (ho : s.ppc.onSrc = some (baySrc bay)) (hne : c ≠ baySrc bay)
    (h : (s.bay bay).state = .active) (urgent : Bool) :
    (takeOver (baySrc bay) c urgent s).1.bay bay = (s.bay bay).left s.now := by
  rw [takeOver_bay ho, commandOn_bay_ne hne.symm, commandOff_bay_active h]

theorem takeOver_bay_target {bay : Bay} {x : Src} (ho : s.ppc.onSrc = some x) (hne : baySrc bay ≠ x)
    (h : (s.bay bay).state = .ready) (urgent : Bool) :
    (takeOver x (baySrc bay) urgent s).1.bay bay = { s.bay bay with state := .active, entry := s.now } := by
  have kept := commandOff_bay_ne hne .off s
  rw [takeOver_bay ho, commandOn_bay_ready (by rw [kept]; exact h), kept]
  simp

/-- The tasks of a takeover (R83, R85, R88). -/
theorem takeOver_tasks (x c : Src) (urgent : Bool) (s : State) :
    .classify ∈ (takeOver x c urgent s).2 ∧ (c = .br → .bridgeCheck ∈ (takeOver x c urgent s).2) ∧
      ∀ t ∈ s.departed, t ∈ (takeOver x c urgent s).2 := by
  obtain ⟨-, -, -, -, tasks⟩ := takeOver_fields x c urgent s
  rw [tasks]
  refine ⟨by simp, fun hc => by simp [hc, tasksIf], fun t ht => by simp [ht]⟩

theorem mem_departed {bay : Bay} (ho : s.ppc.onSrc = some (baySrc bay))
    (h : (s.bay bay).state = .releasing ∨ (s.bay bay).state = .releaseBlocked) : .releaseDone bay ∈ s.departed := by
  simp [State.departed, ho, srcBay_baySrc, h]

end Sys2Proof.Machine
end

section
/-!
CLAIM. O52, how selections begin, wait and walk.
-/

namespace Sys2Proof.Machine

/-- Settles O52: each clause is the lemma about its task, with what waits, what may be chosen and the order of the packs
spelled out. -/
theorem selectionsBegin : Obligations.SelectionsBegin := by
  intro s waits busy fresh choosable energy first
  have busy_iff : s.ppc.engaged = true ↔ busy := engaged_iff s
  have waits_iff : s.reselectionWaits = true ↔ waits := reselectionWaits_iff s
  have choosable_eq : ∀ x, s.choosable x = true ↔ choosable x := choosable_iff s
  have idle : ¬busy → s.ppc.engaged = false := fun h => Bool.eq_false_iff.2 fun e => h (busy_iff.1 e)
  refine ⟨handle_trigger_starting s, fun hp hc => ?_, fun x hp hc ho => ⟨fun hb => ?_, fun hb => ?_⟩,
    fun x => ⟨handle_takeover_not, fun ha ho hc => ⟨handle_takeover_none ha ho hc, fun c rest hcand => ?_⟩⟩,
    fun hw => ?_, fun hw => ?_, fun hb => ?_, fun hb bay => ?_, rfl, eligibleNow_br s, fun bay => ?_,
    windowPasses_iff s, fun excluded => ?_, choosable_eq, fun kind c rest => ⟨fun ha => ?_, fun ha hf => ⟨?_, ?_, ?_⟩⟩,
    fun ha hf => ⟨?_, ?_, ?_⟩, fun bay origin => ⟨?_, fun hr => ⟨?_, ?_⟩⟩, fun a hs ha => ⟨?_, ?_⟩⟩
  · rw [handle_trigger s hp, repeatTakeover_none s (.inl hc)]; rfl
  · rw [handle_trigger s hp, repeatTakeover_on s ho hc (idle hb)]; rfl
  · rw [handle_trigger s hp, repeatTakeover_none s (.inr (busy_iff.2 hb))]; rfl
  · obtain ⟨hne, acts⟩ := handle_takeover_first ha ho hcand
    have taken := takeOver_takenOver ho hne false
    obtain ⟨classify, bridge, departed⟩ := takeOver_tasks x c false s
    simp only [acts]
    refine ⟨taken.onSrc, taken.managed, taken.attempt.trans ha, by rw [taken.lost], by rw [taken.lost],
      by rw [taken.target], by rw [taken.target], taken.others, taken.record, taken.bridge, taken.noAlternate,
      taken.cause, taken.request, taken.ntq, fun bay hx => ⟨fun hb => ?_, fun hb => ?_⟩, fun bay hx hb => ?_, classify,
      bridge⟩
    · subst hx; exact takeOver_bay_lost ho hne hb false
    · subst hx; exact departed _ (mem_departed ho hb)
    · subst hx; exact takeOver_bay_target ho hne hb false
  · rw [handle_reselect, if_pos (waits_iff.2 hw)]
  · rw [handle_reselect, if_neg (mt waits_iff.1 hw)]
  · rw [handle_alternates_engaged s (busy_iff.2 hb), dueChecks_eq]
  · rw [alternate_mem s (idle hb)]
    simp only [choosable_eq]
  · simp only [eligibleNow_pack, packSlots_iff, Bool.false_eq_true, fresh]
  · exact ⟨s.firstPack, otherBay s.firstPack, rfl, firstPack_ordered s, firstPack_balance s,
      fun bay since hb ho hs => firstPack_dwell s hb ho hs, candidates_eq s excluded⟩
  · exact handle_walk_awaited ha ..
  · intro ho
    simp only [handle_walk_onSrc ha hf ho, handle_walk_nil ha hf]
  · intro ho hn
    refine handle_walk_passes ha hf ho (fun h => hn ⟨ho, (choosable_eq c).1 h.1, h.2⟩) rest
  · rintro ⟨ho, hc, hw⟩ reason
    have begun := beginAttempt_begun kind c rest s
    have reason_eq : attemptReason kind c = reason := attemptReason_eq kind c
    simp only [handle_walk_begins ha hf ho ((choosable_eq c).2 hc) hw, ← reason_eq]
    exact ⟨begun.attempt, begun.record, begun.target, begun.others, begun.bridge, commandOn_bay hc.2,
      beginAttempt_confirm kind c rest s⟩
  · intro bay origin hb
    rw [handle_walk_nil ha (.inl hf)]
    simp [endWalk, hb, tasksIf]
  · exact handle_walk_nil ha (.inl hf)
  · exact handle_walk_nil ha (.inl hf)
  · exact fun h => handle_release_gone h origin
  · exact fun h => handle_release_waits hr (h.imp_left busy_iff.2)
  · exact fun hb hf => ⟨handle_release_walks hr (idle hb) hf, handle_release_idle hr (idle hb) hf⟩
  · exact handle_flag_explicit hs ha
  · intro hk
    obtain ⟨attempt, onSrc, sw, record⟩ := failAttempt_fields a (s.restState a.target) .aborted s
    simp only [handle_flag_givesUp hs ha hk]
    refine ⟨attempt, rfl, onSrc, sw, record, fun bay hl => ?_⟩
    simp [State.heldBack, hl]

end Sys2Proof.Machine
end

section
/-!
SUPPORT. What an operation may do to a bay record (Table 5-2): it keeps the record's fields to their states, and brings the
bay into EMPTY or SEATED only from there, or as it tells the Telemetry Store that the bay is EMPTY (R65, R94).
-/

namespace Sys2Proof.Machine

/-! ## The fields of a record, by state -/

/-- Table 5-2 row by row: which fields of a record are present in its state. -/
theorem BayRec.safe_iff (r : BayRec) : r.safe ↔ match r.state with
    | .empty => r.present = false ∧ r.seat = none ∧ r.identify = none ∧ r.admission = [] ∧ r.wasActive = false ∧
        r.origin = none ∧ r.faultPending = false
    | .seated => r.present = true ∧ r.seat.isSome = true ∧ r.identify = none ∧ r.admission = [] ∧ r.wasActive = false ∧
        r.origin = none ∧ r.faultPending = false
    | .identifying => r.present = true ∧ r.seat = none ∧ r.identify.isSome = true ∧ r.wasActive = false ∧
        r.origin = none ∧ r.faultPending = false ∧ r.faultReason = none
    | .ready => r.present = true ∧ r.seat = none ∧ r.identify = none ∧ r.admission = [] ∧ r.wasActive = false ∧
        r.origin = none ∧ r.faultPending = false ∧ r.faultReason = none
    | .active => r.present = true ∧ r.seat = none ∧ r.identify = none ∧ r.admission = [] ∧ r.wasActive = false ∧
        r.origin = none ∧ r.faultReason = none
    | .suspect => r.present = true ∧ r.seat = none ∧ r.identify = none ∧ r.admission = [] ∧
        r.origin = none ∧ r.faultReason = none
    | .faulted => r.present = true ∧ r.seat = none ∧ r.identify = none ∧ r.admission = [] ∧ r.wasActive = false ∧
        r.origin = none ∧ r.faultPending = false ∧ r.faultReason.isSome = true
    | _ => r.present = true ∧ r.seat = none ∧ r.identify = none ∧ r.admission = [] ∧ r.wasActive = false ∧
        r.origin.isSome = true ∧ r.faultReason = none := by
  cases h : r.state <;> simp [BayRec.safe, h, bne, beq_eq_decide, originStates, pendingStates, reasonStates]

/-- The bay holds no pack whose slots may be written: EMPTY or SEATED (R63, R65). -/
def BayRec.vacant (r : BayRec) : Prop := r.state = .empty ∨ r.state = .seated

/-- What a bay controller's operation does to the records: each keeps its fields to its state, and a bay enters EMPTY
with its slots to be cleared, and SEATED from EMPTY alone. -/
structure RecordsKept (s : State) (a : Act) : Prop where
  safe : ∀ i, (s.bay i).safe → (a.1.bay i).safe
  vacant : ∀ i, (a.1.bay i).vacant → (s.bay i).vacant ∨ Task.slotsNever i ∈ a.2

theorem RecordsKept.of_bays {s : State} {a : Act} (h : a.1.bays = s.bays) : RecordsKept s a where
  safe i := by simp [State.bay, h]
  vacant i hv := .inl (by simpa [State.bay, h] using hv)

/-- A record replaced by one of the same state. -/
theorem setBay_kept (s : State) (bay : Bay) {r : BayRec} (ts : List Task) (hs : (s.bay bay).safe → r.safe)
    (hr : r.state = (s.bay bay).state) : RecordsKept s (s.setBay bay r, ts) where
  safe i := by
    by_cases h : i = bay
    · subst h; simpa using hs
    · simp [State.setBay_bay_ne s r h]
  vacant i hi := .inl (by
    by_cases h : i = bay
    · subst h; simpa [BayRec.vacant, hr] using hi
    · simpa [State.setBay_bay_ne s r h] using hi)

/-- A bay that enters a state (R94). -/
theorem bayGoto_kept {s : State} {bay : Bay} {new : BayState} {r : BayRec}
    (hs : (s.bay bay).safe → BayRec.safe { r with state := new, entry := s.now })
    (hv : new = .seated → (s.bay bay).state = .empty) (notices : List Task) :
    RecordsKept s (bayGoto bay new r notices s) where
  safe i := by
    by_cases h : i = bay
    · subst h; simpa [bayGoto] using hs
    · simp [bayGoto_bay_ne h]
  vacant i hi := by
    by_cases h : i = bay
    · subst h
      rcases (by simpa [bayGoto, BayRec.vacant] using hi : new = .empty ∨ new = .seated) with rfl | rfl
      · exact .inr (by simp [bayGoto, bayNews, tasksIf])
      · exact .inl (.inl (hv rfl))
    · exact .inl (by simpa [bayGoto_bay_ne h] using hi)

/-- An operation after a change of the record that keeps its state. -/
theorem RecordsKept.after_setBay {s : State} {bay : Bay} {r : BayRec} {a : Act} (h : RecordsKept (s.setBay bay r) a)
    (hs : (s.bay bay).safe → r.safe) (hr : r.state = (s.bay bay).state) : RecordsKept s a where
  safe i hi := h.safe i ((setBay_kept s bay [] hs hr).safe i hi)
  vacant i hi := (h.vacant i hi).imp_left fun hv => by
    simpa using (setBay_kept s bay [] hs hr).vacant i hv

/-! ## The states a bay enters -/

section
variable {s : State} {bay : Bay}

theorem toFaulted_kept {r : BayRec} (reason : FaultReason) (notices : List Task)
    (hs : (s.bay bay).safe → r.present = true ∧ r.seat = none ∧ r.origin = none) :
    RecordsKept s (toFaulted bay reason r notices s) :=
  bayGoto_kept (fun h => by simpa [BayRec.safe_iff] using hs h) (by simp) _

/-- A bay that carries no release, with its pack admitted, enters READY or FAULTED (R103). -/
theorem toReady_kept (h : (s.bay bay).state = .active ∨ (s.bay bay).state = .suspect) :
    RecordsKept s (toReady bay (s.bay bay) s) := by
  unfold toReady
  split
  · refine toFaulted_kept _ _ fun hs => ?_
    rcases h with h | h <;> simp_all [BayRec.safe_iff]
  · refine bayGoto_kept (fun hs => ?_) (by simp) _
    rcases h with h | h <;> simp_all [BayRec.safe_iff]

theorem toReleasing_kept (h : (s.bay bay).state = .ready ∨ (s.bay bay).state = .active ∨ (s.bay bay).state = .suspect)
    (origin : Origin) : RecordsKept s (toReleasing bay origin s) := by
  refine bayGoto_kept (fun hs => ?_) (by simp) _
  rcases h with h | h | h <;> simp_all [BayRec.safe_iff]

theorem toIdentifying_kept (h : (s.bay bay).state = .seated ∨ (s.bay bay).state = .released ∨
    (s.bay bay).state = .faulted) : RecordsKept s (toIdentifying bay s) := by
  refine bayGoto_kept (fun hs => ?_) (by simp) _
  rcases h with h | h | h <;> simp_all [BayRec.safe_iff]

theorem failAdmission_kept (h : (s.bay bay).state = .identifying) (reason : FaultReason) (arg2 : Int) :
    RecordsKept s (failAdmission bay reason arg2 s) :=
  toFaulted_kept _ _ fun hs => by simp_all [BayRec.safe_iff]

end

/-! ## The operations of a bay controller -/

theorem onReleaseDone_kept (bay : Bay) (s : State) : RecordsKept s (onReleaseDone bay s) := by
  unfold onReleaseDone
  dsimp only
  split
  next h =>
    refine bayGoto_kept (fun hs => ?_) (by simp) _
    rcases h.1 with h | h <;> simp_all [BayRec.safe_iff]
  next => exact .of_bays rfl

theorem onReleaseBlocked_kept (bay : Bay) (s : State) : RecordsKept s (onReleaseBlocked bay s) := by
  unfold onReleaseBlocked
  dsimp only
  split
  next h => exact bayGoto_kept (fun hs => by simp_all [BayRec.safe_iff]) (by simp) _
  next => exact .of_bays rfl

theorem onAlternate_kept (bay : Bay) (s : State) : RecordsKept s (onAlternate bay s) := by
  unfold onAlternate
  dsimp only
  split
  next h => exact bayGoto_kept (fun hs => by simp_all [BayRec.safe_iff]) (by simp) _
  next => exact .of_bays rfl

theorem onReport_kept (bay : Bay) (place : Fin 24) (outcome : TxOutcome) (results : List (Fin 32 × DescResult))
    (s : State) : RecordsKept s (onReport bay place outcome results s) := by
  unfold onReport
  dsimp only
  split
  · exact .of_bays rfl
  next h =>
    have identifying : (s.bay bay).state = .identifying := by simpa using h
    have counted : ∀ items : List AdmissionItem, (s.bay bay).safe →
        BayRec.safe { s.bay bay with admission := items } := fun _ hs => by simp_all [BayRec.safe_iff]
    (repeat' split)
    · exact setBay_kept _ _ _ (counted _) rfl
    · exact setBay_kept _ _ _ (counted _) rfl
    · exact setBay_kept _ _ _ (counted _) rfl
    · exact (failAdmission_kept (by simpa using identifying) ..).after_setBay (counted _) rfl

theorem checkAdmission_kept (bay : Bay) (s : State) : RecordsKept s (checkAdmission bay s) := by
  unfold checkAdmission
  split
  next h =>
    have identifying : (s.bay bay).state = .identifying := by simp_all [State.admits]
    exact bayGoto_kept (fun hs => by simp_all [BayRec.safe_iff]) (by simp) _
  next => exact .of_bays rfl

theorem actOnWord_kept (bay : Bay) (value : Int) (s : State) : RecordsKept s (actOnWord bay value s) := by
  unfold actOnWord
  dsimp only
  split
  case h_1 h =>
    split
    · exact failAdmission_kept h ..
    · exact .of_bays rfl
  case h_2 h =>
    split
    · exact toFaulted_kept _ _ fun hs => by simp_all [BayRec.safe_iff]
    · exact .of_bays rfl
  case h_3 h => exact setBay_kept _ _ _ (fun hs => by simp_all [BayRec.safe_iff]) rfl
  case h_4 h => exact setBay_kept _ _ _ (fun hs => by simp_all [BayRec.safe_iff]) rfl
  all_goals exact .of_bays rfl

theorem onStatusWord_kept (bay : Bay) (value : Int) (s : State) : RecordsKept s (onStatusWord bay value s) :=
  (actOnWord_kept bay value (s.readWord bay value)).after_setBay id rfl

/-- The presence of a bay is taken as PRESENT (R96): outside EMPTY it stands already. -/
theorem toSeated_kept (bay : Bay) (s : State) : RecordsKept s (toSeated bay s) := by
  unfold toSeated
  split
  next h => exact bayGoto_kept (fun hs => by simp_all [BayRec.safe_iff]) (fun _ => h) _
  next h =>
    refine setBay_kept _ _ _ (fun hs => ?_) rfl
    have present : (s.bay bay).present = true := by simpa [h, bne, beq_eq_decide] using hs.1
    rwa [show { s.bay bay with present := true } = s.bay bay by rw [← present]]

theorem toEmpty_kept (bay : Bay) (s : State) : RecordsKept s (toEmpty bay s) := by
  unfold toEmpty
  split
  next h => exact setBay_kept _ _ _ (fun hs => by simp_all [BayRec.safe_iff]) rfl
  next => exact bayGoto_kept (fun _ => by simp [BayRec.safe_iff, BayRec.emptied]) (by simp) _

theorem onSeatExpiry_kept (bay : Bay) (s : State) : RecordsKept s (onSeatExpiry bay s) := by
  unfold onSeatExpiry
  dsimp only
  split
  next h =>
    obtain ⟨seated, -⟩ := h
    split
    · exact toIdentifying_kept (.inl seated)
    · exact setBay_kept _ _ _ (fun hs => by simp_all [BayRec.safe_iff]) rfl
  next => exact .of_bays rfl

theorem onIdentifyExpiry_kept (bay : Bay) (s : State) : RecordsKept s (onIdentifyExpiry bay s) := by
  unfold onIdentifyExpiry
  split
  next h => exact failAdmission_kept h.1 ..
  next => exact .of_bays rfl

theorem latchCloses_kept (bay : Bay) (s : State) : RecordsKept s (latchCloses bay s) := by
  unfold latchCloses
  dsimp only
  split
  case h_1 h =>
    split
    · exact bayGoto_kept (fun hs => by simp_all [BayRec.safe_iff]) (by simp) _
    · exact toReady_kept (.inr h)
  case h_2 h =>
    split
    · exact toIdentifying_kept (.inr (.inl h))
    · exact .of_bays rfl
  case h_3 h => exact bayGoto_kept (fun hs => by simp_all [BayRec.safe_iff]) (by simp) _
  all_goals exact .of_bays rfl

theorem latchOpensAdmitted_kept {bay : Bay} {s : State} (h : (s.bay bay).state = .ready ∨ (s.bay bay).state = .active) :
    RecordsKept s (latchOpensAdmitted bay s) := by
  unfold latchOpensAdmitted
  dsimp only
  split
  · refine bayGoto_kept (fun hs => ?_) (by simp) _
    rcases h with h | h <;> simp_all [BayRec.safe_iff]
  · exact toReleasing_kept (by tauto) _

theorem latchOpens_kept (bay : Bay) (s : State) : RecordsKept s (latchOpens bay s) := by
  unfold latchOpens
  dsimp only
  split
  case h_1 h => exact bayGoto_kept (fun hs => by simp_all [BayRec.safe_iff]) (by simp) _
  case h_2 h => exact latchOpensAdmitted_kept (.inl h)
  case h_3 h => exact latchOpensAdmitted_kept (.inr h)
  all_goals exact .of_bays rfl

theorem onLatch_kept (bay : Bay) (s : State) : RecordsKept s (onLatch bay s) := by
  unfold onLatch
  dsimp only
  (repeat' split)
  · exact .of_bays rfl
  · exact setBay_kept _ _ _ id rfl
  · exact (latchCloses_kept bay _).after_setBay id rfl
  · exact (latchOpens_kept bay _).after_setBay id rfl

theorem onPresence_kept (bay : Bay) (s : State) : RecordsKept s (onPresence bay s) := by
  unfold onPresence
  dsimp only
  (repeat' split)
  · exact .of_bays rfl
  · exact setBay_kept _ _ _ id rfl
  · exact (toSeated_kept bay _).after_setBay id rfl
  · exact (toEmpty_kept bay _).after_setBay id rfl

theorem restartAdmission_kept (bay : Bay) (s : State) : RecordsKept s (restartAdmission bay s) := by
  unfold restartAdmission
  split
  next h => exact setBay_kept _ _ _ (fun hs => by simp_all [BayRec.safe_iff]) rfl
  next => exact .of_bays rfl

theorem onFlagCleared_kept (bay : Bay) (s : State) : RecordsKept s (onFlagCleared bay s) := by
  unfold onFlagCleared
  split
  next h => exact toReleasing_kept (.inr (.inr h.1)) _
  next => exact .of_bays rfl

theorem onLine_kept (bay : Bay) (line : BayLine) (active : Bool) (s : State) :
    RecordsKept s (onLine bay line active s, []) := by
  cases line <;> exact setBay_kept _ _ _ id rfl

/-- A SUPPLY switch gives running timers their new times and starts none (R115). -/
theorem supplyBaySwitch_kept (bay : Bay) (s : State) : RecordsKept s (supplyBaySwitch bay s) :=
  setBay_kept _ _ _ (by simp [BayRec.safe, retime]) rfl

theorem openBayLines_kept (bay : Bay) (s : State) : RecordsKept s (openBayLines bay s) := setBay_kept _ _ _ id rfl

end Sys2Proof.Machine
end

section
/-!
SUPPORT. The bay records through the operations of the Power Path Controller (R95, R104, R106): it changes a record
through its switch commands alone, and these bring no bay into EMPTY or SEATED.
-/

namespace Sys2Proof.Machine

/-- The records keep their fields to their states, and no bay has entered EMPTY or SEATED. -/
structure BaysHeld (s t : State) : Prop where
  safe : ∀ i, (s.bay i).safe → (t.bay i).safe
  vacant : ∀ i, (t.bay i).vacant → (s.bay i).vacant

theorem BaysHeld.of_bays {s t : State} (h : t.bays = s.bays) : BaysHeld s t := by
  constructor <;> intro i hi <;> simpa [State.bay, h] using hi

theorem BaysHeld.trans {s t u : State} (h : BaysHeld s t) (k : BaysHeld t u) : BaysHeld s u :=
  ⟨fun i hi => k.safe i (h.safe i hi), fun i hi => h.vacant i (k.vacant i hi)⟩

theorem BaysHeld.kept {s : State} {a : Act} (h : BaysHeld s a.1) : RecordsKept s a :=
  ⟨h.safe, fun i hi => .inl (h.vacant i hi)⟩

/-- An operation of a bay controller that does not empty the bay. -/
theorem RecordsKept.held {s : State} {a : Act} (h : RecordsKept s a) (hn : ∀ i, Task.slotsNever i ∉ a.2) :
    BaysHeld s a.1 := ⟨h.safe, fun i hi => (h.vacant i hi).resolve_right (hn i)⟩

/-! ## The switch commands (R104, R106) -/

theorem onSwitchOn_baysHeld (bay : Bay) (s : State) : BaysHeld s (onSwitchOn bay s).1 := by
  unfold onSwitchOn
  dsimp only
  (repeat' split)
  next h =>
    have entered := bayGoto_kept (s := s) (bay := bay) (new := .active) (r := s.bay bay)
      (fun hs => by simp_all [BayRec.safe_iff]) (by simp) []
    exact entered.held fun i => by simp [bayGoto, bayNews, tasksIf]
  next h =>
    exact (setBay_kept s bay (r := { s.bay bay with wasActive := true }) []
      (fun hs => by simp_all [BayRec.safe_iff]) rfl).held (by simp)
  next => exact .of_bays rfl

theorem slotsNever_notMem_bayNews {bay : Bay} {old new : BayState} (h : new ≠ .empty) {notices : List Task}
    (hn : ∀ i, Task.slotsNever i ∉ notices) (i : Bay) : Task.slotsNever i ∉ bayNews bay old new notices := by
  simp [bayNews, tasksIf, h, hn]

theorem onSwitchOff_baysHeld (bay : Bay) (s : State) : BaysHeld s (onSwitchOff bay s).1 := by
  unfold onSwitchOff
  dsimp only
  (repeat' split)
  next h =>
    refine (toReady_kept (.inl h)).held fun i => ?_
    unfold toReady toFaulted
    split <;> exact slotsNever_notMem_bayNews (by simp) (by simp) i
  next h =>
    exact (setBay_kept s bay (r := { s.bay bay with wasActive := false }) []
      (fun hs => by simp_all [BayRec.safe_iff]) rfl).held (by simp)
  next => exact .of_bays rfl

theorem commandOn_baysHeld (x : Src) (s : State) : BaysHeld s (commandOn x s).1 := by
  rcases src_cases x with ⟨bay, rfl⟩ | hn
  · rw [commandOn_pack]
    exact .trans (t := s.setSwitch (baySrc bay) .on) (.of_bays rfl) (onSwitchOn_baysHeld ..)
  · rw [commandOn_noPack hn]
    exact .of_bays rfl

theorem commandOff_baysHeld (x : Src) (sw : Switch) (s : State) : BaysHeld s (commandOff x sw s).1 := by
  rcases src_cases x with ⟨bay, rfl⟩ | hn
  · rw [commandOff_pack]
    exact .trans (t := s.leaveOn (baySrc bay) sw) (.of_bays rfl) (onSwitchOff_baysHeld ..)
  · rw [commandOff_noPack hn]
    exact .of_bays rfl

/-! ## Attempts and takeovers (R79, R80, R82, R85) -/

theorem beginAttempt_baysHeld (kind : WalkKind) (target : Src) (rest : List Src) (s : State) :
    BaysHeld s (beginAttempt kind target rest s).1 := (commandOn_baysHeld target s).trans (.of_bays rfl)

theorem bridgeAttempt_baysHeld (s : State) : BaysHeld s (bridgeAttempt s).1 :=
  .trans (t := { s with ppc := { s.ppc with bridgeDue := false } }) (.of_bays rfl) (beginAttempt_baysHeld ..)

theorem walkOn_baysHeld (kind : WalkKind) (candidates : List Src) (s : State) :
    BaysHeld s (walkOn kind candidates s).1 := by
  unfold walkOn
  (repeat' split)
  · exact .of_bays rfl
  · exact .of_bays rfl
  · exact .of_bays (by simp)
  · exact .of_bays (by simp)
  · exact beginAttempt_baysHeld ..
  · exact .of_bays rfl

theorem failAttempt_baysHeld (a : Attempt) (sw : Switch) (result : MoveResult) (s : State) :
    BaysHeld s (failAttempt a sw result s).1 :=
  (commandOff_baysHeld a.target sw s).trans (.of_bays (bridgeStopFor_quiet ..).bays)

theorem completeAttempt_baysHeld (result : MoveResult) (severity : Severity) (lost : Bool) (s : State) :
    BaysHeld s (completeAttempt result severity lost s).1 := by
  have left : ∀ old, BaysHeld s (leaveOld old lost s).1 := fun old => by
    unfold leaveOld
    split
    · exact commandOff_baysHeld ..
    · exact .of_bays rfl
  unfold completeAttempt
  split
  · exact .of_bays rfl
  · exact (left _).trans (.of_bays rfl)

theorem takeOver_baysHeld (lost target : Src) (urgent : Bool) (s : State) :
    BaysHeld s (takeOver lost target urgent s).1 := by
  have left : BaysHeld s (leaveForTakeover lost s).1 := by
    unfold leaveForTakeover restSource
    refine (commandOff_baysHeld lost .off s).trans ?_
    (repeat' split)
    · exact .of_bays rfl
    · exact commandOff_baysHeld ..
    · exact .of_bays rfl
  exact (left.trans (commandOn_baysHeld target _)).trans (.of_bays rfl)

theorem onTakeover_baysHeld (lost : Src) (urgent : Bool) (s : State) : BaysHeld s (onTakeover lost urgent s).1 := by
  unfold onTakeover
  (repeat' split)
  · exact .of_bays rfl
  · exact takeOver_baysHeld ..
  · exact .of_bays rfl
  · exact takeOver_baysHeld ..
  · exact .of_bays (by simp)
  · exact .of_bays rfl

theorem loseTarget_baysHeld (a : Attempt) (urgent trigger : Bool) (s : State) :
    BaysHeld s (loseTarget a urgent trigger s).1 := by
  have failed := failAttempt_baysHeld a .off .aborted s
  unfold loseTarget
  split
  · exact failed.trans (.of_bays rfl)
  · exact failed
  · exact failed.trans (onTakeover_baysHeld ..)
  · exact failed.trans (onTakeover_baysHeld ..)

theorem onLoss_baysHeld (x : Src) (urgent trigger : Bool) (s : State) : BaysHeld s (onLoss x urgent trigger s).1 := by
  unfold onLoss
  (repeat' split)
  · exact loseTarget_baysHeld ..
  · exact completeAttempt_baysHeld ..
  · exact .of_bays rfl
  · exact onTakeover_baysHeld ..
  · exact .of_bays rfl

/-! ## The other operations -/

theorem repeatedTakeover_baysHeld (lost : Src) (s : State) : BaysHeld s (repeatedTakeover lost s).1 := by
  unfold repeatedTakeover
  split
  · exact onTakeover_baysHeld ..
  · exact .of_bays rfl

theorem confirmAttempt_baysHeld (s : State) : BaysHeld s (confirmAttempt s).1 := by
  unfold confirmAttempt
  split
  · exact completeAttempt_baysHeld ..
  · exact .of_bays rfl

theorem expireConfirm_baysHeld (s : State) : BaysHeld s (expireConfirm s).1 := by
  unfold expireConfirm
  (repeat' split)
  · exact .of_bays rfl
  · exact .of_bays rfl
  · exact (failAttempt_baysHeld ..).trans (.of_bays rfl)

theorem takeWaiting_baysHeld (s : State) : BaysHeld s (takeWaiting s).1 := by
  unfold takeWaiting
  (repeat' split)
  case isTrue.isFalse => exact bridgeAttempt_baysHeld s
  all_goals exact .of_bays (by simp [State.takeDueSupply])

theorem onDcin_baysHeld (high : Bool) (s : State) : BaysHeld s (onDcin high s).1 := by
  have lined : BaysHeld s (s.withDcin high) := .of_bays (by simp [State.withDcin])
  rw [onDcin_eq]
  (repeat' split)
  · exact .of_bays rfl
  · exact lined
  · exact lined.trans (onLoss_baysHeld ..)

theorem powerOnBay_baysHeld (bay : Bay) (old new : BayState) (s : State) : BaysHeld s (powerOnBay bay old new s).1 := by
  have entered : BaysHeld s ((s.emptySource bay).enterSwitch bay).refresh := .of_bays (by simp)
  unfold powerOnBay
  dsimp only
  (repeat' split)
  · exact entered.trans (onLoss_baysHeld ..)
  · exact entered
  · exact entered
  · exact entered

theorem powerOnWrite_baysHeld (slot : Fin 32) (old : Slot) (s : State) : BaysHeld s (powerOnWrite slot old s).1 := by
  have hot : ∀ bay, BaysHeld s (packTooHot bay s).1 := fun bay => by
    have held : BaysHeld s (s.holdOff bay true).refresh := .of_bays (by simp)
    unfold packTooHot
    dsimp only
    split
    · exact held.trans (onLoss_baysHeld ..)
    · exact held
  have heat : ∀ bay, BaysHeld s (temperatureWritten bay s).1 := fun bay => by
    unfold temperatureWritten
    split
    · exact hot bay
    · exact .of_bays (by simp)
  unfold powerOnWrite
  split
  case h_5 => exact heat .a
  case h_6 => exact heat .b
  all_goals exact .of_bays (by simp)

theorem expireStartup_baysHeld (s : State) : BaysHeld s (expireStartup s).1 := by
  unfold expireStartup
  dsimp only
  (repeat' split)
  · exact .of_bays rfl
  · exact .of_bays rfl
  · exact .of_bays rfl
  · exact .trans (t := { s with ppc := { s.ppc with startup := none, startupExpired := true } }) (.of_bays rfl)
      (bridgeAttempt_baysHeld _)

theorem powerOnFlag_baysHeld (set : Bool) (s : State) : BaysHeld s (powerOnFlag set s).1 := by
  unfold powerOnFlag giveUpAttempt
  (repeat' split)
  · exact .of_bays rfl
  · exact .of_bays rfl
  · exact (failAttempt_baysHeld ..).trans (.of_bays rfl)
  · exact .of_bays rfl

end Sys2Proof.Machine
end

section
/-!
SUPPORT. The bay records through every request and every handling (R98, R107, R113, R114).
-/

namespace Sys2Proof.Machine

/-! ## The requests -/

/-- A REQUEST_SWAP names a bay that is READY or ACTIVE (R113). -/
theorem State.swapBay_eq_some {s : State} {b : Byte} {bay : Bay} : s.swapBay b = some bay ↔
    bayOfByte b = some bay ∧ ((s.bay bay).state = .ready ∨ (s.bay bay).state = .active) := by
  simp [State.swapBay]

/-- A RETRY_BAY names a FAULTED bay whose latch is CLOSED (R114). -/
theorem State.retryOf_eq_some {s : State} {b : Byte} {bay : Bay} : s.retryOf b = some bay ↔
    bayOfByte b = some bay ∧ (s.bay bay).state = .faulted ∧ (s.bay bay).latchClosed = true := by
  simp [State.retryOf]

theorem Request.act_kept (r : Request) (p : List Byte) (s : State) :
    RecordsKept s ((r.act p s).state, (r.act p s).tasks) := by
  cases r
  case requestSwap =>
    simp only [Request.act, requestSwapOf]
    split
    next bay h =>
      obtain ⟨-, admitted⟩ := State.swapBay_eq_some.1 h
      have released := toReleasing_kept (s := s.setSru { s.sru with background := .swap bay }) (bay := bay)
        (admitted.imp_right .inl) .request
      exact ⟨released.safe, released.vacant⟩
    next => exact .of_bays rfl
  case retryBay =>
    simp only [Request.act, requestRetry]
    split
    next bay h => exact toIdentifying_kept (.inr (.inr (State.retryOf_eq_some.1 h).2.1))
    next => exact .of_bays rfl
  all_goals
    refine .of_bays ?_
    simp only [Request.act, requestIdentify, requestStageWrite, requestStageRead, requestTableRead, requestDiscard,
      requestCommit, requestSave, requestSettingsRead, requestSettingsWrite, requestFetch, requestAlertLevel,
      requestTelemetry, requestReadBay, requestReadPower, requestReadBrightness, requestBrightness, requestReadDrop,
      requestClearDrop, requestReadMotion, requestReadPoll, requestReadLink, requestClearIndicators, requestReset,
      readImageRun, longRead, firstPart, laterPart, acceptCommit]
    (repeat' split) <;> simp [refusal, reading, acting, State.clearMarks, State.setLog]

theorem decodeRequest_kept (code tag : Byte) (p : List Byte) (s : State) :
    RecordsKept s (decodeRequest code tag p s) := by
  have answered : ∀ r, RecordsKept s ((answerOf r p s).state, (answerOf r p s).tasks) := fun r => by
    unfold answerOf
    (repeat' split)
    · exact .of_bays rfl
    · exact .of_bays rfl
    · exact .of_bays rfl
    · exact Request.act_kept ..
  unfold decodeRequest
  split
  · exact ⟨(answered _).safe, (answered _).vacant⟩
  · exact .of_bays rfl

/-! ## Every handling -/

theorem handle_kept (t : Task) (s : State) : RecordsKept s (handle t s) := by
  cases t
  case slotWritten slot old => exact BaysHeld.kept (powerOnWrite_baysHeld slot old s)
  case slotLapsed slot => exact .of_bays (by simp [handle, tellLapsed])
  case powerBay => exact (powerOnBay_baysHeld ..).kept
  case walk => exact (walkOn_baysHeld ..).kept
  case goOn kind rest => exact .of_bays (goOn_quiet kind rest s).bays
  case confirm => exact (confirmAttempt_baysHeld s).kept
  case settled => exact (takeWaiting_baysHeld s).kept
  case releaseRequest => exact .of_bays (by simp [handle])
  case takeover => exact (repeatedTakeover_baysHeld ..).kept
  case flagPower => exact (powerOnFlag_baysHeld ..).kept
  case supplyPower => exact .of_bays (by simp [handle])
  case request => exact decodeRequest_kept ..
  case releaseDone => exact onReleaseDone_kept ..
  case releaseBlocked => exact onReleaseBlocked_kept ..
  case alternate => exact onAlternate_kept ..
  case admissionReport => exact onReport_kept ..
  case admissionCheck => exact checkAdmission_kept ..
  case statusWord => exact onStatusWord_kept ..
  case seat => exact toSeated_kept ..
  case seatExpiry => exact onSeatExpiry_kept ..
  case identifyExpiry => exact onIdentifyExpiry_kept ..
  case latchTaken => exact onLatch_kept ..
  case presenceTaken => exact onPresence_kept ..
  case admissionRestart => exact restartAdmission_kept ..
  case flagBay => exact onFlagCleared_kept ..
  case supplyBay => exact supplyBaySwitch_kept ..
  case openBay => exact openBayLines_kept ..
  case trigger =>
    refine .of_bays ?_
    simp only [handle, onTrigger]
    split <;> rfl
  all_goals exact .of_bays (by simp [handle, alone, decodeMalformed, refusal])

theorem commandAct_kept (c : Instr) (s : State) : RecordsKept s (commandAct c s) := by
  cases c
  case settingsLoadEnd => exact .of_bays (onLoadEnd_quiet ..).bays
  case commitSwitch => exact .of_bays (onCommitSwitch_quiet s).bays
  case commitLimitExpiry => exact .of_bays (onCommitLimit_quiet s).bays
  case slotStale => exact .of_bays (slotStale_quiet ..).bays
  case dcinOkChange => exact (onDcin_baysHeld ..).kept
  case confirmTimerExpiry => exact (expireConfirm_baysHeld s).kept
  case startupLimitExpiry => exact (expireStartup_baysHeld s).kept
  case dwellTimerExpiry => exact .of_bays (expireDwell_quiet s).bays
  case bridgeTimerExpiry => exact .of_bays (expireBridge_quiet s).bays
  case lineLevelChange => exact onLine_kept ..
  case latchChange => exact onLatch_kept ..
  case presenceRise =>
    simp only [commandAct]
    split
    · exact onPresence_kept ..
    · exact .of_bays rfl
  case presenceFall =>
    simp only [commandAct]
    split
    · exact .of_bays rfl
    · exact onPresence_kept ..
  case seatTimerExpiry => exact onSeatExpiry_kept ..
  case identifyTimerExpiry => exact onIdentifyExpiry_kept ..
  all_goals exact .of_bays (by simp [commandAct, alone])

end Sys2Proof.Machine
end

section
/-!
SUPPORT. The slots of a bay without a pack: no handling writes them (R63), none makes a NEVER slot STALE (R64), and the
bay's emptying makes them NEVER (R65).
-/

namespace Sys2Proof.Machine

theorem mem_baySlots {bay : Bay} {slot : Fin 32} : slot ∈ baySlots bay ↔ slotBay slot = some bay := by
  revert slot
  cases bay <;> decide

/-- The slots of every bay without a pack stay NEVER. -/
def NeverKept (s t : State) : Prop :=
  ∀ slot, s.noPack slot = true → (s.slot slot).state = .never → (t.slot slot).state = .never

theorem NeverKept.of_slots {s t : State} (h : t.slots = s.slots) : NeverKept s t := fun slot _ hs => by
  simpa [State.slot, h] using hs

/-- A slot written over leaves a NEVER one of a bay without a pack as it is, unless it is that slot. -/
theorem setSlot_neverKept {s : State} {slot : Fin 32} {r : Slot}
    (h : s.noPack slot = true → (s.slot slot).state = .never → r.state = .never) : NeverKept s (s.setSlot slot r) := by
  intro i hp hn
  by_cases e : i = slot
  · subst e
    simpa using h hp hn
  · simpa [State.setSlot_slot_ne s r e] using hn

theorem runDescriptor_neverKept (source : SlotSource) (place : Nat) (d : Descriptor) (data : List Byte) (s : State) :
    NeverKept s (runDescriptor source place d data s).1 := by
  unfold runDescriptor
  split
  case h_1 h =>
    have written : s.noPack d.slot = false := by
      unfold State.descriptorResult at h
      split at h
      · split at h <;> simp_all
      next hw => exact absurd h hw
    exact setSlot_neverKept (by simp [written])
  case h_2 =>
    have counted := setSlot_neverKept (s := s) (slot := d.slot)
      (r := { s.slot d.slot with implausible := satAdd (s.slot d.slot).implausible 3 }) fun _ h => h
    unfold countImplausible
    dsimp only
    split
    · exact counted
    · exact counted
  all_goals exact .of_slots rfl

/-! ## Freshness (R64, R65) -/

theorem State.fresh_of_expired {s : State} {slot : Fin 32} (h : s.expired slot = true) :
    (s.slot slot).state = .fresh := by
  simp only [State.expired, Bool.and_eq_true, beq_iff_eq] at h
  exact h.1.1

/-- Slots that become STALE in turn leave the others as they are. -/
theorem foldl_makeStale_slot (lapsed : List (Fin 32)) {i : Fin 32} (h : i ∉ lapsed) : ∀ s : State,
    (lapsed.foldl (fun s i => (makeStale i s).1) s).slot i = s.slot i := by
  induction lapsed with
  | nil => exact fun _ => rfl
  | cons j rest ih =>
    obtain ⟨hj, hrest⟩ := not_or.1 (mt List.mem_cons.2 h)
    exact fun s => (ih hrest _).trans (State.setSlot_slot_ne _ _ hj)

theorem switchLimits_neverKept (s : State) : NeverKept s (switchLimits s).1 := by
  intro i _ hn
  have kept : i ∉ (List.finRange 32).filter fun i => s.expired i := fun h => by
    simp [State.fresh_of_expired (List.mem_filter.1 h).2] at hn
  rw [switchLimits]
  exact (congrArg Slot.state (foldl_makeStale_slot _ kept s)).trans hn

theorem foldl_resetSlot (slots : List (Fin 32)) (i : Fin 32) : ∀ s : State,
    (slots.foldl (fun s i => s.setSlot i Slot.reset) s).slot i = if i ∈ slots then Slot.reset else s.slot i := by
  induction slots with
  | nil => simp
  | cons j rest ih =>
    intro s
    rw [List.foldl_cons, ih]
    by_cases hr : i ∈ rest
    · simp [hr]
    · by_cases hj : i = j
      · simp [hj]
      · simp [hr, hj, State.setSlot_slot_ne]

/-- A bay's slots are cleared, and they alone (R65). -/
theorem clearBaySlots_slot (bay : Bay) (s : State) (i : Fin 32) :
    (clearBaySlots bay s).1.slot i = if slotBay i = some bay then Slot.reset else s.slot i := by
  simp [clearBaySlots, foldl_resetSlot, mem_baySlots]

theorem clearBaySlots_neverKept (bay : Bay) (s : State) : NeverKept s (clearBaySlots bay s).1 := by
  intro i _ hn
  rw [clearBaySlots_slot]
  split
  · rfl
  · exact hn

/-! ## Every handling -/

theorem handle_neverKept (t : Task) (s : State) : NeverKept s (handle t s).1 := by
  cases t
  case descriptor source place d data => exact runDescriptor_neverKept source place d data s
  case limitsSwitch => exact switchLimits_neverKept s
  case slotsNever bay => exact clearBaySlots_neverKept bay s
  all_goals exact .of_slots (by simp [handle, alone, decodeMalformed, refusal, tellWritten, tellLapsed, respond])

theorem commandAct_neverKept (c : Instr) (s : State) : NeverKept s (commandAct c s).1 := by
  cases c
  case slotStale slot =>
    simp only [commandAct]
    split
    next h => exact setSlot_neverKept fun _ hn => by simp [State.fresh_of_expired h] at hn
    next => exact .of_slots rfl
  case presenceRise | presenceFall =>
    simp only [commandAct]
    split
    · exact .of_slots (by simp [alone])
    · exact .of_slots (by simp [alone])
  all_goals exact .of_slots (by simp [commandAct, alone])

end Sys2Proof.Machine
end

section
/-!
CLAIM. O9, every step keeps the bay records and the NEVER slots of a bay without a pack.
-/

namespace Sys2Proof.Machine

/-- The slots of every bay that is EMPTY or SEATED are NEVER, or the bay's emptying is still to be told. -/
def SlotsVacant (s : State) (l : List Task) : Prop :=
  ∀ bay, (s.bay bay).vacant → (∀ slot ∈ baySlots bay, (s.slot slot).state = .never) ∨ Task.slotsNever bay ∈ l

/-- An operation that keeps the records and the NEVER slots keeps the slots of the bays without a pack. -/
theorem SlotsVacant.act {s : State} {a : Act} {l : List Task} (h : SlotsVacant s l) (kept : RecordsKept s a)
    (never : NeverKept s a.1) : SlotsVacant a.1 (a.2 ++ l) := by
  intro bay hv
  rcases kept.vacant bay hv with was | told
  · refine (h bay was).imp (fun hn slot hm => never slot ?_ (hn slot hm)) (List.mem_append_right _)
    exact (s.noPack_iff slot).2 ⟨bay, mem_baySlots.1 hm, was⟩
  · exact .inr (List.mem_append_left _ told)

theorem handle_slotsVacant (t : Task) (s : State) (l : List Task) (h : SlotsVacant s (t :: l)) :
    SlotsVacant (handle t s).1 ((handle t s).2 ++ l) := by
  intro bay hv
  by_cases e : t = .slotsNever bay
  · subst e
    refine .inl fun slot hm => ?_
    rw [handle, clearBaySlots_slot, if_pos (mem_baySlots.1 hm)]
    rfl
  · refine (h.act (handle_kept t s) (handle_neverKept t s) bay hv).imp_right fun told => ?_
    simpa [Ne.symm e] using told

theorem slotsVacant_stacked : Stacked SlotsVacant where
  mono h hl bay hv := (h bay hv).imp_right (hl ·)
  agenda _ h := h
  kept := handle_slotsVacant

/-- After POWER_ON_RESET every slot is NEVER. -/
theorem afterReset_slotsVacant (s : State) (a b : PerBay Bool) :
    SlotsVacant (State.afterReset s.pending s.lines a b s.smi.memory s.smi.answers) [] := by
  intro _ _
  refine .inl fun slot _ => ?_
  rw [afterReset_slot]
  rfl

/-- Settles O9: the records by what each operation may do to them, the slots by an induction over the tasks of a step
(`Stacked`), where a bay that has just emptied has its slots still to be cleared. -/
theorem stepKeepsBayRecords : Obligations.StepKeepsBayRecords := by
  intro s t h
  refine ⟨fun hs => ?_, fun hs => ?_⟩
  · exact step_keeps State.baysSafe (fun _ _ h => h) (fun _ _ h => h) (fun _ _ h => h)
      (fun t s h i => (handle_kept t s).safe i (h i)) (fun c s h i => (commandAct_kept c s).safe i (h i))
      (fun s a b _ i => afterReset_bay .. ▸ BayRec.reset_safe ..) hs h
  · exact slotsVacant_stacked.step (fun _ h => h) (fun _ h => h)
      (fun c s l h => h.act (commandAct_kept c s) (commandAct_neverKept c s)) afterReset_slotsVacant hs h

end Sys2Proof.Machine
end

section
/-!
SUPPORT. What a bay controller makes of a report, a status word and the end of a release, case by case (R99 to R103, R107
to R109, R113).
-/

namespace Sys2Proof.Machine

theorem State.setBay_setBay (s : State) (bay : Bay) (r q : BayRec) : (s.setBay bay r).setBay bay q = s.setBay bay q := by
  cases bay <;> rfl

/-- The notices of a state change are among what it tells (R94). -/
theorem mem_bayNews_notice {bay : Bay} {old new : BayState} {notices : List Task} {n : Task} (h : n ∈ notices) :
    n ∈ bayNews bay old new notices := by simp [bayNews, h]

theorem mem_bayNews_swapEnd {bay : Bay} {new : BayState} (h : endsSwap new = true) (old : BayState)
    (notices : List Task) : Task.swapEnd bay ∈ bayNews bay old new notices := by simp [bayNews, tasksIf, h]

/-! ## Reports (R99, R115) -/

theorem isSuccess_iff {bay : Bay} {outcome : TxOutcome} {results : List (Fin 32 × DescResult)} :
    isSuccess bay outcome results = true ↔
      outcome = .done ∧ ∀ x ∈ results, x.1 = voltageSlot bay ∨ x.1 = temperatureSlot bay → x.2 = .written := by
  simp only [isSuccess, Bool.and_eq_true, beq_iff_eq, List.all_eq_true, Bool.or_eq_true, bne_iff_ne]
  refine and_congr_right fun _ => forall₂_congr fun x _ => ?_
  tauto

/-- The admission list after a report: the attempt of its place is counted to three, and its success is marked. -/
def countReport (place : Fin 24) (ok : Bool) (items : List AdmissionItem) : List AdmissionItem :=
  items.map fun i =>
    if i.place = place then { i with attempts := min (i.attempts + 1) 3, succeeded := i.succeeded || ok } else i

/-- The state after a report has been counted. -/
def State.counts (s : State) (bay : Bay) (place : Fin 24) (ok : Bool) : State :=
  s.setBay bay { s.bay bay with admission := countReport place ok (s.bay bay).admission }

section
variable {bay : Bay} {place : Fin 24} {outcome : TxOutcome} {results : List (Fin 32 × DescResult)} {s : State}

theorem onReport_ignored (h : (s.bay bay).state ≠ .identifying) : onReport bay place outcome results s = (s, []) := by
  simp [onReport, h]

/-- A success is counted, and the bay checks for admission (R99, R100). -/
theorem onReport_success (h : (s.bay bay).state = .identifying) (ok : isSuccess bay outcome results = true) :
    onReport bay place outcome results s = (s.counts bay place true, [.admissionCheck bay]) := by
  have identifying : ((s.bay bay).state != .identifying) = false := by simp [h]
  simp only [onReport, identifying, ok, Bool.true_or]
  split
  · contradiction
  · split <;> rfl

/-- Without success the item decides: one that has succeeded stays so, one short of its third attempt is asked for again,
and the third faults the bay (R99, R101). -/
theorem onReport_failure (h : (s.bay bay).state = .identifying) (ok : isSuccess bay outcome results = false)
    {i : AdmissionItem} (hi : (s.bay bay).admission.find? (fun i => i.place == place) = some i) :
    onReport bay place outcome results s =
      if i.succeeded = true then (s.counts bay place false, [.admissionCheck bay])
      else if i.attempts < 2 then (s.counts bay place false, [.admissionAgain place, .admissionCheck bay])
      else failAdmission bay .attempts place.val (s.counts bay place false) := by
  have identifying : ((s.bay bay).state != .identifying) = false := by simp [h]
  simp only [onReport, identifying, ok, hi, attemptLimit, Nat.add_lt_add_iff_right (m := 2), Bool.false_or]
  rfl

end

/-- A bay that fails its admission is FAULTED, whatever its list was (R101). -/
theorem failAdmission_counts (bay : Bay) (place : Fin 24) (ok : Bool) (reason : FaultReason) (arg2 : Int) (s : State) :
    (failAdmission bay reason arg2 (s.counts bay place ok)).1 = (failAdmission bay reason arg2 s).1 := by
  simp [failAdmission, toFaulted, bayGoto, State.counts, State.setBay_setBay]

/-! ## The admission check (R100) -/

theorem State.admits_iff {s : State} {bay : Bay} : s.admits bay = true ↔
    (s.bay bay).state = .identifying ∧ (∀ i ∈ (s.bay bay).admission, i.succeeded = true) ∧
      (s.slot (voltageSlot bay)).state = .fresh ∧ (s.slot (temperatureSlot bay)).state = .fresh ∧
      ¬((s.slot (statusSlot bay)).state = .fresh ∧ (s.bay bay).wordFault = true) := by
  simp [State.admits, State.fresh, and_assoc, imp_iff_not_or]

/-! ## Status words (R103) -/

@[simp] theorem State.setBay_statusFault (s : State) (bay : Bay) (r : BayRec) (word : Int) :
    (s.setBay bay r).statusFault word = s.statusFault word := rfl

section
variable {bay : Bay} {s : State} (word : Int)

theorem onStatusWord_faults (h : (s.bay bay).state = .identifying ∨ (s.bay bay).state = .ready)
    (hf : s.statusFault word = true) : onStatusWord bay word s =
      toFaulted bay .status { s.bay bay with wordFault := true }
        [bayNotice bay .bayFault .warn (faultReasonCode .status) word] s := by
  rcases h with h | h <;>
    simp [onStatusWord, actOnWord, State.readWord, failAdmission, toFaulted, bayGoto, State.setBay_setBay, h, hf]

theorem onStatusWord_pends (h : (s.bay bay).state = .active ∨ (s.bay bay).state = .suspect) :
    onStatusWord bay word s =
      (s.setBay bay { s.bay bay with wordFault := s.statusFault word, faultPending := s.statusFault word },
        if s.statusFault word = true ∧ (s.bay bay).faultPending = false then
          [bayNotice bay .bayFault .warn (faultReasonCode .status) word] else []) := by
  rcases h with h | h <;> simp [onStatusWord, actOnWord, State.readWord, State.setBay_setBay, h]

/-- Elsewhere the word is noted alone. -/
theorem onStatusWord_noted (ha : (s.bay bay).state ≠ .active) (hs : (s.bay bay).state ≠ .suspect)
    (h : s.statusFault word = false ∨ (s.bay bay).state ≠ .identifying ∧ (s.bay bay).state ≠ .ready) :
    onStatusWord bay word s = (s.setBay bay { s.bay bay with wordFault := s.statusFault word }, []) := by
  cases e : (s.bay bay).state <;> simp_all [onStatusWord, actOnWord, State.readWord]

end

/-! ## The ends of a release (R107 to R109) -/

section
variable {bay : Bay} {s : State}

theorem onReleaseDone_ends (h : (s.bay bay).state = .releasing ∨ (s.bay bay).state = .releaseBlocked)
    (off : (s.source (baySrc bay)).sw ≠ .on) : onReleaseDone bay s = toReleased bay (s.bay bay) s := if_pos ⟨h, off⟩

theorem onReleaseBlocked_ends (h : (s.bay bay).state = .releasing) : onReleaseBlocked bay s =
    bayGoto bay .releaseBlocked (s.bay bay)
      [bayNotice bay .releaseBlocked .urgent (originArg (s.bay bay).origin) 0] s := if_pos h

theorem onAlternate_returns (h : (s.bay bay).state = .releaseBlocked) :
    onAlternate bay s = bayGoto bay .releasing (s.bay bay) [] s := if_pos h

end

/-! ## The end of a background operation (R176) -/

/-- The end of the operation whose record still stands: it is written there, and no read waits for it. -/
theorem handle_backgroundEnd {s : State} {code tag : Byte} (h : s.awaitsEnd code tag)
    (hc : backgroundCode s.sru.background = code) (status : Status) (payload : List Byte) :
    handle (.backgroundEnd status payload) s = (s.ended code tag status payload, []) := by
  obtain ⟨phase, record⟩ := h
  simp [handle, alone, onBackgroundEnd, State.writeEnd, State.setSru, record, hc, endResponse, releaseWaiting,
    State.heldService, beq_eq_decide, phase, State.ended]

end Sys2Proof.Machine
end

section
/-!
CLAIM. O50, admissions and releases end.
-/

namespace Sys2Proof.Machine

/-- Settles O50: every report and every word by the state of its bay. -/
theorem admissionsAndReleasesEnd : Obligations.AdmissionsAndReleasesEnd := by
  intro s bay r post faulted
  refine ⟨fun place outcome results => ⟨onReport_ignored, fun h => ⟨fun ok => ?_, fun ok i hi => ?_⟩⟩, ⟨fun no => ?_,
    fun yes => ?_⟩, fun word => ⟨fun fine active suspect => ?_, fun fault h => ?_, fun h => ?_,
    fun identifying ready active suspect => ?_⟩, ⟨fun no => ?_, fun origin h off from_ => ?_⟩, ⟨fun no => ?_,
    fun origin h from_ => ?_⟩, ⟨fun no => ?_, fun h => ?_⟩, fun swap _ tag awaits => ?_⟩
  · exact onReport_success h (isSuccess_iff.2 ok)
  · have failed := onReport_failure h (Bool.eq_false_iff.2 (mt isSuccess_iff.1 ok)) hi
    refine ⟨fun done => failed.trans (if_pos done), fun undone short => ?_, fun undone third => ?_⟩
    · exact failed.trans (by rw [if_neg (by simp [undone]), if_pos short]; rfl)
    · replace failed := failed.trans (by rw [if_neg (by simp [undone]), if_neg (by omega)])
      have old : ((s.counts bay place false).bay bay).state = .identifying := by simpa [State.counts] using h
      simp only [handle, failed, failAdmission_counts]
      refine ⟨rfl, mem_bayNews_notice (by simp [post, bayNotice]), ?_⟩
      rw [← old]
      exact mem_bayNews ..
  · exact if_neg (mt State.admits_iff.1 no)
  · refine (if_pos (State.admits_iff.2 yes)).trans ?_
    simp [bayGoto, bayNews, tasksIf, yes.1, counted, endsSwap, r, post, bayNotice]
  · exact onStatusWord_noted word active suspect (.inl fine)
  · simp only [handle, onStatusWord_faults word h fault]
    exact ⟨by rw [← fault]; rfl, mem_bayNews_notice (by simp [post, bayNotice]), mem_bayNews ..⟩
  · exact onStatusWord_pends word h
  · exact onStatusWord_noted word active suspect (.inr ⟨identifying, ready⟩)
  · exact if_neg fun h => no.elim (fun n => h.1.elim n.1 n.2) h.2
  · simp only [handle, onReleaseDone_ends h off]
    exact ⟨rfl, mem_bayNews_notice (by simp [post, bayNotice, r, from_, originArg]), mem_bayNews_swapEnd rfl ..⟩
  · exact if_neg no
  · simp only [handle, onReleaseBlocked_ends h]
    exact ⟨rfl, mem_bayNews_notice (by simp [post, bayNotice, r, from_, originArg]), mem_bayNews_swapEnd rfl ..⟩
  · exact if_neg no
  · simp only [handle, onAlternate_returns h]
    refine ⟨rfl, ?_⟩
    rw [← h]
    exact mem_bayNews ..
  · rw [handle_swapEnd swap, handle_backgroundEnd awaits (by rw [swap]; rfl)]

end Sys2Proof.Machine
end

section
/-!
SUPPORT. A bay's state change while a confirm is awaited and a driver write executes: the Poll Engine takes it in its own
records, the Power Path Controller in its sources and in what waits for the attempt's end (R54, R68, R72, R77, R83).
-/

namespace Sys2Proof.Machine

/-! ## What such a change leaves as it is -/

/-- The blocks that have no part in it. -/
structure Aside (s t : State) : Prop where
  now : t.now = s.now
  lines : t.lines = s.lines
  uli : t.uli = s.uli
  ports : t.ports = s.ports
  slots : t.slots = s.slots
  bays : t.bays = s.bays
  mtu : t.mtu = s.mtu
  sru : t.sru = s.sru
  smi : t.smi = s.smi
  attempt : t.ppc.attempt = s.ppc.attempt
  onSrc : t.ppc.onSrc = s.ppc.onSrc
  write : t.brc.write = s.brc.write

theorem Aside.refl (s : State) : Aside s s := by constructor <;> rfl

theorem Aside.trans {s t u : State} (h : Aside s t) (k : Aside t u) : Aside s u where
  now := k.now.trans h.now
  lines := k.lines.trans h.lines
  uli := k.uli.trans h.uli
  ports := k.ports.trans h.ports
  slots := k.slots.trans h.slots
  bays := k.bays.trans h.bays
  mtu := k.mtu.trans h.mtu
  sru := k.sru.trans h.sru
  smi := k.smi.trans h.smi
  attempt := k.attempt.trans h.attempt
  onSrc := k.onSrc.trans h.onSrc
  write := k.write.trans h.write

theorem Waited.aside {s t : State} (h : Waited s t) : Aside s t :=
  ⟨h.now, h.lines, h.uli, h.ports, h.slots, h.bays, h.mtu, h.sru, h.smi, h.attempt, h.onSrc, h.write⟩

theorem Aside.waiting {s t : State} (h : Aside s t) (hs : Waiting s) : Waiting t := by
  obtain ⟨awaits, code, executes⟩ := hs
  exact ⟨by rw [h.attempt]; exact awaits, code, h.write.trans executes⟩

theorem Aside.bay {s t : State} (h : Aside s t) (i : Bay) : t.bay i = s.bay i := by rw [State.bay, h.bays]; rfl

theorem State.engaged.waiting {s : State} (h : s.engaged) : Waiting s := h.2

/-! ## The Poll Engine (R53, R54) -/

/-- No SETUP run is released by the change: no gate opens, or none waits for one. -/
def State.gateQuiet (s : State) (old new : BayState) : Prop :=
  gateOpen old = true ∨ gateOpen new = false ∨ ∀ place, (s.poll place).gateWait = false

theorem handle_pollBay_quiet {s : State} {old new : BayState} (h : s.gateQuiet old new) (bay : Bay) :
    ∃ polls, handle (.pollBay bay old new) s =
      ({ s with polls := polls }, tasksIf (new == .identifying) [.admissionBegin bay]) := by
  have freed : (if !gateOpen old && gateOpen new then gateWaiters bay s else []) = [] := by
    rcases h with h | h | h
    · simp [h]
    · simp [h]
    · simp [gateWaiters, h]
  simp only [handle, pollOnBay, freed, List.map_nil, List.nil_append]
  exact ⟨_, rfl⟩

theorem handle_admissionBegin (bay : Bay) (s : State) :
    ∃ polls, handle (.admissionBegin bay) s = ({ s with polls := polls }, []) := ⟨_, rfl⟩

/-! ## The Power Path Controller (R68, R72, R83) -/

theorem knowing_aside (s : State) (bay : Bay) : Aside s (s.knowing bay) := by
  obtain ⟨sources, release, e⟩ := knowing_eq s bay
  rw [e]
  constructor <;> rfl

/-- In a state without an admitted pack a switch that is not ON is OFF (R95). -/
theorem knowing_off {s : State} {bay : Bay} (h : offState (s.bay bay).state = true)
    (hn : (s.source (baySrc bay)).sw ≠ .on) : ((s.knowing bay).source (baySrc bay)).sw = .off := by
  have emptied : ((s.emptySource bay).source (baySrc bay)).sw = (s.source (baySrc bay)).sw := by
    unfold State.emptySource
    split
    · simp [State.setHeldOff, State.dropRelease, State.source]
    · rfl
  have kept : (s.emptySource bay).bay bay = s.bay bay := by simp [State.bay]
  have entered : (s.emptySource bay).entrySwitch bay = some .off := by simp [State.entrySwitch, kept, h]
  rw [State.knowing, State.refresh_source, State.refreshed, enterSwitch_eq, entered]
  simp [setIdleSwitch_source, emptied, hn]

/-- The held-off mark of an EMPTY bay is clear (R87). -/
theorem knowing_heldOff {s : State} {bay : Bay} (h : (s.bay bay).state = .empty) :
    ((s.knowing bay).source (baySrc bay)).heldOff = false := by
  have emptied : ((s.emptySource bay).source (baySrc bay)).heldOff = false := by
    simp [State.emptySource, h, State.setHeldOff]
  rw [State.knowing, State.refresh_source, State.refreshed, enterSwitch_eq]
  split
  · rw [setIdleSwitch_source]
    split <;> exact emptied
  · exact emptied

/-- What a change that loses no source starts: a reselection trigger, and what waited for the end of a SUSPECT bay. -/
def changeNews (trigger : Bool) (old : BayState) : List Task :=
  tasksIf trigger [.trigger] ++ tasksIf (old == .suspect) [.settled]

theorem mem_changeNews {trigger : Bool} {old : BayState} {t : Task} (h : t ∈ changeNews trigger old) :
    t = .trigger ∨ t = .settled := by
  simp only [changeNews, tasksIf, List.mem_append] at h
  rcases h with h | h <;> split at h <;> simp_all

section
variable {s : State} {bay : Bay} (h : (s.source (baySrc bay)).sw = .on → (s.bay bay).carries = true)
include h

/-- A change that loses no source: the sources follow it, and what it starts waits (R72, R77). -/
theorem handle_powerBay_kept {old new : BayState} (hn : new ≠ .releasing) :
    ∃ trigger, handle (.powerBay bay old new) s = (s.knowing bay, changeNews trigger old) := by
  have kept : ¬((s.source (baySrc bay)).sw = .on ∧ (!(s.bay bay).carries) = true) := fun ⟨hon, hc⟩ => by simp_all
  exact ⟨_, (if_neg kept).trans (if_neg hn)⟩

/-- An entry to RELEASING asks for the release (R76, R83). -/
theorem handle_powerBay_releasing {origin : Origin} (ho : (s.bay bay).origin = some origin) (old : BayState) :
    handle (.powerBay bay old .releasing) s = (s.knowing bay, [.releaseRequest bay origin]) := by
  have kept : ¬((s.source (baySrc bay)).sw = .on ∧ (!(s.bay bay).carries) = true) := fun ⟨hon, hc⟩ => by simp_all
  refine (if_neg kept).trans ((if_pos rfl).trans ?_)
  rw [ho]
  rfl

end

end Sys2Proof.Machine
end

section
/-!
SUPPORT. The run of a bay's state change while a confirm is awaited and a driver write executes (R77, R83, R84, R144).
-/

namespace Sys2Proof.Machine

/-! ## What the classifier and the Brightness Controller work off (R117, R119, R144) -/

/-- The tasks that work on the records of their own blocks alone, and post. -/
def reckons : Task → Bool
  | .energy => true
  | .classify => true
  | .ceiling => true
  | .brightStep => true
  | .post _ => true
  | _ => false

/-- While a driver write executes they leave all else as it is, the Power Path Controller's record among it. -/
theorem handle_reckons {t : Task} {s : State} {code : Nat} (ht : reckons t = true) (hw : s.brc.write = .executing code) :
    Aside s (handle t s).1 ∧ (handle t s).1.ppc = s.ppc ∧ ∀ u ∈ (handle t s).2, reckons u = true := by
  have classified : ∀ s', Aside s s' → s'.ppc = s.ppc → Aside s (evaluateClass s').1 ∧
      (evaluateClass s').1.ppc = s.ppc ∧ ∀ u ∈ (evaluateClass s').2, reckons u = true := fun s' h hp => by
    refine ⟨h.trans (evaluateClass_waited s').aside, by simp [hp], ?_⟩
    unfold evaluateClass
    dsimp only
    split <;> simp [reckons]
  cases t <;> simp only [reckons, Bool.false_eq_true] at ht
  case post p => exact ⟨(notify_waited s p).aside, rfl, by simp [handle, alone]⟩
  case energy => exact classified _ (by constructor <;> rfl) rfl
  case classify => exact classified _ (.refl s) rfl
  case ceiling =>
    simp only [handle, recomputeCeiling]
    (repeat' split)
    · exact ⟨.refl s, rfl, by simp⟩
    · exact ⟨.refl s, rfl, by simp⟩
    · exact ⟨by constructor <;> rfl, rfl, by simp [reckons]⟩
  case brightStep =>
    obtain ⟨kept, none⟩ := brightnessStep_waited hw
    exact ⟨kept.aside, by simp [handle], by simp [handle, none]⟩

theorem run_reckons (fuel : Nat) {ts : List Task} {s : State} {code : Nat} (ht : ∀ t ∈ ts, reckons t = true)
    (hw : s.brc.write = .executing code) : Aside s (run fuel ts s) ∧ (run fuel ts s).ppc = s.ppc :=
  run_keeps_class (fun u => Aside s u ∧ u.ppc = s.ppc) (fun t => reckons t = true)
    (fun _ _ k => ⟨k.1.trans (by constructor <;> rfl), k.2⟩)
    (fun _ _ ht k => have step := handle_reckons ht (k.1.write.trans hw); ⟨k.1.trans step.1, step.2.1.trans k.2⟩)
    (fun _ _ ht k => (handle_reckons ht (k.1.write.trans hw)).2.2) fuel ts s ht ⟨.refl s, rfl⟩

/-! ## The run of the change -/

/-- Once the Poll Engine has taken the change, the rest goes on with its records alone changed (R53, R54). -/
theorem run_pollBay {s : State} {old new : BayState} (h : s.gateQuiet old new) (bay : Bay) (rest : List Task)
    (fuel : Nat) : ∃ polls m, fuel ≤ m ∧
      run (fuel + 2) (.pollBay bay old new :: rest) s = run m rest { s with polls := polls } := by
  obtain ⟨polls, polled⟩ := handle_pollBay_quiet h bay
  rw [run_cons, polled]
  unfold tasksIf
  split
  · obtain ⟨polls', begun⟩ := handle_admissionBegin bay { s with polls := polls }
    refine ⟨polls', fuel, le_rfl, ?_⟩
    rw [List.singleton_append, run_cons, begun]
    rfl
  · exact ⟨polls, fuel + 1, Nat.le_succ _, rfl⟩

/-- What a bay's change has brought about once it has been told: its switch is OFF where its state has it so (R68). -/
structure NewsTaken (bay : Bay) (s t : State) : Prop where
  aside : Aside s t
  off : offState (s.bay bay).state = true → (t.source (baySrc bay)).sw = .off

section
variable {s : State} {bay : Bay} {old : BayState} (awaits : Waiting s)
  (safe : (s.source (baySrc bay)).sw = .on → (s.bay bay).carries = true)
include awaits safe

theorem run_powerBay {new : BayState} (hn : new ≠ .releasing) {tail : List Task} (ht : ∀ t ∈ tail, waits t = true)
    (fuel : Nat) : NewsTaken bay s (run (fuel + 1) (.powerBay bay old new :: tail) s) := by
  obtain ⟨trigger, known⟩ := handle_powerBay_kept (old := old) safe hn
  have aside := knowing_aside s bay
  rw [run_cons, known]
  have after := run_waited fuel (changeNews trigger old ++ tail) _ (fun t h => ?_) (aside.waiting awaits)
  · refine ⟨aside.trans after.aside, fun h => ?_⟩
    have idle : (s.source (baySrc bay)).sw ≠ .on := fun hon => by
      have carries := safe hon
      unfold BayRec.carries at carries
      cases e : (s.bay bay).state <;> simp_all [offState]
    rw [State.source, after.sources]
    exact knowing_off h idle
  · rcases List.mem_append.1 h with h | h
    · rcases mem_changeNews h with rfl | rfl <;> rfl
    · exact ht t h

/-- The Poll Engine and the Power Path Controller are told of a bay's change, and what follows waits. -/
theorem run_news {new : BayState} (quiet : s.gateQuiet old new) (hn : new ≠ .releasing) {tail : List Task}
    (ht : ∀ t ∈ tail, waits t = true) (fuel : Nat) :
    NewsTaken bay s (run (fuel + 3) (.pollBay bay old new :: .powerBay bay old new :: tail) s) := by
  obtain ⟨polls, m, hm, e⟩ := run_pollBay quiet bay (.powerBay bay old new :: tail) (fuel + 1)
  obtain ⟨m, rfl⟩ : ∃ k, m = k + 1 := ⟨m - 1, by omega⟩
  have told := run_powerBay (s := { s with polls := polls }) (old := old) awaits safe hn ht m
  rw [e]
  exact ⟨.trans (by constructor <;> rfl) told.aside, told.off⟩

/-- An entry to RELEASING waits with its origin for the attempt's end (R83). -/
theorem run_powerBay_releasing {tail : List Task} (ht : ∀ t ∈ tail, reckons t = true) {origin : Origin}
    (hs : (s.bay bay).state = .releasing) (ho : (s.bay bay).origin = some origin) (fuel : Nat) :
    let t := run (fuel + 2) (.powerBay bay old .releasing :: tail) s
    Aside s t ∧ t.ppc.waitRelease.get bay = some origin := by
  have aside := knowing_aside s bay
  obtain ⟨awaited, code, executes⟩ := aside.waiting awaits
  have asked := handle_release_waits (s := s.knowing bay) (origin := origin) (by rw [aside.bay, hs])
    (.inl (by simp [Ppc.engaged, awaited]))
  rw [run_cons, handle_powerBay_releasing safe ho, List.singleton_append, run_cons, asked]
  obtain ⟨after, ppc⟩ := run_reckons fuel (s := { s.knowing bay with ppc :=
    { (s.knowing bay).ppc with waitRelease := (s.knowing bay).ppc.waitRelease.set bay (some origin) } }) ht executes
  refine ⟨aside.trans (.trans (by constructor <;> rfl) after), ?_⟩
  rw [List.nil_append, ppc]
  cases bay <;> rfl

theorem run_release {tail : List Task} (ht : ∀ t ∈ tail, reckons t = true) {origin : Origin}
    (hs : (s.bay bay).state = .releasing) (ho : (s.bay bay).origin = some origin) (fuel : Nat) :
    let t := run (fuel + 4) (.pollBay bay old .releasing :: .powerBay bay old .releasing :: tail) s
    Aside s t ∧ t.ppc.waitRelease.get bay = some origin := by
  obtain ⟨polls, m, hm, e⟩ := run_pollBay (s := s) (old := old) (new := .releasing) (.inr (.inl rfl)) bay
    (.powerBay bay old .releasing :: tail) (fuel + 2)
  obtain ⟨m, rfl⟩ : ∃ k, m = k + 2 := ⟨m - 2, by omega⟩
  obtain ⟨aside, asked⟩ := run_powerBay_releasing (s := { s with polls := polls }) (old := old) awaits safe ht hs ho m
  rw [e]
  exact ⟨.trans (by constructor <;> rfl) aside, asked⟩

end

/-! ## The switch of a bay between two handlings (R95) -/

section
variable {s : State} (hs : s.switchesSafe) (ha : s.agenda = []) {bay : Bay}
include hs ha

theorem switchesSafe_carries (h : (s.source (baySrc bay)).sw = .on) : (s.bay bay).carries = true :=
  ((hs bay).1 h).resolve_right fun ⟨_, _, due⟩ => by simp [ha] at due

theorem switchesSafe_off (h : offState (s.bay bay).state = true) : (s.source (baySrc bay)).sw = .off :=
  ((hs bay).2 h).resolve_right fun ⟨_, _, due⟩ => by simp [ha] at due

end

/-- A bay that has entered a state: its record, and what the change leaves as it is. -/
structure BayEntered (bay : Bay) (r : BayRec) (s t : State) : Prop where
  other : t.bay (otherBay bay) = s.bay (otherBay bay)
  record : t.bay bay = r
  attempt : t.ppc.attempt = s.ppc.attempt
  onSrc : t.ppc.onSrc = s.ppc.onSrc
  mtu : t.mtu = s.mtu
  slots : t.slots = s.slots
  sru : t.sru = s.sru
  uli : t.uli = s.uli

theorem Aside.entered {s t : State} {bay : Bay} {r : BayRec} (h : Aside (s.setBay bay r) t) : BayEntered bay r s t where
  other := (h.bay _).trans (State.setBay_bay_ne s r (otherBay_ne bay))
  record := (h.bay _).trans (State.setBay_bay_self s bay r)
  attempt := h.attempt
  onSrc := h.onSrc
  mtu := h.mtu
  slots := h.slots
  sru := h.sru
  uli := h.uli

/-- The record of a bay that enters RELEASING (R107). -/
def BayRec.releasing (r : BayRec) (origin : Origin) (now : Time) : BayRec :=
  { r with state := .releasing, entry := now, origin := some origin, wasActive := false }

/-- The record of a bay that begins an admission (R98). -/
def State.identified (s : State) (bay : Bay) : BayRec :=
  { s.bay bay with
    state := .identifying, entry := s.now, seat := none, origin := none, faultReason := none, faultPending := false
    identify := some { start := s.now, dur := s.supply.identify }
    admission := admissionList s.sru.committed.polls bay }

theorem toIdentifying_eq (bay : Bay) (s : State) : toIdentifying bay s =
    (s.setBay bay (s.identified bay), bayNews bay (s.bay bay).state .identifying []) := rfl

end Sys2Proof.Machine
end

section
/-!
CLAIM. O49, the seat timer and the identify timer.
-/

namespace Sys2Proof.Machine

/-! ## The timers (R97, R101) -/

theorem onSeatExpiry_early {s : State} {bay : Bay} {x : Timer} (hx : (s.bay bay).seat = some x)
    (early : age s.now x.start < x.dur) : onSeatExpiry bay s = (s, []) :=
  if_neg fun h => by simp [hx, timerDue, Timer.due, Nat.not_le.2 early] at h

theorem onSeatExpiry_due {s : State} {bay : Bay} {x : Timer} (hs : (s.bay bay).state = .seated)
    (hx : (s.bay bay).seat = some x) (due : x.dur ≤ age s.now x.start) : onSeatExpiry bay s =
      if (s.bay bay).latchClosed then toIdentifying bay s
      else (s.setBay bay { s.bay bay with seat := some (timerNow s s.supply.seat) }, []) :=
  if_pos ⟨hs, by simpa [hx, timerDue, Timer.due] using due⟩

theorem onIdentifyExpiry_early {s : State} {bay : Bay} {x : Timer} (hx : (s.bay bay).identify = some x)
    (early : age s.now x.start < x.dur) : onIdentifyExpiry bay s = (s, []) :=
  if_neg fun h => by simp [hx, timerDue, Timer.due, Nat.not_le.2 early] at h

theorem onIdentifyExpiry_due {s : State} {bay : Bay} {x : Timer} (hs : (s.bay bay).state = .identifying)
    (hx : (s.bay bay).identify = some x) (due : x.dur ≤ age s.now x.start) :
    onIdentifyExpiry bay s = failAdmission bay .limit 0 s :=
  if_pos ⟨hs, by simpa [hx, timerDue, Timer.due] using due⟩

/-! ## A pack that has been seated long enough (R97, R98) -/

/-- The segment of a bay as its isolation switch closes (R40). -/
def Port.connected (p : Port) (now : Time) : Port :=
  { p with state := .recovering, isoClosed := true, recovery := some { start := now, dur := 1 } }

/-- The state in which the seat timer's pack begins its admission, its segment connected (R40, R97). -/
def State.connecting (s : State) (bay : Bay) : State :=
  (s.setPort (baySeg bay) ((s.port (baySeg bay)).connected s.now)).setBay bay (s.identified bay)

/-- The closing switch gives the SETUP entries of the segment a pending run, and none waits for a gate (R52). -/
theorem handle_setupSegment (s : State) (seg : Seg) (h : ∀ place, (s.poll place).gateWait = false) :
    ∃ polls, handle (.setupSegment seg) s = ({ s with polls := polls }, []) ∧
      ∀ place, (({ s with polls := polls } : State).poll place).gateWait = false := by
  refine ⟨_, rfl, fun place => ?_⟩
  show ((setupEvent seg s).1.poll place).gateWait = false
  simp only [setupEvent, State.mapPolls_poll]
  (repeat' split) <;> simp [PollStatus.pendSetup, h]

/-- The handling of a pack that has been seated long enough over a closed latch: its segment is connected, and the
change is told. -/
theorem exec_seatTimer_closed {s : State} {bay : Bay} {x : Timer} (engaged : s.engaged) (safe : s.switchesSafe)
    (gates : ∀ place, (s.poll place).gateWait = false) (hs : (s.bay bay).state = .seated)
    (hx : (s.bay bay).seat = some x) (due : x.dur ≤ age s.now x.start) (latch : (s.bay bay).latchClosed = true) :
    ∃ t, exec (.seatTimerExpiry bay) s = .next t ∧ Aside (s.connecting bay) t := by
  have off := switchesSafe_off safe engaged.1 (bay := bay) (by simp [hs, offState])
  have news : toIdentifying bay s = (s.setBay bay (s.identified bay),
      [.connect (baySeg bay), .pollBay bay .seated .identifying, .powerBay bay .seated .identifying]) := by
    rw [toIdentifying_eq, hs]
    rfl
  obtain ⟨polls, pended, still⟩ := handle_setupSegment (s.connecting bay) (baySeg bay) gates
  have taken := run_news (s := { s.connecting bay with polls := polls }) (bay := bay) (old := .seated)
    (new := .identifying) engaged.waiting (fun hon => by cases hon.symm.trans off) (.inr (.inr still)) (by simp)
    (tail := []) (by simp) 4091
  refine ⟨_, ?_, .trans (by constructor <;> rfl) taken.aside⟩
  rw [exec_quiet (.seatTimerExpiry bay) nofun engaged.1, commandAct, onSeatExpiry_due hs hx due, if_pos latch, news,
    run_step]
  show Host.Outcome.next (run (4094 + 1) (.setupSegment (baySeg bay) :: _) (s.connecting bay)) = _
  rw [run_cons, pended]
  rfl

/-- Settles O49: what is told of the change runs on while the Power Path Controller's part waits (`run_news`). -/
theorem bayTimersExpire : Obligations.BayTimersExpire := by
  intro s bay x quiet
  refine ⟨fun seated hx => ⟨fun early => ?_, fun due latch => ?_, fun due latch engaged safe gates => ?_⟩,
    fun identifying hx => ⟨fun early => ?_, fun due engaged safe => ?_⟩⟩
  · rw [exec_quiet (.seatTimerExpiry bay) nofun quiet, commandAct, onSeatExpiry_early hx early, run_nil]
  · rw [exec_quiet (.seatTimerExpiry bay) nofun quiet, commandAct, onSeatExpiry_due seated hx due, latch]
    rfl
  · obtain ⟨t, ran, aside⟩ := exec_seatTimer_closed engaged safe gates seated hx due latch
    have entered := aside.entered
    exact ⟨t, ran, entered.other, entered.record, aside.ports, entered.attempt, entered.mtu, entered.slots,
      entered.sru, entered.uli⟩
  · rw [exec_quiet (.identifyTimerExpiry bay) nofun quiet, commandAct, onIdentifyExpiry_early hx early, run_nil]
  · have off := switchesSafe_off safe quiet (bay := bay) (by simp [identifying, offState])
    have taken := run_news (s := (failAdmission bay .limit 0 s).1) (bay := bay) (old := .identifying) (new := .faulted)
      engaged.waiting (fun hon => by cases hon.symm.trans off) (.inl rfl) (by simp)
      (tail := [bayNotice bay .bayFault .warn (faultReasonCode .limit) 0]) (by simp [waits, bayNotice]) 4093
    have entered := taken.aside.entered
    refine ⟨_, ?_, entered.other, entered.record, taken.off (by simp [failAdmission, toFaulted, bayGoto, offState]),
      entered.attempt, entered.mtu, taken.aside.ports, entered.slots, entered.sru, entered.uli⟩
    rw [exec_quiet (.identifyTimerExpiry bay) nofun quiet, commandAct, onIdentifyExpiry_due identifying hx due,
      failAdmission, toFaulted, bayGoto, identifying]
    rfl

end Sys2Proof.Machine
end

section
/-!
CLAIM. O35, REQUEST_SWAP and RETRY_BAY.
-/

namespace Sys2Proof.Machine

/-- A request that passes the checks of R174, with what its act starts. -/
theorem exec_request_act {s : State} (h : s.servesRequests) {c : Instr} {q : Request} {tag : Byte} {p : List Byte}
    (hc : c = q.command tag p false) (ht : q.takes p.length = true)
    (hb : q.background = false ∨ s.sru.background = .none) (ha : q ≠ .settingsRead) :
    exec c s = .next (run 4095 (q.act p s.heard).tasks (respond q.code tag (q.act p s.heard)).1) := by
  obtain ⟨quiet, idle, free⟩ := h
  subst hc
  have written : commandAct (q.command tag p false) s = (s.heard, [.request q.code tag p]) := by
    have heard : serviceWrite q.code tag p s = (s.heard, [.request q.code tag p]) := by
      simp only [serviceWrite, State.heard, idle]
      rfl
    cases q
    case settingsRead => exact absurd rfl ha
    all_goals exact heard
  have answer : answerOf q p s.heard = q.act p s.heard := by
    rcases hb with hb | hb <;>
      simp [answerOf, ht, hb, show s.heard.sru.resetPending = false from free,
        show s.heard.sru.background = s.sru.background from rfl]
  rw [exec_quiet _ (by cases q <;> nofun) quiet, written, run_step]
  simp only [handle, decodeRequest, requestOf_code, answer, respond, List.append_nil]

/-! ## The bay a request names (R113, R114) -/

/-- The bay byte of a request. -/
def bayByte : Bay → Byte
  | .a => 0
  | .b => 1

theorem bayOfByte_bayByte (bay : Bay) : bayOfByte (bayByte bay) = some bay := by cases bay <;> rfl

theorem bayOfByte_beyond {b : Byte} (h : 1 < b.toNat) : bayOfByte b = none := by
  have zero : b ≠ 0 := by rintro rfl; simp at h
  have one : b ≠ 1 := by rintro rfl; simp at h
  exact (if_neg zero).trans (if_neg one)

section
variable {s : State} (serves : s.servesRequests) (tag : Byte)
include serves

theorem exec_requestSwap_refused {b : Byte} (free : s.sru.background = .none) (h : s.swapBay b = none) :
    exec (.requestSwap tag [b]) s = .next (s.answered 0x25 tag .notApplicable []) := by
  have act : Request.act .requestSwap [b] s.heard = refusal .notApplicable s.heard := by
    simp only [Request.act, requestSwapOf, show s.heard.swapBay (byteAt [b] 0) = none from h]
  refine (exec_request_act serves (q := .requestSwap) (tag := tag) (p := [b]) rfl rfl (.inr free) nofun).trans ?_
  rw [act]
  rfl

theorem exec_retryBay_refused {b : Byte} (h : s.retryOf b = none) :
    exec (.retryBay tag [b]) s = .next (s.answered 0x26 tag .notApplicable []) := by
  have act : Request.act .retryBay [b] s.heard = refusal .notApplicable s.heard := by
    simp only [Request.act, requestRetry, show s.heard.retryOf (byteAt [b] 0) = none from h]
  refine (exec_request_act serves (q := .retryBay) (tag := tag) (p := [b]) rfl rfl (.inl rfl) nofun).trans ?_
  rw [act]
  rfl

end

theorem swapBay_eq_none {s : State} {b : Byte} (h : ∀ bay, bayOfByte b = some bay →
    (s.bay bay).state ≠ .ready ∧ (s.bay bay).state ≠ .active) : s.swapBay b = none :=
  Option.eq_none_iff_forall_ne_some.2 fun bay e => by
    obtain ⟨named, admitted⟩ := State.swapBay_eq_some.1 e
    exact admitted.elim (h bay named).1 (h bay named).2

theorem retryOf_eq_none {s : State} {b : Byte} (h : ∀ bay, bayOfByte b = some bay →
    (s.bay bay).state ≠ .faulted ∨ (s.bay bay).latchClosed = false) : s.retryOf b = none :=
  Option.eq_none_iff_forall_ne_some.2 fun bay e => by
    obtain ⟨named, faulted, closed⟩ := State.retryOf_eq_some.1 e
    exact (h bay named).elim (· faulted) fun o => by simp [closed] at o

/-- The answer to an accepted swap, which is then under way (R113). -/
def State.swapAnswered (s : State) (bay : Bay) (tag : Byte) : State :=
  { s.answered 0x25 tag .accepted [] with
    sru := { (s.answered 0x25 tag .accepted []).sru with background := .swap bay } }

section
variable {s : State} (serves : s.servesRequests) (engaged : s.engaged) {bay : Bay} (tag : Byte)
include serves engaged

/-- An accepted swap begins the bay's release, which waits for the attempt's end (R83, R113). -/
theorem exec_requestSwap_accepted (free : s.sru.background = .none)
    (h : (s.bay bay).state = .ready ∨ (s.bay bay).state = .active) :
    ∃ t, exec (.requestSwap tag [bayByte bay]) s = .next t ∧
      Aside ((s.swapAnswered bay tag).setBay bay ((s.bay bay).releasing .request s.now)) t ∧
      t.ppc.waitRelease.get bay = some .request := by
  have named : s.heard.swapBay (byteAt [bayByte bay] 0) = some bay :=
    State.swapBay_eq_some.2 ⟨bayOfByte_bayByte bay, h⟩
  have acts : exec (.requestSwap tag [bayByte bay]) s =
      .next (run 4095 (bayNews bay (s.bay bay).state .releasing [])
        ((s.swapAnswered bay tag).setBay bay ((s.bay bay).releasing .request s.now))) := by
    refine (exec_request_act serves (q := .requestSwap) (tag := tag) (p := [bayByte bay]) rfl rfl (.inr free)
      nofun).trans ?_
    simp only [Request.act, requestSwapOf, named]
    rfl
  have news : bayNews bay (s.bay bay).state .releasing [] =
      [.pollBay bay (s.bay bay).state .releasing, .powerBay bay (s.bay bay).state .releasing, .energy] := by
    rcases h with h | h <;> rw [h] <;> rfl
  obtain ⟨aside, waits⟩ := run_release
    (s := (s.swapAnswered bay tag).setBay bay ((s.bay bay).releasing .request s.now)) (bay := bay)
    (old := (s.bay bay).state) engaged.waiting (fun _ => by simp [BayRec.releasing, BayRec.carries]) (tail := [.energy])
    (by simp [reckons]) (origin := .request) (by simp [BayRec.releasing]) (by simp [BayRec.releasing]) 4091
  exact ⟨_, by rw [acts, news], aside, waits⟩

/-- An accepted retry begins an admission (R98, R114). -/
theorem exec_retryBay_accepted (safe : s.switchesSafe) (faulted : (s.bay bay).state = .faulted)
    (closed : (s.bay bay).latchClosed = true) :
    ∃ t, exec (.retryBay tag [bayByte bay]) s = .next t ∧
      NewsTaken bay ((s.answered 0x26 tag .ok []).setBay bay (s.identified bay)) t := by
  have named : s.heard.retryOf (byteAt [bayByte bay] 0) = some bay :=
    State.retryOf_eq_some.2 ⟨bayOfByte_bayByte bay, faulted, closed⟩
  have off := switchesSafe_off safe engaged.1 (bay := bay) (by simp [faulted, offState])
  have acts : exec (.retryBay tag [bayByte bay]) s = .next (run 4095 (bayNews bay (s.bay bay).state .identifying [])
      ((s.answered 0x26 tag .ok []).setBay bay (s.identified bay))) := by
    refine (exec_request_act serves (q := .retryBay) (tag := tag) (p := [bayByte bay]) rfl rfl (.inl rfl)
      nofun).trans ?_
    simp only [Request.act, requestRetry, named]
    rfl
  have taken := run_news (s := (s.answered 0x26 tag .ok []).setBay bay (s.identified bay)) (bay := bay) (old := .faulted)
    (new := .identifying) engaged.waiting (fun hon => by cases hon.symm.trans off) (.inl rfl) (by simp)
    (tail := []) (by simp) 4092
  exact ⟨_, by rw [acts, faulted]; rfl, taken⟩

end

/-- Settles O35: an accepted request's change of the bay runs on while the Power Path Controller's part waits
(`run_release`, `run_news`). -/
theorem swapAndRetryAct : Obligations.SwapAndRetryAct := by
  intro s tag serves
  refine ⟨fun b beyond => ?_, fun bay => ?_⟩
  · have none := bayOfByte_beyond beyond
    exact ⟨fun free => exec_requestSwap_refused serves tag free (swapBay_eq_none (by simp [none])),
      exec_retryBay_refused serves tag (retryOf_eq_none (by simp [none]))⟩
  · intro b
    have byte : b = bayByte bay := by cases bay <;> rfl
    have only : ∀ i, bayOfByte b = some i → i = bay := fun i h => by
      rw [byte, bayOfByte_bayByte] at h
      exact (Option.some.inj h).symm
    refine ⟨fun free ready active => exec_requestSwap_refused serves tag free (swapBay_eq_none fun i h => ?_),
      fun no => exec_retryBay_refused serves tag (retryOf_eq_none fun i h => ?_),
      fun engaged safe => ⟨fun free h => ?_, fun faulted closed => ?_⟩⟩
    · rw [only i h]; exact ⟨ready, active⟩
    · rw [only i h]; exact no
    · obtain ⟨t, ran, aside, waits⟩ := exec_requestSwap_accepted serves engaged tag free h
      have entered := aside.entered
      exact ⟨t, byte ▸ ran, entered.record, entered.other, by rw [entered.sru]; rfl, by rw [entered.sru]; rfl, waits,
        entered.attempt, entered.mtu, aside.ports⟩
    · obtain ⟨t, ran, taken⟩ := exec_retryBay_accepted serves engaged tag safe faulted closed
      have entered := taken.aside.entered
      exact ⟨t, byte ▸ ran, entered.record, entered.other, entered.sru,
        taken.off (by simp [State.identified, offState]), entered.attempt, entered.mtu, taken.aside.ports⟩

end Sys2Proof.Machine
end

section
/-!
SUPPORT. A latch change as it is taken, case by case (R93, R105 to R109).
-/

namespace Sys2Proof.Machine

/-- The record as the latch's level has been taken (R93). -/
def BayRec.latched (r : BayRec) : BayRec :=
  { r with
    latchFilter := { line := r.latchFilter.line, out := r.latchFilter.line, since := none }
    latchClosed := r.latchFilter.line }

section
variable {s : State} {bay : Bay} {since : Time} (hx : (s.bay bay).latchFilter.since = some since)

theorem onLatch_still (h : (s.bay bay).latchFilter.since = none) : onLatch bay s = (s, []) := by
  simp [onLatch, LineFilter.due, h]

include hx

theorem onLatch_early (early : age s.now since < s.supply.debounce) : onLatch bay s = (s, []) := by
  simp [onLatch, LineFilter.due, hx, early]

variable (due : s.supply.debounce ≤ age s.now since)
include due

theorem onLatch_starting (h : s.uli.phase = .starting) : onLatch bay s =
    (s.setBay bay { s.bay bay with latchFilter := (s.bay bay).latchFilter.taken }, []) := by
  simp [onLatch, LineFilter.due, hx, due, State.opened, h]

/-- A level held for the debounce time is recorded, and acts by the bay's state. -/
theorem onLatch_taken (h : s.uli.phase ≠ .starting) : onLatch bay s =
    if (s.bay bay).latchFilter.line then latchCloses bay (s.setBay bay (s.bay bay).latched)
    else latchOpens bay (s.setBay bay (s.bay bay).latched) := by
  have opened : s.opened = true := by simpa [State.opened] using h
  have held : (s.bay bay).latchFilter.due s.now s.supply.debounce = true := by simp [LineFilter.due, hx, due]
  simp only [onLatch, held, opened, Bool.not_true]
  rfl

end

/-- A bay that enters a state after a change of its record. -/
theorem bayGoto_setBay (s : State) (bay : Bay) (q r : BayRec) (new : BayState) (notices : List Task) :
    bayGoto bay new r notices (s.setBay bay q) =
      (s.setBay bay { r with state := new, entry := s.now }, bayNews bay q.state new notices) := by
  simp [bayGoto, State.setBay_setBay]

/-! ## The states that record an opening or a closing alone -/

/-- An opening acts in IDENTIFYING, READY and ACTIVE alone (R105, R110). -/
theorem latchOpens_alone {s : State} {bay : Bay} (h : (s.bay bay).state ≠ .identifying ∧ (s.bay bay).state ≠ .ready ∧
    (s.bay bay).state ≠ .active) : latchOpens bay s = (s, []) := by
  cases e : (s.bay bay).state <;> simp_all [latchOpens]

/-- A closing acts in SUSPECT, in RELEASED with a pack and in RELEASE_BLOCKED alone (R106 to R109). -/
theorem latchCloses_alone {s : State} {bay : Bay} (h : (s.bay bay).state ≠ .suspect ∧
    (s.bay bay).state ≠ .releaseBlocked ∧ ((s.bay bay).state = .released → (s.bay bay).present = false)) :
    latchCloses bay s = (s, []) := by
  cases e : (s.bay bay).state <;> simp_all [latchCloses]

/-! ## The states in which it acts -/

section
variable {s : State} {bay : Bay}

theorem latchOpens_identifying (h : (s.bay bay).state = .identifying) : latchOpens bay s =
    toReleased bay { s.bay bay with identify := none, admission := [], origin := some .latch } s := by
  simp [latchOpens, h]

theorem latchOpens_admitted (h : (s.bay bay).state = .ready ∨ (s.bay bay).state = .active) :
    latchOpens bay s = latchOpensAdmitted bay s := by
  rcases h with h | h <;> simp [latchOpens, h]

/-- A bay that carried the load goes back to ACTIVE (R106). -/
theorem latchCloses_wasActive (h : (s.bay bay).state = .suspect) (hw : (s.bay bay).wasActive = true) :
    latchCloses bay s = bayGoto bay .active { s.bay bay with wasActive := false } [] s := by
  simp [latchCloses, h, hw]

theorem latchCloses_idle (h : (s.bay bay).state = .suspect) (hw : (s.bay bay).wasActive = false) :
    latchCloses bay s = toReady bay (s.bay bay) s := by
  simp [latchCloses, h, hw]

theorem latchCloses_released (h : (s.bay bay).state = .released) (hp : (s.bay bay).present = true) :
    latchCloses bay s = toIdentifying bay s := by
  simp [latchCloses, h, hp]

theorem latchCloses_blocked (h : (s.bay bay).state = .releaseBlocked) :
    latchCloses bay s = bayGoto bay .active { s.bay bay with origin := none } [] s := by
  simp [latchCloses, h]

end

end Sys2Proof.Machine
end

section
/-!
CLAIM. O47, line levels and debounced latch changes in every bay state.
-/

namespace Sys2Proof.Machine

/-- The record of an admitted bay whose latch has opened (R105). -/
def BayRec.suspected (r : BayRec) (now : Time) : BayRec :=
  { r with state := .suspect, entry := now, wasActive := r.state == .active }

section
variable {s : State} {bay : Bay} {since : Time} (engaged : s.engaged) (hx : (s.bay bay).latchFilter.since = some since)
  (due : s.supply.debounce ≤ age s.now since) (opened : s.uli.phase ≠ .starting)
  (low : (s.bay bay).latchFilter.line = false) (h : (s.bay bay).state = .ready ∨ (s.bay bay).state = .active)
include engaged hx due opened low h

theorem exec_latchOpens : exec (.latchChange bay) s =
    .next (run stepFuel (latchOpensAdmitted bay (s.setBay bay (s.bay bay).latched)).2
      (latchOpensAdmitted bay (s.setBay bay (s.bay bay).latched)).1) := by
  have acts : onLatch bay s = latchOpensAdmitted bay (s.setBay bay (s.bay bay).latched) := by
    rw [onLatch_taken hx due opened, low]
    simpa using latchOpens_admitted (by simpa [BayRec.latched] using h)
  rw [exec_quiet (.latchChange bay) nofun engaged.1, commandAct, acts]

/-- Under the shock-hold flag an admitted bay becomes SUSPECT (R105). -/
theorem exec_latchOpens_flagged (safe : s.switchesSafe) (flag : s.mtu.shockHold = true) :
    ∃ t, exec (.latchChange bay) s = .next t ∧
      Aside (s.setBay bay ((s.bay bay).latched.suspected s.now)) t := by
  have news : latchOpensAdmitted bay (s.setBay bay (s.bay bay).latched) =
      (s.setBay bay ((s.bay bay).latched.suspected s.now), [.pollBay bay (s.bay bay).state .suspect,
        .powerBay bay (s.bay bay).state .suspect, .energy]) := by
    rcases h with h | h <;> simp [latchOpensAdmitted, flag, bayGoto, State.setBay_setBay, BayRec.suspected,
      BayRec.latched, h, bayNews, tasksIf, counted, endsSwap]
  have taken := run_news (s := s.setBay bay ((s.bay bay).latched.suspected s.now)) (bay := bay)
    (old := (s.bay bay).state) (new := .suspect) engaged.waiting (fun hon => ?_)
    (.inl (by rcases h with h | h <;> rw [h] <;> rfl)) (by simp) (tail := [.energy]) (by simp [waits]) 4093
  · exact ⟨_, by rw [exec_latchOpens engaged hx due opened low h, news]; rfl, taken.aside⟩
  · have carries := switchesSafe_carries safe engaged.1 (bay := bay) hon
    rcases h with h | h <;> simp_all [BayRec.carries, BayRec.suspected, BayRec.latched]

/-- Without it the bay's release begins, and waits for the attempt's end (R83, R105, R107). -/
theorem exec_latchOpens_free (flag : s.mtu.shockHold = false) :
    ∃ t, exec (.latchChange bay) s = .next t ∧
      Aside (s.setBay bay ((s.bay bay).latched.releasing .latch s.now)) t ∧
      t.ppc.waitRelease.get bay = some .latch := by
  have news : latchOpensAdmitted bay (s.setBay bay (s.bay bay).latched) =
      (s.setBay bay ((s.bay bay).latched.releasing .latch s.now), [.pollBay bay (s.bay bay).state .releasing,
        .powerBay bay (s.bay bay).state .releasing, .energy]) := by
    rcases h with h | h <;> simp [latchOpensAdmitted, flag, toReleasing, bayGoto, State.setBay_setBay, BayRec.releasing,
      BayRec.latched, h, bayNews, tasksIf, counted, endsSwap]
  obtain ⟨aside, waits⟩ := run_release (s := s.setBay bay ((s.bay bay).latched.releasing .latch s.now)) (bay := bay)
    (old := (s.bay bay).state) engaged.waiting (fun _ => by simp [BayRec.releasing, BayRec.carries]) (tail := [.energy])
    (by simp [reckons]) (origin := .latch) (by simp [BayRec.releasing]) (by simp [BayRec.releasing]) 4092
  exact ⟨_, by rw [exec_latchOpens engaged hx due opened low h, news]; rfl, aside, waits⟩

end

/-- A latch level that is recorded alone. -/
theorem onLatch_alone {s : State} {bay : Bay} {since : Time} (hx : (s.bay bay).latchFilter.since = some since)
    (due : s.supply.debounce ≤ age s.now since) (opened : s.uli.phase ≠ .starting)
    (closes : (s.bay bay).latchFilter.line = true → (s.bay bay).state ≠ .suspect ∧
      (s.bay bay).state ≠ .releaseBlocked ∧ ((s.bay bay).state = .released → (s.bay bay).present = false))
    (opens : (s.bay bay).latchFilter.line = false → (s.bay bay).state ≠ .identifying ∧ (s.bay bay).state ≠ .ready ∧
      (s.bay bay).state ≠ .active) : onLatch bay s = (s.setBay bay (s.bay bay).latched, []) := by
  rw [onLatch_taken hx due opened]
  split
  next high => exact latchCloses_alone (by simpa [BayRec.latched] using closes high)
  next low => exact latchOpens_alone (by simpa [BayRec.latched] using opens (by simpa using low))

/-- Settles O47: an opening in an admitted bay runs on while the Power Path Controller's part waits (`run_news`,
`run_release`). -/
theorem latchIsTaken : Obligations.LatchIsTaken := by
  intro s bay quiet r level
  refine ⟨fun active => ⟨exec_start (.lineLevelChange bay .latch active) nofun quiet rfl,
    exec_start (.lineLevelChange bay .presence active) nofun quiet rfl⟩, fun still => ?_, fun since hx early => ?_,
    fun since hx due => ?_⟩
  · rw [exec_quiet (.latchChange bay) nofun quiet, commandAct, onLatch_still still, run_nil]
  · rw [exec_quiet (.latchChange bay) nofun quiet, commandAct, onLatch_early hx early, run_nil]
  intro f
  refine ⟨fun starting => ?_, fun opened => ⟨fun recorded => ?_, fun engaged safe low h => ?_, ?_⟩⟩
  · rw [exec_quiet (.latchChange bay) nofun quiet, commandAct, onLatch_starting hx due starting, run_nil]
    rfl
  · have acts : onLatch bay s = (s.setBay bay r.latched, []) := by
      refine onLatch_alone hx due opened (fun high => ?_) (fun low => ?_)
      · rcases recorded with h | h | h | h | ⟨low, -⟩ | ⟨-, h | h | h | ⟨h, absent⟩⟩ <;> simp_all [r]
      · rcases recorded with h | h | h | h | ⟨-, h | h | h⟩ | ⟨high, -⟩ <;> simp_all [r]
    rw [exec_quiet (.latchChange bay) nofun quiet, commandAct, acts, run_nil]
    rfl
  · cases flag : s.mtu.shockHold
    · obtain ⟨t, ran, aside, waits⟩ := exec_latchOpens_free engaged hx due opened low h flag
      have entered := aside.entered
      refine ⟨t, ran, entered.other, ?_, fun _ => waits, entered.onSrc, entered.attempt, entered.mtu, aside.ports,
        entered.slots, entered.sru, entered.uli⟩
      rw [entered.record, if_neg (by simp), BayRec.latched, low]
      simp [f, r, low, BayRec.releasing]
    · obtain ⟨t, ran, aside⟩ := exec_latchOpens_flagged engaged hx due opened low h safe flag
      have entered := aside.entered
      refine ⟨t, ran, entered.other, ?_, nofun, entered.onSrc, entered.attempt, entered.mtu, aside.ports,
        entered.slots, entered.sru, entered.uli⟩
      rw [entered.record, if_pos rfl, BayRec.latched, low]
      simp [f, r, low, BayRec.suspected]
  · intro taken told q
    have record : (s.setBay bay r.latched).bay bay = r.latched := State.setBay_bay_self ..
    refine ⟨fun low h => ?_, fun high => ?_⟩
    · have acts : handle (.latchTaken bay) s = latchOpens bay (s.setBay bay r.latched) :=
        (onLatch_taken hx due opened).trans (if_neg (Bool.eq_false_iff.1 low))
      rw [latchOpens_identifying (by rw [record]; exact h), record, toReleased, bayGoto_setBay] at acts
      simp only [taken, told, acts]
      exact ⟨rfl, mem_bayNews_notice (by simp [bayNotice, originArg]), h ▸ mem_bayNews ..⟩
    · have acts : handle (.latchTaken bay) s = latchCloses bay (s.setBay bay r.latched) :=
        (onLatch_taken hx due opened).trans (if_pos high)
      refine ⟨fun h was => ?_, fun h was fine => ?_, fun h was pends => ?_, fun h here => ?_, fun h => ?_⟩
      · rw [latchCloses_wasActive (by rw [record]; exact h) (by rw [record]; exact was), record,
          bayGoto_setBay] at acts
        simp only [taken, told, acts]
        exact ⟨rfl, h ▸ mem_bayNews ..⟩
      · rw [latchCloses_idle (by rw [record]; exact h) (by rw [record]; exact was), record, toReady,
          if_neg (by simp [BayRec.latched, fine]), bayGoto_setBay] at acts
        simp only [taken, told, acts]
        exact ⟨by rw [← was]; rfl, h ▸ mem_bayNews ..⟩
      · rw [latchCloses_idle (by rw [record]; exact h) (by rw [record]; exact was), record, toReady,
          if_pos (show r.latched.faultPending = true from pends), toFaulted, bayGoto_setBay] at acts
        simp only [taken, told, acts]
        exact ⟨by rw [← was]; rfl, h ▸ mem_bayNews ..⟩
      · rw [latchCloses_released (by rw [record]; exact h) (by rw [record]; exact here), toIdentifying, record,
          bayGoto_setBay] at acts
        simp only [taken, told, acts]
        refine ⟨rfl, ?_⟩
        simp [bayNews, BayRec.latched, h]
      · rw [latchCloses_blocked (by rw [record]; exact h), record, bayGoto_setBay] at acts
        simp only [taken, told, acts]
        exact ⟨rfl, h ▸ mem_bayNews ..⟩

end Sys2Proof.Machine
end

section
/-!
SUPPORT. The work behind the emptying of a bay while a driver write executes: it ends, it leaves the load, the slots and
the ports as they are, and it posts few notices, each of which finds room behind the others (R64, R83, R117, R144, R186).
-/

namespace Sys2Proof.Machine

/-! ## The tasks, how many follow each, and how many notices -/

/-- The tasks behind the emptying of the bay `gone`; triggers are among them only while an attempt is awaited, where they
wait (R77). -/
def follows (awaited : Bool) (gone : Bay) : Task → Bool
  | .energy => true
  | .classify => true
  | .ceiling => true
  | .brightStep => true
  | .post _ => true
  | .moved => true
  | .bridgeCheck => true
  | .settled => true
  | .swapEnd _ => true
  | .trigger => awaited
  | .alternates => awaited
  | .reselect => awaited
  | .slotLapsed slot => slotBay slot == some gone
  | .admissionCheck bay => bay == gone
  | _ => false

/-- How many tasks are worked off for one of them. -/
def work : Task → Nat
  | .slotLapsed _ => 5
  | .energy => 3
  | .classify => 3
  | .trigger => 3
  | .ceiling => 2
  | _ => 1

/-- How many notices one of them brings at most. -/
def news : Task → Nat
  | .slotLapsed slot => if isEnergySlot slot then 3 else 0
  | .energy => 3
  | .classify => 3
  | .ceiling => 2
  | .brightStep => 2
  | .post _ => 1
  | .bridgeCheck => 1
  | _ => 0

/-- Where there is room for `k` records more, at most so many join behind those of the queue (R186). -/
structure Grows (k : Nat) (q r : List Notice) : Prop where
  room : q.length + k ≤ 16 → q <+: r ∧ r.length ≤ q.length + k

theorem Grows.refl (q : List Notice) (k : Nat) : Grows k q q := ⟨fun _ => ⟨List.prefix_rfl, by omega⟩⟩

theorem Grows.trans {j k : Nat} {q r l : List Notice} (h : Grows j q r) (h' : Grows k r l) : Grows (j + k) q l where
  room room := by
    obtain ⟨p, hp⟩ := h.room (by omega)
    obtain ⟨p', hp'⟩ := h'.room (by omega)
    exact ⟨p.trans p', by omega⟩

theorem Grows.mono {j k : Nat} {q r : List Notice} (h : Grows j q r) (hk : j ≤ k) : Grows k q r where
  room room := by
    obtain ⟨p, hp⟩ := h.room (by omega)
    exact ⟨p, by omega⟩

theorem notify_grows (s : State) (p : Post) : Grows 1 s.ntq.queue (s.notify p).ntq.queue where
  room room := by
    rw [notify_room (by omega)]
    exact ⟨List.prefix_append .., by simp⟩

theorem evaluateClass_grows (s : State) : Grows 1 s.ntq.queue (evaluateClass s).1.ntq.queue := by
  unfold evaluateClass
  dsimp only
  split
  · exact .refl ..
  · exact notify_grows ..

theorem alsNotice_grows (b : Brc) (a : Option Nat) (s : State) :
    Grows 1 s.ntq.queue (alsNotice b a s).ntq.queue := by
  unfold alsNotice
  split
  · exact notify_grows ..
  · exact .refl ..

theorem limitNotice_grows (b : Brc) (p : Light) (s : State) :
    Grows 1 s.ntq.queue (limitNotice b p s).ntq.queue := by
  unfold limitNotice
  split
  · exact notify_grows ..
  · exact .refl ..

theorem addBridgeCause_grows (why : Int) (s : State) : Grows 1 s.ntq.queue (addBridgeCause why s).ntq.queue := by
  unfold addBridgeCause
  split
  · exact .refl ..
  · exact notify_grows ..

theorem checkBridge_grows (s : State) : Grows 1 s.ntq.queue (checkBridge s).ntq.queue := by
  unfold checkBridge
  split
  · exact addBridgeCause_grows ..
  · exact .refl ..

/-- While a driver write executes, the stages of a step post of the sensors and of the ceiling alone (R136, R140, R144). -/
theorem fullStep_grows {s : State} {code : Nat} (h : s.brc.write = .executing code) :
    Grows 2 s.ntq.queue (fullStep s).1.ntq.queue := by
  set b : Brc := { s.brc with awaitingLight := false }
  set s1 := alsNotice b s.ambientLux { s with brc := b.measured s.light s.ambientLux }
  set s2 := limitNotice b s.light { s1 with brc := s1.brc.leveled s.light }
  have written : (writeOut s2).1.ntq = s2.ntq := by
    have executes : s2.brc.write = .executing code := by
      rw [limitNotice_brc]
      show s1.brc.write = _
      rw [alsNotice_brc, ← h]
      cases s.ambientLux <;> rfl
    rw [writeOut_executing executes]
  show Grows 2 _ (writeOut s2).1.ntq.queue
  rw [written]
  exact (alsNotice_grows b s.ambientLux _).trans (limitNotice_grows b s.light { s1 with brc := s1.brc.leveled s.light })

theorem brightnessStep_grows {s : State} {code : Nat} (h : s.brc.write = .executing code) :
    Grows 2 s.ntq.queue (brightnessStep s).1.ntq.queue := by
  unfold brightnessStep
  dsimp only
  (repeat' split)
  · exact .refl ..
  · exact .refl ..
  · exact fullStep_grows (s := { s with brc := { s.brc with step := some (timerNow s s.light.period) } }) h

/-! ## What they leave as it is -/

/-- The blocks they have no part in, and the load. -/
structure Followed (s t : State) : Prop where
  now : t.now = s.now
  lines : t.lines = s.lines
  ports : t.ports = s.ports
  slots : t.slots = s.slots
  bays : t.bays = s.bays
  mtu : t.mtu = s.mtu
  smi : t.smi = s.smi
  write : t.brc.write = s.brc.write
  ppc : ∃ moving cause request pending check, t.ppc = { s.ppc with
    moving := moving, causeBridge := cause, shdnReq := request, pending := pending, waitCheck := check }

theorem Followed.refl (s : State) : Followed s s := ⟨rfl, rfl, rfl, rfl, rfl, rfl, rfl, rfl, _, _, _, _, _, rfl⟩

theorem Followed.trans {s t u : State} (h : Followed s t) (k : Followed t u) : Followed s u where
  now := k.now.trans h.now
  lines := k.lines.trans h.lines
  ports := k.ports.trans h.ports
  slots := k.slots.trans h.slots
  bays := k.bays.trans h.bays
  mtu := k.mtu.trans h.mtu
  smi := k.smi.trans h.smi
  write := k.write.trans h.write
  ppc := by
    obtain ⟨_, _, _, _, _, hp⟩ := h.ppc
    obtain ⟨_, _, _, _, _, kp⟩ := k.ppc
    exact ⟨_, _, _, _, _, by rw [kp, hp]⟩

/-- The attempt, the ON source with its record, and the sources. -/
theorem Followed.load {s t : State} (h : Followed s t) : t.ppc.attempt = s.ppc.attempt ∧ t.ppc.onSrc = s.ppc.onSrc ∧
    t.ppc.record = s.ppc.record ∧ t.ppc.sources = s.ppc.sources := by
  obtain ⟨_, _, _, _, _, hp⟩ := h.ppc
  rw [hp]
  exact ⟨rfl, rfl, rfl, rfl⟩

theorem Waited.followed {s t : State} (h : Waited s t) (hp : t.ppc = s.ppc) : Followed s t :=
  ⟨h.now, h.lines, h.ports, h.slots, h.bays, h.mtu, h.smi, h.write, _, _, _, _, _, hp⟩

/-- The state is one in which such work runs: a driver write executes, the bay is EMPTY, and an attempt is awaited or
nothing waits for the end of one. -/
structure Calm (awaited : Bool) (gone : Bay) (s : State) : Prop where
  write : ∃ code, s.brc.write = .executing code
  gone : (s.bay gone).state = .empty
  waits : if awaited then s.ppc.attempt.isSome = true else s.waitsNothing

theorem Calm.awaited {gone : Bay} {s t : State} (c : Calm true gone s) (h : Followed s t) : Calm true gone t where
  write := c.write.imp fun _ e => h.write.trans e
  gone := by rw [State.bay, h.bays]; exact c.gone
  waits := by simpa [h.load.1] using c.waits

theorem Calm.engaged {gone : Bay} {s : State} (c : Calm true gone s) : s.ppc.engaged = true := by
  simp [Ppc.engaged, show s.ppc.attempt.isSome = true from c.waits]

theorem Calm.followed {awaited : Bool} {gone : Bay} {s t : State} (c : Calm awaited gone s) (h : Followed s t)
    (hw : s.waitsNothing → t.waitsNothing) : Calm awaited gone t where
  write := c.write.imp fun _ e => h.write.trans e
  gone := by rw [State.bay, h.bays]; exact c.gone
  waits := by
    have waits := c.waits
    split at waits
    next e => simpa [e, h.load.1] using waits
    next e => simpa [e] using hw waits

/-! ## One of them -/

/-- What working off one of the tasks does. -/
structure Follows (awaited : Bool) (gone : Bay) (t : Task) (s : State) : Prop where
  followed : Followed s (handle t s).1
  calm : Calm awaited gone (handle t s).1
  closed : ∀ u ∈ (handle t s).2, follows awaited gone u = true
  ends : ((handle t s).2.map work).sum < work t
  queue : ∃ k, Grows k s.ntq.queue (handle t s).1.ntq.queue ∧ k + ((handle t s).2.map news).sum ≤ news t

section
variable {awaited : Bool} {gone : Bay} {s : State} (c : Calm awaited gone s)
include c

/-- A task that leaves the Power Path Controller's record as it is. -/
theorem Follows.of_waited {t : Task} (h : Waited s (handle t s).1) (hp : (handle t s).1.ppc = s.ppc)
    (closed : ∀ u ∈ (handle t s).2, follows awaited gone u = true) (ends : ((handle t s).2.map work).sum < work t)
    {k : Nat} (grows : Grows k s.ntq.queue (handle t s).1.ntq.queue)
    (hk : k + ((handle t s).2.map news).sum ≤ news t) : Follows awaited gone t s :=
  ⟨h.followed hp, c.followed (h.followed hp) fun w => by simpa [State.waitsNothing, hp, h.mtu] using w, closed, ends, k,
    grows, hk⟩

/-- A task that finds nothing to do. -/
theorem Follows.still {t : Task} (h : handle t s = (s, [])) : Follows awaited gone t s :=
  .of_waited c (by rw [h]; exact .refl s) (by rw [h]) (by simp [h]) (by rw [h]; cases t <;> simp [work]) (k := 0)
    (by rw [h]; exact .refl ..) (by simp [h])

omit c in
/-- A task that only marks what waits for the attempt's end. -/
theorem Follows.marked (c : Calm true gone s) {t : Task} {u : State} (h : handle t s = (u, [])) (kept : Followed s u)
    (hq : u.ntq = s.ntq) : Follows true gone t s :=
  ⟨by rw [h]; exact kept, by rw [h]; exact c.awaited kept, by simp [h], by rw [h]; cases t <;> simp [work], 0,
    by rw [h, hq]; exact .refl .., by simp [h]⟩

/-- The class is evaluated from a state that differs in the classifier's record at most (R119). -/
theorem Follows.classified {t : Task} {x : Classifier} (h : handle t s = evaluateClass { s with classifier := x })
    (hw : work t = 3) (hn : news t = 3) : Follows awaited gone t s := by
  have tasks : (evaluateClass { s with classifier := x }).2 = [] ∨
      (evaluateClass { s with classifier := x }).2 = [.ceiling] := by
    unfold evaluateClass
    dsimp only
    split <;> simp
  have grows : Grows 1 s.ntq.queue (handle t s).1.ntq.queue := by
    rw [h]
    exact evaluateClass_grows { s with classifier := x }
  have waited : Waited s (handle t s).1 := by
    rw [h]
    exact Waited.trans (t := { s with classifier := x }) (by constructor <;> rfl) (evaluateClass_waited _)
  refine .of_waited c waited (by simp [h]) ?_ ?_ grows ?_
  · rcases tasks with e | e <;> simp [h, e, follows]
  · rw [hw, h]
    rcases tasks with e | e <;> simp [e, work]
  · rw [hn, h]
    rcases tasks with e | e <;> simp [e, news]

omit c in
/-- The readers of a lapsed slot of an EMPTY bay (log entry 33). -/
theorem handle_slotLapsed_gone (hg : (s.bay gone).state = .empty) {slot : Fin 32} (h : slotBay slot = some gone) :
    handle (.slotLapsed slot) s = (s, tasksIf (isEnergySlot slot && (s.slot slot).state == .never) [.energy] ++
      tasksIf (slot == statusSlot gone || slot == voltageSlot gone || slot == temperatureSlot gone)
        [.admissionCheck gone]) := by
  simp [handle, tellLapsed, powerOnLapse, h, hg, bayOnLapse]

theorem handle_follows {t : Task} (h : follows awaited gone t = true) : Follows awaited gone t s := by
  obtain ⟨code, executes⟩ := c.write
  cases t <;> simp only [follows, Bool.false_eq_true] at h
  case post p =>
    exact .of_waited c (notify_waited s p) rfl (by simp [handle, alone]) (by simp [handle, alone, work])
      (notify_grows s p) (by simp [handle, alone, news])
  case energy => exact .classified c rfl rfl rfl
  case classify => exact .classified (x := s.classifier) c rfl rfl rfl
  case ceiling =>
    have tasks : (recomputeCeiling s).2 = [] ∨ (recomputeCeiling s).2 = [.brightStep] := by
      unfold recomputeCeiling
      dsimp only
      (repeat' split) <;> simp
    have kept : Waited s (recomputeCeiling s).1 ∧ (recomputeCeiling s).1.ntq = s.ntq := by
      unfold recomputeCeiling
      dsimp only
      (repeat' split)
      · exact ⟨.refl s, rfl⟩
      · exact ⟨.refl s, rfl⟩
      · exact ⟨setBrc_waited s _ rfl rfl rfl rfl rfl rfl, rfl⟩
    refine .of_waited c kept.1 (by simp [handle]) ?_ ?_ (k := 0) (by rw [handle, kept.2]; exact .refl ..) ?_ <;>
      rcases tasks with e | e <;> simp [handle, e, follows, work, news]
  case brightStep =>
    obtain ⟨kept, none⟩ := brightnessStep_waited executes
    exact .of_waited c kept (by simp [handle]) (by simp [handle, none]) (by simp [handle, none, work])
      (brightnessStep_grows executes) (by simp [handle, none, news])
  case moved =>
    have moved : Followed s s.moveTold := ⟨rfl, rfl, rfl, rfl, rfl, rfl, rfl, rfl, _, _, _, _, _, rfl⟩
    exact ⟨moved, c.followed moved fun w => w, by simp [handle, alone], by simp [handle, alone, work], 0, .refl ..,
      by simp [handle, alone, news]⟩
  case bridgeCheck =>
    have told := checkBridge_told s
    obtain ⟨_, _, _, hp⟩ := told.ppc
    have kept : Followed s (checkBridge s) := ⟨by simp, told.lines, told.ports, by simp, told.bays, told.mtu, by simp,
      told.write, _, _, _, _, _, hp⟩
    exact ⟨kept, c.followed kept told.waitsNothing, by simp [handle, alone], by simp [handle, alone, work], 1,
      checkBridge_grows s, by simp [handle, alone, news]⟩
  case settled =>
    refine .still c ?_
    have waits := c.waits
    split at waits
    · simp [handle, takeWaiting, Ppc.engaged, waits]
    · exact takeWaiting_nothing waits
  case swapEnd bay =>
    have kept : Followed s (onSwapEnd bay s) := ⟨by simp, by simp, by simp, by simp, by simp, by simp, by simp, by simp,
      s.ppc.moving, s.ppc.causeBridge, s.ppc.shdnReq, s.ppc.pending, s.ppc.waitCheck, by simp⟩
    exact ⟨kept, c.followed kept fun w => by simpa [State.waitsNothing, handle, alone] using w,
      by simp [handle, alone], by simp [handle, alone, work], 0, by simpa [handle, alone] using .refl ..,
      by simp [handle, alone, news]⟩
  case trigger =>
    subst h
    have tasks : onTrigger s = (s, []) ∨ onTrigger s = (s, [.alternates, .reselect]) := by
      have repeats : s.repeatTakeover = [] := by
        unfold State.repeatTakeover
        split <;> simp [tasksIf, c.engaged]
      unfold onTrigger
      split
      · exact .inl rfl
      · exact .inr (by rw [repeats]; rfl)
    rcases tasks with e | e
    · exact .still c e
    · have told : handle .trigger s = (s, [.alternates, .reselect]) := e
      exact .of_waited c (by rw [told]; exact .refl s) (by rw [told]) (by simp [told, follows]) (by simp [told, work])
        (k := 0) (by rw [told]; exact .refl ..) (by simp [told, news])
  case alternates =>
    subst h
    have told : handle .alternates s = ({ s with ppc := { s.ppc with waitCheck := s.dueChecks } }, []) := by
      simp [handle, checkAlternates, c.engaged]
    exact .marked c told ⟨rfl, rfl, rfl, rfl, rfl, rfl, rfl, rfl, _, _, _, _, _, rfl⟩ rfl
  case reselect =>
    subst h
    have told : handle .reselect s = ({ s with ppc := { s.ppc with pending := true } }, []) := by
      simp [handle, reselect, State.reselectionWaits, c.engaged]
    exact .marked c told ⟨rfl, rfl, rfl, rfl, rfl, rfl, rfl, rfl, _, _, _, _, _, rfl⟩ rfl
  case slotLapsed slot =>
    have named : slotBay slot = some gone := by simpa using h
    have told := handle_slotLapsed_gone c.gone named
    refine .of_waited c (by rw [told]; exact .refl s) (by rw [told]) ?_ ?_ (k := 0) (by rw [told]; exact .refl ..) ?_ <;>
      rw [told] <;> unfold tasksIf
    · (repeat' split) <;> simp [follows]
    · (repeat' split) <;> simp [work]
    · (repeat' split) <;> simp_all [news]
  case admissionCheck bay =>
    obtain rfl : bay = gone := by simpa using h
    exact .still c (by simp [handle, checkAdmission, State.admits, c.gone])

end

/-! ## A list of them -/

/-- A run works off the tasks `ts` from `s` to `u`, with at most `n` steps, and goes on with what stands behind them. -/
def Works (n : Nat) (ts : List Task) (s u : State) : Prop :=
  ∃ m ≤ n, ∀ fuel rest, run (m + fuel) (ts ++ rest) s = run fuel rest u

/-- What the run of such tasks does. -/
structure Worked (awaited : Bool) (gone : Bay) (ts : List Task) (s u : State) : Prop where
  works : Works (ts.map work).sum ts s u
  followed : Followed s u
  calm : Calm awaited gone u
  queue : Grows (ts.map news).sum s.ntq.queue u.ntq.queue
  posted : s.ntq.queue.length + (ts.map news).sum ≤ 16 → ∀ p, .post p ∈ ts →
    ∃ seq now, noticeOf seq now p ∈ u.ntq.queue

/-- The tasks come to an end, each posting with room for its notice. -/
theorem follows_worked {awaited : Bool} {gone : Bay} (ts : List Task) (s : State)
    (ht : ∀ t ∈ ts, follows awaited gone t = true) (c : Calm awaited gone s) : ∃ u, Worked awaited gone ts s u := by
  induction hn : (ts.map work).sum using Nat.strong_induction_on generalizing ts s with
  | _ n ih =>
    cases ts with
    | nil => exact ⟨s, ⟨0, le_rfl, fun fuel rest => by simp⟩, .refl s, c, .refl .., by simp⟩
    | cons t ts =>
      have one := handle_follows c (ht t (by simp))
      have ends := one.ends
      obtain ⟨k, grows, hk⟩ := one.queue
      obtain ⟨u, worked⟩ := ih _ (by simp at hn ⊢; omega) ((handle t s).2 ++ ts) (handle t s).1
        (fun x hx => (List.mem_append.1 hx).elim (one.closed x) fun h => ht x (by simp [h])) one.calm rfl
      have queue := worked.queue
      simp only [List.map_append, List.sum_append] at queue
      refine ⟨u, ?_, one.followed.trans worked.followed, worked.calm, ?_, ?_⟩
      · obtain ⟨m, hm, ran⟩ := worked.works
        simp only [List.map_append, List.sum_append] at hm
        refine ⟨m + 1, by simp; omega, fun fuel rest => ?_⟩
        rw [List.cons_append, show m + 1 + fuel = m + fuel + 1 by omega, run_cons, ← List.append_assoc, ran]
      · exact (grows.trans queue).mono (by simp; omega)
      · intro room p hp
        simp only [List.map_cons, List.sum_cons] at room
        obtain ⟨pre, len⟩ := grows.room (by omega)
        rcases List.mem_cons.1 hp with rfl | hp
        · have own : noticeOf s.ntq.seq s.now p ∈ (s.notify p).ntq.queue := by
            rw [notify_room (by simp [news] at room; omega)]
            simp
          exact ⟨_, _, (queue.room (by omega)).1.subset own⟩
        · exact worked.posted (by simp; omega) p (List.mem_append_right _ hp)

end Sys2Proof.Machine
end

section
/-!
SUPPORT. The emptying of a bay: its port is isolated and its slots are cleared before the Power Path Controller is told
(R40, R65, R94, R111).
-/

namespace Sys2Proof.Machine

/-! ## Runs in stages -/

theorem Works.mono {n m : Nat} {ts : List Task} {s u : State} (h : Works n ts s u) (hm : n ≤ m) : Works m ts s u := by
  obtain ⟨k, hk, ran⟩ := h
  exact ⟨k, hk.trans hm, ran⟩

theorem Works.append {n m : Nat} {ts ts' : List Task} {s u v : State} (h : Works n ts s u) (k : Works m ts' u v) :
    Works (n + m) (ts ++ ts') s v := by
  obtain ⟨i, hi, ran⟩ := h
  obtain ⟨j, hj, ran'⟩ := k
  refine ⟨i + j, by omega, fun fuel rest => ?_⟩
  rw [List.append_assoc, Nat.add_assoc, ran, ran']

/-- A task puts what it starts in front of the rest. -/
theorem Works.cons {n : Nat} {t : Task} {ts later : List Task} {s v u : State} (h : handle t s = (v, ts))
    (k : Works n (ts ++ later) v u) : Works (n + 1) (t :: later) s u := by
  obtain ⟨j, hj, ran⟩ := k
  refine ⟨j + 1, by omega, fun fuel rest => ?_⟩
  rw [List.cons_append, show j + 1 + fuel = j + fuel + 1 by omega, run_cons, h, ← List.append_assoc, ran]

theorem Works.task {n : Nat} {t : Task} {ts : List Task} {s v u : State} (h : handle t s = (v, ts))
    (k : Works n ts v u) : Works (n + 1) [t] s u := .cons h (by rwa [List.append_nil])

theorem Works.nil (s : State) : Works 0 [] s s := ⟨0, le_rfl, fun fuel rest => by simp⟩

theorem Works.alone {t : Task} {s u : State} (h : handle t s = (u, [])) : Works 1 [t] s u := .task h (.nil u)

/-- A command whose first change starts work that ends. -/
theorem Works.exec {n : Nat} {c : Instr} {ts : List Task} {s v u : State} (h : Works n ts v u) (hc : c ≠ .powerOnReset)
    (ha : s.agenda = []) (acts : commandAct c s = (v, ts)) (hn : n ≤ stepFuel) : exec c s = .next u := by
  obtain ⟨m, hm, ran⟩ := h
  obtain ⟨k, e⟩ : ∃ k, stepFuel = m + k := ⟨stepFuel - m, by omega⟩
  have ended := ran k []
  rw [List.append_nil, run_nil] at ended
  rw [exec_quiet c hc ha, acts, e, ended]

/-! ## The port and the slots -/

/-- A port that holds nothing is isolated without a completion (R40, R41). -/
theorem handle_isolate_bare {s : State} {seg : Seg} (h : (s.port seg).bare) :
    handle (.isolate seg) s = (s.setPort seg (s.port seg).isolated, []) := by
  obtain ⟨queue, lane, running⟩ := h
  simp [handle, isolatePort, lostTasks, Port.waitingLane, queue, lane, running, absentTasks, absentLane]

/-- The lapses of a bay's slots bring three notices at most: those of the energy slot. -/
theorem lapses_measures (bay : Bay) (p : Fin 32 → Bool) :
    ((((baySlots bay).filter p).map Task.slotLapsed).map work).sum ≤ 25 ∧
      ((((baySlots bay).filter p).map Task.slotLapsed).map news).sum ≤ 3 := by
  have sub : (((baySlots bay).filter p).map Task.slotLapsed).Sublist ((baySlots bay).map Task.slotLapsed) :=
    List.filter_sublist.map _
  refine ⟨(sub.map work).sum_le_sum (by simp) |>.trans ?_, (sub.map news).sum_le_sum (by simp) |>.trans ?_⟩ <;>
    cases bay <;> decide

/-- What stands when the Power Path Controller is told that the bay is EMPTY. -/
structure Emptied (bay : Bay) (s t : State) : Prop where
  now : t.now = s.now
  lines : t.lines = s.lines
  ports : t.ports = s.ports.set (baySeg bay) (s.port (baySeg bay)).isolated
  slots : ∀ slot, t.slot slot = if slotBay slot = some bay then Slot.reset else s.slot slot
  bays : t.bays = s.bays
  mtu : t.mtu = s.mtu
  smi : t.smi = s.smi
  ppc : ∃ moving cause request pending check, t.ppc = { s.ppc with
    moving := moving, causeBridge := cause, shdnReq := request, pending := pending, waitCheck := check }
  queue : Grows 3 s.ntq.queue t.ntq.queue

/-- The state with the port isolated and the slots cleared (R40, R65). -/
def State.isolating (s : State) (bay : Bay) : State :=
  (clearBaySlots bay (s.setPort (baySeg bay) (s.port (baySeg bay)).isolated)).1

theorem isolating_calm {awaited : Bool} {bay : Bay} {s : State} (c : Calm awaited bay s) :
    Calm awaited bay (s.isolating bay) where
  write := by simpa [State.isolating] using c.write
  gone := by simpa [State.isolating, State.bay] using c.gone
  waits := by simpa [State.isolating, State.waitsNothing] using c.waits

/-- The port, the slots and the Poll Engine are told first (R94). -/
theorem empties {awaited : Bool} {bay : Bay} {s : State} (c : Calm awaited bay s) (bare : (s.port (baySeg bay)).bare)
    (old : BayState) : ∃ t, Works 30 [.isolate (baySeg bay), .slotsNever bay, .pollBay bay old .empty] s t ∧
      Emptied bay s t ∧ Calm awaited bay t := by
  have lapses : ∀ u ∈ (clearBaySlots bay (s.setPort (baySeg bay) (s.port (baySeg bay)).isolated)).2,
      follows awaited bay u = true := fun u hu => by
    simp only [clearBaySlots, List.mem_map, List.mem_filter] at hu
    obtain ⟨slot, ⟨hs, -⟩, rfl⟩ := hu
    simpa [follows] using mem_baySlots.1 hs
  obtain ⟨work, news⟩ := lapses_measures bay fun i =>
    ((s.setPort (baySeg bay) (s.port (baySeg bay)).isolated).slot i).state != .never
  obtain ⟨u, worked⟩ := follows_worked _ (s.isolating bay) lapses (isolating_calm c)
  obtain ⟨polls, polled⟩ := handle_pollBay_quiet (s := u) (old := old) (new := .empty) (.inr (.inl rfl)) bay
  have kept := worked.followed
  have calm := worked.calm
  refine ⟨{ u with polls := polls }, ?_, ?_, calm.write, calm.gone, calm.waits⟩
  · have cleared : Works 26 [.slotsNever bay] (s.setPort (baySeg bay) (s.port (baySeg bay)).isolated) u :=
      (Works.task rfl worked.works).mono (Nat.succ_le_succ work)
    exact ((Works.alone (handle_isolate_bare bare)).append (cleared.append (.alone polled))).mono (by decide)
  · constructor
    case now => simpa [State.isolating] using kept.now
    case lines => simpa [State.isolating] using kept.lines
    case ports => simpa [State.isolating, State.setPort] using kept.ports
    case slots =>
      intro slot
      rw [State.slot, kept.slots]
      exact clearBaySlots_slot bay _ slot
    case bays => simpa [State.isolating] using kept.bays
    case mtu => simpa [State.isolating] using kept.mtu
    case smi => simpa [State.isolating] using kept.smi
    case ppc => simpa [State.isolating] using kept.ppc
    case queue => simpa [State.isolating] using worked.queue.mono news

end Sys2Proof.Machine
end

section
/-!
CLAIM. O48, debounced presence changes.
-/

namespace Sys2Proof.Machine

/-! ## The presence as it is taken (R93, R96, R111) -/

/-- The record as the presence's level has been taken (R93). -/
def BayRec.sensed (r : BayRec) : BayRec :=
  { r with presenceFilter := { line := r.presenceFilter.line, out := r.presenceFilter.line, since := none } }

section
variable {s : State} {bay : Bay} {since : Time} (hx : (s.bay bay).presenceFilter.since = some since)
include hx

theorem onPresence_early (early : age s.now since < s.supply.debounce) : onPresence bay s = (s, []) := by
  simp [onPresence, LineFilter.due, hx, early]

/-- A level held for the debounce time is taken as PRESENT or as ABSENT. -/
theorem onPresence_taken (due : s.supply.debounce ≤ age s.now since) (h : s.uli.phase ≠ .starting) : onPresence bay s =
    if (s.bay bay).presenceFilter.line then toSeated bay (s.setBay bay (s.bay bay).sensed)
    else toEmpty bay (s.setBay bay (s.bay bay).sensed) := by
  have opened : s.opened = true := by simpa [State.opened] using h
  have held : (s.bay bay).presenceFilter.due s.now s.supply.debounce = true := by simp [LineFilter.due, hx, due]
  simp only [onPresence, held, opened, Bool.not_true]
  rfl

end

/-! ## A pack that arrives (R96) -/

/-- The record of a bay whose pack has arrived. -/
def State.seatedRec (s : State) (bay : Bay) : BayRec :=
  { (s.bay bay).sensed with
    present := true, state := .seated, entry := s.now, seat := some { start := s.now, dur := s.supply.seat } }

theorem exec_presenceRise_arrives {s : State} {bay : Bay} {since : Time} (engaged : s.engaged) (safe : s.switchesSafe)
    (opened : s.uli.phase ≠ .starting) (hx : (s.bay bay).presenceFilter.since = some since)
    (due : s.supply.debounce ≤ age s.now since) (high : (s.bay bay).presenceFilter.line = true)
    (empty : (s.bay bay).state = .empty) : ∃ t, exec (.presenceRise bay) s = .next t ∧
      NewsTaken bay (s.setBay bay (s.seatedRec bay)) t := by
  have off := switchesSafe_off safe engaged.1 (bay := bay) (by simp [empty, offState])
  have record : (s.setBay bay (s.bay bay).sensed).bay bay = (s.bay bay).sensed := State.setBay_bay_self ..
  have acts : commandAct (.presenceRise bay) s = (s.setBay bay (s.seatedRec bay),
      [.pollBay bay .empty .seated, .powerBay bay .empty .seated]) := by
    simp only [commandAct, high, if_true]
    rw [onPresence_taken hx due opened, if_pos high, toSeated, if_pos (by rw [record]; exact empty), record,
      bayGoto_setBay, show (s.bay bay).sensed.state = .empty from empty]
    rfl
  have taken := run_news (s := s.setBay bay (s.seatedRec bay)) (bay := bay) (old := .empty) (new := .seated)
    engaged.waiting (fun hon => by cases hon.symm.trans off) (.inr (.inl rfl)) (by simp) (tail := []) (by simp) 4093
  exact ⟨_, by rw [exec_quiet (.presenceRise bay) nofun engaged.1, acts]; rfl, taken⟩

/-! ## A pack that is gone (R111) -/

/-- The state in which a bay has entered EMPTY. -/
def State.emptying (s : State) (bay : Bay) : State :=
  s.setBay bay { (s.bay bay).sensed.emptied with state := .empty, entry := s.now }

/-- What follows once the Power Path Controller has been told. -/
def goneTail (bay : Bay) (s : State) : List Task :=
  tasksIf (counted (s.bay bay).state) [.energy] ++ [lossNotice bay s, .swapEnd bay]

theorem bayNews_empty (bay : Bay) (old : BayState) (notice : Task) : bayNews bay old .empty [notice] =
    [.isolate (baySeg bay), .slotsNever bay, .pollBay bay old .empty] ++ ([.powerBay bay old .empty] ++
      (tasksIf (counted old) [.energy] ++ [notice, .swapEnd bay])) := by
  cases old <;> rfl

theorem goneTail_follows (awaited : Bool) (bay : Bay) (s : State) :
    ∀ t ∈ goneTail bay s, follows awaited bay t = true := by
  intro t ht
  simp only [goneTail, lossNotice, bayNotice, tasksIf, List.mem_append, List.mem_cons] at ht
  rcases ht with ht | ht | ht | ht
  · split at ht <;> simp_all [follows]
  · split at ht <;> (subst ht; rfl)
  · subst ht; rfl
  · simp at ht

/-- The handling of a presence fall: the port, the slots and the Poll Engine come first, then the Power Path Controller
with what it starts, and the notice behind it (R94). -/
theorem exec_presenceFall {awaited : Bool} {s : State} {bay : Bay} {since : Time} (quiet : s.agenda = [])
    (opened : s.uli.phase ≠ .starting) (hx : (s.bay bay).presenceFilter.since = some since)
    (due : s.supply.debounce ≤ age s.now since) (low : (s.bay bay).presenceFilter.line = false)
    (left : (s.bay bay).state ≠ .empty) (bare : (s.port (baySeg bay)).bare) (calm : Calm awaited bay (s.emptying bay)) :
    ∃ t, Emptied bay (s.emptying bay) t ∧ Calm awaited bay t ∧
      ∀ v ts, handle (.powerBay bay (s.bay bay).state .empty) t = (v, ts) →
        (∀ u ∈ ts, follows awaited bay u = true) → (ts.map work).sum ≤ 100 → Calm awaited bay v →
        ∃ u, exec (.presenceFall bay) s = .next u ∧ Worked awaited bay (ts ++ goneTail bay s) v u := by
  have record : (s.setBay bay (s.bay bay).sensed).bay bay = (s.bay bay).sensed := State.setBay_bay_self ..
  have acts : commandAct (.presenceFall bay) s = (s.emptying bay,
      ([.isolate (baySeg bay), .slotsNever bay, .pollBay bay (s.bay bay).state .empty] : List Task) ++
        ([.powerBay bay (s.bay bay).state .empty] ++ goneTail bay s)) := by
    have notice : lossNotice bay (s.setBay bay (s.bay bay).sensed) = lossNotice bay s := by
      unfold lossNotice
      rw [record]
      rfl
    have falls : commandAct (.presenceFall bay) s = onPresence bay s := by simp [commandAct, low]
    rw [falls, onPresence_taken hx due opened, if_neg (by simp [low]), toEmpty, if_neg (by rw [record]; exact left),
      record, notice, bayGoto_setBay, bayNews_empty]
    rfl
  obtain ⟨t, emptied, empties, calm⟩ := empties calm bare (s.bay bay).state
  refine ⟨t, empties, calm, fun v ts told ht hw calm => ?_⟩
  obtain ⟨u, worked⟩ := follows_worked (ts ++ goneTail bay s) v
    (fun x hx => (List.mem_append.1 hx).elim (ht x) (goneTail_follows awaited bay s x)) calm
  refine ⟨u, ?_, worked⟩
  have tail : ((goneTail bay s).map work).sum ≤ 5 := by
    simp only [goneTail, lossNotice, bayNotice, tasksIf]
    split <;> split <;> simp [work]
  have ran := worked.works
  rw [List.map_append, List.sum_append] at ran
  refine (emptied.append (.cons told ran)).exec nofun quiet acts ?_
  simp only [stepFuel]
  omega

/-! ## What the emptying leaves -/

/-- A bay that has lost its pack: its record, its port and its slots. -/
structure BayGone (bay : Bay) (s u : State) : Prop where
  record : u.bay bay = { (s.bay bay).sensed.emptied with state := .empty, entry := s.now }
  other : u.bay (otherBay bay) = s.bay (otherBay bay)
  port : u.port (baySeg bay) = (s.port (baySeg bay)).isolated
  slots : ∀ slot, u.slot slot = if slotBay slot = some bay then Slot.reset else s.slot slot

theorem Emptied.gone {bay : Bay} {s t u : State} (h : Emptied bay (s.emptying bay) t) (hp : u.ports = t.ports)
    (hs : u.slots = t.slots) (hb : u.bays = t.bays) : BayGone bay s u where
  record := by
    rw [State.bay, hb, h.bays]
    exact State.setBay_bay_self ..
  other := by
    rw [State.bay, hb, h.bays]
    exact State.setBay_bay_ne _ _ (otherBay_ne bay)
  port := by
    rw [State.port, hp, h.ports]
    exact State.setPort_port_self s (baySeg bay) (s.port (baySeg bay)).isolated
  slots slot := by
    rw [State.slot, hs]
    exact h.slots slot

theorem Emptied.source {bay : Bay} {s t : State} (h : Emptied bay s t) (x : Src) : t.source x = s.source x := by
  obtain ⟨_, _, _, _, _, hp⟩ := h.ppc
  rw [State.source, hp]
  rfl

theorem Emptied.few {bay : Bay} {s t : State} (h : Emptied bay (s.emptying bay) t) (none : s.ntq.queue = []) :
    t.ntq.queue.length ≤ 3 := by
  have empty : (s.emptying bay).ntq.queue = [] := none
  simpa [empty] using (h.queue.room (by simp [empty])).2

theorem goneTail_news (bay : Bay) (s : State) : ((goneTail bay s).map news).sum ≤ 4 := by
  simp only [goneTail, lossNotice, bayNotice, tasksIf]
  split <;> split <;> simp [news]

/-- The notice of the loss finds room. -/
theorem gone_posted {awaited : Bool} {bay : Bay} {s v u : State} {ts : List Task} {p : Post}
    (h : Worked awaited bay (ts ++ goneTail bay s) v u) (room : v.ntq.queue.length + (ts.map news).sum ≤ 12)
    (hp : lossNotice bay s = .post p) : ∃ seq now, noticeOf seq now p ∈ u.ntq.queue := by
  have tail := goneTail_news bay s
  refine h.posted ?_ p ?_
  · rw [List.map_append, List.sum_append]
    omega
  · simp [goneTail, hp]

/-! ## A pack that carried nothing -/

theorem knowing_ntq (s : State) (bay : Bay) : (s.knowing bay).ntq = s.ntq := by
  obtain ⟨sources, release, e⟩ := knowing_eq s bay
  rw [e]

theorem changeNews_measures (trigger : Bool) (old : BayState) :
    ((changeNews trigger old).map work).sum ≤ 100 ∧ ((changeNews trigger old).map news).sum = 0 := by
  cases trigger <;> cases old <;> decide

theorem exec_presenceFall_idle {s : State} {bay : Bay} {since : Time} (engaged : s.engaged)
    (opened : s.uli.phase ≠ .starting) (hx : (s.bay bay).presenceFilter.since = some since)
    (due : s.supply.debounce ≤ age s.now since) (low : (s.bay bay).presenceFilter.line = false)
    (left : (s.bay bay).state ≠ .empty) (bare : (s.port (baySeg bay)).bare)
    (idle : (s.source (baySrc bay)).sw ≠ .on) : ∃ u, exec (.presenceFall bay) s = .next u ∧ BayGone bay s u ∧
      (u.source (baySrc bay)).sw = .off ∧ (u.source (baySrc bay)).heldOff = false ∧
      u.ppc.attempt = s.ppc.attempt ∧ u.mtu = s.mtu ∧ u.smi = s.smi ∧
      (s.ntq.queue = [] → ∃ n ∈ u.ntq.queue, n.kind = .bayRemoved ∧ n.severity = .info ∧
        n.subject = bayNumber bay ∧ n.arg1 = bayStateCode (s.bay bay).state ∧ n.arg2 = 0) := by
  obtain ⟨quiet, awaits, writes⟩ := engaged
  have empty : ((s.emptying bay).bay bay).state = .empty := by simp [State.emptying]
  obtain ⟨t, emptied, calm, goes⟩ := exec_presenceFall (awaited := true) quiet opened hx due low left bare
    ⟨writes, empty, awaits⟩
  have off : (t.source (baySrc bay)).sw ≠ .on := by rw [emptied.source]; exact idle
  obtain ⟨trigger, told⟩ := handle_powerBay_kept (s := t) (bay := bay) (old := (s.bay bay).state) (new := .empty)
    (fun hon => absurd hon off) (by simp)
  have aside := knowing_aside t bay
  have known : Calm true bay (t.knowing bay) := ⟨by simpa [aside.write] using calm.write,
    by rw [aside.bay]; exact calm.gone, by simpa [aside.attempt] using calm.waits⟩
  obtain ⟨u, ran, worked⟩ := goes _ _ told
    (fun x hx => by rcases mem_changeNews hx with rfl | rfl <;> rfl)
    (changeNews_measures trigger _).1 known
  have kept := worked.followed
  obtain ⟨attempt, -, -, sources⟩ := kept.load
  have source : ∀ x, u.source x = (t.knowing bay).source x := fun x => by rw [State.source, sources]; rfl
  refine ⟨u, ran, emptied.gone (kept.ports.trans aside.ports) (kept.slots.trans aside.slots)
    (kept.bays.trans aside.bays), ?_, ?_, ?_, ?_, ?_, fun none => ?_⟩
  · rw [source]
    exact knowing_off (by rw [calm.gone]; rfl) off
  · rw [source]
    exact knowing_heldOff calm.gone
  · obtain ⟨_, _, _, _, _, hp⟩ := emptied.ppc
    rw [attempt, aside.attempt, hp]
    rfl
  · exact kept.mtu.trans (aside.mtu.trans emptied.mtu)
  · exact kept.smi.trans (aside.smi.trans emptied.smi)
  · obtain ⟨seq, time, posted⟩ := gone_posted worked (by
      rw [knowing_ntq, (changeNews_measures trigger _).2]
      exact (emptied.few none).trans (by decide)) (if_neg idle)
    exact ⟨_, posted, rfl, rfl, rfl, rfl, rfl⟩

/-! ## A pack that carried the load (R82, R85) -/

/-- The waiting release of a bay that empties ends (R83). -/
theorem knowing_release {s : State} {bay : Bay} (h : (s.bay bay).state = .empty) :
    (s.knowing bay).ppc.waitRelease = s.ppc.waitRelease.set bay none := by
  have emptied : (s.emptySource bay).ppc.waitRelease = s.ppc.waitRelease.set bay none := by
    simp [State.emptySource, h, State.setHeldOff, State.dropRelease, State.setSource]
  rw [State.knowing, enterSwitch_eq]
  split
  next sw _ =>
    obtain ⟨sources, e⟩ := setIdleSwitch_eq (s.emptySource bay) (baySrc bay) sw
    rw [e]
    exact emptied
  next => exact emptied

theorem knowing_calm {s : State} {bay : Bay} (c : Calm false bay s) : Calm false bay (s.knowing bay) := by
  have aside := knowing_aside s bay
  have release := knowing_release c.gone
  obtain ⟨supply, none, check, held⟩ : s.waitsNothing := c.waits
  refine ⟨c.write.imp fun _ e => aside.write.trans e, by rw [aside.bay]; exact c.gone, ?_⟩
  rw [none] at release
  obtain ⟨sources, waits, e⟩ := knowing_eq s bay
  rw [e] at release ⊢
  exact ⟨supply, release.trans (by cases bay <;> rfl), check, held⟩

/-- What a takeover starts that tells no bay (R85, R88). -/
def takeoverNews (c : Src) : List Task := .classify :: (tasksIf (c == .br) [.bridgeCheck] ++ [.moved, .settled])

theorem takeoverNews_follows (bay : Bay) (c : Src) : ∀ t ∈ takeoverNews c, follows false bay t = true := by
  cases bay <;> cases c <;> decide

theorem takeoverNews_measures (c : Src) :
    ((takeoverNews c).map work).sum ≤ 100 ∧ ((takeoverNews c).map news).sum ≤ 4 := by
  cases c <;> decide

section
variable {s : State} {bay : Bay} {c : Src} (ho : s.ppc.onSrc = some (baySrc bay)) (hg : (s.bay bay).state = .empty)
  (hc : srcBay c = none)
include ho hg hc

/-- The takeover from an EMPTY bay tells no bay. -/
theorem takeOver_gone_tasks (urgent : Bool) : (takeOver (baySrc bay) c urgent s).2 =
    takeoverNews c := by
  obtain ⟨-, -, -, -, tasks⟩ := takeOver_fields (baySrc bay) c urgent s
  have kept : (s.leaveOn (baySrc bay) .off).bay bay = s.bay bay := rfl
  rw [tasks]
  simp [takeoverNews, leaveForTakeover, ho, commandOff_pack, onSwitchOff, kept, hg, commandOn_noPack hc, State.departed,
    srcBay_baySrc]

theorem takeOver_gone_calm (calm : Calm false bay s) (hne : c ≠ baySrc bay) (urgent : Bool) :
    Calm false bay (takeOver (baySrc bay) c urgent s).1 := by
  have taken := takeOver_takenOver ho hne urgent
  have bays := takeOver_bays_notCarrying ho (by simp [BayRec.carries, hg]) hc urgent
  have waits : s.waitsNothing := calm.waits
  refine ⟨by simpa using calm.write, by rw [State.bay, bays]; exact hg, taken.waits.waitsNothing ?_ waits⟩
  rw [takeOver_lost_ppc _ _ _ _ ho]
  simp only [ho, Option.bind_some, srcBay_baySrc, waits.2.1]
  cases bay <;> rfl

end

/-- The source that takes the load of a bay that is gone: DC while DC-in is present, and BR where no pack can be chosen
besides (R73, R85). -/
def State.takesLoad (s : State) (bay : Bay) (target : Src) : Prop :=
  if s.lines.dcinOk then target = .dc
  else target = .br ∧ (s.bay (otherBay bay)).state ≠ .ready ∧ (s.bay (otherBay bay)).state ≠ .active

theorem takesLoad_noPack {s : State} {bay : Bay} {target : Src} (h : s.takesLoad bay target) :
    srcBay target = none ∧ target ≠ baySrc bay := by
  unfold State.takesLoad at h
  split at h
  · subst h; exact ⟨rfl, by cases bay <;> decide⟩
  · obtain ⟨rfl, -⟩ := h; exact ⟨rfl, by cases bay <;> decide⟩

/-- The state in which the load has moved from a bay that is gone. -/
def State.moved (s : State) (bay : Bay) (target : Src) : State := (takeOver (baySrc bay) target true (s.knowing bay)).1

section
variable {s : State} {bay : Bay} {target : Src} (on : s.ppc.onSrc = some (baySrc bay)) (takes : s.takesLoad bay target)
include on takes

theorem moved_takenOver : TakenOver (baySrc bay) target true (s.knowing bay) (s.moved bay target) :=
  takeOver_takenOver ((knowing_aside s bay).onSrc.trans on) (takesLoad_noPack takes).2 true

/-- SOURCE_CHANGED is posted at URGENT (R79, R87). -/
theorem moved_posts (room : s.ntq.queue.length < 16) : ∃ seq now, (s.moved bay target).ntq.queue =
    s.ntq.queue ++ [noticeOf seq now (sourceChanged .urgent target (some (baySrc bay)) .fault)] := by
  have posted : (s.moved bay target).ntq =
      ((s.knowing bay).notify (sourceChanged .urgent target (some (baySrc bay)) .fault)).ntq :=
    (moved_takenOver on takes).ntq
  refine ⟨(s.knowing bay).ntq.seq, (s.knowing bay).now, ?_⟩
  rw [posted, notify_room (by rw [knowing_ntq]; exact room), knowing_ntq]

end

section
variable {s : State} {bay : Bay} {target : Src} (calm : Calm false bay s) (on : s.ppc.onSrc = some (baySrc bay))
  (takes : s.takesLoad bay target)
include calm on takes

/-- The Power Path Controller is told of the loss (R82, R85). -/
theorem handle_powerBay_gone (hon : (s.source (baySrc bay)).sw = .on) (awaits : s.ppc.attempt = none) (old : BayState) :
    handle (.powerBay bay old .empty) s = (s.moved bay target, takeoverNews target) := by
  have aside := knowing_aside s bay
  have lost := powerOnBay_lost hon (by simp [BayRec.carries, calm.gone]) awaits on old .empty
  refine (lost.trans (lostPack_target on ?_)).trans (Prod.ext rfl (takeOver_gone_tasks (aside.onSrc.trans on)
    (by rw [aside.bay]; exact calm.gone) (takesLoad_noPack takes).1 true))
  unfold State.takesLoad at takes
  split at takes
  next high => exact .inl ⟨high, takes⟩
  next low =>
    obtain ⟨br, ready, active⟩ := takes
    exact .inr ⟨by simpa using low, by simp [State.eligibleNow, srcBay_baySrc, ready, active], br⟩

theorem moved_calm : Calm false bay (s.moved bay target) := by
  have aside := knowing_aside s bay
  obtain ⟨noPack, hne⟩ := takesLoad_noPack takes
  exact takeOver_gone_calm (aside.onSrc.trans on) (by rw [aside.bay]; exact calm.gone) noPack (knowing_calm calm) hne
    true

/-- No block but the Power Path Controller's has a part in it. -/
theorem moved_aside : (s.moved bay target).ports = s.ports ∧ (s.moved bay target).slots = s.slots ∧
    (s.moved bay target).bays = s.bays := by
  have aside := knowing_aside s bay
  have gone : ((s.knowing bay).bay bay).carries = false := by simp [aside.bay, BayRec.carries, calm.gone]
  have bays := takeOver_bays_notCarrying (aside.onSrc.trans on) gone (takesLoad_noPack takes).1 true
  exact ⟨Eq.trans (by simp [State.moved]) aside.ports, Eq.trans (by simp [State.moved]) aside.slots,
    bays.trans aside.bays⟩

end

/-- Where the load is once a pack is gone. -/
structure LoadMoved (bay : Bay) (target : Src) (s u : State) : Prop where
  onSrc : u.ppc.onSrc = some target
  on : (u.source target).sw = .on
  since : (u.source target).onSince = some s.now
  off : (u.source (baySrc bay)).sw = .off
  ended : (u.source (baySrc bay)).onSince = none
  heldOff : (u.source (baySrc bay)).heldOff = false
  attempt : u.ppc.attempt = none
  record : u.ppc.record = some (takeoverRecord (baySrc bay) target s.now)

theorem moved_loadMoved {s t u : State} {bay : Bay} {target : Src} (calm : Calm false bay t)
    (on : t.ppc.onSrc = some (baySrc bay)) (takes : t.takesLoad bay target) (awaits : t.ppc.attempt = none)
    (now : t.now = s.now) (kept : Followed (t.moved bay target) u) : LoadMoved bay target s u := by
  have aside := knowing_aside t bay
  have taken := moved_takenOver on takes
  obtain ⟨attempt, onSrc, record, sources⟩ := kept.load
  have source : ∀ x, u.source x = (t.moved bay target).source x := fun x => by rw [State.source, sources]; rfl
  have at_once : (t.knowing bay).now = s.now := aside.now.trans now
  constructor
  case onSrc => exact onSrc.trans taken.onSrc
  case on => rw [source, taken.target]
  case since => rw [source, taken.target, at_once]
  case off => rw [source, taken.lost]
  case ended => rw [source, taken.lost]
  case heldOff =>
    rw [source, taken.lost]
    exact knowing_heldOff calm.gone
  case attempt => exact attempt.trans (taken.attempt.trans (aside.attempt.trans awaits))
  case record => rw [record, taken.record, at_once]

theorem exec_presenceFall_carrying {s : State} {bay : Bay} {since : Time} {code : Nat} {target : Src}
    (quiet : s.agenda = []) (idle : s.powerIdle) (writes : s.brc.write = .executing code)
    (opened : s.uli.phase ≠ .starting) (hx : (s.bay bay).presenceFilter.since = some since)
    (due : s.supply.debounce ≤ age s.now since) (low : (s.bay bay).presenceFilter.line = false)
    (left : (s.bay bay).state ≠ .empty) (on : s.ppc.onSrc = some (baySrc bay))
    (hon : (s.source (baySrc bay)).sw = .on) (bare : (s.port (baySeg bay)).bare) (takes : s.takesLoad bay target) :
    ∃ u, exec (.presenceFall bay) s = .next u ∧ BayGone bay s u ∧ LoadMoved bay target s u ∧
      (s.ntq.queue = [] →
        (∃ n ∈ u.ntq.queue, n.kind = .bayAbruptLoss ∧ n.severity = .urgent ∧ n.subject = bayNumber bay ∧
          n.arg1 = bayStateCode (s.bay bay).state ∧ n.arg2 = 0) ∧
        ∃ n ∈ u.ntq.queue, n.kind = .sourceChanged ∧ n.severity = .urgent ∧ n.subject = srcNumber target ∧
          n.arg1 = srcCode (some (baySrc bay)) ∧ n.arg2 = reasonCode .fault) := by
  have empty : ((s.emptying bay).bay bay).state = .empty := by simp [State.emptying]
  obtain ⟨t, emptied, calm, goes⟩ := exec_presenceFall (awaited := false) quiet opened hx due low left bare
    ⟨⟨code, writes⟩, empty, idle.waitsNothing⟩
  obtain ⟨_, _, _, _, _, hp⟩ := emptied.ppc
  have awaits : t.ppc.attempt = none := by rw [hp]; exact idle.1
  have onSrc : t.ppc.onSrc = some (baySrc bay) := by rw [hp]; exact on
  have takes : t.takesLoad bay target := by
    have lines : t.lines = s.lines := emptied.lines
    have other : t.bay (otherBay bay) = s.bay (otherBay bay) := (emptied.gone rfl rfl rfl).other
    simpa only [State.takesLoad, lines, other] using takes
  obtain ⟨u, ran, worked⟩ := goes _ _
    (handle_powerBay_gone calm onSrc takes (by rw [emptied.source]; exact hon) awaits _)
    (takeoverNews_follows bay target) (takeoverNews_measures target).1 (moved_calm calm onSrc takes)
  have kept := worked.followed
  obtain ⟨ports, slots, bays⟩ := moved_aside calm onSrc takes
  refine ⟨u, ran, emptied.gone (kept.ports.trans ports) (kept.slots.trans slots) (kept.bays.trans bays),
    moved_loadMoved calm onSrc takes awaits emptied.now kept, fun none => ?_⟩
  have few := emptied.few none
  have tail := goneTail_news bay s
  have before := (takeoverNews_measures target).2
  obtain ⟨seq, now, queue⟩ := moved_posts onSrc takes (by omega)
  have length : (t.moved bay target).ntq.queue.length ≤ 4 := by
    rw [queue, List.length_append]
    exact Nat.succ_le_succ few
  refine ⟨?_, ?_⟩
  · obtain ⟨seq, now, posted⟩ := gone_posted worked (by omega) (if_pos hon)
    exact ⟨_, posted, rfl, rfl, rfl, rfl, rfl⟩
  · have grows := worked.queue
    rw [List.map_append, List.sum_append] at grows
    have stands : noticeOf seq now (sourceChanged .urgent target (some (baySrc bay)) .fault) ∈ u.ntq.queue :=
      (grows.room (by omega)).1.subset (by rw [queue]; simp)
    exact ⟨_, stands, rfl, rfl, rfl, rfl, rfl⟩

/-- Settles O48: the emptying in its stages, each of which ends (`exec_presenceFall`), with the takeover from the state in
which the bay's slots are cleared. -/
theorem presenceIsTaken : Obligations.PresenceIsTaken := by
  refine ⟨fun s bay since code target quiet idle writes opened hx due low left on hon bare takes => ?_,
    fun s bay since engaged safe opened hx => ⟨fun early => ?_, fun due => ?_⟩⟩
  · obtain ⟨u, ran, gone, moved, notices⟩ :=
      exec_presenceFall_carrying quiet idle writes opened hx due low left on hon bare takes
    refine ⟨u, ran, ?_, by rw [gone.port]; rfl, by rw [gone.port]; exact ⟨rfl, rfl, rfl⟩, fun slot h => ?_,
      moved.onSrc, moved.on, moved.since, moved.off, moved.ended, moved.heldOff, moved.attempt, moved.record, notices⟩
    · rw [gone.record, BayRec.sensed, low]
      rfl
    · rw [gone.slots, if_pos h]
      rfl
  · have rests : onPresence bay s = (s, []) := onPresence_early hx early
    refine ⟨exec_still (c := .presenceRise bay) nofun engaged.1 ?_,
      exec_still (c := .presenceFall bay) nofun engaged.1 ?_⟩ <;>
      simp [commandAct, rests, alone]
  · refine ⟨fun high empty => ?_, fun low left idle bare => ?_⟩
    · obtain ⟨t, ran, taken⟩ := exec_presenceRise_arrives engaged safe opened hx due high empty
      have entered := taken.aside.entered
      exact ⟨t, ran, entered.other, entered.record, taken.off (by simp [State.seatedRec, offState]), entered.attempt,
        entered.mtu, taken.aside.ports, entered.slots, entered.sru, entered.uli⟩
    · obtain ⟨u, ran, gone, off, held, attempt, mtu, smi, notice⟩ :=
        exec_presenceFall_idle engaged opened hx due low left bare idle
      exact ⟨u, ran, gone.other, gone.record, by rw [gone.port]; rfl, by rw [gone.port]; exact ⟨rfl, rfl, rfl⟩,
        by rw [gone.port]; rfl, by rw [gone.port]; rfl, gone.slots, off, held, attempt, mtu, smi, notice⟩

end Sys2Proof.Machine
end

section
/-!
SUPPORT. The points of a curve around a value, and the interpolation between two of them (R125, R139).
-/

namespace Sys2Proof.Machine

/-! ## The segment that holds a value -/

section
variable {key : Nat × Nat → Nat} {v : Nat}

/-- A later segment goes before an earlier one. -/
theorem segmentBelow_cons_cons (p q : Nat × Nat) (ps : List (Nat × Nat)) :
    segmentBelow key v (p :: q :: ps) =
      (segmentBelow key v (q :: ps)).or (if key p ≤ v then some (p, q) else none) := by
  rw [segmentBelow]
  cases segmentBelow key v (q :: ps) <;> rfl

theorem segmentBelow_eq_none {ps : List (Nat × Nat)} (above : ∀ p ∈ ps, v < key p) : segmentBelow key v ps = none := by
  induction ps with
  | nil => rfl
  | cons p ps ih =>
    cases ps with
    | nil => rfl
    | cons q ps =>
      have hp : v < key p := above p (by simp)
      rw [segmentBelow_cons_cons, ih fun x hx => above x (by simp [hx]), if_neg (Nat.not_le.2 hp)]
      rfl

/-- On a curve whose keys do not fall, the segment found is the one whose ends the value lies between. -/
theorem segmentBelow_eq_some {ps : List (Nat × Nat)} {j : Nat} {x y : Nat × Nat}
    (rises : ps.Pairwise fun p q => key p ≤ key q) (hx : ps[j]? = some x) (hy : ps[j + 1]? = some y)
    (low : key x ≤ v) (high : v < key y) : segmentBelow key v ps = some (x, y) := by
  induction ps generalizing j with
  | nil => simp at hx
  | cons p ps ih =>
    obtain ⟨-, rest⟩ := List.pairwise_cons.1 rises
    cases ps with
    | nil => simp at hy
    | cons q ps =>
      rw [segmentBelow_cons_cons]
      cases j with
      | zero =>
        obtain rfl : p = x := by simpa using hx
        obtain rfl : q = y := by simpa using hy
        have above : ∀ z ∈ q :: ps, v < key z := fun z hz =>
          high.trans_le (rest.rel_head_of_rel_head_head hz le_rfl)
        rw [segmentBelow_eq_none above, if_pos low]
        rfl
      | succ j => rw [ih rest hx hy, Option.some_or]

/-- A value between the keys of the first and the last point lies between those of two neighbours. -/
theorem exists_segment {ps : List (Nat × Nat)} {first last : Nat × Nat} (head : ps.head? = some first)
    (tail : ps.getLast? = some last) (low : key first ≤ v) (high : v < key last) :
    ∃ (j : Nat) (x y : Nat × Nat), ps[j]? = some x ∧ ps[j + 1]? = some y ∧ key x ≤ v ∧ v < key y := by
  induction ps generalizing first with
  | nil => simp at head
  | cons p ps ih =>
    obtain rfl : p = first := by simpa using head
    cases ps with
    | nil =>
      obtain rfl : p = last := by simpa using tail
      omega
    | cons q ps =>
      by_cases hq : key q ≤ v
      · obtain ⟨j, x, y, hx, hy, between⟩ := ih rfl (by simpa using tail) hq
        exact ⟨j + 1, x, y, hx, hy, between⟩
      · exact ⟨0, p, q, rfl, rfl, low, Nat.not_le.1 hq⟩

end

/-! ## Points of a curve that does not fall -/

section
variable {f : Nat × Nat → Nat} {ps : List (Nat × Nat)} {x : Nat × Nat} (rises : ps.Pairwise fun p q => f p ≤ f q)
include rises

theorem first_le_of_rises {first : Nat × Nat} (head : ps.head? = some first) (hx : x ∈ ps) : f first ≤ f x := by
  obtain ⟨rest, rfl⟩ := List.head?_eq_some_iff.1 head
  exact rises.rel_head_of_rel_head_head hx le_rfl

theorem le_last_of_rises {last : Nat × Nat} (tail : ps.getLast? = some last) (hx : x ∈ ps) : f x ≤ f last := by
  obtain ⟨rest, rfl⟩ := List.getLast?_eq_some_iff.1 tail
  have most := rises.rel_getLast_of_rel_getLast_getLast hx le_rfl
  rwa [List.getLast_append_singleton] at most

end

/-! ## Interpolation -/

/-- Between levels that do not fall, the interpolation is a quotient of natural numbers. -/
theorem interpolate_of_le {lo hi low high v : Nat} (levels : lo ≤ hi) (hl : low ≤ v) (hv : v ≤ high) :
    interpolate lo hi (v - low) (high - low) = lo + (hi - lo) * (v - low) / (high - low) := by
  rw [interpolate, ← Nat.cast_sub levels, ← Nat.cast_sub hl, ← Nat.cast_sub (hl.trans hv), ← Nat.cast_mul,
    ← Int.ofNat_tdiv, ← Nat.cast_add, Int.toNat_natCast]

/-- A value inside a segment is assigned no more than the segment's upper level. -/
theorem interpolated_le {lo hi low high v : Nat} (levels : lo ≤ hi) (hv : v ≤ high) :
    lo + (hi - lo) * (v - low) / (high - low) ≤ hi := by
  have part : (hi - lo) * (v - low) / (high - low) ≤ hi - lo :=
    Nat.div_le_of_le_mul (by rw [Nat.mul_comm]; exact Nat.mul_le_mul_right _ (Nat.sub_le_sub_right hv _))
  omega

end Sys2Proof.Machine
end

section
/-!
CLAIM. O17, the ceiling of a display power curve.
-/

namespace Sys2Proof.Machine

/-- A display power curve as R124 asks for it, from its first point to its last. -/
structure Light.PowerCurve (p : Light) (first last : Nat × Nat) : Prop where
  count : p.powerCount = p.power.length
  two : 2 ≤ p.power.length
  eight : p.power.length ≤ 8
  rises : p.power.Pairwise fun x y => x.1 < y.1 ∧ x.2 ≤ y.2
  head : p.power.head? = some first
  tail : p.power.getLast? = some last

section
variable {p : Light} {first last x y : Nat × Nat} {a j : Nat} (curve : p.PowerCurve first last)
include curve

theorem Light.PowerCurve.levels : p.power.Pairwise fun x y => x.1 ≤ y.1 := curve.rises.imp fun h => h.1.le

theorem Light.PowerCurve.powers : p.power.Pairwise fun x y => x.2 ≤ y.2 := curve.rises.imp And.right

/-- Neighbours stand in the order of the curve. -/
theorem Light.PowerCurve.neighbours (hx : p.power[j]? = some x) (hy : p.power[j + 1]? = some y) : x.1 ≤ y.1 := by
  obtain ⟨hj, rfl⟩ := List.getElem?_eq_some_iff.1 hx
  obtain ⟨hk, rfl⟩ := List.getElem?_eq_some_iff.1 hy
  exact List.pairwise_iff_getElem.1 curve.levels j (j + 1) hj hk (Nat.lt_succ_self j)

/-- The three cases of R125, in its order. -/
theorem powerCeiling_eq (a : Nat) : powerCeiling p a =
    if last.2 ≤ a then last.1 else if a < first.2 then first.1
    else (segmentBelow (·.2) a p.power).elim first.1 fun s => interpolate s.1.1 s.2.1 (a - s.1.2) (s.2.2 - s.1.2) := by
  have counted : ¬(p.powerCount < 2 ∨ 8 < p.powerCount) := by
    have := curve.count
    have := curve.two
    have := curve.eight
    omega
  simp only [powerCeiling, curve.head, curve.tail, if_neg counted]
  cases segmentBelow (·.2) a p.power <;> rfl

/-- Between two neighbours the ceiling is interpolated. -/
theorem powerCeiling_segment (hx : p.power[j]? = some x) (hy : p.power[j + 1]? = some y) (low : x.2 ≤ a)
    (high : a < y.2) : powerCeiling p a = x.1 + (y.1 - x.1) * (a - x.2) / (y.2 - x.2) := by
  have above : first.2 ≤ x.2 := first_le_of_rises curve.powers curve.head (List.mem_of_getElem? hx)
  have below : y.2 ≤ last.2 := le_last_of_rises curve.powers curve.tail (List.mem_of_getElem? hy)
  rw [powerCeiling_eq curve, if_neg (by omega), if_neg (by omega),
    segmentBelow_eq_some (key := (·.2)) curve.powers hx hy low high]
  exact interpolate_of_le (curve.neighbours hx hy) low high.le

/-- Every ceiling lies between the levels of the first and the last point. -/
theorem powerCeiling_bounds (a : Nat) : first.1 ≤ powerCeiling p a ∧ powerCeiling p a ≤ last.1 := by
  have ends : first.1 ≤ last.1 := first_le_of_rises curve.levels curve.head (List.mem_of_getLast? curve.tail)
  by_cases full : last.2 ≤ a
  · rw [powerCeiling_eq curve, if_pos full]
    exact ⟨ends, le_rfl⟩
  by_cases least : a < first.2
  · rw [powerCeiling_eq curve, if_neg full, if_pos least]
    exact ⟨le_rfl, ends⟩
  obtain ⟨j, x, y, hx, hy, low, high⟩ :=
    exists_segment (key := (·.2)) curve.head curve.tail (Nat.not_lt.1 least) (Nat.not_le.1 full)
  have above : first.1 ≤ x.1 := first_le_of_rises curve.levels curve.head (List.mem_of_getElem? hx)
  have below : y.1 ≤ last.1 := le_last_of_rises curve.levels curve.tail (List.mem_of_getElem? hy)
  rw [powerCeiling_segment curve hx hy low high]
  exact ⟨above.trans (Nat.le_add_right _ _), (interpolated_le (curve.neighbours hx hy) high.le).trans below⟩

end

/-- Settles O17: the three cases of R125 exclude each other on a curve whose powers do not fall, and the third one has its
segment (`segmentBelow_eq_some`, `exists_segment`). -/
theorem ceilingOfAllowance : Obligations.CeilingOfAllowance := by
  refine ⟨fun p a first last count two eight rises head tail => ?_, by decide⟩
  have curve : p.PowerCurve first last := ⟨count, two, eight, rises, head, tail⟩
  have ends : first.2 ≤ last.2 := first_le_of_rises curve.powers head (List.mem_of_getLast? tail)
  refine ⟨fun full => ?_, fun least => ?_, fun j x y hx hy low high => ⟨?_, fun level power => ?_⟩,
    powerCeiling_bounds curve a⟩
  · rw [powerCeiling_eq curve, if_pos full]
  · rw [powerCeiling_eq curve, if_neg (by omega), if_pos least]
  · exact powerCeiling_segment curve hx hy low high
  · calc (y.1 - x.1) * (a - x.2) ≤ 2000 * 20000 := Nat.mul_le_mul (by omega) (by omega)
      _ = 40000000 := rfl

end Sys2Proof.Machine
end

section
/-!
CLAIM. O56, a recomputation of the energy sum.
-/

namespace Sys2Proof.Machine

/-! ## The pack level (Table 6-2) -/

/-- The energy below which the pack is CRITICAL: leaving it takes the hysteresis. -/
def critBound (p : Supply) (level : PackLevel) : Int := if level = .critical then (p.crit : Int) + p.hyst else p.crit

/-- The energy from which the pack is HIGH: entering it takes the hysteresis. -/
def highBound (p : Supply) (level : PackLevel) : Int := if level = .high then (p.high : Int) else p.high + p.hyst

/-- Table 6-2: CRITICAL goes before HIGH (log entry 46). -/
theorem nextLevel_eq (p : Supply) (level : PackLevel) (e : Int) : nextLevel p level e =
    if e < critBound p level then .critical else if e < highBound p level then .low else .high := by
  cases level <;> rfl

theorem nextLevel_eq_critical {p : Supply} {level : PackLevel} {e : Int} :
    nextLevel p level e = .critical ↔ e < critBound p level := by
  rw [nextLevel_eq]
  split
  next low => simp [low]
  next safe => split <;> simp [safe]

theorem nextLevel_eq_high {p : Supply} {level : PackLevel} {e : Int} :
    nextLevel p level e = .high ↔ highBound p level ≤ e ∧ critBound p level ≤ e := by
  rw [nextLevel_eq]
  split
  next low => simp [low]
  next safe =>
    split
    next low => simp [low]
    next full => simpa using ⟨not_lt.1 full, not_lt.1 safe⟩

/-! ## The supply class (Table 6-3) -/

/-- UNKNOWN, MAINS and BRIDGE follow the ON source alone. -/
theorem classOf_source (on : Option Src) (level : PackLevel) : (classOf on level = .unknown ↔ on = none) ∧
    (classOf on level = .mains ↔ on = some .dc) ∧ (classOf on level = .bridge ↔ on = some .br) := by
  rcases on with _ | _ | _ | _ | _ <;> cases level <;> simp [classOf]

/-- On a pack the class follows the pack level. -/
theorem classOf_pack {on : Option Src} (pack : on = some .a ∨ on = some .b) (level : PackLevel) :
    (classOf on level = .packHigh ↔ level = .high) ∧ (classOf on level = .packLow ↔ level = .low) ∧
    (classOf on level = .packCritical ↔ level = .critical) := by
  rcases pack with rfl | rfl <;> cases level <;> simp [classOf]

/-! ## The recomputation (R117 to R122) -/

/-- The classifier's record after a recomputation: each of its parts is worked out from the one before it. -/
def State.reclassified (s : State) : Classifier :=
  let level := nextLevel s.supply s.classifier.level s.energySum
  let cls := classOf s.ppc.onSrc level
  { energy := s.energySum, level := level, cls := cls, allowance := allowanceOf s.supply cls }

/-- A recomputation takes that record, tells of a change of class and hands a change of the allowance on. -/
theorem handle_energy (s : State) : handle .energy s =
    (if s.reclassified.cls = s.classifier.cls then { s with classifier := s.reclassified } else
      State.notify { s with classifier := s.reclassified }
        { kind := .supplyClassChanged, severity := .info, subject := 0, arg1 := classCode s.classifier.cls
          arg2 := classCode s.reclassified.cls },
      if s.reclassified.allowance = s.classifier.allowance then [] else [.ceiling]) := rfl

/-- Settles O56: the record is `State.reclassified`, whose level, class and allowance are those of the tables. -/
theorem classifierFollowsTables : Obligations.ClassifierFollowsTables := by
  intro s
  obtain ⟨unknown, mains, bridge⟩ := classOf_source s.ppc.onSrc (nextLevel s.supply s.classifier.level s.energySum)
  refine ⟨s.reclassified, by rw [handle_energy], by rw [handle_energy], rfl, nextLevel_eq_high, nextLevel_eq_critical,
    unknown, mains, bridge, fun pack => classOf_pack pack _, ?_⟩
  have allowance : s.reclassified.allowance = allowanceOf s.supply s.reclassified.cls := rfl
  rw [allowance]
  cases s.reclassified.cls <;> rfl

end Sys2Proof.Machine
end

section
/-!
SUPPORT. The numbers of a brightness step: the log-lux code, the smoothing, the move of the commanded level and the driver
code, each with its range (R135 to R142).
-/

namespace Sys2Proof.Machine

/-! ## The ambient illuminance and its log-lux code (R135 to R137) -/

/-- An ambient above 1 lux has its leading one bit at the place `Nat.log2` gives, which is place 1 or above. -/
theorem log2_bounds {a : Nat} (h : 1 < a) : 1 ≤ Nat.log2 a ∧ 2 ^ Nat.log2 a ≤ a ∧ a < 2 ^ (Nat.log2 a + 1) :=
  ⟨(Nat.le_log2 (by omega)).2 h, Nat.log2_self_le (by omega), Nat.lt_log2_self⟩

theorem logLux_dark {a : Nat} (h : a ≤ 1) : logLux a = 0 := if_pos h

theorem logLux_light {a : Nat} (h : 1 < a) : logLux a = 16 * Nat.log2 a +
    (if 4 ≤ Nat.log2 a then a / 2 ^ (Nat.log2 a - 4) else a * 2 ^ (4 - Nat.log2 a)) % 16 :=
  if_neg (Nat.not_le.2 h)

theorem log2_le_19 {a : Nat} (h : 1 < a) (ha : a < 2 ^ 20) : Nat.log2 a ≤ 19 :=
  Nat.le_of_lt_succ ((Nat.log2_lt (by omega)).2 ha)

/-- L stays within its range (R137). -/
theorem logLux_le {a : Nat} (ha : a < 2 ^ 20) : logLux a ≤ 319 := by
  by_cases h : 1 < a
  · have := log2_le_19 h ha
    rw [logLux_light h]
    omega
  · simp [logLux_dark (Nat.not_lt.1 h)]

theorem illuminance_le {s : State} {slot : Fin 32} {k status mask x : Nat}
    (h : s.illuminance slot k status mask = some x) : x ≤ luxLimit := by
  obtain ⟨v, -, rfl⟩ := Option.map_eq_some_iff.1 h
  exact Nat.min_le_right ..

/-- The weight of the rear sensor is below 1, so that it is read no brighter than it is (R136). -/
theorem rearLux_le {s : State} {x : Nat} (h : s.rearLux = some x) : x ≤ luxLimit := by
  obtain ⟨y, hy, rfl⟩ := Option.map_eq_some_iff.1 h
  have weight : s.light.weight ≤ 256 := (BitVec.isLt _).le
  calc y * s.light.weight / 256 ≤ y * 256 / 256 := Nat.div_le_div_right (Nat.mul_le_mul_left y weight)
    _ = y := Nat.mul_div_cancel y (by omega)
    _ ≤ luxLimit := illuminance_le hy

theorem ambientLux_lt {s : State} {a : Nat} (h : s.ambientLux = some a) : a < 2 ^ 20 := by
  have limit : ∀ {x}, x ≤ luxLimit → x < 2 ^ 20 := fun h => Nat.lt_of_le_of_lt h (by decide)
  unfold State.ambientLux at h
  split at h
  next front rear =>
    cases h
    exact limit (max_le (illuminance_le front) (rearLux_le rear))
  next front _ => cases h; exact limit (illuminance_le front)
  next _ rear => cases h; exact limit (rearLux_le rear)
  next => cases h

/-! ## Stage 4 (R138) -/

theorem smoothStep_le (d alpha : Nat) : smoothStep d alpha ≤ d := Nat.min_le_left ..

/-- With a rate of at least 1/256 stage 4 moves S unless it is at its target. -/
theorem smoothStep_pos {d alpha : Nat} (hd : 0 < d) (ha : 1 ≤ alpha) : 0 < smoothStep d alpha := by
  have part : 1 ≤ d * alpha := Nat.mul_pos hd ha
  simp only [smoothStep]
  omega

/-- At a rate of at most 1 the formula of R138 does not pass the target. -/
theorem smoothStep_eq {d alpha : Nat} (ha : alpha ≤ 256) : smoothStep d alpha = (d * alpha + 255) / 256 := by
  have part : d * alpha ≤ d * 256 := Nat.mul_le_mul_left d ha
  simp only [smoothStep]
  omega

theorem smoothed_rises {s l : Nat} (h : s < 16 * l) (p : Light) :
    smoothed p s l = s + smoothStep (16 * l - s) p.alphaUp := if_pos h

theorem smoothed_falls {s l : Nat} (h : 16 * l ≤ s) (p : Light) :
    smoothed p s l = s - smoothStep (s - 16 * l) p.alphaDown := if_neg (Nat.not_lt.2 h)

/-- S never leaves the way to its target, whatever the rates. -/
theorem smoothed_between (p : Light) (s l : Nat) : min s (16 * l) ≤ smoothed p s l ∧ smoothed p s l ≤ max s (16 * l) := by
  by_cases h : s < 16 * l
  · have := smoothStep_le (16 * l - s) p.alphaUp
    rw [smoothed_rises h]
    omega
  · have := smoothStep_le (s - 16 * l) p.alphaDown
    rw [smoothed_falls (Nat.not_lt.1 h)]
    omega

/-! ## Stages 8 and 9 (R141, R142) -/

/-- A commanded level and a target under the ceiling give a commanded level under it (R141). -/
theorem moved_le {q n c : Nat} (hq : q ≤ c) (hn : n ≤ c) (p : Light) (mode : BrightMode) : moved p mode q n ≤ c := by
  unfold moved
  (repeat' split) <;> omega

/-- D stays within its range (R142). -/
theorem driverCode_le (nMax q : Nat) : driverCode nMax q ≤ 4095 := by
  unfold driverCode
  split
  · exact le_rfl
  next below =>
    exact Nat.le_of_lt_succ (Nat.div_lt_of_lt_mul (by omega))

end Sys2Proof.Machine
end

section
/-!
SUPPORT. What every handling does to the numbers of the Brightness Controller: L, S, D and the commanded level change in a
step alone, the ceiling at the opening of traffic and at its recomputation.
-/

namespace Sys2Proof.Machine

/-- The ranges of the brightness record (R137, R138, R141, R142). -/
def Brc.ranged (b : Brc) : Prop :=
  (∀ q c, b.level = some q → b.ceiling = some c → q ≤ c) ∧ b.smooth ≤ 5104 ∧ b.code ≤ 319 ∧ b.computed ≤ 4095

theorem brightSafe_iff (s : State) : s.brightSafe ↔ s.brc.ranged := Iff.rfl

/-! ## The stages of a step -/

/-- Stages 1 to 4 (R135 to R138): S moves within the range of 16 times L. -/
theorem Brc.ranged.measured {b : Brc} (h : b.ranged) (p : Light) {ambient : Option Nat}
    (limit : ∀ a, ambient = some a → a < 2 ^ 20) : (b.measured p ambient).ranged := by
  obtain ⟨level, smooth, code, computed⟩ := h
  cases ambient with
  | none => exact ⟨level, smooth, code, computed⟩
  | some a =>
    have codes : logLux a ≤ 319 := logLux_le (limit a rfl)
    have moves : smoothed p b.smooth (logLux a) ≤ 5104 := (smoothed_between p b.smooth (logLux a)).2.trans (by omega)
    exact ⟨level, moves, codes, computed⟩

/-- Stages 5 to 9 (R139 to R142): the target is held to the ceiling, and the commanded level moves toward it. -/
theorem Brc.ranged.leveled {b : Brc} (h : b.ranged) (p : Light) : (b.leveled p).ranged := by
  obtain ⟨level, smooth, code, -⟩ := h
  refine ⟨fun q c hq hc => ?_, smooth, code, driverCode_le ..⟩
  have ceiling : b.ceiling = some c := hc
  have under : b.level.getD 0 ≤ c := by
    cases hl : b.level with
    | none => exact Nat.zero_le c
    | some q => exact level q c hl ceiling
  obtain rfl : moved p b.mode (b.level.getD 0) (min (b.demand p (b.curved p)) (b.ceiling.getD 0)) = q :=
    Option.some.inj hq
  exact moved_le under (by simp [ceiling]) p b.mode

theorem driverDone_ranged (segment code : Nat) (outcome : TxOutcome) {s : State} (h : s.brc.ranged) :
    (driverDone segment code outcome s).brc.ranged := by
  unfold driverDone
  dsimp only
  split <;> exact h

/-- Stage 10 changes the write record and its marks alone (R143 to R145). -/
theorem writeOut_ranged {s : State} (h : s.brc.ranged) : (writeOut s).1.brc.ranged := by
  unfold writeOut placeDriver
  (repeat' split)
  · exact h
  · exact h
  · exact driverDone_ranged _ _ _ h
  · exact h
  · exact h

theorem fullStep_ranged {s : State} (h : s.brc.ranged) : (fullStep s).1.brc.ranged := by
  have start : Brc.ranged { s.brc with awaitingLight := false } := h
  have measured := start.measured s.light (ambient := s.ambientLux) fun _ => ambientLux_lt
  refine writeOut_ranged ?_
  rw [limitNotice_brc]
  refine Brc.ranged.leveled ?_ _
  rw [alsNotice_brc]
  exact measured

theorem brightnessStep_ranged {s : State} (h : s.brc.ranged) : (brightnessStep s).1.brc.ranged := by
  unfold brightnessStep
  dsimp only
  (repeat' split)
  · exact h
  · exact h
  · exact fullStep_ranged h

/-! ## The ceiling (R126, R129) -/

/-- A new ceiling lowers the commanded level under it at once (R141). -/
theorem recomputeCeiling_ranged {s : State} (h : s.brc.ranged) : (recomputeCeiling s).1.brc.ranged := by
  unfold recomputeCeiling
  dsimp only
  (repeat' split)
  · exact h
  · exact h
  · refine ⟨fun q c hq hc => ?_, h.2⟩
    obtain ⟨x, -, rfl⟩ := Option.map_eq_some_iff.1 hq
    exact (Nat.min_le_right ..).trans_eq (Option.some.inj hc)

theorem openBrightness_ranged {s : State} (h : s.brc.ranged) : (openBrightness s).1.brc.ranged := by
  refine ⟨fun q c hq hc => ?_, h.2⟩
  rw [← Option.some.inj hq, ← Option.some.inj hc]
  exact Nat.min_le_right ..

/-! ## Modes (R130 to R132) -/

theorem Brc.ranged.enter {b : Brc} (h : b.ranged) (mode : BrightMode) (level : Nat) : (b.enter mode level).ranged := by
  cases mode <;> exact h

theorem captureLevel_ranged (code : Nat) {s : State} (h : s.brc.ranged) : (captureLevel code s).1.brc.ranged := by
  unfold captureLevel
  dsimp only
  split <;> exact h

/-! ## The other blocks -/

theorem tellStart_ranged (t : EngTxn) {s : State} (h : s.brc.ranged) : (tellStart t s).brc.ranged := by
  unfold tellStart
  (repeat' split) <;> exact h

theorem atBoundary_ranged (seg : Seg) {s : State} (h : s.brc.ranged) : (atBoundary seg s).1.brc.ranged := by
  unfold atBoundary
  dsimp only
  split
  · exact h
  · split
    · exact h
    · split
      · exact h
      · exact tellStart_ranged _ h
    · split
      · exact h
      · simpa using h

theorem engineDone_ranged (seg : Seg) (t : EngTxn) (outcome : TxOutcome) (reason : Option AbsentReason)
    (data : List Byte) {s : State} (h : s.brc.ranged) : (engineDone seg t outcome reason data s).1.brc.ranged := by
  unfold engineDone
  split
  · simpa using h
  · exact driverDone_ranged _ _ _ h
  · simpa using h

/-- SET_BRIGHTNESS alone of the requests reaches the Brightness Controller. -/
theorem Request.act_brc {r : Request} (hr : r ≠ .setBrightness) (p : List Byte) (s : State) :
    (r.act p s).state.brc = s.brc := by
  cases r
  case setBrightness => exact absurd rfl hr
  all_goals
    simp only [Request.act, requestIdentify, requestStageWrite, requestStageRead, requestTableRead, requestDiscard,
      requestCommit, requestSave, requestSettingsRead, requestSettingsWrite, requestFetch, requestAlertLevel,
      requestTelemetry, requestReadBay, requestReadPower, requestReadBrightness, requestReadDrop,
      requestClearDrop, requestReadMotion, requestReadPoll, requestReadLink, requestClearIndicators, requestReset,
      requestSwapOf, requestRetry, readImageRun, longRead, firstPart, laterPart, acceptCommit]
    (repeat' split) <;> simp [refusal, reading, acting, State.clearMarks, State.setLog]

theorem requestBrightness_ranged (p : List Byte) {s : State} (h : s.brc.ranged) :
    (requestBrightness p s).state.brc.ranged := by
  unfold requestBrightness
  dsimp only
  (repeat' split)
  · exact Brc.ranged.enter (b := { s.brc with bias := signed 8 (u8 p 3) }) h _ _
  · exact h
  · exact h

theorem Request.act_ranged (r : Request) (p : List Byte) {s : State} (h : s.brc.ranged) :
    (r.act p s).state.brc.ranged := by
  by_cases hr : r = .setBrightness
  · subst hr
    exact requestBrightness_ranged p h
  · rwa [Request.act_brc hr]

theorem decodeRequest_ranged (code tag : Byte) (p : List Byte) {s : State} (h : s.brc.ranged) :
    (decodeRequest code tag p s).1.brc.ranged := by
  have answered : ∀ r, (answerOf r p s).state.brc.ranged := fun r => by
    unfold answerOf
    (repeat' split)
    · exact h
    · exact h
    · exact h
    · exact Request.act_ranged r p h
  unfold decodeRequest
  split
  · simpa using answered _
  · exact h

/-- A data byte changes the link's own record, and at most hands on a write or a request (R2 to R4, R173). -/
theorem onDataByte_brc (byte : Byte) (s : State) : (onDataByte byte s).1.brc = s.brc := by
  unfold onDataByte
  (repeat' split) <;> simp

/-- Of the ends of a pass-through write a capture alone reaches the Brightness Controller (R132). -/
theorem endPassWrite_ranged (t : UpTxn) (e : RouteSnap) (cmd : Byte) {s : State} (h : s.brc.ranged) :
    (endPassWrite t e cmd s).1.brc.ranged := by
  unfold endPassWrite
  split
  · simpa using h
  · exact captureLevel_ranged _ (by simpa using h)
  · exact h

theorem endWritePhase_ranged (t : UpTxn) {s : State} (h : s.brc.ranged) : (endWritePhase t s).1.brc.ranged := by
  unfold endWritePhase
  dsimp only
  split
  · exact endPassWrite_ranged _ _ _ h
  · exact h
  · exact h

theorem onStop_ranged {s : State} (h : s.brc.ranged) : (onStop s).1.brc.ranged := by
  unfold onStop
  split
  · simpa using h
  · exact endWritePhase_ranged _ h
  · split
    · exact h
    · exact endWritePhase_ranged _ h
  all_goals exact h

theorem onRepeatedStart_ranged (addr : Addr) (read : Bool) {s : State} (h : s.brc.ranged) :
    (onRepeatedStart addr read s).1.brc.ranged := by
  unfold onRepeatedStart thenOpen
  split
  · exact h
  · exact h
  · simpa using h
  · split
    · simpa using h
    · exact endWritePhase_ranged _ h
  · split
    · exact h
    · exact endWritePhase_ranged _ h
  all_goals exact h

/-- Every handling keeps the ranges. -/
theorem handle_brightSafe (t : Task) (s : State) (h : s.brightSafe) : (handle t s).1.brightSafe := by
  rw [brightSafe_iff] at h ⊢
  cases t
  case request => exact decodeRequest_ranged _ _ _ h
  case boundary => exact atBoundary_ranged _ h
  case engineDone seg x outcome reason data => exact engineDone_ranged seg x outcome reason data h
  case ceiling => exact recomputeCeiling_ranged h
  case brightStep => exact brightnessStep_ranged h
  case brightReset => exact h
  case openBright => exact openBrightness_ranged h
  all_goals simpa [handle, alone, decodeMalformed, refusal] using h

/-- Every command's first change keeps the ranges. -/
theorem commandAct_brightSafe (c : Instr) (s : State) (h : s.brightSafe) : (commandAct c s).1.brightSafe := by
  rw [brightSafe_iff] at h ⊢
  cases c
  case stopCondition => exact onStop_ranged h
  case repeatedStart => exact onRepeatedStart_ranged _ _ h
  case writeDataByte byte => rwa [commandAct, onDataByte_brc]
  case stepTimerExpiry =>
    simp only [commandAct, onStepTimer]
    split
    · exact brightnessStep_ranged h
    · exact h
  case slotStale | presenceRise | presenceFall =>
    simp only [commandAct]
    split <;> simpa [alone] using h
  all_goals simpa [commandAct, alone] using h

end Sys2Proof.Machine
end

section
/-!
CLAIM. O7, every step keeps the ranges of the brightness record.
-/

namespace Sys2Proof.Machine

/-- Settles O7: the stages keep the ranges (`Brc.ranged.measured`, `Brc.ranged.leveled`), a new ceiling clamps the
commanded level, and no other handling changes these numbers. -/
theorem stepKeepsBrightnessRanges : Obligations.StepKeepsBrightnessRanges := by
  intro s t safe h
  refine step_keeps State.brightSafe (fun _ _ h => h) (fun _ _ h => h) (fun _ _ h => h) handle_brightSafe
    commandAct_brightSafe (fun s a b _ => ?_) safe h
  exact ⟨nofun, Nat.zero_le _, Nat.zero_le _, Nat.zero_le _⟩

end Sys2Proof.Machine
end

section
/-!
CLAIM. O14, the smoothed value on its way to its target.
-/

namespace Sys2Proof.Machine

/-- A step of stage 4 that is not at its target is nearer to it. -/
theorem smoothed_nearer {p : Light} (up : 1 ≤ p.alphaUp) (down : 1 ≤ p.alphaDown) {s l : Nat} (h : s ≠ 16 * l) :
    distance (smoothed p s l) (16 * l) < distance s (16 * l) := by
  simp only [distance]
  rcases Nat.lt_or_gt_of_ne h with below | above
  · have := smoothStep_le (16 * l - s) p.alphaUp
    have := smoothStep_pos (Nat.sub_pos_of_lt below) up
    rw [smoothed_rises below]
    omega
  · have := smoothStep_le (s - 16 * l) p.alphaDown
    have := smoothStep_pos (Nat.sub_pos_of_lt above) down
    rw [smoothed_falls above.le]
    omega

theorem smoothed_target (p : Light) (l : Nat) : smoothed p (16 * l) l = 16 * l := by
  have := smoothed_between p (16 * l) l
  omega

/-- As many steps as the distance bring S to a target that stands. -/
theorem smoothed_reaches {p : Light} (up : 1 ≤ p.alphaUp) (down : 1 ≤ p.alphaDown) (l : Nat) : ∀ steps s,
    distance s (16 * l) ≤ steps → (List.replicate steps l).foldl (smoothed p) s = 16 * l := by
  intro steps
  induction steps with
  | zero =>
    intro s near
    simp only [distance] at near
    simp only [List.replicate_zero, List.foldl_nil]
    omega
  | succ steps ih =>
    intro s near
    rw [List.replicate_succ, List.foldl_cons]
    refine ih _ ?_
    by_cases there : s = 16 * l
    · simp [there, smoothed_target, distance]
    · have := smoothed_nearer up down there
      omega

/-- Settles O14, by induction on the distance that is left to the target. -/
theorem smoothingReachesTarget : Obligations.SmoothingReachesTarget := by
  intro p s l up upMost down downMost
  refine ⟨fun below => ⟨?_, ?_, ?_⟩, fun above => ⟨?_, ?_, ?_⟩, ?_, _, smoothed_reaches up down l _ s le_rfl⟩
  · rw [smoothed_rises below, smoothStep_eq upMost]
  · exact smoothed_rises below p ▸ Nat.lt_add_of_pos_right (smoothStep_pos (Nat.sub_pos_of_lt below) up)
  · exact (smoothed_between p s l).2.trans (max_le below.le le_rfl)
  · rw [smoothed_falls above.le, smoothStep_eq downMost]
  · exact smoothed_falls above.le p ▸ Nat.sub_lt (by omega) (smoothStep_pos (Nat.sub_pos_of_lt above) down)
  · exact (le_min above.le le_rfl).trans (smoothed_between p s l).1
  · rintro rfl
    exact smoothed_target p l

end Sys2Proof.Machine
end

section
/-!
CLAIM. O16, the stages of a brightness step as formulas.
-/

namespace Sys2Proof.Machine

/-! ## The illuminance of a sensor (R135) -/

/-- A slot's value as a count, held to 16 bits. -/
theorem countOf_eq (v : Int) : (countOf v : Int) = max 0 (min 65535 v) := by
  simp only [countOf]
  omega

theorem freshValue_fresh {s : State} {slot : Fin 32} (h : (s.slot slot).state = .fresh) :
    s.freshValue slot = some (s.slot slot).value := by
  simp [State.freshValue, State.fresh, h]

theorem freshValue_none {s : State} {slot : Fin 32} (h : (s.slot slot).state ≠ .fresh) : s.freshValue slot = none := by
  simp [State.freshValue, State.fresh, h]

/-- A status slot byte of Table 12-3 names the slot of its number, or none. -/
theorem statusSlotOf_defined {c : Nat} (h : c = 0xFF ∨ 16 ≤ c ∧ c ≤ 31) :
    statusSlotOf c = if c = 0xFF then none else some (Fin.ofNat 32 c) := by
  unfold statusSlotOf
  split
  · rfl
  next named => rw [if_pos (h.resolve_left named)]

/-- The full-scale condition: a FRESH status slot with a bit of the mask. -/
theorem saturated_iff {s : State} {status mask : Nat} (h : status = 0xFF ∨ 16 ≤ status ∧ status ≤ 31) :
    s.saturated status mask = true ↔ status ≠ 0xFF ∧ (s.slot (Fin.ofNat 32 status)).state = .fresh ∧
      (BitVec.ofInt 32 (s.slot (Fin.ofNat 32 status)).value &&& BitVec.ofNat 32 mask) ≠ 0 := by
  rw [State.saturated, statusSlotOf_defined h]
  by_cases named : status = 0xFF
  · simp [named]
  · rw [if_neg named]
    dsimp only
    by_cases fresh : (s.slot (Fin.ofNat 32 status)).state = .fresh
    · rw [freshValue_fresh fresh]
      simp only [bne_iff_ne, named, fresh, ne_eq, not_false_eq_true, true_and]
    · rw [freshValue_none fresh]
      simp only [fresh, Bool.false_eq_true, false_and, and_false]

theorem illuminance_none {s : State} {slot : Fin 32} (h : (s.slot slot).state ≠ .fresh) (k status mask : Nat) :
    s.illuminance slot k status mask = none := by
  simp [State.illuminance, freshValue_none h]

/-- A FRESH sensor slot gives its count, or full scale, scaled. -/
theorem illuminance_eq {s : State} {slot : Fin 32} {k status mask x : Nat} {count : Int}
    (fresh : (s.slot slot).state = .fresh) (full : s.saturated status mask = true → count = 65535)
    (counted : ¬s.saturated status mask = true → count = max 0 (min 65535 (s.slot slot).value))
    (scaled : (x : Int) = min (count * k / 256) 1048575) : s.illuminance slot k status mask = some x := by
  have value : (((if s.saturated status mask then 65535 else countOf (s.slot slot).value) : Nat) : Int) = count := by
    split
    next h => exact (full h).symm
    next h => exact (countOf_eq _).trans (counted h).symm
  simp only [State.illuminance, freshValue_fresh fresh, Option.map_some, luxLimit, Option.some.injEq]
  rw [← Int.natCast_inj, scaled, ← value]
  norm_cast

/-! ## The ambient (R135, R136) -/

/-- Table 7-4, from the two sensors' illuminances. -/
theorem ambientLux_eq {s : State} {front rear : Option Nat}
    (hf : s.illuminance 10 s.light.frontK s.light.frontStatus s.light.frontMask = front)
    (hr : s.illuminance 11 s.light.rearK s.light.rearStatus s.light.rearMask = rear) :
    s.ambientLux = Option.merge max front (rear.map fun y => y * s.light.weight / 256) := by
  rw [State.ambientLux, State.frontLux, State.rearLux, hf, hr]
  cases front <;> cases rear <;> rfl

/-! ## The brightness curve (R139) -/

/-- The biased code. -/
theorem biased_eq (smooth : Nat) (bias : Int) :
    (biased smooth bias : Int) = max 0 (min 5104 ((smooth : Int) + 16 * bias)) := by
  simp only [biased]
  omega

/-- A part of a difference, taken toward zero, lies between 0 and the difference. -/
theorem tdiv_part {d num den : Int} (hn : 0 ≤ num) (hd : num ≤ den) : min 0 d ≤ Int.tdiv (d * num) den := by
  have part : ∀ e : Int, 0 ≤ e → 0 ≤ Int.tdiv (e * num) den ∧ Int.tdiv (e * num) den ≤ e := fun e he => by
    have size : e * num ≤ e * den := Int.mul_le_mul_of_nonneg_left hd he
    rw [Int.tdiv_eq_ediv_of_nonneg (Int.mul_nonneg he hn)]
    refine ⟨Int.ediv_nonneg (Int.mul_nonneg he hn) (hn.trans hd), ?_⟩
    rcases (hn.trans hd).lt_or_eq with pos | zero
    · exact Int.ediv_le_of_le_mul pos size
    · simpa [← zero] using he
  rcases Int.le_total 0 d with up | down
  · exact (Int.min_le_left ..).trans (part d up).1
  · have := (part (-d) (by omega)).2
    rw [Int.neg_mul, Int.neg_tdiv] at this
    omega

/-- An interpolation inside a segment never falls below 0, so that it is the quotient of R139. -/
theorem interpolate_eq (lo hi : Nat) {num den : Int} (hn : 0 ≤ num) (hd : num ≤ den) :
    (interpolate lo hi num den : Int) = lo + Int.tdiv (((hi : Int) - lo) * num) den := by
  have := tdiv_part (d := (hi : Int) - lo) hn hd
  rw [interpolate, Int.toNat_of_nonneg (by omega)]

/-- A brightness curve as R139 asks for it, from its first point to its last. -/
structure Light.BrightCurve (p : Light) (first last : Nat × Nat) : Prop where
  count : p.curveCount = p.curve.length
  two : 2 ≤ p.curve.length
  sixteen : p.curve.length ≤ 16
  rises : p.curve.Pairwise fun x y => x.1 < y.1
  head : p.curve.head? = some first
  tail : p.curve.getLast? = some last

section
variable {p : Light} {first last a b : Nat × Nat} {x i : Nat} (curve : p.BrightCurve first last)
include curve

theorem Light.BrightCurve.codes : p.curve.Pairwise fun x y => 16 * x.1 ≤ 16 * y.1 :=
  curve.rises.imp fun h => Nat.mul_le_mul_left 16 h.le

/-- The first code stands below every other one. -/
theorem Light.BrightCurve.above (h : a ∈ p.curve) : a = first ∨ first.1 < a.1 := by
  obtain ⟨rest, e⟩ := List.head?_eq_some_iff.1 curve.head
  have rises := e ▸ curve.rises
  rcases List.mem_cons.1 (e ▸ h) with rfl | behind
  · exact .inl rfl
  · exact .inr ((List.pairwise_cons.1 rises).1 a behind)

theorem Light.BrightCurve.ends : first.1 < last.1 := by
  have two := curve.two
  have rises := curve.rises
  obtain ⟨rest, e⟩ := List.head?_eq_some_iff.1 curve.head
  have tail := curve.tail
  cases rest with
  | nil => simp [e] at two
  | cons q rest =>
    rw [e, List.getLast?_cons_cons] at tail
    exact (List.pairwise_cons.1 (e ▸ rises)).1 last (List.mem_of_getLast? tail)

/-- The three cases of R139, in its order. -/
theorem curveLevel_eq (x : Nat) : curveLevel p x =
    if x ≤ 16 * first.1 then first.2 else if 16 * last.1 ≤ x then last.2
    else (segmentBelow (fun q => 16 * q.1) x p.curve).elim first.2 fun s =>
      interpolate s.1.2 s.2.2 (x - 16 * s.1.1) (16 * s.2.1 - 16 * s.1.1) := by
  have counted : ¬(p.curveCount < 2 ∨ 16 < p.curveCount) := by
    have := curve.count
    have := curve.two
    have := curve.sixteen
    omega
  simp only [curveLevel, curve.head, curve.tail, if_neg counted]
  cases segmentBelow (fun q => 16 * q.1) x p.curve <;> rfl

theorem curveLevel_first (h : x ≤ 16 * first.1) : curveLevel p x = first.2 := by
  rw [curveLevel_eq curve, if_pos h]

/-- The first code stands below the last, so that the two ends exclude each other. -/
theorem curveLevel_last (h : 16 * last.1 ≤ x) : curveLevel p x = last.2 := by
  have ends : first.1 < last.1 := curve.ends
  rw [curveLevel_eq curve, if_neg (by omega), if_pos h]

/-- Between two neighbours the level is interpolated. -/
theorem curveLevel_segment (ha : p.curve[i]? = some a) (hb : p.curve[i + 1]? = some b) (low : 16 * a.1 ≤ x)
    (high : x < 16 * b.1) : (curveLevel p x : Int) =
      a.2 + Int.tdiv (((b.2 : Int) - a.2) * ((x : Int) - 16 * a.1)) (16 * ((b.1 : Int) - a.1)) := by
  have below : 16 * b.1 ≤ 16 * last.1 :=
    le_last_of_rises (f := fun q => 16 * q.1) curve.codes curve.tail (List.mem_of_getElem? hb)
  have segment := segmentBelow_eq_some (key := fun q => 16 * q.1) curve.codes ha hb low high
  by_cases start : x ≤ 16 * first.1
  · have above : 16 * first.1 ≤ 16 * a.1 :=
      first_le_of_rises (f := fun q => 16 * q.1) curve.codes curve.head (List.mem_of_getElem? ha)
    obtain rfl : a = first := (curve.above (List.mem_of_getElem? ha)).resolve_right (by omega)
    have there : (x : Int) - 16 * a.1 = 0 := by omega
    rw [curveLevel_first curve start, there, Int.mul_zero, Int.zero_tdiv, Int.add_zero]
  · rw [curveLevel_eq curve, if_neg start, if_neg (by omega), segment, Option.elim_some]
    dsimp only
    rw [interpolate_eq _ _ (by omega) (by omega), Int.mul_sub 16]

end

/-! ## The driver code (R142) -/

/-- Below N_max the driver code is the nearest of its scale, with halves up for an even N_max. -/
theorem driverCode_nearest {nMax q : Nat} (h : q < nMax) :
    driverCode nMax q = (q * 4095 + nMax / 2) / nMax ∧ 2 * (driverCode nMax q * nMax) ≤ 2 * (q * 4095) + nMax ∧
      2 * (q * 4095) < 2 * (driverCode nMax q * nMax) + nMax := by
  have formula : driverCode nMax q = (q * 4095 + nMax / 2) / nMax := if_neg (Nat.not_le.2 h)
  have rest := Nat.mod_lt (q * 4095 + nMax / 2) (Nat.zero_lt_of_lt h)
  have whole := Nat.div_add_mod' (q * 4095 + nMax / 2) nMax
  rw [← formula] at whole
  exact ⟨formula, by omega, by omega⟩

/-- Settles O16, stage by stage. -/
theorem lightAndDriverCodes : Obligations.LightAndDriverCodes := by
  refine ⟨?_, biased_eq, ?_, fun _ _ _ => rfl, ?_, by decide, by decide, by decide, by decide, by decide, by decide,
    by decide, fun _ _ => rfl, ?_, by decide, by decide, by decide, by decide, by decide, by decide, by decide⟩
  · intro s p fresh saturated lux front rear named
    have sensor : ∀ {slot k status mask x}, status = p.frontStatus ∨ status = p.rearStatus → fresh slot →
        lux slot k status mask x → s.illuminance slot k status mask = some x := by
      rintro slot k status mask x h fresh ⟨count, full, counted, scaled⟩
      have sat : s.saturated status mask = true ↔ saturated status mask := saturated_iff (named status h)
      exact illuminance_eq fresh (full ∘ sat.1) (counted ∘ mt sat.2) scaled
    refine ⟨fun noFront noRear => ?_, fun hf noRear x hx => ?_, fun noFront hr y hy => ?_, fun hf hr x y hx hy => ?_⟩
    · exact ambientLux_eq (illuminance_none noFront ..) (illuminance_none noRear ..)
    · exact ambientLux_eq (sensor (.inl rfl) hf hx) (illuminance_none noRear ..)
    · exact ambientLux_eq (illuminance_none noFront ..) (sensor (.inr rfl) hr hy)
    · exact ambientLux_eq (sensor (.inl rfl) hf hx) (sensor (.inr rfl) hr hy)
  · intro p x first last count two sixteen rises head tail
    have curve : p.BrightCurve first last := ⟨count, two, sixteen, rises, head, tail⟩
    exact ⟨curveLevel_first curve, curveLevel_last curve, fun _ _ _ => curveLevel_segment curve⟩
  · intro a limit
    refine ⟨logLux_le limit, logLux_dark, fun light => ?_⟩
    obtain ⟨one, least, most⟩ := log2_bounds light
    exact ⟨Nat.log2 a, _, one, log2_le_19 light limit, least, most, rfl, logLux_light light⟩
  · intro nMax q _ _
    exact ⟨fun full => if_pos full, driverCode_nearest⟩

end Sys2Proof.Machine
end

section
/-!
SUPPORT. A brightness step: its nine stages on the record, the notices of the lost sensors and of the ceiling, and the driver
write at its end (R133 to R145).
-/

namespace Sys2Proof.Machine

/-! ## The notices of a step (R136, R140) -/

theorem alsNotice_eq (was : Brc) (ambient : Option Nat) (s : State) : alsNotice was ambient s = { s with
    ntq := if ambient = none ∧ was.lightLost = false then
      s.ntq.post s.now { kind := .alsLost, severity := .warn, subject := 0, arg1 := 0, arg2 := 0 } else s.ntq } := by
  cases ambient <;> cases h : was.lightLost <;> simp [alsNotice, h, State.notify]

theorem limitNotice_eq (was : Brc) (p : Light) (s : State) : limitNotice was p s = { s with
    ntq := if s.brc.limited = true ∧ was.limited = false then
      s.ntq.post s.now { kind := .ceilingLimiting, severity := .info, subject := 0, arg1 := s.brc.wanted p s.brc.curve
                         arg2 := s.brc.ceiling.getD 0 } else s.ntq } := by
  cases h : s.brc.limited <;> cases h' : was.limited <;> simp [limitNotice, h, h', State.notify]

/-! ## The stages -/

/-- An ambient gives L and S; none leaves them and sets the light-lost mark (R136 to R138). -/
theorem Brc.measured_eq (b : Brc) (p : Light) (ambient : Option Nat) : b.measured p ambient = { b with
    ambient := if ambient.isSome then ambient else b.ambient
    code := match ambient with | some a => logLux a | none => b.code
    smooth := match ambient with | some a => smoothed p b.smooth (logLux a) | none => b.smooth
    lightLost := ambient.isNone } := by
  cases ambient <;> rfl

/-- Stages 1 to 9 on the record (R135 to R142). -/
def Brc.staged (b : Brc) (p : Light) (ambient : Option Nat) : Brc :=
  (Brc.measured { b with awaitingLight := false } p ambient).leveled p

/-- AUTO alone runs stages 5 and 6 (R139). -/
theorem Brc.curved_eq (b : Brc) (p : Light) :
    b.curved p = if b.mode = .auto then curveLevel p (biased b.smooth b.bias) else b.curve := by
  cases h : b.mode <;> simp [Brc.curved, h]

/-- In AUTO the curve level is held against the ceiling before N_min raises it (R140). -/
theorem Brc.wanted_eq (b : Brc) (p : Light) (curve : Nat) :
    b.wanted p curve = if b.mode = .auto then curve else b.demand p curve := by
  cases h : b.mode <;> simp [Brc.wanted, Brc.demand, h]

/-- A record taken with the notices that tell of it: ALS_LOST, and then CEILING_LIMITING (R136, R140). -/
def State.noticed (s : State) (b : Brc) : State :=
  let lost := if s.ambientLux = none ∧ s.brc.lightLost = false then
    s.ntq.post s.now { kind := .alsLost, severity := .warn, subject := 0, arg1 := 0, arg2 := 0 } else s.ntq
  { s with
    brc := b
    ntq := if b.limited = true ∧ s.brc.limited = false then
      lost.post s.now { kind := .ceilingLimiting, severity := .info, subject := 0, arg1 := b.wanted s.light b.curve
                        arg2 := b.ceiling.getD 0 } else lost }

/-- The state after stages 1 to 9, with their notices. -/
def State.staged (s : State) : State := s.noticed (s.brc.staged s.light s.ambientLux)

/-- A full step hands the state after its nine stages to the driver write (Table 7-3). -/
theorem fullStep_eq (s : State) : fullStep s = writeOut s.staged := by
  simp only [fullStep, alsNotice_eq, limitNotice_eq]
  rfl

/-- What a step does: it restarts the timer, and runs its stages unless it waits for light (R129, R133). -/
theorem brightnessStep_eq {s : State} {c : Nat} (h : s.brc.ceiling = some c) : brightnessStep s =
    let timed : State := { s with brc := { s.brc with step := some (timerNow s s.light.period) } }
    if s.waitsForLight then (timed, []) else writeOut timed.staged := by
  simp only [brightnessStep, h, Option.isNone_some, fullStep_eq, Bool.false_eq_true, if_false]

theorem waitsForLight_iff (s : State) : s.waitsForLight = true ↔ s.brc.awaitingLight = true ∧
    (s.brc.mode = .auto ∨ s.brc.mode = .hold) ∧ (s.slot 10).state ≠ .fresh ∧ (s.slot 11).state ≠ .fresh := by
  simp [State.waitsForLight, State.fresh, and_assoc]

/-! ## The driver write (R143 to R145) -/

/-- A driver write is worth placing: it differs, or none was written, and it is forced, owed, at the target, or beyond
the hysteresis. -/
theorem Brc.worth_iff {b : Brc} {q : Nat} (level : b.level = some q) (p : Light) : b.worth p = true ↔
    (b.computed ≠ b.written ∨ b.noneWritten = true) ∧
    (p.hysteresis ≤ b.computed - b.written ∨ p.hysteresis ≤ b.written - b.computed ∨ q = b.target ∨
      b.noneWritten = true ∨ b.owed = true) := by
  have apart : p.hysteresis ≤ distance b.computed b.written ↔
      p.hysteresis ≤ b.computed - b.written ∨ p.hysteresis ≤ b.written - b.computed := by
    simp only [distance]
    omega
  simp [Brc.worth, apart, level, or_assoc]

section
variable {s : State}

theorem writeOut_queued {code : Nat} (h : s.brc.write = .queued code) : writeOut s = (s.recode s.brc.computed, []) := by
  simp only [writeOut, h]

theorem recode_port (s : State) (code : Nat) (seg : Seg) : (s.recode code).port seg = (s.port seg).recoded code := by
  cases seg <;> rfl

/-- A write that is not worth placing is no longer owed: one that is owed and differs is worth it. -/
theorem writeOut_idle (h : s.brc.write = .none) (idle : ¬s.brc.worth s.light = true) :
    writeOut s = ({ s with brc := { s.brc with owed := false } }, []) := by
  have settled : (s.brc.owed && (s.brc.computed != s.brc.written || s.brc.noneWritten)) = false := by
    by_contra owed
    simp only [Bool.not_eq_false, Bool.and_eq_true, Bool.or_eq_true, bne_iff_ne] at owed
    exact idle (by simp [Brc.worth, owed])
  simp only [writeOut, h, idle, settled, Bool.false_eq_true, if_false]

theorem writeOut_noRoute (h : s.brc.write = .none) (worth : s.brc.worth s.light = true)
    (route : routeOf s.sru.committed s.light.driverKey = none) :
    writeOut s = (driverDone 0 s.brc.computed .noRoute s, []) := by
  simp only [writeOut, h, worth, if_true, placeDriver, route]

/-- A key without an entry fails the write at once, and the level stays owed (R143, R145). -/
theorem driverDone_noRoute (h : s.brc.write = .none) :
    let t : State := { s with brc := { s.brc with owed := true, failures := min (s.brc.failures + 1) 255 } }
    driverDone 0 s.brc.computed .noRoute s = if s.brc.failures = 2 then t.notify
      { kind := .backlightWriteFailed, severity := .warn, subject := 0, arg1 := outcomeCode .noRoute
        arg2 := s.brc.computed }
    else t := by
  have failed := driverDone_failed 0 s.brc.computed (o := .noRoute) rfl s
  rwa [← h] at failed

theorem writeOut_places (h : s.brc.write = .none) (worth : s.brc.worth s.light = true) {r : RouteSnap}
    (route : routeOf s.sru.committed s.light.driverKey = some r) :
    writeOut s = ({ s with brc := { s.brc with write := .queued s.brc.computed } },
      [.place r.seg (driverTxn s.light.command s.brc.computed r)]) := by
  simp only [writeOut, h, worth, if_true, placeDriver, route]

end

/-! ## The step timer (R133) -/

theorem onStepTimer_early {s : State} {x : Timer} (hx : s.brc.step = some x) (early : age s.now x.start < x.dur) :
    onStepTimer s = (s, []) :=
  if_neg fun h => by simp [hx, timerDue, Timer.due, Nat.not_le.2 early] at h

theorem onStepTimer_due {s : State} {x : Timer} (hx : s.brc.step = some x) (due : x.dur ≤ age s.now x.start) :
    onStepTimer s = brightnessStep s :=
  if_pos (by simpa [hx, timerDue, Timer.due] using due)

end Sys2Proof.Machine
end

section
/-!
CLAIM. O57, a brightness step.
-/

namespace Sys2Proof.Machine

/-- Settles O57: a full step is its driver write on the state after its nine stages (`brightnessStep_eq`), which is then
what the write record makes of it. -/
theorem brightnessStepRuns : Obligations.BrightnessStepRuns := by
  refine ⟨fun s unset => ?_, ?_, fun s x quiet hx => ⟨fun early => ?_, fun due => ⟨?_, fun last => ?_⟩⟩⟩
  · simp only [handle, brightnessStep, unset, Option.isNone_none, if_true]
  · intro s c hc b p timer step awaits ambient smooth curve demand wanted n q level d b1 lost s1 bytes worth route
    have ran : step = if s.waitsForLight then ({ s with brc := { b with step := timer } }, []) else
        writeOut (State.staged { s with brc := { b with step := timer } }) := brightnessStep_eq hc
    have record : Brc.staged { b with step := timer } p ambient = b1 := by
      have ceiling : b.ceiling.getD 0 = c := by rw [show b.ceiling = some c from hc, Option.getD_some]
      simp only [Brc.staged, Brc.measured_eq, Brc.leveled, Brc.curved_eq, Brc.wanted_eq, ceiling]
      rfl
    have staged : State.staged { s with brc := { b with step := timer } } = s1 := by
      refine (congrArg (State.noticed _) record).trans ?_
      have limited : b1.limited = true ↔ c < wanted := decide_eq_true_iff
      have ceiling : b1.ceiling.getD 0 = c := by rw [show b1.ceiling = some c from hc, Option.getD_some]
      simp only [State.noticed, limited, ceiling, Brc.wanted_eq]
      rfl
    refine ⟨fun h => ?_, fun h => ?_⟩
    · rw [ran, if_pos ((waitsForLight_iff s).2 h)]
    rw [if_neg (mt (waitsForLight_iff s).1 h), staged] at ran
    have worthy : s1.brc.worth s1.light = true ↔ worth := Brc.worth_iff rfl s1.light
    refine ⟨fun code hw => ?_, fun code hw => ?_, fun hw => ⟨fun idle => ?_, fun due noRoute => ?_, fun r due hr => ?_⟩⟩
    · exact ran.trans (writeOut_executing (s := s1) hw)
    · have queued := ran.trans (writeOut_queued (s := s1) hw)
      rw [queued]
      exact ⟨rfl, rfl, recode_port s1 d⟩
    · exact ran.trans (writeOut_idle (s := s1) hw (mt worthy.1 idle))
    · rw [ran, writeOut_noRoute (s := s1) hw (worthy.2 due) noRoute]
      exact congrArg (·, []) (driverDone_noRoute (s := s1) hw)
    · exact ran.trans (writeOut_places (s := s1) hw (worthy.2 due) hr)
  · rw [exec_quiet .stepTimerExpiry nofun quiet, commandAct, onStepTimer_early hx early, run_nil]
  · rw [exec_quiet .stepTimerExpiry nofun quiet, commandAct, onStepTimer_due hx due]
    rfl
  · rw [exec_quiet .stepTimerExpiry nofun quiet, commandAct, onStepTimer_due hx due,
      show (brightnessStep s).2 = [] from last, run_nil]
    rfl

end Sys2Proof.Machine
end

section
/-!
CLAIM. O34, SET_BRIGHTNESS.
-/

namespace Sys2Proof.Machine

/-! ## The fields of the request (R131) -/

theorem modeOfCode_none {c : Nat} (h : 3 < c) : modeOfCode c = none := by
  unfold modeOfCode
  split <;> first | omega | rfl

/-- A byte read as a signed number. -/
theorem signed_byte (b : Byte) : signed 8 b.toNat = b.toInt := by
  rw [BitVec.toInt_eq_toNat_cond]
  unfold signed
  split <;> split <;> omega

/-- The record an accepted request leaves (R130, R131). -/
def Brc.set (b : Brc) (p : Light) (mode : BrightMode) (level : Nat) (bias : Int) : Brc :=
  { b with
    mode := mode
    bias := bias
    manual := if mode = .manual then some (min level p.nMax) else none
    hold := if mode = .hold then (if b.mode = .hold then b.hold else b.level) else none }

theorem acceptBrightness_eq (mode : BrightMode) (level : Nat) (bias : Int) (s : State) :
    acceptBrightness mode level bias s = ({ s with brc := s.brc.set s.light mode level bias }, [.brightStep]) := by
  cases mode <;> rfl

/-- What SET_BRIGHTNESS answers to its four bytes: the mode, the level and the bias. -/
theorem requestBrightness_eq (m lo hi bias : Byte) (s : State) : requestBrightness [m, lo, hi, bias] s =
    (modeOfCode m.toNat).elim (refusal .notApplicable s) fun mode =>
      if -64 ≤ bias.toInt ∧ bias.toInt ≤ 64 then acting (acceptBrightness mode (pair lo hi) bias.toInt s)
      else refusal .notApplicable s := by
  have number : signed 8 (u8 [m, lo, hi, bias] 3) = bias.toInt := signed_byte bias
  simp only [requestBrightness, number]
  cases h : modeOfCode m.toNat <;> simp only [show u8 [m, lo, hi, bias] 0 = m.toNat from rfl, h] <;> rfl

section
variable {s : State} (serves : s.servesRequests) (tag : Byte) {m lo hi bias : Byte}
include serves

theorem exec_setBrightness : exec (.setBrightness tag [m, lo, hi, bias]) s =
    .next (run 4095 (requestBrightness [m, lo, hi, bias] s.heard).tasks
      (respond 0x24 tag (requestBrightness [m, lo, hi, bias] s.heard)).1) :=
  exec_request_act serves (q := .setBrightness) (p := [m, lo, hi, bias]) rfl rfl (.inl rfl) nofun

theorem exec_setBrightness_refused (h : 3 < m.toNat ∨ 64 < bias.toInt ∨ bias.toInt < -64) :
    exec (.setBrightness tag [m, lo, hi, bias]) s = .next (s.answered 0x24 tag .notApplicable []) := by
  have refused : requestBrightness [m, lo, hi, bias] s.heard = refusal .notApplicable s.heard := by
    rw [requestBrightness_eq]
    rcases h with unnamed | beyond
    · rw [modeOfCode_none unnamed]
      rfl
    · cases modeOfCode m.toNat with
      | none => rfl
      | some mode => exact if_neg (by omega)
  rw [exec_setBrightness serves, refused]
  rfl

/-- The state in which an accepted request's step runs. -/
theorem exec_setBrightness_accepted {mode : BrightMode} (named : modeOfCode m.toNat = some mode)
    (least : -64 ≤ bias.toInt) (most : bias.toInt ≤ 64) : exec (.setBrightness tag [m, lo, hi, bias]) s =
      .next (run 4095 [.brightStep]
        { s.answered 0x24 tag .ok [] with brc := s.brc.set s.light mode (pair lo hi) bias.toInt }) := by
  have accepted : requestBrightness [m, lo, hi, bias] s.heard =
      acting ({ s.heard with brc := s.brc.set s.light mode (pair lo hi) bias.toInt }, [.brightStep]) := by
    rw [requestBrightness_eq, named, Option.elim_some, if_pos ⟨least, most⟩, acceptBrightness_eq]
    rfl
  rw [exec_setBrightness serves, accepted]
  rfl

end

/-- While a driver write executes, a step under a ceiling still restarts the step timer (R133, R144). -/
theorem brightnessStep_restarts {s : State} {code : Nat} (h : s.brc.write = .executing code)
    (ceiling : s.brc.ceiling.isSome = true) :
    (brightnessStep s).1.brc.step = some { start := s.now, dur := s.light.period } := by
  obtain ⟨c, hc⟩ := Option.isSome_iff_exists.1 ceiling
  rw [brightnessStep_eq hc]
  dsimp only
  rw [← fullStep_eq]
  split
  · rfl
  · exact (fullStep_executing (s := { s with brc := { s.brc with step := some (timerNow s s.light.period) } }) h).1

/-- Settles O34: an accepted request leaves its record and one step, which writes nothing while a driver write
executes (`brightnessStep_waited`). -/
theorem setBrightnessActs : Obligations.SetBrightnessActs := by
  intro s tag m lo hi bias serves
  refine ⟨exec_setBrightness_refused serves tag, fun mode named least most => ?_,
    fun mode code named least most executing => ?_⟩
  · exact ⟨4095, by decide, exec_setBrightness_accepted serves tag named least most⟩
  · have answered := exec_setBrightness_accepted serves tag (lo := lo) (hi := hi) named least most
    set t : State := { s.answered 0x24 tag .ok [] with brc := s.brc.set s.light mode (pair lo hi) bias.toInt } with ht
    have writing : t.brc.write = .executing code := executing
    obtain ⟨waited, last⟩ := brightnessStep_waited writing
    have ran : run 4095 [.brightStep] t = (brightnessStep t).1 := by
      rw [run_cons]
      simp only [handle, last, List.nil_append, run_nil]
    have ppc : (brightnessStep t).1.ppc = t.ppc := by simp
    refine ⟨(brightnessStep t).1, by rw [answered, ran], waited.sru, waited.mode, waited.bias, waited.manual, waited.hold,
      waited.write, waited.written, fun ceiling => brightnessStep_restarts writing ceiling, waited.ports,
      ppc, waited.bays, waited.mtu, waited.smi⟩

end Sys2Proof.Machine
end

section
/-!
SUPPORT. What the operations of the Motion Unit do to a drop record (R162 to R165, R168): one is open exactly in the
states that have one, with PARK and the shock-hold flag set and their timers stopped, and its trace and the history keep
their lengths.
-/

namespace Sys2Proof.Machine

/-- The trace parts of a record within their lengths (R165). -/
def DropRec.traced (r : DropRec) : Prop := r.before.length ≤ 8 ∧ r.after.length ≤ 15

/-- What `State.motionSafe` says of the Motion Unit's record. -/
def Mtu.safe (m : Mtu) : Prop :=
  m.openRec.isSome = recordStates m.state ∧
    (recordStates m.state = true →
      m.park = true ∧ m.shockHold = true ∧ m.parkHold = none ∧ m.shockTimer = none) ∧
    m.history.length ≤ 8 ∧ ∀ r, m.openRec = some r → r.traced

theorem motionSafe_iff (s : State) : s.motionSafe ↔ s.mtu.safe := Iff.rfl

/-- PARK and the flag set, with their timers stopped (R162, R163). -/
def Mtu.parked (m : Mtu) : Prop := m.park = true ∧ m.shockHold = true ∧ m.parkHold = none ∧ m.shockTimer = none

theorem Mtu.safe_open {m : Mtu} {r : DropRec} (state : recordStates m.state = true) (hr : m.openRec = some r)
    (parked : m.parked) (history : m.history.length ≤ 8) (traced : r.traced) : m.safe :=
  ⟨by rw [hr, state]; rfl, fun _ => parked, history, fun x hx => by
    rw [hr] at hx
    exact Option.some.inj hx ▸ traced⟩

theorem Mtu.safe_closed {m : Mtu} (state : recordStates m.state = false) (hr : m.openRec = none)
    (history : m.history.length ≤ 8) : m.safe :=
  ⟨by rw [hr, state]; rfl, fun h => by simp [state] at h, history, fun x hx => by simp [hr] at hx⟩

theorem Mtu.safe.history {m : Mtu} (h : m.safe) : m.history.length ≤ 8 := h.2.2.1

theorem Mtu.safe.traced {m : Mtu} (h : m.safe) {r : DropRec} (hr : m.openRec = some r) : r.traced := h.2.2.2 r hr

theorem Mtu.safe.parked {m : Mtu} (h : m.safe) (state : recordStates m.state = true) : m.parked := h.2.1 state

theorem Mtu.safe.closed_iff {m : Mtu} (h : m.safe) : recordStates m.state = false ↔ m.openRec = none := by
  rw [← h.1, Option.isSome_eq_false_iff, Option.isNone_iff_eq_none]

/-! ## The open record and the history (R165) -/

theorem addHistory_length {history : List Nat} (h : history.length ≤ 8) (code : Nat) :
    (addHistory history code).length ≤ 8 := by
  unfold addHistory
  split <;> simp <;> omega

theorem DropRec.peaked_traced (r : DropRec) {q : Sample} (h : q.before.length ≤ 8) : (r.peaked q).traced :=
  ⟨h, Nat.zero_le _⟩

theorem DropRec.tracked_traced {r : DropRec} (h : r.traced) {q : Sample} (hq : q.before.length ≤ 8) :
    (r.tracked q).traced := by
  unfold DropRec.tracked
  split
  · exact r.peaked_traced hq
  · refine ⟨h.1, ?_⟩
    have := h.2
    dsimp only
    split <;> simp <;> omega

/-- A change of the open record that keeps its trace. -/
theorem Mtu.safe.mapOpen {m : Mtu} (h : m.safe) {f : DropRec → DropRec} (kept : ∀ r, r.traced → (f r).traced) :
    (m.mapOpen f).safe := by
  refine ⟨?_, h.2.1, h.history, fun x hx => ?_⟩
  · simpa [Mtu.mapOpen] using h.1
  · obtain ⟨r, hr, rfl⟩ := Option.map_eq_some_iff.1 hx
    exact kept r (h.traced hr)

/-- SETTLING from a state with a record. -/
theorem Mtu.safe.settling {m : Mtu} (h : m.safe) (state : recordStates m.state = true) (t : Time) :
    (m.settling t).safe :=
  ⟨h.1.trans state, fun _ => h.parked state, h.history, fun _ => h.traced⟩

theorem Mtu.safe.windowFull {m : Mtu} (h : m.safe) (state : recordStates m.state = true) (window : Nat) (t : Time) :
    (m.windowFull window t).safe := by
  unfold Mtu.windowFull
  split
  · exact h.settling state t
  · exact h

/-- A sample joins the history and the open record (R165). -/
theorem Mtu.safe.joined {m : Mtu} (h : m.safe) {q : Sample} (hq : q.before.length ≤ 8) :
    Mtu.safe { m.mapOpen (·.tracked q) with
      history := addHistory (m.mapOpen (·.tracked q)).history q.code, samples := m.samples + 1 } := by
  obtain ⟨opened, parked, history, traced⟩ := h.mapOpen fun r hr => DropRec.tracked_traced hr hq
  exact ⟨opened, parked, addHistory_length history _, traced⟩

/-! ## The states entered (R156 to R160, R168) -/

theorem enterFalling_safe {s : State} {q : Sample} (history : s.mtu.history.length ≤ 8) (hq : q.before.length ≤ 8)
    (start : Time) : (enterFalling start q s).1.mtu.safe :=
  Mtu.safe_open rfl rfl ⟨rfl, rfl, rfl, rfl⟩ history (DropRec.peaked_traced _ hq)

theorem enterImpact_safe {s : State} (opened : s.mtu.openRec.isSome = true)
    (traced : ∀ r, s.mtu.openRec = some r → r.traced) (history : s.mtu.history.length ≤ 8) (q : Sample) :
    (enterImpact q s).1.mtu.safe := by
  obtain ⟨r, hr⟩ := Option.isSome_iff_exists.1 opened
  have alarmed : (s.mtu.alarmed q.time).openRec = some r := hr
  unfold enterImpact
  simp only [alarmed]
  refine Mtu.safe.windowFull ?_ rfl _ _
  exact Mtu.safe_open rfl rfl ⟨rfl, rfl, rfl, rfl⟩ history (traced r hr)

theorem knock_safe {s : State} {q : Sample} (history : s.mtu.history.length ≤ 8) (hq : q.before.length ≤ 8) :
    (knock q s).1.mtu.safe :=
  enterImpact_safe (s := s.setMtu (s.mtu.opens .knock q.time q)) rfl
    (fun _ hr => Option.some.inj hr ▸ DropRec.peaked_traced _ hq) history q

theorem enterNormal_safe {s : State} (hr : s.mtu.openRec = none) (history : s.mtu.history.length ≤ 8) (t : Time) :
    (enterNormal t s).1.mtu.safe := by
  unfold enterNormal
  dsimp only
  split
  · exact Mtu.safe_closed rfl hr history
  · exact Mtu.safe_closed rfl hr history

/-- An offered record that is kept enters its place. -/
theorem offerRecord_kept {r : DropRec} {s : State} {i : Fin 4} (h : s.mtu.placeFor r = some i) :
    (offerRecord r s).mtu = s.mtu.enterLog i r := by
  simp [offerRecord, h]

theorem offerRecord_lost {r : DropRec} {s : State} (h : s.mtu.placeFor r = none) : (offerRecord r s).mtu = s.mtu := by
  simp [offerRecord, h]

/-- After a close no record is open, and of the rest the log and its order alone have changed (R168, R169). -/
theorem closeRecord_mtu (followed : Bool) (t : Time) (s : State) : ∃ log order,
    (closeRecord followed t s).mtu = { s.mtu with log := log, order := order, openRec := none } := by
  unfold closeRecord
  split
  next h => exact ⟨s.mtu.log, s.mtu.order, by rw [← h]⟩
  next r h =>
    rw [State.setMtu_mtu]
    generalize DropRec.mk .. = x
    cases hx : s.mtu.placeFor x with
    | some i => exact ⟨_, _, by rw [offerRecord_kept hx]; rfl⟩
    | none => exact ⟨_, _, by rw [offerRecord_lost hx]⟩

theorem closeRecord_closed (followed : Bool) (t : Time) (s : State) :
    (closeRecord followed t s).mtu.openRec = none ∧ (closeRecord followed t s).mtu.history = s.mtu.history := by
  obtain ⟨log, order, h⟩ := closeRecord_mtu followed t s
  rw [h]
  exact ⟨rfl, rfl⟩

/-! ## The samples (R154 to R159) -/

section
variable {q : Sample} {s : State} (h : s.mtu.safe)
include h

theorem actFalling_safe (state : s.mtu.state = .falling) (c : SampleClass) : (actFalling c q s).1.mtu.safe := by
  have recording : recordStates s.mtu.state = true := by rw [state]; rfl
  have caught : (s.mtu.caught q.time).safe := (h.mapOpen (by exact fun _ hr => hr)).settling recording _
  cases c
  case low => exact h
  case high =>
    have struck := h.mapOpen (f := fun r => { r with kind := .drop, freeFall := heldInterval q.time r.start })
      fun _ hr => hr
    exact enterImpact_safe (s := s.setMtu (s.mtu.mapOpen _)) (struck.1.trans recording) (fun _ => struck.traced)
      h.history q
  case band => exact caught
  case mid => exact caught

theorem actImpact_safe (state : s.mtu.state = .impact) (c : SampleClass) : (actImpact c q s).1.mtu.safe :=
  Mtu.safe.windowFull (Mtu.safe.mapOpen (m := { s.mtu with window := satAdd s.mtu.window 255 }) h
    (by exact fun _ hr => hr)) (by simp [Mtu.mapOpen, state, recordStates]) _ _

end

section
variable {q : Sample} {s : State} (hq : q.before.length ≤ 8) (h : s.mtu.safe)
include hq h

theorem actNormal_safe (c : SampleClass) : (actNormal c q s).1.mtu.safe := by
  cases c
  case low =>
    simp only [actNormal]
    split
    · exact enterFalling_safe h.history hq _
    · exact h
  case high => exact knock_safe h.history hq
  case band => exact h
  case mid => exact h

theorem actSettling_safe (c : SampleClass) : (actSettling c q s).1.mtu.safe := by
  cases c
  case band =>
    simp only [actSettling]
    split
    · obtain ⟨none, same⟩ := closeRecord_closed false q.time
        (s.setMtu { s.mtu with settleRun := satAdd s.mtu.settleRun 1000, fallRun := 0 })
      exact enterNormal_safe none (by rw [same]; exact h.history) _
    · exact h
  case low =>
    simp only [actSettling]
    split
    · obtain ⟨-, same⟩ := closeRecord_closed true q.time
        (s.setMtu { s.mtu.fallSample q.time with settleRun := 0 })
      exact enterFalling_safe (by rw [same]; exact h.history) hq _
    · exact h
  case high =>
    obtain ⟨-, same⟩ := closeRecord_closed false q.time s
    exact knock_safe (by rw [same]; exact h.history) hq
  case mid => exact h

theorem actSample_safe (c : SampleClass) : (actSample c q s).1.mtu.safe := by
  unfold actSample
  split
  next => exact actNormal_safe hq h c
  next state => exact actFalling_safe h state c
  next state => exact actImpact_safe h state c
  next => exact actSettling_safe hq h c
  next => exact h

end

theorem takeSample_safe {s : State} (h : s.mtu.safe) (x y z : Int) (t : Time) : (takeSample x y z t s).1.mtu.safe := by
  unfold takeSample
  split
  next state =>
    refine Mtu.safe_closed rfl (h.closed_iff.1 (by rw [state]; rfl)) h.history
  next =>
    exact actSample_safe h.history (h.joined h.history) _

/-! ## The holds and the time limits (R154, R157, R159, R162, R163, R172) -/

/-- The park hold runs out only where it runs, and there no record is open. -/
theorem parkExpires_safe {s : State} (h : s.mtu.safe) : (parkExpires s).mtu.safe := by
  unfold parkExpires
  split
  next due =>
    refine ⟨h.1, fun state => ?_, h.history, fun _ => h.traced⟩
    obtain ⟨-, -, stopped, -⟩ := h.parked state
    simp [stopped, timerDue] at due
  next => exact h

theorem shockExpires_safe {s : State} (h : s.mtu.safe) : (shockExpires s).1.mtu.safe := by
  unfold shockExpires
  split
  next due =>
    refine ⟨h.1, fun state => ?_, h.history, fun _ => h.traced⟩
    obtain ⟨-, -, -, stopped⟩ := h.parked state
    simp [stopped, timerDue] at due
  next => exact h

theorem takeMotionTable_safe {s : State} (h : s.mtu.safe) : (takeMotionTable s).1.mtu.safe := by
  unfold takeMotionTable
  dsimp only
  split
  next taken =>
    have none : s.mtu.openRec = none := by simpa using (Bool.and_eq_true_iff.1 taken).2
    exact shockExpires_safe (parkExpires_safe (Mtu.safe_closed (h.closed_iff.2 none) none h.history))
  next => exact h

theorem onSampleLoss_safe {s : State} (h : s.mtu.safe) : (onSampleLoss s).1.mtu.safe := by
  unfold onSampleLoss
  dsimp only
  split
  · exact h
  · split
    · exact h
    · split
      next state => exact Mtu.safe_closed rfl (h.closed_iff.1 (by rw [state]; rfl)) h.history
      next state => exact Mtu.safe.settling (m := { s.mtu with starved := true }) h (by simp [state, recordStates]) _
      · exact h
      · exact h
      · exact h

theorem onFallLimit_safe {s : State} (h : s.mtu.safe) : (onFallLimit s).1.mtu.safe := by
  unfold onFallLimit
  split
  next state _ =>
    split
    · refine (h.mapOpen (by exact fun _ hr => hr)).settling ?_ _
      simp [Mtu.mapOpen, state, recordStates]
    · exact h
  next => exact h

theorem onSettleLimit_safe {s : State} (h : s.mtu.safe) : (onSettleLimit s).1.mtu.safe := by
  unfold onSettleLimit
  split
  · obtain ⟨none, same⟩ := closeRecord_closed false s.now s
    exact enterNormal_safe none (by rw [same]; exact h.history) _
  · exact h

theorem onRetryTimer_safe {s : State} (h : s.mtu.safe) : (onRetryTimer s).1.mtu.safe := by
  unfold onRetryTimer
  (repeat' split) <;> exact h

theorem placeMotionRead_safe {s : State} (h : s.mtu.safe) : (placeMotionRead s).1.mtu.safe := by
  unfold placeMotionRead
  (repeat' split) <;> exact h

theorem motionDone_safe {s : State} (h : s.mtu.safe) (outcome : TxOutcome) (data : List Byte) :
    (motionDone outcome data s).1.mtu.safe := by
  unfold motionDone
  split <;> exact h

/-! ## The other blocks -/

theorem engineDone_safe {s : State} (h : s.mtu.safe) (seg : Seg) (x : EngTxn) (outcome : TxOutcome)
    (reason : Option AbsentReason) (data : List Byte) : (engineDone seg x outcome reason data s).1.mtu.safe := by
  unfold engineDone
  split
  · simpa using h
  · simpa [alone] using h
  · exact motionDone_safe h ..

/-- READ_DROP and CLEAR_DROP alone of the requests reach the Motion Unit (R170). -/
theorem Request.act_mtu {r : Request} (hr : r ≠ .readDrop) (hc : r ≠ .clearDrop) (p : List Byte) (s : State) :
    (r.act p s).state.mtu = s.mtu := by
  cases r
  case readDrop => exact absurd rfl hr
  case clearDrop => exact absurd rfl hc
  all_goals
    simp only [Request.act, requestIdentify, requestStageWrite, requestStageRead, requestTableRead, requestDiscard,
      requestCommit, requestSave, requestSettingsRead, requestSettingsWrite, requestFetch, requestAlertLevel,
      requestTelemetry, requestReadBay, requestReadPower, requestReadBrightness, requestBrightness,
      requestReadMotion, requestReadPoll, requestReadLink, requestClearIndicators, requestReset,
      requestSwapOf, requestRetry, readImageRun, longRead, firstPart, laterPart, acceptCommit]
    (repeat' split) <;> simp [refusal, reading, acting, State.clearMarks]

theorem Request.act_safe {s : State} (h : s.mtu.safe) (r : Request) (p : List Byte) : (r.act p s).state.mtu.safe := by
  by_cases hr : r = .readDrop
  · subst hr
    simp only [Request.act, requestReadDrop, firstPart, laterPart]
    (repeat' split) <;> exact h
  by_cases hc : r = .clearDrop
  · subst hc
    simp only [Request.act, requestClearDrop]
    split <;> exact h
  · rwa [Request.act_mtu hr hc]

theorem decodeRequest_safe {s : State} (h : s.mtu.safe) (code tag : Byte) (p : List Byte) :
    (decodeRequest code tag p s).1.mtu.safe := by
  have answered : ∀ r, (answerOf r p s).state.mtu.safe := fun r => by
    unfold answerOf
    (repeat' split)
    · exact h
    · exact h
    · exact h
    · exact Request.act_safe h r p
  unfold decodeRequest
  split
  · simpa using answered _
  · exact h

/-- Each of the events that may bring new tables at most marks the MOTION reload as due (R172). -/
theorem forceTables_mtu (mask : Byte) (s : State) :
    (s.forceTables mask).mtu = s.mtu ∨ (s.forceTables mask).mtu = { s.mtu with motionDue := true } := by
  unfold State.forceTables
  dsimp only
  (repeat' split)
  · exact .inr rfl
  · exact .inr rfl
  · exact .inl rfl
  · exact .inl rfl

theorem switchCommit_mtu (c : CommitRec) (s : State) :
    (switchCommit c s).1.mtu = s.mtu ∨ (switchCommit c s).1.mtu = { s.mtu with motionDue := true } := by
  simpa [switchCommit] using forceTables_mtu c.mask (s.setSru _)

theorem onCommitSwitch_mtu (s : State) :
    (onCommitSwitch s).1.mtu = s.mtu ∨ (onCommitSwitch s).1.mtu = { s.mtu with motionDue := true } := by
  unfold onCommitSwitch
  (repeat' split)
  · exact .inl rfl
  · exact switchCommit_mtu ..
  · exact .inl rfl

theorem onCommitLimit_mtu (s : State) :
    (onCommitLimit s).1.mtu = s.mtu ∨ (onCommitLimit s).1.mtu = { s.mtu with motionDue := true } := by
  unfold onCommitLimit
  (repeat' split)
  · exact .inl rfl
  · exact .inl rfl
  · exact switchCommit_mtu ..
  · exact .inl (by simp)

theorem onLoadEnd_mtu (answered : Bool) (s : State) :
    (onLoadEnd answered s).1.mtu = s.mtu ∨ (onLoadEnd answered s).1.mtu = { s.mtu with motionDue := true } := by
  unfold onLoadEnd
  (repeat' split)
  · exact .inr (by simp [actReset, State.forceMotion])
  · exact .inl (by simp)
  all_goals exact .inl rfl

theorem Mtu.safe.due {m n : Mtu} (h : m.safe) (hn : n = m ∨ n = { m with motionDue := true }) : n.safe := by
  rcases hn with rfl | rfl <;> exact h

/-- Every handling keeps the drop record to its states. -/
theorem handle_motionSafe (t : Task) (s : State) (h : s.motionSafe) : (handle t s).1.motionSafe := by
  rw [motionSafe_iff] at h ⊢
  cases t
  case request => exact decodeRequest_safe h ..
  case engineDone seg x outcome reason data => exact engineDone_safe h seg x outcome reason data
  case motionRead => exact placeMotionRead_safe h
  case sample => exact takeSample_safe h ..
  case motionSwitch => exact takeMotionTable_safe h
  case openMotion => exact h
  all_goals simpa [handle, alone, decodeMalformed, refusal, takeSupplyTable] using h

/-- Every command's first change keeps it so. -/
theorem commandAct_motionSafe (c : Instr) (s : State) (h : s.motionSafe) : (commandAct c s).1.motionSafe := by
  rw [motionSafe_iff] at h ⊢
  cases c
  case settingsLoadEnd => exact h.due (onLoadEnd_mtu ..)
  case commitSwitch => exact h.due (onCommitSwitch_mtu s)
  case commitLimitExpiry => exact h.due (onCommitLimit_mtu s)
  case motionRetryTimer => exact onRetryTimer_safe h
  case sampleLossExpiry => exact onSampleLoss_safe h
  case fallLimitExpiry => exact onFallLimit_safe h
  case settleLimitExpiry => exact onSettleLimit_safe h
  case parkHoldExpiry => exact parkExpires_safe h
  case shockHoldExpiry => exact shockExpires_safe h
  case slotStale | presenceRise | presenceFall =>
    simp only [commandAct]
    split <;> simpa [alone, makeStale] using h
  all_goals simpa [commandAct, alone] using h

end Sys2Proof.Machine
end

section
/-!
CLAIM. O8, every step keeps a drop record open exactly in its states.
-/

namespace Sys2Proof.Machine

/-- Settles O8: the operations of the Motion Unit open and close a record with the state they enter (`Mtu.safe_open`,
`Mtu.safe_closed`), and the other blocks leave both alone. -/
theorem stepKeepsMotionRecord : Obligations.StepKeepsMotionRecord := by
  intro s t safe h
  refine step_keeps State.motionSafe (fun _ _ h => h) (fun _ _ h => h) (fun _ _ h => h) handle_motionSafe
    commandAct_motionSafe (fun s a b _ => ?_) safe h
  exact Mtu.safe_closed (m := Mtu.reset) rfl rfl (Nat.zero_le _)

end Sys2Proof.Machine
end

section
/-!
SUPPORT. A request is decoded at the end of a service write alone (R173): no handling starts one.
-/

namespace Sys2Proof.Machine

/-- What an operation starts decodes no request. -/
def Silent (ts : List Task) : Prop := ts.any isRequest = false

@[simp] theorem silent_nil : Silent [] := rfl

@[simp] theorem silent_cons (t : Task) (ts : List Task) : Silent (t :: ts) ↔ isRequest t = false ∧ Silent ts := by
  simp [Silent]

@[simp] theorem silent_append (ts us : List Task) : Silent (ts ++ us) ↔ Silent ts ∧ Silent us := by
  simp [Silent, -List.any_eq_false]

@[simp] theorem silent_tasksIf (c : Bool) (ts : List Task) : Silent (tasksIf c ts) ↔ (c = true → Silent ts) := by
  cases c <;> simp [tasksIf]

@[simp] theorem silent_map {α : Type} (f : α → Task) (l : List α) :
    Silent (l.map f) ↔ ∀ x ∈ l, isRequest (f x) = false := by
  simp [Silent]

theorem Silent.of_mem {ts : List Task} (h : Silent ts) {t : Task} (ht : t ∈ ts) : isRequest t = false := by
  simpa using List.any_eq_false.1 h t ht

/-! ## Segment ports, telemetry and polls -/

theorem silent_descriptorTasks (source : SlotSource) (place : Nat) (ds : List Descriptor) (data : List Byte) :
    Silent (descriptorTasks source place ds data) := (silent_map ..).2 fun _ _ => rfl

theorem silent_snoopTasks (s : State) (key cmd : Byte) (data : List Byte) : Silent (snoopTasks s key cmd data) := by
  unfold snoopTasks
  induction List.range 16 with
  | nil => simp
  | cons p ps ih =>
    rw [List.flatMap_cons, silent_append]
    refine ⟨?_, ih⟩
    (repeat' split)
    · exact silent_descriptorTasks ..
    · exact silent_nil
    · exact silent_nil

@[simp] theorem silent_boundaryIfIdle (p : Port) (seg : Seg) : Silent (boundaryIfIdle p seg) := by
  unfold boundaryIfIdle
  split <;> simp [isRequest]

@[simp] theorem silent_absentTasks (seg : Seg) (q : List EngTxn) : Silent (absentTasks seg q) :=
  (silent_map ..).2 fun _ _ => rfl

@[simp] theorem silent_absentLane (lane : Option LaneTxn) : Silent (absentLane lane) := by
  cases lane <;> simp [absentLane, isRequest]

theorem silent_lostTasks (seg : Seg) (p : Port) : Silent (lostTasks seg p) := by
  unfold lostTasks
  split <;> simp [isRequest]

theorem silent_placeEngine (seg : Seg) (t : EngTxn) (s : State) : Silent (placeEngine seg t s).2 := by
  unfold placeEngine
  dsimp only
  (repeat' split) <;> simp [isRequest, absentTask]

theorem silent_handIntoLane (t : LaneTxn) (s : State) : Silent (handIntoLane t s).2 := by
  unfold handIntoLane
  dsimp only
  split <;> simp [isRequest]

theorem silent_atBoundary (seg : Seg) (s : State) : Silent (atBoundary seg s).2 := by
  unfold atBoundary
  dsimp only
  (repeat' split) <;> simp [isRequest, absentTask]

theorem silent_runPoll (place : Fin 24) (s : State) : Silent (runPoll place s).2 := by
  have report : ∀ outcome kind, Silent (refusedReport place outcome kind) := fun outcome kind => by
    cases kind <;> simp [refusedReport, isRequest]
  unfold runPoll
  dsimp only
  (repeat' split) <;> simp [isRequest, report]

theorem silent_pollDone (tag : PollTag) (t : EngTxn) (outcome : TxOutcome) (data : List Byte) (s : State) :
    Silent (pollDone tag t outcome data s).2 := by
  unfold pollDone
  dsimp only
  (repeat' split) <;> simp [isRequest, silent_descriptorTasks]

theorem silent_pollOnBay (bay : Bay) (old new : BayState) (s : State) : Silent (pollOnBay bay old new s).2 := by
  unfold pollOnBay
  exact (silent_append ..).2 ⟨(silent_map ..).2 fun _ _ => rfl, by simp [isRequest]⟩

theorem silent_runDescriptor (source : SlotSource) (place : Nat) (d : Descriptor) (data : List Byte) (s : State) :
    Silent (runDescriptor source place d data s).2 := by
  unfold runDescriptor
  split <;> simp [isRequest]

theorem silent_pollKindRule (place : Fin 24) (outcome : TxOutcome) (results : List (Fin 32 × DescResult)) (s : State) :
    Silent (pollKindRule place outcome results s).2 := by
  unfold pollKindRule
  split <;> simp [isRequest]

/-! ## Bays (R94) -/

@[simp] theorem isRequest_bayNotice (bay : Bay) (kind : NoticeKind) (severity : Severity) (arg1 arg2 : Int) :
    isRequest (bayNotice bay kind severity arg1 arg2) = false := rfl

/-- A state change is told, and the notices with it are posted. -/
@[simp] theorem silent_bayGoto (bay : Bay) (new : BayState) (r : BayRec) {notices : List Task} (h : Silent notices)
    (s : State) : Silent (bayGoto bay new r notices s).2 := by
  simp [bayGoto, bayNews, isRequest, h]

@[simp] theorem silent_toFaulted (bay : Bay) (reason : FaultReason) (r : BayRec) {notices : List Task}
    (h : Silent notices) (s : State) : Silent (toFaulted bay reason r notices s).2 := silent_bayGoto _ _ _ h s

@[simp] theorem silent_toReady (bay : Bay) (r : BayRec) (s : State) : Silent (toReady bay r s).2 := by
  unfold toReady
  split <;> simp

theorem silent_onReport (bay : Bay) (place : Fin 24) (outcome : TxOutcome) (results : List (Fin 32 × DescResult))
    (s : State) : Silent (onReport bay place outcome results s).2 := by
  unfold onReport
  dsimp only
  (repeat' split)
  · exact silent_nil
  · simp [isRequest]
  · simp [isRequest]
  · simp [isRequest]
  · exact silent_toFaulted _ _ _ (by simp) _

theorem silent_onStatusWord (bay : Bay) (value : Int) (s : State) : Silent (onStatusWord bay value s).2 := by
  unfold onStatusWord actOnWord failAdmission
  dsimp only
  (repeat' split) <;> simp

theorem silent_onLatch (bay : Bay) (s : State) : Silent (onLatch bay s).2 := by
  unfold onLatch latchCloses latchOpens latchOpensAdmitted toReleasing toIdentifying toReleased
  dsimp only
  (repeat' split) <;> simp

theorem silent_onPresence (bay : Bay) (s : State) : Silent (onPresence bay s).2 := by
  have notice : isRequest (lossNotice bay s) = false := by
    unfold lossNotice
    dsimp only
    split <;> rfl
  unfold onPresence toSeated toEmpty
  dsimp only
  (repeat' split) <;> simp [lossNotice, apply_ite isRequest]

theorem silent_toSeated (bay : Bay) (s : State) : Silent (toSeated bay s).2 := by
  unfold toSeated
  split <;> simp

theorem silent_onSeatExpiry (bay : Bay) (s : State) : Silent (onSeatExpiry bay s).2 := by
  unfold onSeatExpiry toIdentifying
  dsimp only
  (repeat' split) <;> simp

/-! ## The power path -/

@[simp] theorem silent_commandOn (x : Src) (s : State) : Silent (commandOn x s).2 := by
  unfold commandOn tellBay onSwitchOn
  dsimp only
  (repeat' split) <;> simp

@[simp] theorem silent_commandOff (x : Src) (sw : Switch) (s : State) : Silent (commandOff x sw s).2 := by
  unfold commandOff tellBay onSwitchOff
  dsimp only
  (repeat' split) <;> simp

@[simp] theorem silent_beginAttempt (kind : WalkKind) (target : Src) (rest : List Src) (s : State) :
    Silent (beginAttempt kind target rest s).2 := by
  simp [beginAttempt, isRequest]

@[simp] theorem silent_endWalk (kind : WalkKind) (s : State) : Silent (endWalk kind s).2 := by
  unfold endWalk
  split <;> simp [isRequest]

theorem silent_walkOn (kind : WalkKind) (candidates : List Src) (s : State) : Silent (walkOn kind candidates s).2 := by
  unfold walkOn
  (repeat' split) <;> simp [isRequest]

@[simp] theorem silent_completeAttempt (result : MoveResult) (severity : Severity) (lost : Bool) (s : State) :
    Silent (completeAttempt result severity lost s).2 := by
  have done : ∀ kind, Silent (doneTasks kind) := fun kind => by cases kind <;> simp [doneTasks, isRequest]
  have left : ∀ old, Silent (leaveOld old lost s).2 := fun old => by
    unfold leaveOld
    split <;> simp
  unfold completeAttempt
  dsimp only
  split <;> simp [isRequest, done, left]

@[simp] theorem silent_failAttempt (a : Attempt) (sw : Switch) (result : MoveResult) (s : State) :
    Silent (failAttempt a sw result s).2 := silent_commandOff ..

@[simp] theorem silent_onTakeover (lost : Src) (urgent : Bool) (s : State) : Silent (onTakeover lost urgent s).2 := by
  have departed : Silent s.departed := by
    unfold State.departed
    (repeat' split) <;> simp [isRequest]
  have stranded : Silent s.strandedRelease := by
    unfold State.strandedRelease
    (repeat' split) <;> simp [isRequest]
  have rest : ∀ x s, Silent (restSource x s).2 := fun x s => by
    unfold restSource
    split <;> simp
  have left : Silent (leaveForTakeover lost s).2 := by
    unfold leaveForTakeover
    dsimp only
    split <;> simp [rest]
  have taken : ∀ target urgent, Silent (takeOver lost target urgent s).2 := by
    simp [takeOver, isRequest, departed, left]
  unfold onTakeover noAlternate
  (repeat' split) <;> simp [isRequest, stranded, taken]

@[simp] theorem silent_onLoss (x : Src) (urgent trigger : Bool) (s : State) : Silent (onLoss x urgent trigger s).2 := by
  unfold onLoss loseTarget resumeWalk
  dsimp only
  (repeat' split) <;> simp [isRequest, State.dueSupply]

theorem silent_powerOnBay (bay : Bay) (old new : BayState) (s : State) : Silent (powerOnBay bay old new s).2 := by
  unfold powerOnBay
  dsimp only
  (repeat' split) <;> simp [isRequest]

theorem silent_tellWritten (slot : Fin 32) (old : Slot) (s : State) : Silent (tellWritten slot old s).2 := by
  have bays : Silent (bayOnWrite slot s) := by
    unfold bayOnWrite
    split <;> simp [isRequest]
  have power : Silent (powerOnWrite slot old s).2 := by
    unfold powerOnWrite temperatureWritten packTooHot packCool afterInput
    dsimp only
    (repeat' split) <;> simp [isRequest]
  simp [tellWritten, isRequest, bays, power]

theorem silent_tellLapsed (slot : Fin 32) (s : State) : Silent (tellLapsed slot s).2 := by
  have bays : Silent (bayOnLapse slot) := by
    unfold bayOnLapse
    split <;> simp [isRequest]
  have power : Silent (powerOnLapse slot s).2 := by
    unfold powerOnLapse afterInput
    (repeat' split) <;> simp [isRequest]
  simp [tellLapsed, isRequest, bays, power]

theorem silent_powerOnFlag (set : Bool) (s : State) : Silent (powerOnFlag set s).2 := by
  unfold powerOnFlag giveUpAttempt
  dsimp only
  (repeat' split) <;> simp [isRequest]

theorem silent_checkAlternates (s : State) : Silent (checkAlternates s).2 := by
  unfold checkAlternates
  split
  · exact silent_nil
  · exact (silent_map ..).2 fun _ _ => rfl

theorem silent_takeWaiting (s : State) : Silent (takeWaiting s).2 := by
  unfold takeWaiting bridgeAttempt
  (repeat' split) <;> simp [isRequest, silent_checkAlternates]

theorem silent_onTrigger (s : State) : Silent (onTrigger s).2 := by
  have taken : Silent s.repeatTakeover := by
    unfold State.repeatTakeover
    split <;> simp [isRequest]
  unfold onTrigger
  split <;> simp [isRequest, taken]

/-! ## The classifier, the brightness and the motion -/

theorem silent_evaluateClass (s : State) : Silent (evaluateClass s).2 := by
  unfold evaluateClass
  dsimp only
  split <;> simp [isRequest]

theorem silent_brightnessStep (s : State) : Silent (brightnessStep s).2 := by
  unfold brightnessStep fullStep writeOut placeDriver
  dsimp only
  (repeat' split) <;> simp [isRequest]

@[simp] theorem silent_flagTasks (was now : Bool) : Silent (flagTasks was now) := by simp [flagTasks, isRequest]

@[simp] theorem silent_enterImpact (q : Sample) (s : State) : Silent (enterImpact q s).2 := by
  unfold enterImpact
  dsimp only
  split <;> simp

theorem silent_takeSample (x y z : Int) (t : Time) (s : State) : Silent (takeSample x y z t s).2 := by
  unfold takeSample actOn actSample actNormal actFalling actImpact actSettling enterFalling enterNormal knock
  dsimp only
  (repeat' split) <;> simp [isRequest]

theorem silent_takeMotionTable (s : State) : Silent (takeMotionTable s).2 := by
  unfold takeMotionTable shockExpires
  dsimp only
  (repeat' split) <;> simp

/-! ## Every handling -/

theorem silent_laneDone (t : LaneTxn) (outcome : TxOutcome) (data : List Byte) (trailer : Byte) (s : State) :
    Silent (laneDone t outcome data trailer s).2 := by
  unfold laneDone handoff
  dsimp only
  (repeat' split) <;> simp [silent_snoopTasks]

theorem silent_engineDone (seg : Seg) (t : EngTxn) (outcome : TxOutcome) (reason : Option AbsentReason)
    (data : List Byte) (s : State) : Silent (engineDone seg t outcome reason data s).2 := by
  unfold engineDone motionDone sampleTasks
  split
  · exact silent_pollDone ..
  · exact silent_nil
  · split
    · simp [isRequest]
    · exact silent_nil

/-- A decoded request starts none: of the requests four start further work. -/
theorem silent_act (r : Request) (p : List Byte) (s : State) : Silent (r.act p s).tasks := by
  cases r
  case setBrightness =>
    simp only [Request.act, requestBrightness]
    (repeat' split) <;> simp [acting, refusal, acceptBrightness, isRequest]
  case requestSwap =>
    simp only [Request.act, requestSwapOf, toReleasing]
    split <;> simp [refusal]
  case retryBay =>
    simp only [Request.act, requestRetry, toIdentifying]
    split <;> simp [acting, refusal]
  case softReset =>
    simp only [Request.act, requestReset]
    (repeat' split) <;> simp [refusal, isRequest]
  all_goals
    simp only [Request.act, requestIdentify, requestStageWrite, requestStageRead, requestTableRead, requestDiscard,
      requestCommit, requestSave, requestSettingsRead, requestSettingsWrite, requestFetch, requestAlertLevel,
      requestTelemetry, requestReadBay, requestReadPower, requestReadBrightness, requestReadDrop,
      requestClearDrop, requestReadMotion, requestReadPoll, requestReadLink, requestClearIndicators,
      readImageRun, longRead, firstPart, laterPart, acceptCommit]
    (repeat' split) <;> simp [refusal, reading, acting]

theorem silent_decodeRequest (code tag : Byte) (p : List Byte) (s : State) :
    Silent (decodeRequest code tag p s).2 := by
  have answered : ∀ r, Silent (answerOf r p s).tasks := fun r => by
    unfold answerOf
    (repeat' split)
    · exact silent_nil
    · exact silent_nil
    · exact silent_nil
    · exact silent_act r p s
  unfold decodeRequest
  split
  · exact answered _
  · exact silent_nil

/-- No handling starts the decoding of a request. -/
theorem handle_silent (t : Task) (s : State) : Silent (handle t s).2 := by
  cases t
  case handIn => exact silent_handIntoLane ..
  case laneDone => exact silent_laneDone ..
  case request => exact silent_decodeRequest ..
  case place => exact silent_placeEngine ..
  case boundary => exact silent_atBoundary ..
  case engineDone seg x outcome reason data => exact silent_engineDone seg x outcome reason data s
  case isolate => simp [handle, isolatePort, silent_lostTasks]
  case resetPort => simp [handle, resetPort]
  case unhold => simp [handle, unholdPort]
  case pollRun => exact silent_runPoll ..
  case pollKind => exact silent_pollKindRule ..
  case pollBay => exact silent_pollOnBay ..
  case descriptor => exact silent_runDescriptor ..
  case slotWritten => exact silent_tellWritten ..
  case slotLapsed => exact silent_tellLapsed ..
  case slotsNever => exact (silent_map ..).2 fun _ _ => rfl
  case limitsSwitch => exact (silent_map ..).2 fun _ _ => rfl
  case trigger => exact silent_onTrigger s
  case powerBay => exact silent_powerOnBay ..
  case walk => exact silent_walkOn ..
  case confirm =>
    simp only [handle, confirmAttempt]
    split <;> simp
  case settled => exact silent_takeWaiting s
  case alternates => exact silent_checkAlternates s
  case takeover =>
    simp only [handle, repeatedTakeover]
    split <;> simp
  case flagPower => exact silent_powerOnFlag ..
  case admissionReport => exact silent_onReport ..
  case statusWord => exact silent_onStatusWord ..
  case latchTaken => exact silent_onLatch ..
  case presenceTaken => exact silent_onPresence ..
  case seat => exact silent_toSeated ..
  case seatExpiry => exact silent_onSeatExpiry ..
  case energy => exact silent_evaluateClass _
  case classify => exact silent_evaluateClass s
  case supplyClass => exact silent_evaluateClass _
  case brightStep => exact silent_brightnessStep s
  case sample => exact silent_takeSample ..
  case motionSwitch => exact silent_takeMotionTable s
  case pollAgain | portIdle | fallsDue | admissionAgain | goOn | releaseRequest | reselect | releaseDone |
      releaseBlocked | alternate | admissionCheck | identifyExpiry | admissionRestart | flagBay | ceiling |
      motionRead | flagChanged | openBay =>
    simp only [handle, runPollAgain, returnToIdle, entryFallsDue, runAdmissionAgain, goOn, onReleaseRequest, reselect,
      startSelection, onReleaseDone, toReleased, onReleaseBlocked, onAlternate, checkAdmission, onIdentifyExpiry,
      failAdmission, restartAdmission, onFlagCleared, toReleasing, recomputeCeiling, placeMotionRead, flagNews,
      openBayLines]
    (repeat' split) <;> simp [isRequest, bayNotice]
  all_goals simp [handle, alone, isRequest, decodeMalformed, respond, refusal, connectPort, setupEvent,
    beginAdmission, switchPolls, startPolls, takeSupplyTable, supplyParts, supplyBaySwitch, supplyPowerSwitch,
    resetBrightness, openPowerPath, openBrightness, openMotionUnit]

end Sys2Proof.Machine
end

section
/-!
SUPPORT. Which commands decode a request, and of which code (R173).
-/

namespace Sys2Proof.Machine

theorem silent_onLoadEnd (answered : Bool) (s : State) : Silent (onLoadEnd answered s).2 := by
  unfold onLoadEnd actReset openTraffic State.supplyReload
  dsimp only
  (repeat' split) <;> simp [isRequest, resetTasks, openingTasks, takeSupplyTable, supplyParts]

theorem silent_switchCommit (c : CommitRec) (s : State) : Silent (switchCommit c s).2 := by
  simp [switchCommit, switchTasks, supplyParts, isRequest]

theorem silent_failCommit (c : CommitRec) (status : Status) (payload : List Byte) (arg2 : Int) (s : State) :
    Silent (failCommit c status payload arg2 s).2 := by
  simp [failCommit, isRequest]

/-- A command that is no service write, no stop and no repeated start decodes none. -/
theorem commandAct_silent {c : Instr} (hc : Sys2Proof.Laws.serviceParts c = none) (stop : c ≠ .stopCondition)
    (restart : ∀ addr read, c ≠ .repeatedStart addr read) (s : State) : Silent (commandAct c s).2 := by
  cases c
  case stopCondition => exact absurd rfl stop
  case repeatedStart => exact absurd rfl (restart _ _)
  case settingsLoadEnd => exact silent_onLoadEnd ..
  case confirmTimerExpiry =>
    simp only [commandAct, expireConfirm, resumeWalk]
    (repeat' split) <;> simp [isRequest, State.dueSupply]
  case startupLimitExpiry =>
    simp only [commandAct, expireStartup, bridgeAttempt]
    (repeat' split) <;> simp
  case commitValidationEnd | commitSwitch | commitLimitExpiry =>
    simp only [commandAct, onValidationEnd, onCommitSwitch, onCommitLimit]
    (repeat' split) <;> simp [silent_switchCommit, silent_failCommit]
  case latchChange => exact silent_onLatch ..
  case seatTimerExpiry => exact silent_onSeatExpiry ..
  case presenceRise =>
    simp only [commandAct]
    split
    · exact silent_onPresence ..
    · exact silent_nil
  case presenceFall =>
    simp only [commandAct]
    split
    · exact silent_nil
    · exact silent_onPresence ..
  case settleLimitExpiry =>
    simp only [commandAct, onSettleLimit, enterNormal]
    split <;> simp [isRequest]
  case stepTimerExpiry =>
    simp only [commandAct, onStepTimer]
    split
    · exact silent_brightnessStep s
    · exact silent_nil
  case writeDataByte | heldReadLaneHandin | savePageDone | portTransactionComplete | transactionTimeLimit |
      recoveryEnd | suspensionExpiry | slotStale | identifyTimerExpiry | dcinOkChange | feedbackConducting |
      dwellTimerExpiry | bridgeTimerExpiry | motionRetryTimer | sampleLossExpiry | fallLimitExpiry | shockHoldExpiry =>
    simp only [commandAct, onDataByte, laterByte, onReadHandin, onSavePage, savePage, completeRunning, timeOutRunning,
      endRecovery, endSuspension, makeStale, onIdentifyExpiry, failAdmission, onDcin, onFeedback, expireDwell,
      expireBridge, onRetryTimer, onSampleLoss, onFallLimit, shockExpires, alone]
    (repeat' split) <;> simp [isRequest, bayNotice]
  case unknownRequest | identify | stageWrite | stageRead | tableRead | discard | commit | saveSettings | settingsRead |
      settingsWrite | fetchNotices | setAlertLevel | readTelemetry | readBay | readPower | readBrightness |
      setBrightness | requestSwap | retryBay | readDrop | clearDrop | readMotion | readPollStatus | readLinkStatus |
      clearIndicators | softReset =>
    simp [Sys2Proof.Laws.serviceParts] at hc
  all_goals
    simp [commandAct, alone, periodicFallsDue, setupFallsDue, admissionFallsDue, fallsDue, onAccWm, isRequest]

/-- A whole service write hands on one request, of its code. -/
theorem serviceWrite_decodes {code' tag' code tag : Byte} {p' p : List Byte} {s : State}
    (h : Task.request code tag p ∈ (serviceWrite code' tag' p' s).2) : code = code' := by
  unfold serviceWrite at h
  split at h <;> simp at h
  exact h.1

/-- The end of a write decodes the request of a service write alone, of the code that its command byte gave. -/
theorem endWritePhase_decodes {x : UpTxn} {code tag : Byte} {p : List Byte} {s : State}
    (h : Task.request code tag p ∈ (endWritePhase x s).2) : x.snap = none ∧ x.cmd.getD 0 = code := by
  have write : ∀ e cmd s, Silent (endPassWrite x e cmd s).2 := fun e cmd s => by
    unfold endPassWrite captureLevel
    dsimp only
    (repeat' split) <;> simp [isRequest]
  unfold endWritePhase at h
  dsimp only at h
  split at h
  · simpa [isRequest] using (write _ _ _).of_mem h
  · simp at h
  next service =>
    unfold serviceTask at h
    split at h <;> simp at h
    exact ⟨service, h.1.symm⟩

theorem onStop_decodes {code tag : Byte} {p : List Byte} {s : State} (h : Task.request code tag p ∈ (onStop s).2) :
    ∃ x, s.uli.txn = some x ∧ x.snap = none ∧ x.cmd.getD 0 = code := by
  unfold onStop at h
  split at h
  · simp at h
  next open_ => exact ⟨_, open_, endWritePhase_decodes h⟩
  next open_ =>
    split at h
    · simp at h
    · exact ⟨_, open_, endWritePhase_decodes h⟩
  all_goals simp at h

theorem onRepeatedStart_decodes {addr : Addr} {read : Bool} {code tag : Byte} {p : List Byte} {s : State}
    (h : Task.request code tag p ∈ (onRepeatedStart addr read s).2) :
    ∃ x, s.uli.txn = some x ∧ x.snap = none ∧ x.cmd.getD 0 = code := by
  have ended : ∀ x, Task.request code tag p ∈ (thenOpen (endWritePhase x s) addr read).2 →
      x.snap = none ∧ x.cmd.getD 0 = code := fun x hx => endWritePhase_decodes (by simpa [thenOpen] using hx)
  unfold onRepeatedStart at h
  split at h
  · simp at h
  · simp at h
  · simp [thenOpen] at h
  next open_ =>
    split at h
    · simp at h
    · exact ⟨_, open_, ended _ h⟩
  next open_ =>
    split at h
    · simp at h
    · exact ⟨_, open_, ended _ h⟩
  all_goals simp at h

/-- A request that a command decodes: the one whose service write it is, or that of the service write it ends. -/
theorem commandAct_decodes {c : Instr} {s : State} {code tag : Byte} {p : List Byte}
    (h : Task.request code tag p ∈ (commandAct c s).2) :
    (∃ q, Sys2Proof.Laws.serviceParts c = some (code, q)) ∨
      (c = .stopCondition ∨ ∃ addr read, c = .repeatedStart addr read) ∧
        ∃ x, s.uli.txn = some x ∧ x.snap = none ∧ x.cmd.getD 0 = code := by
  by_cases stop : c = .stopCondition
  · subst stop
    exact .inr ⟨.inl rfl, onStop_decodes h⟩
  by_cases restart : ∃ addr read, c = .repeatedStart addr read
  · obtain ⟨addr, read, rfl⟩ := restart
    exact .inr ⟨.inr ⟨addr, read, rfl⟩, onRepeatedStart_decodes h⟩
  cases hc : Sys2Proof.Laws.serviceParts c with
  | none =>
    have silent := commandAct_silent hc stop (fun addr read e => restart ⟨addr, read, e⟩) s
    simpa [isRequest] using silent.of_mem h
  | some parts =>
    left
    cases c <;> simp only [Sys2Proof.Laws.serviceParts, Option.some.injEq, reduceCtorEq] at hc <;> subst hc <;>
      exact ⟨_, by rw [serviceWrite_decodes h]⟩

end Sys2Proof.Machine
end

section
/-!
SUPPORT. The drop log (R168 to R170): an unread record leaves its place to a record with a larger peak code alone, and
requests aside only a close of the open record changes the log.
-/

namespace Sys2Proof.Machine

/-- Each unread record of the log keeps its place, or has left it to an unread one with a larger peak code. -/
def LogKept (m n : Mtu) : Prop :=
  ∀ i r, m.logAt i = some r → r.read = false →
    ∃ q, n.logAt i = some q ∧ q.read = false ∧ (q = r ∨ r.peakCode < q.peakCode)

theorem LogKept.of_log {m n : Mtu} (h : n.log = m.log) : LogKept m n := fun i r hr unread =>
  ⟨r, by rw [← hr]; unfold Mtu.logAt; rw [h], unread, .inl rfl⟩

theorem LogKept.congr_log {m n o : Mtu} (h : o.log = n.log) : LogKept m o ↔ LogKept m n := by
  unfold LogKept Mtu.logAt
  rw [h]

theorem LogKept.refl (m : Mtu) : LogKept m m := .of_log rfl

theorem LogKept.trans {m n o : Mtu} (h : LogKept m n) (k : LogKept n o) : LogKept m o := fun i r hr unread => by
  obtain ⟨q, hq, qUnread, larger⟩ := h i r hr unread
  obtain ⟨x, hx, xUnread, larger'⟩ := k i q hq qUnread
  refine ⟨x, hx, xUnread, ?_⟩
  rcases larger with rfl | larger
  · exact larger'
  · rcases larger' with rfl | larger'
    · exact .inr larger
    · exact .inr (larger.trans larger')

/-! ## The place of a record (R169) -/

theorem Mtu.enterLog_logAt_self (m : Mtu) (i : Fin 4) (r : DropRec) :
    (m.enterLog i r).logAt i = some { r with read := false } := by
  simp [Mtu.logAt, Mtu.enterLog]

theorem Mtu.enterLog_logAt_ne (m : Mtu) {i j : Fin 4} (r : DropRec) (h : j ≠ i) :
    (m.enterLog i r).logAt j = m.logAt j := by
  have h' : (i : Nat) ≠ j := fun e => h (Fin.ext e.symm)
  simp [Mtu.logAt, Mtu.enterLog, h']

/-- A record takes an empty place, that of a read record, or that of a record with a smaller peak code. -/
theorem Mtu.placeFor_cases {m : Mtu} {r : DropRec} {i : Fin 4} (h : m.placeFor r = some i) :
    m.logAt i = none ∨ (∃ q, m.logAt i = some q ∧ q.read = true) ∨ m.peakAt i < r.peakCode := by
  unfold Mtu.placeFor at h
  split at h
  next hi =>
    obtain rfl := Option.some.inj h
    exact .inl (by simpa using List.find?_some hi)
  next hi =>
    obtain rfl := Option.some.inj h
    exact .inr (.inl (by simpa [Option.any_eq_true] using List.find?_some hi))
  next => exact .inr (.inr (by simpa using (Option.filter_eq_some_iff.1 h).2))

theorem enterLog_logKept {m : Mtu} {r : DropRec} {i : Fin 4} (h : m.placeFor r = some i) :
    LogKept m (m.enterLog i r) := by
  intro j q hq unread
  by_cases hj : j = i
  · subst hj
    refine ⟨_, m.enterLog_logAt_self j r, rfl, .inr ?_⟩
    rcases m.placeFor_cases h with empty | ⟨x, hx, read⟩ | smaller
    · simp [empty] at hq
    · obtain rfl := Option.some.inj (hx.symm.trans hq)
      simp [read] at unread
    · simpa [Mtu.peakAt, hq] using smaller
  · exact ⟨q, by rw [m.enterLog_logAt_ne r hj, hq], unread, .inl rfl⟩

theorem offerRecord_logKept (r : DropRec) (s : State) : LogKept s.mtu (offerRecord r s).mtu := by
  cases h : s.mtu.placeFor r with
  | some i =>
    rw [offerRecord_kept h]
    exact enterLog_logKept h
  | none =>
    rw [offerRecord_lost h]
    exact .refl _

theorem closeRecord_logKept (followed : Bool) (t : Time) {m : Mtu} {s : State} (h : LogKept m s.mtu) :
    LogKept m (closeRecord followed t s).mtu := by
  unfold closeRecord
  split
  · exact h
  · exact h.trans ((offerRecord_logKept _ s).trans (.of_log rfl))

/-! ## The Motion Unit's operations -/

theorem enterFalling_log (start : Time) (q : Sample) (s : State) :
    (enterFalling start q s).1.mtu.log = s.mtu.log := rfl

theorem enterImpact_log (q : Sample) (s : State) : (enterImpact q s).1.mtu.log = s.mtu.log := by
  unfold enterImpact Mtu.windowFull
  dsimp only
  (repeat' split) <;> rfl

theorem knock_log (q : Sample) (s : State) : (knock q s).1.mtu.log = s.mtu.log := enterImpact_log q (s.setMtu _)

theorem enterNormal_log (t : Time) (s : State) : (enterNormal t s).1.mtu.log = s.mtu.log := by
  unfold enterNormal
  dsimp only
  split <;> rfl

theorem actSettling_logKept (c : SampleClass) (q : Sample) (s : State) :
    LogKept s.mtu (actSettling c q s).1.mtu := by
  cases c
  case band =>
    simp only [actSettling]
    split
    · rw [LogKept.congr_log (enterNormal_log ..)]
      exact closeRecord_logKept false q.time (.of_log rfl)
    · exact .of_log rfl
  case low =>
    simp only [actSettling]
    split
    · rw [LogKept.congr_log (enterFalling_log ..)]
      exact closeRecord_logKept true q.time (.of_log rfl)
    · exact .of_log rfl
  case high =>
    rw [actSettling, LogKept.congr_log (knock_log ..)]
    exact closeRecord_logKept false q.time (.refl _)
  case mid => exact .of_log rfl

theorem actSample_logKept (c : SampleClass) (q : Sample) (s : State) : LogKept s.mtu (actSample c q s).1.mtu := by
  unfold actSample
  split
  · cases c
    case low =>
      simp only [actNormal]
      split <;> exact .of_log rfl
    case high => exact .of_log (knock_log ..)
    case band => exact .of_log rfl
    case mid => exact .of_log rfl
  · cases c
    case high => exact .of_log (enterImpact_log q (s.setMtu _))
    all_goals exact .of_log rfl
  · refine .of_log ?_
    unfold actImpact Mtu.windowFull
    split <;> rfl
  · exact actSettling_logKept c q s
  · exact .refl _

theorem takeSample_logKept (x y z : Int) (t : Time) (s : State) : LogKept s.mtu (takeSample x y z t s).1.mtu := by
  unfold takeSample
  split
  · exact .of_log rfl
  · exact LogKept.trans (.of_log (by rfl)) (actSample_logKept _ _ (s.setMtu _))

theorem takeMotionTable_log (s : State) : (takeMotionTable s).1.mtu.log = s.mtu.log := by
  unfold takeMotionTable parkExpires shockExpires
  dsimp only
  (repeat' split) <;> rfl

theorem onSettleLimit_logKept (s : State) : LogKept s.mtu (onSettleLimit s).1.mtu := by
  unfold onSettleLimit
  split
  · rw [LogKept.congr_log (enterNormal_log ..)]
    exact closeRecord_logKept false s.now (.refl _)
  · exact .refl _

/-! ## Every handling -/

/-- A decoded request of another code than READ_DROP's and CLEAR_DROP's leaves the Motion Unit alone (R170). -/
theorem decodeRequest_mtu {code : Byte} (hr : code ≠ 0x30) (hc : code ≠ 0x31) (tag : Byte) (p : List Byte)
    (s : State) : (decodeRequest code tag p s).1.mtu = s.mtu := by
  unfold decodeRequest answerOf
  split
  next r found =>
    have named : r.code = code := by simpa using List.find?_some found
    have notRead : r ≠ .readDrop := fun e => hr (by rw [← named, e]; rfl)
    have notClear : r ≠ .clearDrop := fun e => hc (by rw [← named, e]; rfl)
    (repeat' split) <;> simp [refusal, Request.act_mtu notRead notClear]
  next => simp [refusal]

/-- A task that decodes neither READ_DROP nor CLEAR_DROP. -/
def SparesDrops (t : Task) : Prop := ∀ code tag p, t = .request code tag p → code ≠ 0x30 ∧ code ≠ 0x31

theorem SparesDrops.of_silent {ts : List Task} (h : Silent ts) : ∀ t ∈ ts, SparesDrops t := by
  rintro t ht code tag p rfl
  simpa [isRequest] using h.of_mem ht

theorem engineDone_log (seg : Seg) (x : EngTxn) (outcome : TxOutcome) (reason : Option AbsentReason)
    (data : List Byte) (s : State) : (engineDone seg x outcome reason data s).1.mtu.log = s.mtu.log := by
  unfold engineDone
  split
  · simp
  · simp [alone]
  · unfold motionDone
    split <;> rfl

theorem handle_logKept (t : Task) (s : State) (ht : SparesDrops t) : LogKept s.mtu (handle t s).1.mtu := by
  cases t
  case request code tag p =>
    obtain ⟨hr, hc⟩ := ht code tag p rfl
    exact .of_log (by rw [handle, decodeRequest_mtu hr hc])
  case engineDone seg x outcome reason data => exact .of_log (engineDone_log seg x outcome reason data s)
  case motionRead =>
    refine .of_log ?_
    simp only [handle, placeMotionRead]
    (repeat' split) <;> rfl
  case sample x y z time => exact takeSample_logKept x y z time s
  case motionSwitch => exact .of_log (takeMotionTable_log s)
  case openMotion => exact .of_log rfl
  all_goals exact .of_log (by simp [handle, alone, decodeMalformed, refusal, takeSupplyTable])

theorem LogKept.of_due {m n : Mtu} (h : n = m ∨ n = { m with motionDue := true }) : LogKept m n := by
  rcases h with rfl | rfl <;> exact .of_log rfl

theorem commandAct_logKept (c : Instr) (s : State) : LogKept s.mtu (commandAct c s).1.mtu := by
  cases c
  case settingsLoadEnd => exact .of_due (onLoadEnd_mtu ..)
  case commitSwitch => exact .of_due (onCommitSwitch_mtu s)
  case commitLimitExpiry => exact .of_due (onCommitLimit_mtu s)
  case settleLimitExpiry => exact onSettleLimit_logKept s
  case motionRetryTimer | sampleLossExpiry | fallLimitExpiry | parkHoldExpiry | shockHoldExpiry | slotStale |
      presenceRise | presenceFall =>
    refine .of_log ?_
    simp only [commandAct, onRetryTimer, onSampleLoss, onFallLimit, parkExpires, shockExpires, alone, makeStale]
    (repeat' split) <;> simp [Mtu.settling, Mtu.longFall, Mtu.mapOpen, loseSensor]
  all_goals exact .of_log (by simp [commandAct, alone])

end Sys2Proof.Machine
end

section
/-!
CLAIM. O12, an unread drop record keeps its place until a record with a larger peak takes it.
-/

namespace Sys2Proof.Machine

/-- Settles O12: a record enters the log where none, a read one, or one with a smaller peak stands
(`Mtu.placeFor_cases`); the rest of the log changes by READ_DROP and CLEAR_DROP alone, which no handling starts
(`handle_silent`) and a command decodes at the end of its service write alone (`commandAct_decodes`). -/
theorem unreadDropsStay : Obligations.UnreadDropsStay := by
  intro c s t wf agenda h noReset noRead noClear noEnd
  rw [exec_quiet c noReset agenda] at h
  obtain rfl := Host.Outcome.next.inj h
  refine run_keeps_class (fun u => LogKept s.mtu u.mtu) SparesDrops (fun _ _ k => k)
    (fun t u ht k => k.trans (handle_logKept t u ht)) (fun t u _ _ => .of_silent (handle_silent t u)) _ _ _ ?_
    (commandAct_logKept c s)
  rintro _ started code tag p rfl
  rcases commandAct_decodes started with ⟨q, parts⟩ | ⟨ends, x, hx, service, named⟩
  · cases c <;> simp only [Sys2Proof.Laws.serviceParts, Option.some.injEq, Prod.mk.injEq, reduceCtorEq] at parts
    case readDrop => exact absurd rfl (noRead _ _)
    case clearDrop => exact absurd rfl (noClear _ _)
    case unknownRequest =>
      obtain ⟨rfl, -⟩ := parts
      constructor <;> rintro rfl <;> simp [Instr.wellFormed, requestCodes] at wf
    all_goals
      obtain ⟨rfl, -⟩ := parts
      decide
  · obtain ⟨notRead, notClear⟩ := noEnd ends x hx service
    cases hcmd : x.cmd with
    | none =>
      obtain rfl : (0 : Byte) = code := by simpa [hcmd] using named
      decide
    | some b =>
      obtain rfl : b = code := by simpa [hcmd] using named
      exact ⟨fun e => notRead (e ▸ hcmd), fun e => notClear (e ▸ hcmd)⟩

end Sys2Proof.Machine
end

section
/-!
CLAIM. O18, the compact magnitude codes (R166).
-/

namespace Sys2Proof.Machine

theorem compact_small {m v : Nat} (h : v < 2 ^ (m + 1)) : compact m v = v := by
  simp [compact, h]

theorem compact_large {m v : Nat} (h : 2 ^ (m + 1) ≤ v) :
    compact m v = (Nat.log2 v - m) * 2 ^ m + v / 2 ^ (Nat.log2 v - m) := by
  simp [compact, Nat.not_lt.2 h]

theorem expand_small {m c : Nat} (h : c < 2 ^ (m + 1)) : expand m c = c := by
  simp [expand, h]

theorem expand_large {m c : Nat} (h : 2 ^ (m + 1) ≤ c) :
    expand m c = (c - (c / 2 ^ m - 1) * 2 ^ m) * 2 ^ (c / 2 ^ m - 1) := by
  simp [expand, Nat.not_lt.2 h]

/-- The top `m + 1` bits of a value lie between 2^m and 2^(m + 1). -/
theorem topBits_bounds {m v : Nat} (h : 2 ^ (m + 1) ≤ v) :
    2 ^ m ≤ v / 2 ^ (Nat.log2 v - m) ∧ v / 2 ^ (Nat.log2 v - m) < 2 ^ (m + 1) := by
  have nonzero : v ≠ 0 := by have := Nat.two_pow_pos (m + 1); omega
  have long : m + 1 ≤ Nat.log2 v := (Nat.le_log2 nonzero).2 h
  constructor
  · rw [Nat.le_div_iff_mul_le (Nat.two_pow_pos _), ← Nat.pow_add, Nat.add_sub_cancel' (by omega)]
    exact Nat.log2_self_le nonzero
  · rw [Nat.div_lt_iff_lt_mul (Nat.two_pow_pos _), ← Nat.pow_add,
      show m + 1 + (Nat.log2 v - m) = Nat.log2 v + 1 by omega]
    exact Nat.lt_log2_self

/-- A code whose mantissa has its leading bit shows its exponent above the mantissa. -/
theorem expand_code {m e f : Nat} (he : 1 ≤ e) (low : 2 ^ m ≤ f) (high : f < 2 ^ (m + 1)) :
    expand m (e * 2 ^ m + f) = f * 2 ^ e := by
  have leading : f / 2 ^ m = 1 := Nat.div_eq_of_lt_le (by simpa using low) (by rw [Nat.pow_succ] at high; omega)
  have exponent : (e * 2 ^ m + f) / 2 ^ m = e + 1 := by
    rw [Nat.add_comm, Nat.add_mul_div_right _ _ (Nat.two_pow_pos m), leading, Nat.add_comm]
  have large : 2 ^ (m + 1) ≤ e * 2 ^ m + f := by
    have := Nat.mul_le_mul_right (2 ^ m) he
    rw [Nat.pow_succ]
    omega
  rw [expand_large large, exponent, Nat.add_sub_cancel, Nat.add_sub_cancel_left]

/-- Decoding gives the value with its lower bits cleared. -/
theorem expand_compact (m v : Nat) :
    expand m (compact m v) = v / 2 ^ (Nat.log2 v - m) * 2 ^ (Nat.log2 v - m) := by
  by_cases h : v < 2 ^ (m + 1)
  · have short : Nat.log2 v - m = 0 := by
      by_cases nonzero : v = 0
      · simp [nonzero]
      · have := (Nat.log2_lt nonzero).2 h
        omega
    rw [compact_small h, expand_small h, short, Nat.pow_zero, Nat.div_one, Nat.mul_one]
  · have large : 2 ^ (m + 1) ≤ v := Nat.not_lt.1 h
    obtain ⟨low, high⟩ := topBits_bounds large
    have nonzero : v ≠ 0 := by have := Nat.two_pow_pos (m + 1); omega
    have long : m + 1 ≤ Nat.log2 v := (Nat.le_log2 nonzero).2 large
    rw [compact_large large, expand_code (by omega) low high]

/-- The largest code of the values below 2^n. -/
theorem compact_lt {m n v : Nat} (hm : m < n) (h : v < 2 ^ n) : compact m v < (n - m + 1) * 2 ^ m := by
  have one : 2 ^ (m + 1) ≤ (n - m + 1) * 2 ^ m := by
    rw [Nat.pow_succ, Nat.mul_comm]
    exact Nat.mul_le_mul_right _ (by omega)
  by_cases small : v < 2 ^ (m + 1)
  · rw [compact_small small]
    exact small.trans_le one
  · have large : 2 ^ (m + 1) ≤ v := Nat.not_lt.1 small
    have nonzero : v ≠ 0 := by have := Nat.two_pow_pos (m + 1); omega
    have short : Nat.log2 v < n := (Nat.log2_lt nonzero).2 h
    have high := (topBits_bounds large).2
    have exponent := Nat.mul_le_mul_right (2 ^ m) (show Nat.log2 v - m ≤ n - m - 1 by omega)
    have split : (n - m + 1) * 2 ^ m = (n - m - 1) * 2 ^ m + 2 ^ (m + 1) := by
      rw [show n - m + 1 = n - m - 1 + 2 by omega, Nat.add_mul, Nat.pow_succ, Nat.mul_comm 2]
    rw [compact_large large]
    omega

/-- An axis value within its 12 bits (R153). -/
theorem axis_square {x : Int} (low : -2048 ≤ x) (high : x ≤ 2047) : x * x ≤ 4194304 := by nlinarith

theorem squared_le {x y z : Int} (hx : x * x ≤ 4194304) (hy : y * y ≤ 4194304) (hz : z * z ≤ 4194304) :
    squared x y z ≤ 12582912 := by
  unfold squared
  omega

/-- Settles O18: the top bits lie between two powers of two (`topBits_bounds`), so the exponent stands above them in the
code and is read back from there (`expand_code`). -/
theorem compactCodesKeepTopBits : Obligations.CompactCodesKeepTopBits := by
  refine ⟨fun m v => ⟨compact_small, compact_large, expand_compact m v⟩, fun m c => ⟨expand_small, expand_large⟩,
    fun v hv => ⟨?_, ?_⟩, fun r q => ⟨rfl, rfl, rfl⟩, fun x y z x1 x2 y1 y2 z1 z2 => ?_, ?_⟩
  · exact Nat.le_of_lt_succ (compact_lt (m := 10) (by decide) hv)
  · exact Nat.le_of_lt_succ (compact_lt (m := 7) (by decide) hv)
  · have bound := squared_le (axis_square x1 x2) (axis_square y1 y2) (axis_square z1 z2)
    exact ⟨bound, by omega⟩
  · decide +kernel

end Sys2Proof.Machine
end

section
/-!
CLAIM. O58, when a motion read is placed (R152, R153).
-/

namespace Sys2Proof.Machine

/-! ## The placement of a motion read -/

section
variable {s : State}

/-- One read is outstanding at a time (R152). -/
theorem handle_motionRead_outstanding (h : s.mtu.placed = true) : handle .motionRead s = (s, []) := by
  simp [handle, placeMotionRead, h]

/-- The accelerometer's key has no entry on SP4 (R153). -/
theorem handle_motionRead_stray (free : s.mtu.placed = false)
    (stray : ∀ r, routeOf s.sru.committed s.motionParams.key = some r → r.seg ≠ .sp4) :
    handle .motionRead s = (s.setMtu (s.mtu.readFailed s.now .noRoute), []) := by
  simp only [handle, placeMotionRead, free]
  cases hr : routeOf s.sru.committed s.motionParams.key with
  | none => rfl
  | some r => simp [stray r hr]

variable {r : RouteSnap} (free : s.mtu.placed = false)
  (hr : routeOf s.sru.committed s.motionParams.key = some r) (hseg : r.seg = .sp4)
include free hr hseg

theorem handle_motionRead_places : handle .motionRead s =
    (s.setMtu { s.mtu with placed := true }, [.place .sp4 (motionTxn s.motionParams.command r)]) := by
  simp [handle, placeMotionRead, free, hr, hseg]

/-- At a port that is busy or recovers, with room, the read joins the queue (R29). -/
theorem run_motionRead_joins (waits : (s.port .sp4).state = .busy ∨ (s.port .sp4).state = .recovering)
    (room : (s.port .sp4).queue.length < 8) : run stepFuel [.motionRead] s =
      (s.setMtu { s.mtu with placed := true }).setPort .sp4
        ((s.port .sp4).join (motionTxn s.motionParams.command r)) := by
  have here : ¬((s.port .sp4).state = .suspended ∨ (s.port .sp4).state = .isolated) := by
    rcases waits with h | h <;> simp [h]
  have busy : (s.port .sp4).state ≠ .idle := by rcases waits with h | h <;> simp [h]
  have joins := place_joins (s := s.setMtu { s.mtu with placed := true }) (seg := .sp4)
    (motionTxn s.motionParams.command r) here room
  refine run_chain (handle_motionRead_places free hr hseg) (joins.trans ?_)
  exact congrArg _ (if_neg busy)

end

/-! ## ACC_WM and the retry timer (R152) -/

section
variable {s : State} (h : s.agenda = [])
include h

theorem exec_accWmChange_level {asserted : Bool}
    (quiet : asserted = false ∨ s.lines.accWm = true ∨ s.uli.phase = .starting) :
    exec (.accWmChange asserted) s = .next { s with lines := { s.lines with accWm := asserted } } := by
  refine exec_start (.accWmChange asserted) nofun h ?_
  rcases quiet with quiet | quiet | quiet <;> simp [commandAct, onAccWm, tasksIf, State.opened, quiet]

/-- A rising ACC_WM once traffic is open. -/
theorem exec_accWmChange_rises (low : s.lines.accWm = false) (opened : s.uli.phase ≠ .starting) :
    exec (.accWmChange true) s =
      .next (run stepFuel [.motionRead] { s with lines := { s.lines with accWm := true } }) := by
  rw [exec_quiet (.accWmChange true) nofun h]
  simp [commandAct, onAccWm, tasksIf, State.opened, low, opened]

variable {since : Time} (hs : s.mtu.failTime = some since)
include hs

theorem exec_motionRetryTimer_early (early : s.mtu.retryArmed = false ∨ age s.now since < 10) :
    exec .motionRetryTimer s = .next s := by
  have idle : commandAct .motionRetryTimer s = (s, []) := by
    rcases early with early | early
    · simp [commandAct, onRetryTimer, hs, early]
    · simp [commandAct, onRetryTimer, hs, retryTime, Nat.not_le.2 early]
  rw [exec_quiet .motionRetryTimer nofun h, idle, run_nil]

/-- The retry is used up, and reads again while ACC_WM stands (log entry 36). -/
theorem exec_motionRetryTimer_due (armed : s.mtu.retryArmed = true) (due : 10 ≤ age s.now since) :
    exec .motionRetryTimer s = .next (run stepFuel (tasksIf s.lines.accWm [.motionRead])
      (s.setMtu { s.mtu with retryArmed := false })) := by
  rw [exec_quiet .motionRetryTimer nofun h]
  simp [commandAct, onRetryTimer, hs, armed, retryTime, due]

end

/-- Settles O58: ACC_WM and the retry timer start at most one `Task.motionRead`, which is placed, fails, or finds
another read outstanding. -/
theorem motionReadsArePlaced : Obligations.MotionReadsArePlaced := by
  intro s h
  dsimp only
  refine ⟨exec_accWmChange_level h (.inl rfl), fun quiet => ?_, fun low opened free => ⟨fun r hr hseg room => ?_,
    fun stray => ?_⟩, fun since hs => ⟨exec_motionRetryTimer_early h hs, fun armed due => ⟨fun quiet => ?_,
    fun r high free hr hseg room => ?_⟩⟩⟩
  · by_cases level : s.lines.accWm = true ∨ s.uli.phase = .starting
    · exact exec_accWmChange_level h (.inr level)
    · obtain ⟨low, opened⟩ := not_or.1 level
      have outstanding : s.mtu.placed = true := (quiet.resolve_left low).resolve_left opened
      rw [exec_accWmChange_rises h (by simpa using low) opened]
      exact congrArg _ (run_only (handle_motionRead_outstanding outstanding))
  · obtain ⟨waits, space⟩ := room
    rw [exec_accWmChange_rises h low opened]
    exact congrArg _ (run_motionRead_joins free hr hseg waits space)
  · rw [exec_accWmChange_rises h low opened]
    exact congrArg _ (run_only (handle_motionRead_stray free stray))
  · rw [exec_motionRetryTimer_due h hs armed due]
    rcases quiet with low | outstanding
    · rw [low]
      rfl
    · cases s.lines.accWm
      · rfl
      · exact congrArg _ (run_only (handle_motionRead_outstanding outstanding))
  · obtain ⟨waits, space⟩ := room
    rw [exec_motionRetryTimer_due h hs armed due, high]
    exact congrArg _ (run_motionRead_joins (s := s.setMtu { s.mtu with retryArmed := false }) free hr hseg waits space)

end Sys2Proof.Machine
end

section
/-!
SUPPORT. What a record that closes leaves in the log (R168, R169), and the run that follows the clearing of the
shock-hold flag while a confirm is awaited and a driver write executes (R106, R163).
-/

namespace Sys2Proof.Machine

/-! ## A record that closes (R164, R168) -/

/-- The record as it is offered to the log. -/
def State.offeredRec (s : State) (followed : Bool) (t : Time) (r : DropRec) : DropRec :=
  { r with
    followed := followed
    settle := heldInterval t s.mtu.entry
    snap := match r.snap with | some x => some x | none => some s.dropSnap }

section
variable {s : State}

/-- Its place is that of its peak code (R169). -/
theorem placeFor_offeredRec (r : DropRec) (followed : Bool) (t : Time) :
    s.mtu.placeFor (s.offeredRec followed t r) = s.mtu.placeFor r := rfl

variable {r : DropRec} (hr : s.mtu.openRec = some r) (followed : Bool) (t : Time)
include hr

theorem closeRecord_logAt (i : Fin 4) :
    (closeRecord followed t s).mtu.logAt i = (offerRecord (s.offeredRec followed t r) s).mtu.logAt i := by
  simp only [closeRecord, hr]
  rfl

/-- It stands in its place unread. -/
theorem closeRecord_logged {i : Fin 4} (hi : s.mtu.placeFor r = some i) :
    (closeRecord followed t s).mtu.logAt i = some { s.offeredRec followed t r with read := false } := by
  rw [closeRecord_logAt hr, offerRecord_kept (by rw [placeFor_offeredRec, hi])]
  exact Mtu.enterLog_logAt_self ..

theorem closeRecord_log_kept {i : Fin 4} (hi : s.mtu.placeFor r ≠ some i) :
    (closeRecord followed t s).mtu.logAt i = s.mtu.logAt i := by
  rw [closeRecord_logAt hr]
  rw [← placeFor_offeredRec r followed t] at hi
  cases hj : s.mtu.placeFor (s.offeredRec followed t r) with
  | none => rw [offerRecord_lost hj]
  | some j =>
    rw [offerRecord_kept hj]
    exact Mtu.enterLog_logAt_ne _ _ fun e => hi (by rw [hj, e])

end

/-! ## What frees a bay when the flag clears (R106) -/

/-- The bays once one of them has been told that the flag is clear. -/
def State.flagFreed (s : State) (bay : Bay) : State := (onFlagCleared bay s).1

section
variable {s : State} {bay : Bay}

theorem onFlagCleared_releases (suspect : (s.bay bay).state = .suspect) (opened : (s.bay bay).latchClosed = false) :
    onFlagCleared bay s = (s.setBay bay ((s.bay bay).releasing .latch s.now),
      [.pollBay bay .suspect .releasing, .powerBay bay .suspect .releasing, .energy]) := by
  simp [onFlagCleared, suspect, opened, toReleasing, bayGoto, bayNews, tasksIf, counted, endsSwap, BayRec.releasing]

theorem onFlagCleared_stays (h : (s.bay bay).state ≠ .suspect ∨ (s.bay bay).latchClosed = true) :
    onFlagCleared bay s = (s, []) := by
  refine if_neg fun ⟨suspect, opened⟩ => h.elim (· suspect) fun closed => ?_
  simp [closed] at opened

theorem flagFreed_waiting (h : Waiting s) (bay : Bay) : Waiting (s.flagFreed bay) := by
  simpa [Waiting, State.flagFreed] using h

theorem flagFreed_mtu (s : State) (bay : Bay) : (s.flagFreed bay).mtu = s.mtu := by simp [State.flagFreed]

theorem flagFreed_self (suspect : (s.bay bay).state = .suspect) (opened : (s.bay bay).latchClosed = false) :
    (s.flagFreed bay).bay bay = (s.bay bay).releasing .latch s.now := by
  simp [State.flagFreed, onFlagCleared_releases suspect opened]

/-- A bay that does not wait for the flag stays as it is, whichever is told. -/
theorem flagFreed_other {other : Bay} (h : other ≠ bay) : (s.flagFreed bay).bay other = s.bay other := by
  unfold State.flagFreed onFlagCleared
  split
  · exact State.setBay_bay_ne s _ h
  · rfl

end

/-! ## The run of the news -/

/-- A run that has worked off its first tasks goes on with the rest, with fuel left, at a state of this kind. -/
def GoesOn (P : State → Prop) (fuel : Nat) (rest : List Task) (u : State) : Prop :=
  ∃ t m, fuel ≤ m ∧ P t ∧ u = run m rest t

theorem GoesOn.imp {P Q : State → Prop} {fuel : Nat} {rest : List Task} {u : State} (h : GoesOn P fuel rest u)
    (imp : ∀ t, P t → Q t) : GoesOn Q fuel rest u := by
  obtain ⟨t, m, hm, ht, e⟩ := h
  exact ⟨t, m, hm, imp t ht, e⟩

section
variable {s : State}

/-- While a driver write executes the brightness step ends what a new energy sum starts (R117, R119, R144). -/
theorem run_energy_goesOn {code : Nat} (hw : s.brc.write = .executing code) (rest : List Task) (fuel : Nat) :
    GoesOn (Aside s) fuel rest (run (fuel + 3) (.energy :: rest) s) := by
  obtain ⟨aside, -, -⟩ := handle_reckons (t := .energy) rfl hw
  have news : (handle .energy s).2 = [] ∨ (handle .energy s).2 = [.ceiling] := by
    simp only [handle, recomputeEnergy, evaluateClass]
    split <;> simp
  rw [run_cons]
  rcases news with news | news
  · exact ⟨_, fuel + 2, by omega, aside, by rw [news, List.nil_append]⟩
  · obtain ⟨second, -, -⟩ := handle_reckons (t := .ceiling) rfl (aside.write.trans hw)
    have then_ : (handle .ceiling (handle .energy s).1).2 = [] ∨
        (handle .ceiling (handle .energy s).1).2 = [.brightStep] := by
      generalize (handle .energy s).1 = u
      simp only [handle, recomputeCeiling]
      (repeat' split) <;> simp
    rw [news, List.singleton_append, run_cons]
    rcases then_ with then_ | then_
    · exact ⟨_, fuel + 1, by omega, aside.trans second, by rw [then_, List.nil_append]⟩
    · have third := brightnessStep_waited ((aside.trans second).write.trans hw)
      refine ⟨_, fuel, le_rfl, (aside.trans second).trans third.1.aside, ?_⟩
      rw [then_, List.singleton_append, run_cons]
      exact congrArg (fun news => run fuel (news ++ rest) _) third.2

variable (awaits : Waiting s)
include awaits

/-- The news of a bay that has entered RELEASING are worked off, and its request waits for the attempt's end (R83). -/
theorem run_releasing_goesOn {bay : Bay} {origin : Origin} (state : (s.bay bay).state = .releasing)
    (ho : (s.bay bay).origin = some origin) (old : BayState) (rest : List Task) (fuel : Nat) :
    GoesOn (Aside s) fuel rest
      (run (fuel + 7) (.pollBay bay old .releasing :: .powerBay bay old .releasing :: .energy :: rest) s) := by
  obtain ⟨polls, m, hm, polled⟩ := run_pollBay (s := s) (old := old) (new := .releasing) (.inr (.inl rfl)) bay
    (.powerBay bay old .releasing :: .energy :: rest) (fuel + 5)
  obtain ⟨m, rfl⟩ : ∃ k, m = k + 5 := ⟨m - 5, by omega⟩
  have heard : Aside s { s with polls := polls } := by constructor <;> rfl
  have told := handle_powerBay_releasing (s := { s with polls := polls })
    (fun _ => show (s.bay bay).carries = true by simp [BayRec.carries, state]) ho old
  have known := heard.trans (knowing_aside { s with polls := polls } bay)
  obtain ⟨awaited, code, executes⟩ := known.waiting awaits
  have asked := handle_release_waits (origin := origin) (by rw [known.bay, state])
    (.inl (by simp [Ppc.engaged, awaited]))
  rw [polled, run_cons, told, List.singleton_append, run_cons, asked, List.nil_append]
  generalize hw : (State.mk _ _ _ _ _ _ _ _ _ _ _ _ _ _ _ _) = w
  have waiting : Aside s w := known.trans (by rw [← hw]; constructor <;> rfl)
  obtain ⟨t, k, hk, aside, e⟩ := run_energy_goesOn (waiting.write.trans (known.write.symm.trans executes)) rest m
  exact ⟨t, k, by omega, waiting.trans aside, e⟩

/-- A bay that is told of the clear flag: its news are worked off (R106). -/
theorem run_flagBay (bay : Bay) (rest : List Task) (fuel : Nat) :
    GoesOn (Aside (s.flagFreed bay)) fuel rest (run (fuel + 8) (.flagBay bay :: rest) s) := by
  have told : handle (.flagBay bay) s = onFlagCleared bay s := rfl
  rw [run_cons, told, State.flagFreed]
  by_cases free : (s.bay bay).state = .suspect ∧ (s.bay bay).latchClosed = false
  · rw [onFlagCleared_releases free.1 free.2]
    exact run_releasing_goesOn (s := s.setBay bay _) awaits (origin := .latch) (by simp [BayRec.releasing])
      (by simp [BayRec.releasing]) .suspect rest fuel
  · have stays : (s.bay bay).state ≠ .suspect ∨ (s.bay bay).latchClosed = true := by
      simpa [Classical.or_iff_not_imp_left] using free
    rw [onFlagCleared_stays stays]
    exact ⟨s, fuel + 7, by omega, .refl s, rfl⟩

/-- Both bays and then the Power Path Controller are told of the clear flag, and nothing else follows. -/
theorem run_flagCleared :
    ∃ t, Aside (s.flagFreed .a) t ∧ Aside (t.flagFreed .b) (run stepFuel [.flagChanged false] s) := by
  have told : run stepFuel [.flagChanged false] s =
      run (4087 + 8) [.flagBay .a, .flagBay .b, .flagPower false] s := by
    rw [run_step]
    rfl
  obtain ⟨t, m, hm, freed, e⟩ := run_flagBay awaits .a [.flagBay .b, .flagPower false] 4087
  obtain ⟨m, rfl⟩ : ∃ k, m = k + 8 := ⟨m - 8, by omega⟩
  obtain ⟨t', m', hm', freed', e'⟩ := run_flagBay (freed.waiting (flagFreed_waiting awaits .a)) .b [.flagPower false] m
  obtain ⟨m', rfl⟩ : ∃ k, m' = k + 1 := ⟨m' - 1, by omega⟩
  refine ⟨t, freed, ?_⟩
  have waited := run_waited m' [.settled] t' (by simp [waits]) (freed'.waiting (flagFreed_waiting (freed.waiting
    (flagFreed_waiting awaits .a)) .b))
  rw [told, e, e']
  exact freed'.trans waited.aside

end

/-- A clear flag that frees no bay, and for which nothing waits. -/
theorem run_flagCleared_quiet {s : State}
    (h : ∀ bay, (s.bay bay).state ≠ .suspect ∨ (s.bay bay).latchClosed = true)
    (settled : takeWaiting s = (s, [])) : run stepFuel [.flagChanged false] s = s := by
  have told : ∀ bay rest fuel, run (fuel + 1) (.flagBay bay :: rest) s = run fuel rest s := fun bay rest fuel => by
    rw [run_cons, show handle (.flagBay bay) s = (s, []) from onFlagCleared_stays (h bay)]
    rfl
  calc run stepFuel [.flagChanged false] s
      = run 4095 [.flagBay .a, .flagBay .b, .flagPower false] s := by rw [run_step]; rfl
    _ = run 4092 [.settled] s := by
      rw [told, told, run_cons]
      rfl
    _ = s := by
      rw [run_cons, show handle .settled s = (s, []) from settled, List.nil_append, run_nil]

end Sys2Proof.Machine
end

section
/-!
CLAIM. O60, the timers of the Motion Unit: sample loss, the fall and settle limits, and the two holds (R154, R157, R159,
R160, R162, R163, R168).
-/

namespace Sys2Proof.Machine

section
variable {s : State} (h : s.agenda = [])
include h

/-! ## Sample loss (R154) -/

section
variable {since : Time} (hs : s.mtu.lossSince = some since)
include hs

theorem exec_sampleLossExpiry_early (early : s.mtu.starved = true ∨ age s.now since < 50) :
    exec .sampleLossExpiry s = .next s := by
  have idle : commandAct .sampleLossExpiry s = (s, []) := by
    simp only [commandAct, onSampleLoss, hs]
    exact if_pos (by rcases early with early | early <;> simp [sampleLossTime, early])
  rw [exec_quiet .sampleLossExpiry nofun h, idle, run_nil]

section
variable (fed : s.mtu.starved = false) (due : 50 ≤ age s.now since)
include fed due

theorem exec_sampleLossExpiry_normal (state : s.mtu.state = .normal) :
    exec .sampleLossExpiry s = .next (loseSensor (s.setMtu { s.mtu with starved := true })) := by
  have late : ¬age s.now since < sampleLossTime := Nat.not_lt.2 due
  have lost : commandAct .sampleLossExpiry s = (loseSensor (s.setMtu { s.mtu with starved := true }), []) := by
    simp [commandAct, onSampleLoss, hs, fed, late, state]
  rw [exec_quiet .sampleLossExpiry nofun h, lost, run_nil]

theorem exec_sampleLossExpiry_impact (state : s.mtu.state = .impact) :
    exec .sampleLossExpiry s = .next (s.setMtu (Mtu.settling { s.mtu with starved := true } s.now)) := by
  have late : ¬age s.now since < sampleLossTime := Nat.not_lt.2 due
  have ends : commandAct .sampleLossExpiry s =
      (s.setMtu (Mtu.settling { s.mtu with starved := true } s.now), []) := by
    simp [commandAct, onSampleLoss, hs, fed, late, state, State.setMtu]
  rw [exec_quiet .sampleLossExpiry nofun h, ends, run_nil]

end

end

/-! ## The fall limit (R157) -/

theorem exec_fallLimitExpiry {r : DropRec} (state : s.mtu.state = .falling) (hr : s.mtu.openRec = some r) :
    exec .fallLimitExpiry s = .next (if s.motionParams.fallLimit ≤ age s.now r.start then
      s.setMtu (s.mtu.longFall s.motionParams.fallLimit s.now) else s) := by
  have ends : commandAct .fallLimitExpiry s = (if s.motionParams.fallLimit ≤ age s.now r.start then
      s.setMtu (s.mtu.longFall s.motionParams.fallLimit s.now) else s, []) := by
    simp only [commandAct, onFallLimit, state, hr]
    split <;> rfl
  rw [exec_quiet .fallLimitExpiry nofun h, ends, run_nil]

/-! ## The settle limit (R159, R160) -/

theorem exec_settleLimitExpiry_early (early : age s.now s.mtu.entry < s.motionParams.settleLimit) :
    exec .settleLimitExpiry s = .next s := by
  have idle : commandAct .settleLimitExpiry s = (s, []) := if_neg fun ⟨_, due⟩ => by omega
  rw [exec_quiet .settleLimitExpiry nofun h, idle, run_nil]

/-- With holds of their own lengths and no reload that waits, the record closes and NORMAL is entered. -/
theorem exec_settleLimitExpiry_due (state : s.mtu.state = .settling)
    (due : s.motionParams.settleLimit ≤ age s.now s.mtu.entry) (fed : s.mtu.starved = false)
    (current : s.mtu.motionDue = false) (flag : s.mtu.shockHold = true) (shock : s.motionParams.shockHold ≠ 0) :
    let c := closeRecord false s.now s
    exec .settleLimitExpiry s = .next (c.setMtu (c.mtu.normal s.motionParams s.now s.now)) := by
  intro c
  obtain ⟨log, order, hc⟩ := closeRecord_mtu false s.now s
  have params : c.motionParams = s.motionParams := by simp [c, State.motionParams]
  have entered : enterNormal s.now c = (c.setMtu (c.mtu.normal s.motionParams s.now s.now), [.motionSwitch]) := by
    have kept : c.mtu.starved = false ∧ c.mtu.shockHold = true := by simp [c, hc, fed, flag]
    simp [enterNormal, Mtu.normal, params, kept, flagTasks, tasksIf, shock, c]
  have acts : commandAct .settleLimitExpiry s = enterNormal s.now c := if_pos ⟨state, due⟩
  rw [exec_quiet .settleLimitExpiry nofun h, acts, entered]
  refine congrArg _ (run_only ?_)
  have same : c.mtu.motionDue = false := by simp [c, hc, current]
  simp [handle, takeMotionTable, Mtu.normal, same]

/-! ## The park hold (R162) -/

theorem exec_parkHoldExpiry {x : Timer} (hx : s.mtu.parkHold = some x) :
    exec .parkHoldExpiry s = .next (if x.dur ≤ age s.now x.start then
      { s with mtu := { s.mtu with park := false, parkHold := none } } else s) := by
  rw [exec_start .parkHoldExpiry nofun h rfl]
  simp only [commandAct, alone, parkExpires, hx, timerDue, Timer.due, decide_eq_true_eq]
  rfl

/-! ## The shock hold (R106, R163) -/

section
variable {x : Timer} (hx : s.mtu.shockTimer = some x)
include hx

theorem exec_shockHoldExpiry_early (early : age s.now x.start < x.dur) : exec .shockHoldExpiry s = .next s := by
  have idle : commandAct .shockHoldExpiry s = (s, []) := if_neg (by simp [hx, timerDue, Timer.due, early])
  rw [exec_quiet .shockHoldExpiry nofun h, idle, run_nil]

theorem exec_shockHoldExpiry_due (flag : s.mtu.shockHold = true) (due : x.dur ≤ age s.now x.start) :
    exec .shockHoldExpiry s = .next (run stepFuel [.flagChanged false]
      (s.setMtu { s.mtu with shockHold := false, shockTimer := none })) := by
  have clears : commandAct .shockHoldExpiry s =
      (s.setMtu { s.mtu with shockHold := false, shockTimer := none }, flagTasks s.mtu.shockHold false) :=
    if_pos (by simp [hx, timerDue, Timer.due, due])
  rw [exec_quiet .shockHoldExpiry nofun h, clears, flag]
  rfl

end

end

/-- A SUSPECT bay with an open latch is released, whether or not the other one is (R106). -/
theorem run_flagCleared_releases {s : State} (awaits : Waiting s) {bay : Bay} (suspect : (s.bay bay).state = .suspect)
    (opened : (s.bay bay).latchClosed = false) :
    (run stepFuel [.flagChanged false] s).mtu = s.mtu ∧
      (run stepFuel [.flagChanged false] s).bay bay = (s.bay bay).releasing .latch s.now := by
  obtain ⟨t, first, second⟩ := run_flagCleared awaits
  refine ⟨by rw [second.mtu, flagFreed_mtu, first.mtu, flagFreed_mtu], (second.bay bay).trans ?_⟩
  cases bay with
  | a => rw [flagFreed_other (by decide), first.bay, flagFreed_self suspect opened]
  | b =>
    have kept : t.bay .b = s.bay .b := by rw [first.bay, flagFreed_other (by decide)]
    have now : t.now = s.now := first.now.trans (by simp [State.flagFreed])
    rw [flagFreed_self (by rw [kept, suspect]) (by rw [kept, opened]), kept, now]

/-- Settles O60: a motion timer that is due makes its one change, and of these the clearing of the flag alone starts the
work of another block. -/
theorem motionTimersExpire : Obligations.MotionTimersExpire := by
  intro s h
  refine ⟨fun since hs => ⟨exec_sampleLossExpiry_early h hs, fun fed due =>
      ⟨exec_sampleLossExpiry_normal h hs fed due, exec_sampleLossExpiry_impact h hs fed due⟩⟩,
    fun r state hr => ⟨fun early => ?_, fun due => ?_⟩,
    fun r state hr => ⟨exec_settleLimitExpiry_early h, fun due fed current flag shock park => ?_⟩,
    fun x => exec_parkHoldExpiry h,
    fun x hx flag => ⟨exec_shockHoldExpiry_early h hx, fun due => ⟨fun none waits => ?_,
      fun bay engaged suspect opened => ?_⟩⟩⟩
  · rw [exec_fallLimitExpiry h state hr, if_neg (by omega)]
  · rw [exec_fallLimitExpiry h state hr, if_pos due]
    simp only [Mtu.longFall, Mtu.mapOpen, hr]
    rfl
  · obtain ⟨log, order, hc⟩ := closeRecord_mtu false s.now s
    refine ⟨_, exec_settleLimitExpiry_due h state due fed current flag shock, rfl, rfl, ?_, ?_, ?_, ?_, ?_,
      fun i hi => ⟨_, closeRecord_logged hr false s.now hi, rfl, rfl, rfl, rfl, rfl⟩,
      fun i hi => closeRecord_log_kept hr false s.now hi, ?_⟩
    all_goals simp [Mtu.normal, hc, flag, shock, park]
  · rw [exec_shockHoldExpiry_due h hx flag due]
    refine congrArg _ (run_flagCleared_quiet none ?_)
    rcases waits with awaits | idle
    · exact if_pos (by simp [Ppc.engaged, awaits])
    · obtain ⟨-, -, pending, bridge, supply, -, release, check⟩ := idle
      exact takeWaiting_nothing (s := s.setMtu _) ⟨supply, release, check, .inr ⟨pending, bridge⟩⟩
  · obtain ⟨mtu, released⟩ := run_flagCleared_releases
      (s := s.setMtu { s.mtu with shockHold := false, shockTimer := none }) engaged.waiting suspect opened
    exact ⟨_, exec_shockHoldExpiry_due h hx flag due, by rw [mtu]; rfl, by rw [mtu]; rfl, released⟩

end Sys2Proof.Machine
end

section
/-!
SUPPORT. A sample by its class and the state it finds (R154 to R160, R164, R165, R168): what each of the Motion Unit's
operations on it comes to.
-/

namespace Sys2Proof.Machine

/-! ## The class of a sample (Table 8-2) -/

section
variable {p : MotionParams} {mag : Nat}

theorem classOfSample_low (low : mag < p.fall * p.fall) : classOfSample p mag = .low := if_pos low

theorem classOfSample_other (low : ¬mag < p.fall * p.fall) (high : ¬p.impact * p.impact < mag) :
    classOfSample p mag = if p.low * p.low ≤ mag ∧ mag ≤ p.high * p.high then .band else .mid :=
  (if_neg low).trans (if_neg high)

/-- With the thresholds in order HIGH lies above LOW. -/
theorem classOfSample_high (fall : p.fall ≤ p.low) (low : p.low ≤ p.high) (high : p.high < p.impact)
    (h : p.impact * p.impact < mag) : classOfSample p mag = .high := by
  have above : p.fall * p.fall ≤ p.impact * p.impact := Nat.mul_le_mul (by omega) (by omega)
  exact (if_neg (by omega)).trans (if_pos h)

theorem classOfSample_beq_high (fall : p.fall ≤ p.low) (low : p.low ≤ p.high) (high : p.high < p.impact) :
    (classOfSample p mag == .high) = decide (p.impact * p.impact < mag) := by
  by_cases h : p.impact * p.impact < mag
  · rw [classOfSample_high fall low high h, decide_eq_true h]
    rfl
  · rw [classOfSample, if_neg h, decide_eq_false h]
    (repeat' split) <;> rfl

/-- With the thresholds in order BAND lies between LOW and HIGH. -/
theorem classOfSample_band (fall : p.fall ≤ p.low) (high : p.high < p.impact)
    (h : p.low * p.low ≤ mag ∧ mag ≤ p.high * p.high) : classOfSample p mag = .band := by
  have above : p.fall * p.fall ≤ p.low * p.low := Nat.mul_le_mul fall fall
  have below : p.high * p.high ≤ p.impact * p.impact := Nat.mul_le_mul high.le high.le
  rw [classOfSample_other (by omega) (by omega), if_pos h]

end

/-! ## A sample joins the history and the open record (R155, R165) -/

/-- The sample that is taken. -/
def State.sampleOf (s : State) (x y z : Int) (t : Time) : Sample :=
  { x := x, y := y, z := z, time := t, mag := squared x y z, before := s.mtu.history }

/-- The Motion Unit's record once a sample has joined it. -/
def Mtu.joined (m : Mtu) (q : Sample) : Mtu :=
  { m.mapOpen (·.tracked q) with history := addHistory m.history q.code, samples := m.samples + 1 }

theorem DropRec.tracked_start (r : DropRec) (q : Sample) : (r.tracked q).start = r.start := by
  unfold DropRec.tracked
  split <;> rfl

/-- The state in which a sample acts. -/
def State.joined (s : State) (x y z : Int) (t : Time) : State := s.setMtu (s.mtu.joined (s.sampleOf x y z t))

theorem State.joined_openRec {s : State} {r : DropRec} (hr : s.mtu.openRec = some r) (x y z : Int) (t : Time) :
    (s.joined x y z t).mtu.openRec = some (r.tracked (s.sampleOf x y z t)) := by
  simp [State.joined, Mtu.joined, Mtu.mapOpen, hr]

section
variable {s : State} {x y z : Int} {c : SampleClass} (t : Time)
  (hc : classOfSample s.motionParams (squared x y z) = c)
include hc

/-- Out of SENSOR_LOST a sample joins and acts at once. -/
theorem handle_sample (h : s.mtu.state ≠ .sensorLost) :
    handle (.sample x y z t) s = actSample c (s.sampleOf x y z t) (s.joined x y z t) :=
  (if_neg h).trans (by rw [← hc]; rfl)

theorem handle_sample_normal (h : s.mtu.state = .normal) :
    handle (.sample x y z t) s = actNormal c (s.sampleOf x y z t) (s.joined x y z t) := by
  have here : (s.joined x y z t).mtu.state = .normal := h
  rw [handle_sample t hc (by simp [h]), actSample, here]

theorem handle_sample_falling (h : s.mtu.state = .falling) :
    handle (.sample x y z t) s = actFalling c (s.sampleOf x y z t) (s.joined x y z t) := by
  have here : (s.joined x y z t).mtu.state = .falling := h
  rw [handle_sample t hc (by simp [h]), actSample, here]

theorem handle_sample_impact (h : s.mtu.state = .impact) :
    handle (.sample x y z t) s = actImpact c (s.sampleOf x y z t) (s.joined x y z t) := by
  have here : (s.joined x y z t).mtu.state = .impact := h
  rw [handle_sample t hc (by simp [h]), actSample, here]

theorem handle_sample_settling (h : s.mtu.state = .settling) :
    handle (.sample x y z t) s = actSettling c (s.sampleOf x y z t) (s.joined x y z t) := by
  have here : (s.joined x y z t).mtu.state = .settling := h
  rw [handle_sample t hc (by simp [h]), actSample, here]

end

/-! ## PARK (R162, R164) -/

theorem heldInterval_self (t : Time) : heldInterval t t = 0 := by simp [heldInterval, reached, age]

theorem flagTasks_set (was : Bool) : flagTasks was true = if was then [] else [.flagChanged true] := by
  cases was <;> rfl

/-- The PARK-to-impact time is 0 where the strike itself asserts PARK. -/
theorem parkToImpact_alarmed (m : Mtu) (t : Time) : parkToImpact t (m.alarmed t).parkTime =
    if m.park then (match m.parkTime with | some u => heldInterval t u | none => 0) else 0 := by
  cases h : m.park
  · simp [Mtu.alarmed, h, parkToImpact, heldInterval_self]
  · simp [Mtu.alarmed, h]
    rfl

/-! ## The states entered (R156 to R160) -/

/-- The record of a strike. -/
def State.struckRec (s : State) (q : Sample) (r : DropRec) : DropRec :=
  { r with
    impacts := 1
    parkToImpact := some (parkToImpact q.time (s.mtu.alarmed q.time).parkTime)
    snap := some s.dropSnap }

theorem enterImpact_eq {s : State} {r : DropRec} (hr : s.mtu.openRec = some r) (q : Sample) :
    enterImpact q s =
      ((s.setMtu (Mtu.windowFull { s.mtu.alarmed q.time with
          state := .impact, entry := q.time, window := 1, openRec := some (s.struckRec q r) }
          s.motionParams.window q.time)).notify
        { kind := .impact, severity := .urgent, subject := 0, arg1 := dropCode r.kind, arg2 := compact 10 q.mag },
      flagTasks s.mtu.shockHold true) := by
  have same : (s.mtu.alarmed q.time).openRec = some r := hr
  simp only [enterImpact, same]
  rfl

/-- A blow opens a record and strikes (R156, R159). -/
theorem knock_eq (q : Sample) (s : State) : knock q s =
    ((s.setMtu (Mtu.windowFull { s.mtu.alarmed q.time with
        state := .impact, entry := q.time, window := 1, seq := s.mtu.seq + 1
        openRec := some (s.struckRec q (openedRecord s.mtu.seq .knock q.time q)) }
        s.motionParams.window q.time)).notify
      { kind := .impact, severity := .urgent, subject := 0, arg1 := dropCode .knock, arg2 := compact 10 q.mag },
    flagTasks s.mtu.shockHold true) :=
  enterImpact_eq (s := s.setMtu (s.mtu.opens .knock q.time q)) rfl q

section
variable {s : State} {r : DropRec} (hr : s.mtu.openRec = some r) (q : Sample)
include hr

/-- A fall that strikes is a DROP (R157). -/
theorem actFalling_high {start : Time} (hs : r.start = start) : actFalling .high q s =
    ((s.setMtu (Mtu.windowFull { s.mtu.alarmed q.time with
        state := .impact, entry := q.time, window := 1
        openRec := some (s.struckRec q { r with kind := .drop, freeFall := heldInterval q.time start }) }
        s.motionParams.window q.time)).notify
      { kind := .impact, severity := .urgent, subject := 0, arg1 := dropCode .drop, arg2 := compact 10 q.mag },
    flagTasks s.mtu.shockHold true) :=
  enterImpact_eq (s := s.setMtu (s.mtu.mapOpen _)) (by rw [State.setMtu_mtu, Mtu.mapOpen, hr, ← hs]; rfl) q

/-- A fall that ends without a strike is CAUGHT (R157). -/
theorem Mtu.caught_eq {start : Time} (hs : r.start = start) :
    s.mtu.caught q.time = Mtu.settling { s.mtu with openRec := some { r with
      kind := .caught, freeFall := heldInterval q.time start, parkToImpact := none } } q.time := by
  simp only [Mtu.caught, Mtu.mapOpen, hr, ← hs]
  rfl

/-- A sample of the impact window (R158). -/
theorem actImpact_eq {c : SampleClass} {high : Prop} [Decidable high] (hc : (c == .high) = decide high) :
    actImpact c q s = (s.setMtu (Mtu.windowFull { s.mtu with
      window := satAdd s.mtu.window 255
      openRec := some { r with impacts := if high then satAdd r.impacts 255 else r.impacts } }
      s.motionParams.window q.time), []) := by
  simp only [actImpact, Mtu.windowSample, Mtu.mapOpen, hr, hc, decide_eq_true_eq]
  rfl

end

theorem enterNormal_mtu (t : Time) (s : State) : (enterNormal t s).1.mtu =
    { s.mtu.normal s.motionParams s.now t with
      state := if s.mtu.starved then .sensorLost else .normal
      entry := if s.mtu.starved then s.now else t } := by
  cases h : s.mtu.starved <;> simp [enterNormal, Mtu.normal, h, loseSensor]

/-! ## A record closes with a sample (R159, R168) -/

section
variable {m n : Mtu} (log : n.log = m.log)
include log

theorem logAt_congr : n.logAt = m.logAt := funext fun i => by simp [Mtu.logAt, log]

theorem peakAt_congr : n.peakAt = m.peakAt := funext fun i => by simp only [Mtu.peakAt, logAt_congr log]

theorem weakest_congr : n.weakest = m.weakest := by
  funext l
  induction l with
  | nil => rfl
  | cons i rest ih => rw [Mtu.weakest, Mtu.weakest, ih, peakAt_congr log]

/-- The place of a record follows from the log and its order alone (R169). -/
theorem placeFor_congr (order : n.order = m.order) : n.placeFor = m.placeFor := by
  funext r
  rw [Mtu.placeFor, Mtu.placeFor, Mtu.emptyPlace, Mtu.emptyPlace, Mtu.readPlace, Mtu.readPlace, weakest_congr log,
    peakAt_congr log, logAt_congr log, order]

end

/-- A record has gone to the log: it stands in the place it takes, if any, and every other place is as it was. -/
def Logged (m : Mtu) (r stored : DropRec) (n : Mtu) : Prop :=
  (∀ i, m.placeFor r = some i → n.logAt i = some stored) ∧ ∀ i, m.placeFor r ≠ some i → n.logAt i = m.logAt i

/-- The fields that `closeRecord` reads for a snapshot are as they were. -/
theorem closeRecord_dropSnap (followed : Bool) (t : Time) (u : State) :
    (closeRecord followed t u).dropSnap = u.dropSnap := by simp [State.dropSnap, State.bay]

theorem closeRecord_motionParams (followed : Bool) (t : Time) (u : State) :
    (closeRecord followed t u).motionParams = u.motionParams := by simp [State.motionParams]

section
variable {m : Mtu} {u : State} {r : DropRec} (hr : u.mtu.openRec = some r)
  (found : u.mtu.log = m.log ∧ u.mtu.order = m.order) (t : Time)
include hr found

/-- What a closed record leaves in the log, as the sample found it, stays there through what is entered next. -/
theorem closeRecord_logged_through (followed : Bool) {v : State}
    (log : v.mtu.log = (closeRecord followed t u).mtu.log) :
    Logged m r { u.offeredRec followed t r with read := false } v.mtu := by
  rw [Logged, ← placeFor_congr found.1 found.2, logAt_congr log, ← logAt_congr found.1]
  exact ⟨fun _ => closeRecord_logged hr followed t, fun _ => closeRecord_log_kept hr followed t⟩

/-- NORMAL after a close, with both holds started (R160). -/
theorem enterNormal_closed :
    let v := (enterNormal t (closeRecord false t u)).1
    Logged m r { u.offeredRec false t r with read := false } v.mtu ∧ v.mtu.seq = u.mtu.seq ∧ v.mtu.openRec = none ∧
      v.mtu.entry = (if u.mtu.starved then u.now else t) ∧
      v.mtu.state = (if u.mtu.starved then .sensorLost else .normal) ∧
      v.mtu.parkHold = (if u.motionParams.parkHold = 0 then none else
        some { start := u.now, dur := u.motionParams.parkHold }) ∧
      v.mtu.shockTimer = (if u.motionParams.shockHold = 0 then none else
        some { start := u.now, dur := u.motionParams.shockHold }) := by
  refine ⟨closeRecord_logged_through hr found t false (enterNormal_log ..), ?_⟩
  obtain ⟨log, order, hc⟩ := closeRecord_mtu false t u
  simp [enterNormal_mtu, Mtu.normal, closeRecord_motionParams, hc]

/-- FALLING after a close (R156, R159). -/
theorem enterFalling_closed (start : Time) (q : Sample) :
    let v := (enterFalling start q (closeRecord true t u)).1
    Logged m r { u.offeredRec true t r with read := false } v.mtu ∧ v.mtu.seq = u.mtu.seq + 1 ∧
      v.mtu.state = .falling ∧ v.mtu.openRec = some (openedRecord u.mtu.seq .drop start q) ∧ v.mtu.park = true ∧
      v.mtu.shockHold = true := by
  refine ⟨closeRecord_logged_through hr found t true (enterFalling_log ..), ?_⟩
  obtain ⟨log, order, hc⟩ := closeRecord_mtu true t u
  simp [enterFalling, Mtu.opens, Mtu.alarmed, hc]

/-- The strike after a close (R158, R159). -/
theorem knock_closed (q : Sample) :
    let v := (knock q (closeRecord false t u)).1
    Logged m r { u.offeredRec false t r with read := false } v.mtu ∧ v.mtu.seq = u.mtu.seq + 1 ∧
      v.mtu.openRec = some (u.struckRec q (openedRecord u.mtu.seq .knock q.time q)) ∧
      v.mtu.state = (if u.motionParams.window ≤ 1 then .settling else .impact) ∧ v.mtu.park = true ∧
      v.mtu.shockHold = true := by
  refine ⟨closeRecord_logged_through hr found t false (knock_log ..), ?_⟩
  obtain ⟨log, order, hc⟩ := closeRecord_mtu false t u
  by_cases full : u.motionParams.window ≤ 1 <;>
    simp [knock_eq, Mtu.windowFull, Mtu.settling, Mtu.alarmed, State.struckRec, closeRecord_motionParams,
      closeRecord_dropSnap, hc, full]

end

end Sys2Proof.Machine
end

section
/-!
CLAIM. O59, the samples of a motion read and what each does (R153 to R160, R164, R165, R168, R169).
-/

namespace Sys2Proof.Machine

/-! ## The read and the return of the sensor (R153, R154) -/

section
variable {s : State} {x : EngTxn} (issuer : x.issuer = .mtu) (seg : Seg) (why : Option AbsentReason) (data : List Byte)
include issuer

/-- The four samples of a read come 2.5 ms apart, rounded to whole ms, and with ACC_WM asserted another read follows. -/
theorem handle_motionRead_done : handle (.engineDone seg x .done why data) s =
    (s.setMtu { s.mtu with
        placed := false, lastRead := some .done, starved := false, lossSince := some s.now, retryArmed := false },
      [.sample (i16 data 0 / 16) (i16 data 2 / 16) (i16 data 4 / 16) (s.now - 7),
        .sample (i16 data 6 / 16) (i16 data 8 / 16) (i16 data 10 / 16) (s.now - 5),
        .sample (i16 data 12 / 16) (i16 data 14 / 16) (i16 data 16 / 16) (s.now - 2),
        .sample (i16 data 18 / 16) (i16 data 20 / 16) (i16 data 22 / 16) (s.now - 0)] ++
        if s.lines.accWm then [.motionRead] else []) := by
  simp only [handle, engineDone, issuer]
  rfl

theorem handle_motionRead_failed {outcome : TxOutcome} (failed : outcome ≠ .done) :
    handle (.engineDone seg x outcome why data) s = (s.setMtu (s.mtu.readFailed s.now outcome), []) := by
  simp only [handle, engineDone, issuer]
  exact if_neg failed

end

/-- The first sample in SENSOR_LOST. -/
theorem handle_sample_lost {s : State} (lost : s.mtu.state = .sensorLost) (x y z : Int) (t : Time) :
    handle (.sample x y z t) s =
      (sensorReturns t s, (if s.mtu.shockHold then [.flagChanged false] else []) ++ [.sample x y z t]) := by
  refine (if_pos lost).trans ?_
  cases s.mtu.shockHold <;> rfl

/-- Settles O59: a sample's class and the state it finds name one operation of the Motion Unit, and the lemmas above say
what that comes to. -/
theorem samplesDriveMotion : Obligations.SamplesDriveMotion := by
  refine ⟨fun s seg x outcome why data issuer => ⟨fun done => ?_, handle_motionRead_failed issuer seg why data⟩,
    fun s x y z time lost => handle_sample_lost lost x y z time, ?_⟩
  · rw [done]
    exact handle_motionRead_done issuer seg why data
  · intro s x y z time p m fall ordered impact mag low high band held axis peaked tracked m0 snap opened run start
      alarmed toPark settling struck flag taken only
    have hheld : held = heldInterval := by
      funext later earlier
      simp [held, heldInterval, reached, age]
    clear_value held
    subst hheld
    have hflag : flag = flagTasks m.shockHold true := (flagTasks_set _).symm
    have hpark : toPark = parkToImpact time (m.alarmed time).parkTime := (parkToImpact_alarmed m time).symm
    clear_value flag toPark
    subst hflag hpark
    refine ⟨fun state => ?_, fun r state hr => ?_, fun r state hr => ?_, fun r state hr => ?_⟩
    · have acts {c} (hc : classOfSample p mag = c) : taken = actNormal c (s.sampleOf x y z time) (s.setMtu m0) :=
        handle_sample_normal time hc state
      refine ⟨fun h short => ?_, fun h full => ?_, fun h => ?_, fun h h' => ?_⟩
      · exact (acts (classOfSample_low h)).trans (if_neg (Nat.not_le.2 short))
      · exact (acts (classOfSample_low h)).trans (if_pos full)
      · exact (acts (classOfSample_high fall ordered impact h)).trans (knock_eq ..)
      · refine (acts (classOfSample_other h h')).trans ?_
        split <;> rfl
    · have acts {c} (hc : classOfSample p mag = c) : taken = actFalling c (s.sampleOf x y z time) (s.setMtu m0) :=
        handle_sample_falling time hc state
      have opened := State.joined_openRec hr x y z time
      have started := r.tracked_start (s.sampleOf x y z time)
      refine ⟨fun h => acts (classOfSample_low h), fun h => ?_, fun h h' => ?_⟩
      · exact (acts (classOfSample_high fall ordered impact h)).trans (actFalling_high opened _ started)
      · refine (acts (classOfSample_other h h')).trans
          (.trans ?_ (congrArg (fun m => (s.setMtu m, [])) (Mtu.caught_eq opened (s.sampleOf x y z time) started)))
        split <;> rfl
    · exact (handle_sample_impact time rfl state).trans (actImpact_eq (State.joined_openRec hr x y z time) _
        (classOfSample_beq_high fall ordered impact))
    · have acts {c} (hc : classOfSample p mag = c) : taken = actSettling c (s.sampleOf x y z time) (s.setMtu m0) :=
        handle_sample_settling time hc state
      have opened : m0.openRec = some (tracked r) := State.joined_openRec hr x y z time
      intro settled r1 closed t logged
      refine ⟨fun h short => ?_, fun h full => ?_, fun h short => ?_, fun h full => ?_, fun h => ?_, fun h h' h'' => ?_⟩
      · exact (acts (classOfSample_band fall impact h)).trans (if_neg (Nat.not_le.2 short))
      · have closes := (acts (classOfSample_band fall impact h)).trans (if_pos full)
        clear_value taken
        subst closes
        obtain ⟨stored, seq, none, entry, state, holds⟩ := enterNormal_closed (m := m)
          (u := s.setMtu { m0 with settleRun := settled, fallRun := 0 }) opened ⟨rfl, rfl⟩ time
        have notHigh : ¬high := fun above => (by decide : SampleClass.band ≠ .high)
          ((classOfSample_band fall impact h).symm.trans (classOfSample_high fall ordered impact above))
        exact ⟨⟨stored.1, stored.2, seq.trans (by simp [notHigh]; rfl)⟩, none, entry, state,
          List.mem_append_right _ (List.mem_singleton_self _), holds⟩
      · exact (acts (classOfSample_low h)).trans (if_neg (Nat.not_le.2 short))
      · have closes := (acts (classOfSample_low h)).trans (if_pos full)
        clear_value taken
        subst closes
        obtain ⟨stored, seq, falling⟩ := enterFalling_closed (m := m)
          (u := s.setMtu { m0.fallSample time with settleRun := 0 }) opened ⟨rfl, rfl⟩ time start
          (s.sampleOf x y z time)
        exact ⟨⟨stored.1, stored.2, seq.trans (by simp; rfl)⟩, falling⟩
      · have closes := acts (classOfSample_high fall ordered impact h)
        clear_value taken
        subst closes
        obtain ⟨stored, seq, strikes⟩ := knock_closed (m := m) (u := s.setMtu m0) opened ⟨rfl, rfl⟩ time
          (s.sampleOf x y z time)
        exact ⟨⟨stored.1, stored.2, seq.trans (by simp [h]; rfl)⟩, strikes⟩
      · exact acts ((classOfSample_other h h').trans (if_neg h''))

end Sys2Proof.Machine
end

section
/-!
CLAIM. O26, the checks every service request passes.
-/

namespace Sys2Proof.Machine

/-! ## A request that is refused (R173, R174) -/

/-- The command of a request is its whole service write, at a link that is idle (R173). -/
theorem commandAct_request {s : State} (idle : s.uli.phase = .idle) (q : Request) (tag : Byte) (p : List Byte) :
    commandAct (q.command tag p s.smi.answers) s = (s.heard, [.request q.code tag p]) := by
  have heard : ∀ code, serviceWrite code tag p s = (s.heard, [.request code tag p]) := fun code => by
    simp only [serviceWrite, State.heard, idle]
    rfl
  cases q <;> exact heard _

/-- A request whose checks refuse it changes its response record alone (R174). -/
theorem exec_refused {s : State} (quiet : s.agenda = []) (idle : s.uli.phase = .idle) {q : Request} (tag : Byte)
    {p : List Byte} {status : Status} (refused : answerOf q p s.heard = refusal status s.heard) :
    exec (q.command tag p s.smi.answers) s = .next (s.answered q.code tag status []) := by
  have decoded : handle (.request q.code tag p) s.heard = (s.answered q.code tag status [], []) := by
    simp only [handle, decodeRequest, requestOf_code, refused]
    rfl
  rw [exec_quiet _ (by cases q <;> nofun) quiet, commandAct_request idle]
  exact congrArg _ (run_only decoded)

/-- A wrong payload length (R174). -/
theorem answerOf_badLength {q : Request} {p : List Byte} (h : q.takes p.length = false) (s : State) :
    answerOf q p s = refusal .badLength s := by
  simp [answerOf, h]

/-- A background operation under way, or a SOFT_RESET not yet acted (R176, R184, log entry 13). -/
theorem answerOf_busy {q : Request} {p : List Byte} {s : State} (length : q.takes p.length = true)
    (busy : q.background = true ∧ s.sru.background ≠ .none ∨ s.sru.resetPending = true) :
    answerOf q p s = refusal .busy s := by
  rcases busy with ⟨long, under_way⟩ | waits
  · simp [answerOf, length, long, under_way]
  · simp [answerOf, length, waits]

/-- Settles O26: each check of R174 that fails is a refusal, which changes the response record alone. -/
theorem refusedRequestsAnswer : Obligations.RefusedRequestsAnswer := by
  intro s tag p quiet idle
  refine ⟨fun code unnamed => ?_, fun q length => exec_refused quiet idle tag (answerOf_badLength length s.heard),
    fun q length busy => exec_refused quiet idle tag (answerOf_busy length busy)⟩
  have written : commandAct (.unknownRequest code tag p) s = (s.heard, [.request code tag p]) := by
    simp only [commandAct, serviceWrite, State.heard, idle]
    rfl
  rw [exec_quiet (.unknownRequest code tag p) nofun quiet, written]
  exact congrArg _ (run_only (handle_unknown unnamed tag p s.heard))

end Sys2Proof.Machine
end

section
/-!
CLAIM. O27, the requests that read: IDENTIFY, the table reads, SETTINGS_READ and READ_TELEMETRY.
-/

namespace Sys2Proof.Machine

/-- An answer that only reads is its response record (R174). -/
theorem respond_reading (code tag : Byte) (payload : List Byte) (s : State) :
    (respond code tag (reading payload s.heard)).1 = s.answered code tag .ok payload := rfl

/-- A range of a number, as a condition. -/
theorem within_iff {lo hi n : Nat} : within lo hi n = true ↔ lo ≤ n ∧ n ≤ hi := by
  simp [within]

/-- A bound that fails, as the checks of a request ask it. -/
theorem not_within_iff {lo hi n : Nat} : (!within lo hi n) = true ↔ ¬(lo ≤ n ∧ n ≤ hi) := by
  rw [Bool.not_eq_true', ← Bool.not_eq_true, within_iff]

/-! ## IDENTIFY (R183) -/

theorem requestIdentify_eq (s : State) : requestIdentify s = reading s.identity s := by
  simp only [requestIdentify, State.identity]
  cases s.smi.result with
  | none => rfl
  | some r => cases r <;> rfl

/-! ## STAGE_READ and TABLE_READ (R178) -/

/-- What a table read answers, with its checks in their order (R178, log entry 37). -/
def State.tableAnswer (s : State) (tables : Tables) (code tag n lo hi count : Byte) : State :=
  if ¬(1 ≤ count.toNat ∧ count.toNat ≤ 28) then s.answered code tag .badLength []
  else if 7 < n.toNat then s.answered code tag .badTable []
  else if tableSize n.toNat < pair lo hi + count.toNat then s.answered code tag .badOffset []
  else s.answered code tag .ok (((tableImage tables n.toNat).drop (pair lo hi)).take count.toNat)

/-- The checks and bytes of a table read are those of the request's own rule. -/
theorem respond_readImageRun (tables : Tables) (code tag n lo hi count : Byte) (s : State) :
    (readImageRun tables [n, lo, hi, count] s.heard).tasks = [] ∧
    (respond code tag (readImageRun tables [n, lo, hi, count] s.heard)).1 =
      s.tableAnswer tables code tag n lo hi count := by
  have offset : u16 [n, lo, hi, count] 1 = pair lo hi := rfl
  have place : u8 [n, lo, hi, count] 0 = n.toNat := rfl
  have length : u8 [n, lo, hi, count] 3 = count.toNat := rfl
  simp only [readImageRun, State.tableAnswer, offset, place, length, not_within_iff]
  split_ifs <;> exact ⟨rfl, rfl⟩

/-! ## SETTINGS_READ (R195) -/

/-- What SETTINGS_READ answers, with its checks in their order (R195, log entry 37). -/
def State.settingsAnswer (s : State) (tag lo hi count : Byte) : State :=
  if ¬(1 ≤ count.toNat ∧ count.toNat ≤ 28) then s.answered 0x08 tag .badLength []
  else if 8192 < pair lo hi + count.toNat then s.answered 0x08 tag .badOffset []
  else if s.smi.activity ≠ .idle then s.answered 0x08 tag .busy []
  else if s.smi.answers = false then s.answered 0x08 tag .failed []
  else s.answered 0x08 tag .ok ((List.range count.toNat).map fun i => readCell s.smi.memory (pair lo hi + i))

theorem respond_settingsRead (tag lo hi count : Byte) (s : State) :
    (requestSettingsRead [lo, hi, count] s.heard).tasks = [] ∧
    (respond 0x08 tag (requestSettingsRead [lo, hi, count] s.heard)).1 = s.settingsAnswer tag lo hi count := by
  have offset : u16 [lo, hi, count] 0 = pair lo hi := rfl
  have length : u8 [lo, hi, count] 2 = count.toNat := rfl
  have interface : s.heard.smi = s.smi := rfl
  simp only [requestSettingsRead, State.settingsAnswer, offset, length, not_within_iff, State.smiIdle, interface,
    memorySize]
  simp only [Bool.not_eq_true', beq_eq_false_iff_ne]
  split_ifs <;> exact ⟨rfl, rfl⟩

/-- SETTINGS_READ is decoded at an interface that answers, or does not, as the command says (log entry 5). -/
theorem exec_settingsRead {s : State} (h : s.servesRequests) (tag lo hi count : Byte) (answered : Bool) :
    exec (.settingsRead tag [lo, hi, count] answered) s =
      .next (({ s with smi := { s.smi with answers := answered } } : State).settingsAnswer tag lo hi count) := by
  obtain ⟨quiet, idle, free⟩ := h
  set x : State := { s with smi := { s.smi with answers := answered } } with hx
  obtain ⟨none, answer⟩ := respond_settingsRead tag lo hi count x
  have written : commandAct (.settingsRead tag [lo, hi, count] answered) s =
      (x.heard, [.request 0x08 tag [lo, hi, count]]) := commandAct_request (s := x) idle .settingsRead tag _
  have checked : answerOf .settingsRead [lo, hi, count] x.heard = requestSettingsRead [lo, hi, count] x.heard := by
    simp [answerOf, Request.takes, Request.background, Request.act, show x.heard.sru.resetPending = false from free]
  have decoded : handle (.request 0x08 tag [lo, hi, count]) x.heard = (x.settingsAnswer tag lo hi count, []) := by
    simp only [handle, decodeRequest, show requestOf 0x08 = some .settingsRead from requestOf_code .settingsRead, checked]
    exact Prod.ext answer none
  rw [exec_quiet (.settingsRead tag [lo, hi, count] answered) nofun quiet, written]
  exact congrArg _ (run_only decoded)

/-! ## READ_TELEMETRY (R66) -/

theorem respond_telemetry (tag first count : Byte) (s : State) :
    (requestTelemetry [first, count] s.heard).tasks = [] ∧
    (respond 0x20 tag (requestTelemetry [first, count] s.heard)).1 =
      if ¬(1 ≤ count.toNat ∧ count.toNat ≤ 4) ∨ 32 < first.toNat + count.toNat then s.answered 0x20 tag .badLength []
      else s.answered 0x20 tag .ok
        ((List.range count.toNat).flatMap fun k => slotImage s.now (s.slot (Fin.ofNat 32 (first.toNat + k)))) := by
  have place : u8 [first, count] 0 = first.toNat := rfl
  have length : u8 [first, count] 1 = count.toNat := rfl
  simp only [requestTelemetry, place, length, Bool.or_eq_true, not_within_iff, decide_eq_true_eq]
  split_ifs <;> exact ⟨rfl, rfl⟩

/-! ## The image of a slot (Table 12-5) -/

/-- A signed 4-byte field (R197). -/
theorem i4_field (v : Int) : IsField (i4 v) 4 (heldSigned 4 v) := by
  have clamped : clampInt v (-2147483648) 2147483647 =
      if v < -2147483648 then -2147483648 else if 2147483648 ≤ v then 2147483647 else v := by
    unfold clampInt
    split_ifs <;> omega
  have number : (BitVec.ofInt 32 (clampInt v (-2147483648) 2147483647)).toNat = heldSigned 4 v := by
    rw [clamped, BitVec.toNat_ofInt]
    rfl
  exact number ▸ word4_field _

/-- The time left, or an age, in 2 bytes: at most 65,534 (R197). -/
theorem optHeld_field {α : Type} (f : α → Nat) (o : Option α) :
    IsField (optField 2 (o.map fun x => f2 (f x))) 2 (heldOption 2 (o.map f)) :=
  optField_field (fun x => f2_field (f x)) o

/-- The fields of a telemetry slot (Table 12-5). -/
theorem slotImage_fields (now : Time) (r : Slot) : Fields 0 (slotImage now r)
    [(0, 1, heldNumber 1 (slotStateCode r.state + 4 * ((r.source.map slotSourceCode).getD 3) + 16 * r.implausible)),
      (1, 4, heldSigned 4 r.value), (5, 2, heldOption 2 (r.time.map fun t => min (age now t) 65534))] 7 [] := by
  have image : slotImage now r =
      f1 (slotStateCode r.state + 4 * ((r.source.map slotSourceCode).getD 3) + 16 * r.implausible) ++
        (i4 r.value ++ (optField 2 (r.time.map fun t => f2 (min (age now t) 65534)) ++ [])) := by
    cases h : r.source <;> simp [slotImage, h]
  rw [image]
  exact .cons (f1_field _) <| .cons (i4_field _) <| .cons (optHeld_field _ _) .nil

/-- Settles O27: each request by its own rule, and the image of a slot field by field. -/
theorem readingRequestsAnswer : Obligations.ReadingRequestsAnswer := by
  intro s tag h
  refine ⟨?identify, fun n lo hi count => ⟨?stage, ?table⟩, fun lo hi count answered => exec_settingsRead h tag lo hi count _,
    fun first count => ?telemetry, fun r => ?slot⟩
  case identify =>
    exact exec_request h (q := .identify) (p := []) rfl rfl rfl nofun (requestIdentify_eq s.heard) rfl
  case stage =>
    obtain ⟨none, answer⟩ := respond_readImageRun s.sru.staging 0x03 tag n lo hi count s
    exact (exec_request h (q := .stageRead) rfl rfl rfl nofun rfl none).trans (congrArg _ answer)
  case table =>
    obtain ⟨none, answer⟩ := respond_readImageRun s.sru.committed 0x04 tag n lo hi count s
    exact (exec_request h (q := .tableRead) rfl rfl rfl nofun rfl none).trans (congrArg _ answer)
  case telemetry =>
    obtain ⟨none, answer⟩ := respond_telemetry tag first count s
    exact (exec_request h (q := .readTelemetry) rfl rfl rfl nofun rfl none).trans (congrArg _ answer)
  case slot =>
    have fields := slotImage_fields s.now r
    exact ⟨fields.length, fields.readsAs⟩

end Sys2Proof.Machine
end

section
/-!
SUPPORT. Images with a run of like things in them: the fields of one of them, and of a place behind the last (R197).
-/

namespace Sys2Proof.Machine

/-- One byte as a field. -/
theorem byte_field (b : Byte) : IsField [b] 1 b.toNat := ⟨rfl, by simp [numberAt, byteAt]⟩

/-- A 4-byte number (R197). -/
theorem f4_field (n : Nat) : IsField (f4 n) 4 (heldNumber 4 n) := by
  have held : (BitVec.ofNat 32 (min n 0xFFFFFFFF)).toNat = heldNumber 4 n := by
    simp only [BitVec.toNat_ofNat, heldNumber]
    omega
  exact held ▸ word4_field _

/-- A 16-bit number is held as it is. -/
theorem half_field (w : Half) : IsField (f2 w.toNat) 2 w.toNat := by
  have held : heldNumber 2 w.toNat = w.toNat := Nat.min_eq_left (by have := w.isLt; omega)
  simpa only [held] using f2_field w.toNat

/-! ## A run of like things -/

section
variable {α : Type} {f : α → List Byte} {w : Nat} (hf : ∀ x, (f x).length = w) (l : List α)
include hf

theorem length_flatMap : (l.flatMap f).length = w * l.length := by
  simp [List.length_flatMap, hf, Nat.mul_comm]

/-- The image of one of them stands at its place in the run. -/
theorem flatMap_at {k : Nat} {x : α} (hx : l[k]? = some x) :
    ∃ front back, l.flatMap f = front ++ (f x ++ back) ∧ front.length = w * k := by
  obtain ⟨hk, rfl⟩ := List.getElem?_eq_some_iff.1 hx
  refine ⟨(l.take k).flatMap f, (l.drop (k + 1)).flatMap f, ?_, ?_⟩
  · rw [← List.flatMap_cons, ← List.drop_eq_getElem_cons hk, ← List.flatMap_append, List.take_append_drop]
  · rw [length_flatMap hf, List.length_take, Nat.min_eq_left (Nat.le_of_lt hk)]

end

/-- The images of at most `n` things, with places of all ones behind the last. -/
def padded {α : Type} (w n : Nat) (f : α → List Byte) (l : List α) : List Byte :=
  (l.take n).flatMap f ++ List.replicate (w * (n - l.length)) 0xFF

section
variable {α : Type} {f : α → List Byte} {w : Nat} (hf : ∀ x, (f x).length = w) (n : Nat) (l : List α)
include hf

theorem padded_length : (padded w n f l).length = w * n := by
  rw [padded, List.length_append, length_flatMap hf, List.length_replicate, List.length_take, ← Nat.mul_add]
  congr 1
  omega

variable {n l}

theorem padded_at {k : Nat} {x : α} (hk : k < n) (hx : l[k]? = some x) :
    ∃ front back, padded w n f l = front ++ (f x ++ back) ∧ front.length = w * k := by
  obtain ⟨front, back, e, hl⟩ := flatMap_at hf (l.take n) (k := k) (x := x) (by rw [List.getElem?_take_of_lt hk, hx])
  exact ⟨front, back ++ List.replicate (w * (n - l.length)) 0xFF, by simp [padded, e], hl⟩

/-- A place behind the last of them is all ones. -/
theorem padded_absent {k : Nat} (hk : k < n) (hl : l.length ≤ k) :
    ∃ front back, padded w n f l = front ++ (List.replicate w 0xFF ++ back) ∧ front.length = w * k := by
  refine ⟨l.flatMap f ++ List.replicate (w * (k - l.length)) 0xFF, List.replicate (w * (n - k - 1)) 0xFF, ?_, ?_⟩
  · have places : w * (n - l.length) = w * (k - l.length) + (w + w * (n - k - 1)) := by
      rw [show n - l.length = k - l.length + (n - k - 1 + 1) by omega, Nat.mul_add, Nat.mul_succ, Nat.add_comm w]
    rw [padded, List.take_of_length_le (by omega), places, ← List.replicate_append_replicate,
      ← List.replicate_append_replicate, List.append_assoc]
  · rw [List.length_append, length_flatMap hf, List.length_replicate, ← Nat.mul_add]
    congr 1
    omega

end

/-! ## Fields of a part of an image -/

/-- The last field of an image. -/
theorem Fields.last {o width n : Nat} {bytes : List Byte} (h : IsField bytes width n) :
    Fields o bytes [(o, width, n)] (o + width) [] := by
  simpa using Fields.cons h (Fields.nil (o := o + width) (tail := []))

/-- The length of an image from an offset on. -/
theorem Fields.length_from {o e : Nat} {image tail : List Byte} {fs : List (Nat × Nat × Nat)}
    (h : Fields o image fs e tail) : o + image.length = e + tail.length := by
  obtain ⟨front, rfl, hl⟩ := h.split
  rw [List.length_append]
  omega

/-- A part of an image, behind the fields before it, reads as its own fields. -/
theorem Fields.readsAs_part {o e p : Nat} {image tail front part back : List Byte} {fs gs : List (Nat × Nat × Nat)}
    (h : Fields 0 image fs o tail) (ht : tail = front ++ (part ++ back)) (hp : o + front.length = p)
    (hg : Fields p (part ++ back) gs e back) : Machine.readsAs image gs := by
  obtain ⟨head, rfl, hl⟩ := h.split
  subst ht
  rw [← List.append_assoc]
  exact hg.readsAs_behind (head ++ front) (by rw [List.length_append]; omega)

end Sys2Proof.Machine
end

section
/-!
CLAIM. O28, the long read-outs and their images (R24, R91, R92, R147, R171, R177, Table 12-5).
-/

namespace Sys2Proof.Machine

/-! ## The requests (R177) -/

/-- A long read-out answers by its part. -/
theorem exec_longRead {s : State} (h : s.servesRequests) {c : Instr} {q : Request} {tag : Byte} {p : List Byte}
    (hc : c = q.command tag p false) (ht : q.takes p.length = true) (hb : q.background = false)
    (ha : q ≠ .settingsRead) {subject : Option Byte} {k : Nat} {image : List Byte}
    (act : q.act p s.heard = longRead q subject k image s.heard) :
    exec c s = .next (s.partAnswer q.code tag subject k image) := by
  by_cases hk : k = 0
  · subst hk
    exact (exec_request h hc ht hb ha act rfl).trans (congrArg _ (respond_firstPart ..))
  · rw [longRead, if_neg hk] at act
    exact (exec_request h hc ht hb ha act (laterPart_tasks ..)).trans
      (congrArg _ (respond_laterPart q.code tag subject hk image s))

theorem exec_readBay {s : State} (h : s.servesRequests) (tag k : Byte) (bay : Bay) :
    exec (.readBay tag [bayByte bay, k]) s =
      .next (s.partAnswer 0x21 tag (some (bayByte bay)) k.toNat (bayImage bay s)) := by
  refine exec_longRead h (q := .readBay) (p := [bayByte bay, k]) rfl rfl rfl nofun ?_
  have named : bayOfByte (byteAt [bayByte bay, k] 0) = some bay := bayOfByte_bayByte bay
  simp only [Request.act, requestReadBay, named]
  rfl

/-- A bay byte above 1 names no bay, whatever the part (log entry 37). -/
theorem exec_readBay_beyond {s : State} (h : s.servesRequests) (tag k : Byte) {b : Byte} (hb : 1 < b.toNat) :
    exec (.readBay tag [b, k]) s = .next (s.answered 0x21 tag .notApplicable []) := by
  have act : Request.act .readBay [b, k] s.heard = refusal .notApplicable s.heard := by
    have none : bayOfByte (byteAt [b, k] 0) = none := bayOfByte_beyond hb
    simp only [Request.act, requestReadBay, none]
  exact (exec_request h (q := .readBay) (tag := tag) rfl rfl rfl nofun act rfl).trans
    (congrArg _ (respond_refusal ..))

/-! ## Codes and flags that fit a byte -/

theorem bayStateCode_le (x : BayState) : bayStateCode x ≤ 255 := by cases x <;> decide

theorem srcCode_le (x : Option Src) : srcCode x ≤ 255 := by
  rcases x with _ | x
  · decide
  · cases x <;> decide

theorem flagBit_le (b : Bool) : flagBit b 0 ≤ 255 := by cases b <;> decide

theorem sourceFlags_le (sw : Switch) (a b c : Bool) :
    switchCode sw + flagBit a 2 + flagBit b 3 + flagBit c 4 ≤ 255 := by
  revert a b c
  cases sw <;> decide

/-! ## READ_BAY (R92) -/

theorem itemImage_fields (o : Nat) (i : AdmissionItem) (tail : List Byte) : Fields o (itemImage i ++ tail)
    [(o, 1, i.place.val), (o + 1, 1, i.attempts % 4 + flagBit i.succeeded 7)] (o + 2) tail := by
  have attempts : i.attempts % 4 + flagBit i.succeeded 7 ≤ 255 := by
    have : flagBit i.succeeded 7 ≤ 128 := by cases i.succeeded <;> decide
    omega
  rw [itemImage, List.append_assoc]
  exact .cons (f1_field_of_le (by omega)) (.cons (f1_field_of_le attempts) .nil)

theorem recordImage_none_fields : Fields 65 (recordImage none ++ [])
    [(65, 1, 0), (66, 4, 0xFFFFFFFF), (70, 4, 0xFFFFFFFF), (74, 4, 0xFFFFFFFF)] 78 [] :=
  Fields.cons (bytes := f1 0) (f1_field_of_le (by decide)) <|
    .cons (image := List.replicate 8 0xFF) (replicate_field 4) <|
    .cons (image := List.replicate 4 0xFF) (replicate_field 4) (.last (replicate_field 4))

theorem recordImage_some_fields (x : MoveRec) : Fields 65 (recordImage (some x) ++ [])
    [(65, 1, 1 + flagBit x.origin.isSome 1 + flagBit x.finish.isSome 2 + flagBit x.result.isSome 3),
      (66, 1, srcCode x.origin), (67, 1, srcNumber x.target), (68, 1, reasonCode x.reason), (69, 4, x.start.toNat),
      (73, 4, heldOption 4 (x.finish.map fun t => t.toNat)), (77, 1, heldOption 1 (x.result.map resultCode))] 78 [] := by
  have flags : ∀ a b c : Bool, 1 + flagBit a 1 + flagBit b 2 + flagBit c 3 ≤ 255 := by decide
  have target : srcNumber x.target ≤ 255 := by cases x.target <;> decide
  have reason : reasonCode x.reason ≤ 255 := by cases x.reason <;> decide
  simp only [recordImage, List.append_assoc]
  exact .cons (f1_field_of_le (flags ..)) <| .cons (f1_field_of_le (srcCode_le _)) <| .cons (f1_field_of_le target) <|
    .cons (f1_field_of_le reason) <| .cons (time4_field _) <| .cons (optTime_field _) <|
    .cons (optField_field (fun r => f1_field (resultCode r)) _) .nil

theorem recordImage_length (x : Option MoveRec) : (recordImage x).length = 13 := by
  cases x with
  | none => rfl
  | some x =>
    have := (recordImage_some_fields x).length_from
    simp only [List.append_nil, List.length_nil] at this
    omega

/-- READ_BAY up to its admission list, with the list and the handover record behind. -/
theorem bayImage_fields (bay : Bay) (s : State) :
    let r := s.bay bay
    Fields 0 (bayImage bay s) [(0, 4, s.now.toNat), (4, 1, bayStateCode r.state),
      (5, 1, flagBit r.latchClosed 0 + flagBit r.present 1 + flagBit r.wasActive 2 + flagBit r.faultPending 3),
      (6, 4, r.entry.toNat), (10, 1, heldOption 1 (r.origin.map originCode)),
      (11, 1, heldOption 1 (r.faultReason.map faultReasonCode)), (12, 2, heldOption 2 (s.leftOf r.seat)),
      (14, 2, heldOption 2 (s.leftOf r.identify)), (16, 1, heldNumber 1 r.admission.length)] 17
      (padded 2 24 itemImage r.admission ++ recordImage s.ppc.record) := by
  intro r
  simp only [bayImage, List.append_assoc, padded]
  exact .cons (time4_field _) <| .cons (f1_field_of_le (bayStateCode_le _)) <| .cons (f1_field_of_le (flagBits_le ..)) <|
    .cons (time4_field _) <| .cons (optField_field (fun x => f1_field (originCode x)) _) <|
    .cons (optField_field (fun x => f1_field (faultReasonCode x)) _) <| .cons (optHeld_field _ _) <|
    .cons (optHeld_field _ _) <| .cons (f1_field _) .nil

/-- The parts of READ_BAY (Table 12-5). -/
theorem bayImage_readsAs (bay : Bay) (s : State) :
    let image := bayImage bay s
    let r := s.bay bay
    (∀ k i, k < 24 → r.admission[k]? = some i → readsAs image
      [(17 + 2 * k, 1, i.place.val), (18 + 2 * k, 1, i.attempts % 4 + flagBit i.succeeded 7)]) ∧
    (∀ k, k < 24 → r.admission.length ≤ k → readsAs image [(17 + 2 * k, 2, 0xFFFF)]) ∧
    (s.ppc.record = none → readsAs image
      [(65, 1, 0), (66, 4, 0xFFFFFFFF), (70, 4, 0xFFFFFFFF), (74, 4, 0xFFFFFFFF)]) ∧
    (∀ x, s.ppc.record = some x → readsAs image
      [(65, 1, 1 + flagBit x.origin.isSome 1 + flagBit x.finish.isSome 2 + flagBit x.result.isSome 3),
        (66, 1, srcCode x.origin), (67, 1, srcNumber x.target), (68, 1, reasonCode x.reason), (69, 4, x.start.toNat),
        (73, 4, heldOption 4 (x.finish.map fun t => t.toNat)), (77, 1, heldOption 1 (x.result.map resultCode))]) := by
  intro image r
  have fields := bayImage_fields bay s
  have item : ∀ i : AdmissionItem, (itemImage i).length = 2 := fun _ => rfl
  have list := padded_length item 24 r.admission
  have record : ∀ y, s.ppc.record = y → padded 2 24 itemImage r.admission ++ recordImage s.ppc.record =
      padded 2 24 itemImage r.admission ++ (recordImage y ++ []) := fun y hy => by rw [hy, List.append_nil]
  refine ⟨fun k i hk hi => ?_, fun k hk hl => ?_, fun hn => ?_, fun x hx => ?_⟩
  · obtain ⟨front, back, e, hl⟩ := padded_at item hk hi
    rw [show 18 + 2 * k = 17 + 2 * k + 1 by omega]
    exact fields.readsAs_part (by rw [e, List.append_assoc, List.append_assoc]) (by rw [hl]) (itemImage_fields _ i _)
  · obtain ⟨front, back, e, hl⟩ := padded_absent item hk hl
    exact fields.readsAs_part (by rw [e, List.append_assoc, List.append_assoc]) (by rw [hl]) (.cons (replicate_field 2) .nil)
  · exact fields.readsAs_part (record none hn) (by rw [list]) recordImage_none_fields
  · exact fields.readsAs_part (record (some x) hx) (by rw [list]) (recordImage_some_fields x)

theorem bayImage_length (bay : Bay) (s : State) : (bayImage bay s).length = 78 := by
  have item : ∀ i : AdmissionItem, (itemImage i).length = 2 := fun _ => rfl
  rw [(bayImage_fields bay s).length, List.length_append, padded_length item, recordImage_length]

/-! ## READ_POWER (R91) -/

/-- The number of a source's byte. -/
def sourceNumber (s : State) (x : Src) : Nat :=
  switchCode (s.source x).sw + flagBit (s.lines.feedback.get x) 2 + flagBit (s.source x).eligible 3 +
    flagBit (s.source x).heldOff 4

theorem sourceImage_field (s : State) (x : Src) : IsField (sourceImage s x) 1 (sourceNumber s x) :=
  f1_field_of_le (sourceFlags_le ..)

theorem powerImage_fields (s : State) : Fields 0 (powerImage s)
    [(0, 1, sourceNumber s .dc), (1, 1, sourceNumber s .a), (2, 1, sourceNumber s .b), (3, 1, sourceNumber s .br),
      (4, 1, flagBit s.ppc.managed 0), (5, 1, srcCode s.ppc.onSrc), (6, 1, flagBit s.ppc.pending 0),
      (7, 4, heldOption 4 (s.ppc.bridge.map fun t => t.left s.now)),
      (11, 1, flagBit s.ppc.causeBridge 0 + flagBit s.ppc.causeNoAlternate 1), (12, 1, classCode s.classifier.cls),
      (13, 2, heldNumber 2 s.classifier.allowance), (15, 1, levelCode s.classifier.level),
      (16, 4, heldSigned 4 s.classifier.energy), (20, 4, s.now.toNat), (24, 1, flagBit s.ppc.startupExpired 0)]
    25 [] := by
  have causes : ∀ a b : Bool, flagBit a 0 + flagBit b 1 ≤ 255 := by decide
  have cls : classCode s.classifier.cls ≤ 255 := by cases s.classifier.cls <;> decide
  have level : levelCode s.classifier.level ≤ 255 := by cases s.classifier.level <;> decide
  have bridge := optField_field (num := fun t : Timer => t.left s.now) (fun t => f4_field (t.left s.now)) s.ppc.bridge
  simp only [powerImage, List.append_assoc]
  exact .cons (sourceImage_field s .dc) <| .cons (sourceImage_field s .a) <| .cons (sourceImage_field s .b) <|
    .cons (sourceImage_field s .br) <| .cons (f1_field_of_le (flagBit_le _)) <| .cons (f1_field_of_le (srcCode_le _)) <|
    .cons (f1_field_of_le (flagBit_le _)) <| .cons bridge <| .cons (f1_field_of_le (causes ..)) <|
    .cons (f1_field_of_le cls) <| .cons (f2_field _) <| .cons (f1_field_of_le level) <| .cons (i4_field _) <|
    .cons (time4_field _) <| .last (f1_field_of_le (flagBit_le _))

/-! ## READ_BRIGHTNESS (R147) -/

/-- The write record's code and the number that stands for the code it carries. -/
def writeNumbers : WriteRec → Nat × Nat
  | .none => (0, 0xFFFF)
  | .queued c => (1, heldNumber 2 c)
  | .executing c => (2, heldNumber 2 c)

theorem brightImage_fields (s : State) :
    let b := s.brc
    Fields 0 (brightImage s)
      [(0, 1, modeCode b.mode), (1, 1, (b.bias % 256).toNat), (2, 2, heldOption 2 b.manual), (4, 2, heldOption 2 b.hold),
        (6, 4, heldOption 4 b.ambient), (10, 2, heldNumber 2 b.code), (12, 2, heldNumber 2 b.smooth),
        (14, 2, heldNumber 2 b.curve), (16, 2, heldNumber 2 b.target), (18, 2, heldOption 2 b.level),
        (20, 2, heldNumber 2 b.computed), (22, 2, heldOption 2 b.ceiling), (24, 2, heldNumber 2 b.written),
        (26, 1, flagBit b.noneWritten 0 + flagBit b.owed 1 + flagBit b.awaitingLight 2 + flagBit b.limited 3 +
          flagBit b.lightLost 4),
        (27, 1, (writeNumbers b.write).1), (28, 2, (writeNumbers b.write).2), (30, 1, heldNumber 1 b.failures),
        (31, 2, heldOption 2 (s.leftOf b.step))] 33 [] := by
  intro b
  have mode : modeCode b.mode ≤ 255 := by cases b.mode <;> decide
  have bias : IsField [BitVec.ofInt 8 b.bias] 1 (b.bias % 256).toNat := by
    have number : (BitVec.ofInt 8 b.bias).toNat = (b.bias % 256).toNat := BitVec.toNat_ofInt ..
    exact number ▸ byte_field _
  have marks : ∀ a b c d e : Bool, flagBit a 0 + flagBit b 1 + flagBit c 2 + flagBit d 3 + flagBit e 4 ≤ 255 := by decide
  have code : (writeImage b.write).1 = (writeNumbers b.write).1 ∧ (writeNumbers b.write).1 ≤ 255 := by
    cases b.write <;> simp [writeImage, writeNumbers]
  have carried : heldOption 2 (writeImage b.write).2 = (writeNumbers b.write).2 := by cases b.write <;> rfl
  simp only [brightImage, List.append_assoc]
  exact .cons (f1_field_of_le mode) <| .cons bias <| .cons (optNumber_field _) <| .cons (optNumber_field _) <|
    .cons (by simpa using optField_field (num := id) f4_field b.ambient) <| .cons (f2_field _) <| .cons (f2_field _) <|
    .cons (f2_field _) <| .cons (f2_field _) <| .cons (optNumber_field _) <| .cons (f2_field _) <|
    .cons (optNumber_field _) <| .cons (f2_field _) <| .cons (f1_field_of_le (marks ..)) <|
    .cons (code.1 ▸ f1_field_of_le (code.1 ▸ code.2)) <| .cons (carried ▸ optNumber_field _) <| .cons (f1_field _) <|
    .last (optHeld_field _ _)

/-! ## READ_MOTION (R171) -/

theorem logImage_length (x : Option DropRec) : (logImage x).length = 5 := by cases x <;> rfl

theorem logImage_none_fields (o : Nat) (tail : List Byte) : Fields o (logImage none ++ tail)
    [(o, 4, 0xFFFFFFFF), (o + 4, 1, 0xFF)] (o + 5) tail :=
  .cons (image := List.replicate 1 0xFF ++ tail) (replicate_field 4) (.cons (replicate_field 1) .nil)

theorem logImage_some_fields (o : Nat) (r : DropRec) (tail : List Byte) : Fields o (logImage (some r) ++ tail)
    [(o, 2, r.seq.toNat), (o + 2, 1, dropCode r.kind + flagBit r.read 7), (o + 3, 2, heldNumber 2 r.peakCode)]
    (o + 5) tail := by
  have kind : dropCode r.kind + flagBit r.read 7 ≤ 255 := by cases r.kind <;> cases r.read <;> decide
  simp only [logImage, List.append_assoc]
  exact .cons (half_field _) (.cons (f1_field_of_le kind) (.cons (f2_field _) .nil))

/-- READ_MOTION up to the drop log, with the log and two counts behind. -/
theorem motionImage_fields (s : State) :
    let m := s.mtu
    Fields 0 (motionImage s)
      [(0, 4, s.now.toNat), (4, 1, motionCode m.state), (5, 4, m.entry.toNat), (9, 1, heldNumber 1 m.fallRun),
        (10, 2, heldNumber 2 m.settleRun), (12, 1, heldNumber 1 m.window),
        (13, 1, flagBit m.starved 0 + flagBit m.placed 1 + flagBit m.park 2 + flagBit m.shockHold 3 +
          flagBit m.openRec.isSome 4 + flagBit m.failTime.isSome 5 + flagBit m.parkTime.isSome 6),
        (14, 4, heldOption 4 (m.failTime.map fun t => t.toNat)), (18, 4, heldOption 4 (m.parkTime.map fun t => t.toNat)),
        (22, 2, heldOption 2 (s.leftOf m.parkHold)), (24, 2, heldOption 2 (s.leftOf m.shockTimer)),
        (26, 2, heldOption 2 (m.openRec.map fun r => r.seq.toNat)),
        (28, 1, heldOption 1 (m.openRec.map fun r => dropCode r.kind)), (29, 2, m.seq.toNat)] 31
      ((List.finRange 4).flatMap (fun i => logImage (m.logAt i)) ++ (word4 m.samples ++ f2 m.readsFailed)) := by
  intro m
  have state : motionCode m.state ≤ 255 := by cases m.state <;> decide
  have flags : ∀ a b c d e f g : Bool, flagBit a 0 + flagBit b 1 + flagBit c 2 + flagBit d 3 + flagBit e 4 +
      flagBit f 5 + flagBit g 6 ≤ 255 := by decide
  simp only [motionImage, List.append_assoc]
  exact .cons (time4_field _) <| .cons (f1_field_of_le state) <| .cons (time4_field _) <| .cons (f1_field _) <|
    .cons (f2_field _) <| .cons (f1_field _) <| .cons (f1_field_of_le (flags ..)) <| .cons (optTime_field _) <|
    .cons (optTime_field _) <| .cons (optHeld_field _ _) <| .cons (optHeld_field _ _) <|
    .cons (optHeld_field _ _) <| .cons (optField_field (fun r : DropRec => f1_field (dropCode r.kind)) _) <|
    .cons (half_field _) .nil

section
variable (s : State)

/-- The log's places of READ_MOTION. -/
theorem motionLog_length : ((List.finRange 4).flatMap fun i => logImage (s.mtu.logAt i)).length = 20 :=
  length_flatMap (fun i => logImage_length (s.mtu.logAt i)) _

theorem motionImage_length : (motionImage s).length = 57 := by
  rw [(motionImage_fields s).length, List.length_append, motionLog_length]
  rfl

/-- The counts behind the log. -/
theorem motionImage_counts :
    readsAs (motionImage s) [(51, 4, s.mtu.samples.toNat), (55, 2, heldNumber 2 s.mtu.readsFailed)] := by
  have counts : Fields 51 (word4 s.mtu.samples ++ f2 s.mtu.readsFailed ++ [])
      [(51, 4, s.mtu.samples.toNat), (55, 2, heldNumber 2 s.mtu.readsFailed)] 57 [] := by
    rw [List.append_nil]
    exact .cons (word4_field _) (.last (f2_field _))
  exact (motionImage_fields s).readsAs_part (by rw [List.append_nil]) (by rw [motionLog_length]) counts

/-- A place of the log. -/
theorem motionImage_log (i : Fin 4) : readsAs (motionImage s) (match s.mtu.logAt i with
    | some r => [(31 + 5 * i.val, 2, r.seq.toNat), (33 + 5 * i.val, 1, dropCode r.kind + flagBit r.read 7),
      (34 + 5 * i.val, 2, heldNumber 2 r.peakCode)]
    | none => [(31 + 5 * i.val, 4, 0xFFFFFFFF), (35 + 5 * i.val, 1, 0xFF)]) := by
  obtain ⟨front, back, e, hl⟩ := flatMap_at (fun i => logImage_length (s.mtu.logAt i)) (List.finRange 4) (k := i.val)
    (x := i) (by simp)
  have part : ∀ {gs : List (Nat × Nat × Nat)} {n : Nat}, Fields (31 + 5 * i.val)
      (logImage (s.mtu.logAt i) ++ (back ++ (word4 s.mtu.samples ++ f2 s.mtu.readsFailed))) gs n
      (back ++ (word4 s.mtu.samples ++ f2 s.mtu.readsFailed)) → readsAs (motionImage s) gs := fun hg =>
    (motionImage_fields s).readsAs_part (by rw [e, List.append_assoc, List.append_assoc]) (by rw [hl]) hg
  cases h : s.mtu.logAt i with
  | none =>
    rw [show 35 + 5 * i.val = 31 + 5 * i.val + 4 by omega]
    exact part (h ▸ logImage_none_fields _ _)
  | some r =>
    rw [show 33 + 5 * i.val = 31 + 5 * i.val + 2 by omega, show 34 + 5 * i.val = 31 + 5 * i.val + 3 by omega]
    exact part (h ▸ logImage_some_fields _ r _)

end

/-! ## READ_LINK_STATUS (R24, R28) -/

theorem outcomeImage_fields (o : Nat) (r : OutcomeRec) (tail : List Byte) : Fields o (outcomeImage r ++ tail)
    [(o, 2, r.seq.toNat), (o + 2, 4, r.time.toNat), (o + 6, 1, r.addr.toNat),
      (o + 7, 1, heldOption 1 (r.cmd.map fun c => c.toNat)), (o + 8, 1, dirCode r.dir + flagBit r.cmd.isSome 2),
      (o + 9, 1, outcomeCode r.outcome)] (o + 10) tail := by
  have addr : IsField [addrByte r.addr] 1 r.addr.toNat := by
    have number : (addrByte r.addr).toNat = r.addr.toNat := by
      have := r.addr.isLt
      simp [addrByte]
      omega
    exact number ▸ byte_field _
  have cmd : ∀ c : Byte, IsField [c] 1 (heldNumber 1 c.toNat) := fun c => by
    have held : heldNumber 1 c.toNat = c.toNat := Nat.min_eq_left (by have := c.isLt; omega)
    rw [held]
    exact byte_field c
  have dir : dirCode r.dir + flagBit r.cmd.isSome 2 ≤ 255 := by cases r.dir <;> cases r.cmd.isSome <;> decide
  have outcome : outcomeCode r.outcome ≤ 255 := by cases r.outcome <;> decide
  simp only [outcomeImage, List.append_assoc]
  exact .cons (half_field _) <| .cons (time4_field _) <| .cons addr <| .cons (optField_field cmd _) <|
    .cons (f1_field_of_le dir) <| .cons (f1_field_of_le outcome) .nil

theorem outcomeImage_length (r : OutcomeRec) : (outcomeImage r).length = 10 := by
  have := (outcomeImage_fields 0 r []).length_from
  simp only [List.append_nil, List.length_nil] at this
  omega

theorem portImage_fields (o : Nat) (p : Port) (tail : List Byte) : Fields o (portImage p ++ tail)
    [(o, 1, portStateCode p.state), (o + 1, 1, heldNumber 1 p.timeouts), (o + 2, 1, heldNumber 1 p.queue.length),
      (o + 3, 1, flagBit p.lane.isSome 0)] (o + 4) tail := by
  have state : portStateCode p.state ≤ 255 := by cases p.state <;> decide
  simp only [portImage, List.append_assoc]
  exact .cons (f1_field_of_le state) <| .cons (f1_field _) <| .cons (f1_field _) <|
    .cons (f1_field_of_le (flagBit_le _)) .nil

theorem portImage_length (p : Port) : (portImage p).length = 4 := rfl

/-- READ_LINK_STATUS up to its records, with the records and the ports behind. -/
theorem linkImage_fields (s : State) : Fields 0 (linkImage s) [(0, 1, heldNumber 1 s.uli.ring.length)] 1
    (padded 10 8 outcomeImage s.uli.ring ++ allSegs.flatMap fun i => portImage (s.port i)) := by
  simp only [linkImage, List.append_assoc, padded]
  exact .cons (f1_field _) .nil

theorem linkImage_length (s : State) : (linkImage s).length = 97 := by
  rw [(linkImage_fields s).length, List.length_append, padded_length outcomeImage_length,
    length_flatMap (fun i => portImage_length (s.port i))]
  rfl

/-- The parts of READ_LINK_STATUS (Table 12-5). -/
theorem linkImage_readsAs (s : State) :
    (∀ n r, n < 8 → s.uli.ring[n]? = some r → readsAs (linkImage s)
      [(1 + 10 * n, 2, r.seq.toNat), (3 + 10 * n, 4, r.time.toNat), (7 + 10 * n, 1, r.addr.toNat),
        (8 + 10 * n, 1, heldOption 1 (r.cmd.map fun c => c.toNat)),
        (9 + 10 * n, 1, dirCode r.dir + flagBit r.cmd.isSome 2), (10 + 10 * n, 1, outcomeCode r.outcome)]) ∧
    (∀ n, n < 8 → s.uli.ring.length ≤ n → readsAs (linkImage s)
      [(1 + 10 * n, 4, 0xFFFFFFFF), (5 + 10 * n, 4, 0xFFFFFFFF), (9 + 10 * n, 2, 0xFFFF)]) ∧
    (∀ seg,
      let o := 77 + 4 * segNumber seg
      let p := s.port seg
      readsAs (linkImage s) [(o, 1, portStateCode p.state), (o + 1, 1, heldNumber 1 p.timeouts),
        (o + 2, 1, heldNumber 1 p.queue.length), (o + 3, 1, flagBit p.lane.isSome 0)]) := by
  have fields := linkImage_fields s
  refine ⟨fun n r hn hr => ?_, fun n hn hl => ?_, fun seg => ?_⟩
  · obtain ⟨front, back, e, hl⟩ := padded_at outcomeImage_length hn hr
    have at_place : ∀ i, i + 1 + 10 * n = 1 + 10 * n + i := fun i => by omega
    rw [at_place 2, at_place 6, at_place 7, at_place 8, at_place 9]
    exact fields.readsAs_part (by rw [e, List.append_assoc, List.append_assoc]) (by rw [hl]) (outcomeImage_fields _ r _)
  · obtain ⟨front, back, e, hl⟩ := padded_absent outcomeImage_length hn hl
    have at_place : ∀ i, i + 1 + 10 * n = 1 + 10 * n + i := fun i => by omega
    rw [at_place 4, at_place 8]
    refine fields.readsAs_part (part := List.replicate 10 0xFF) (e := 1 + 10 * n + 10)
      (by rw [e, List.append_assoc, List.append_assoc]) (by rw [hl]) ?_
    have split : ∀ tail : List Byte, List.replicate 10 0xFF ++ tail =
        List.replicate 4 0xFF ++ (List.replicate 4 0xFF ++ (List.replicate 2 0xFF ++ tail)) := fun _ => rfl
    rw [split]
    exact .cons (replicate_field 4) (.cons (replicate_field 4) (.cons (replicate_field 2) .nil))
  · intro o p
    have place : allSegs[segNumber seg - 1]? = some seg := by cases seg <;> rfl
    obtain ⟨front, back, e, hl⟩ := flatMap_at (fun i => portImage_length (s.port i)) allSegs place
    have ring := padded_length outcomeImage_length 8 s.uli.ring
    have first : 1 ≤ segNumber seg := by cases seg <;> decide
    refine fields.readsAs_part (front := padded 10 8 outcomeImage s.uli.ring ++ front) (by rw [e, List.append_assoc]) ?_
      (portImage_fields o p back)
    rw [List.length_append, ring, hl]
    omega

/-- Settles O28: the requests by their parts, then the images field by field. -/
theorem longReadOutsAnswer : Obligations.LongReadOutsAnswer := by
  intro s tag k h
  refine ⟨fun bay => ?bay, fun b hb => exec_readBay_beyond h tag k hb,
    exec_longRead h (q := .readPower) (p := [k]) rfl rfl rfl nofun rfl,
    exec_longRead h (q := .readBrightness) (p := [k]) rfl rfl rfl nofun rfl,
    exec_longRead h (q := .readMotion) (p := [k]) rfl rfl rfl nofun rfl,
    exec_longRead h (q := .readLinkStatus) (p := [k]) rfl rfl rfl nofun rfl,
    fun bay => bayImage_length bay s, (powerImage_fields s).length, (brightImage_fields s).length, motionImage_length s,
    linkImage_length s, fun bay => ⟨(bayImage_fields bay s).readsAs, bayImage_readsAs bay s⟩,
    (powerImage_fields s).readsAs, ?bright, ⟨?motion, motionImage_log s⟩, (linkImage_fields s).readsAs,
    linkImage_readsAs s⟩
  case bay =>
    exact exec_readBay h tag k bay
  case bright =>
    exact (brightImage_fields s).readsAs
  case motion =>
    exact (List.forall_mem_append (l₁ := [_, _, _, _, _, _, _, _, _, _, _, _, _, _])).2
      ⟨(motionImage_fields s).readsAs, motionImage_counts s⟩

end Sys2Proof.Machine
end

section
/-!
SUPPORT. Changes to the indicator bytes of ROUTES (R23): what they leave, place by place and over the places in turn.
-/

namespace Sys2Proof.Machine

section
variable {routes : Image} {p : Nat} (h : 12 * p + 11 < routes.length) (f : Byte → Byte)
include h

theorem mapIndicator_length : (mapIndicator routes p f).length = routes.length := by
  simp only [mapIndicator, putRun, List.length_append, List.length_take, List.length_drop, List.length_singleton]
  omega

theorem byteAt_mapIndicator (i : Nat) :
    byteAt (mapIndicator routes p f) i = if i = 12 * p + 11 then f (byteAt routes i) else byteAt routes i := by
  rw [mapIndicator, byteAt_putRun_single _ h]
  split
  · next e => rw [e]
  · rfl

end

/-- Each of the first `n` places takes its own change, and nothing else of ROUTES changes. -/
theorem foldIndicators (f : Nat → Byte → Byte) (routes : Image) : ∀ {n : Nat}, 12 * n ≤ routes.length →
    ((List.range n).foldl (fun r p => mapIndicator r p (f p)) routes).length = routes.length ∧
    ∀ i, byteAt ((List.range n).foldl (fun r p => mapIndicator r p (f p)) routes) i =
      if i < 12 * n ∧ i % 12 = 11 then f (i / 12) (byteAt routes i) else byteAt routes i
  | 0, _ => ⟨rfl, fun i => by simp⟩
  | n + 1, h => by
    obtain ⟨length, bytes⟩ := foldIndicators f routes (n := n) (by omega)
    rw [List.range_succ, List.foldl_append, List.foldl_cons, List.foldl_nil]
    set r := (List.range n).foldl (fun r p => mapIndicator r p (f p)) routes
    have place : 12 * n + 11 < r.length := by omega
    refine ⟨(mapIndicator_length place _).trans length, fun i => ?_⟩
    rw [byteAt_mapIndicator place, bytes]
    by_cases at_place : i = 12 * n + 11
    · have here : i / 12 = n ∧ i % 12 = 11 := by omega
      rw [if_pos at_place, if_neg (by omega), if_pos (by omega), here.1]
    · rw [if_neg at_place]
      congr 1
      exact propext ⟨fun ⟨below, last⟩ => ⟨by omega, last⟩, fun ⟨below, last⟩ => ⟨by omega, last⟩⟩

/-- CLEAR_INDICATORS clears both indicators of every place (R23). -/
theorem clearIndicatorBits_bytes {routes : Image} (h : 384 ≤ routes.length) :
    (clearIndicatorBits routes).length = routes.length ∧
    ∀ i, byteAt (clearIndicatorBits routes) i =
      if i < 384 ∧ i % 12 = 11 then byteAt routes i &&& 0xFC else byteAt routes i :=
  foldIndicators (fun _ b => b &&& 0xFC) routes (n := 32) h

end Sys2Proof.Machine
end

section
/-!
CLAIM. O30, the staging requests, CLEAR_INDICATORS and the notice requests (R23, R178, R183, R188 to R190, Table 12-6).
-/

namespace Sys2Proof.Machine

/-! ## STAGE_WRITE and DISCARD (R178) -/

/-- What STAGE_WRITE answers, with its checks in their order (R178, log entry 37). -/
theorem respond_stageWrite (tag n lo hi : Byte) (bytes : List Byte) (s : State) :
    (requestStageWrite ([n, lo, hi] ++ bytes) s.heard).tasks = [] ∧
    (respond 0x02 tag (requestStageWrite ([n, lo, hi] ++ bytes) s.heard)).1 =
      if 7 < n.toNat then s.answered 0x02 tag .badTable []
      else if tableSize n.toNat < pair lo hi + bytes.length then s.answered 0x02 tag .badOffset []
      else if s.commitRec.isSome then s.answered 0x02 tag .busy []
      else
        let put := putRun (tableImage s.sru.staging n.toNat) (pair lo hi) bytes
        State.answered { s with sru := { s.sru with staging := setTable s.sru.staging n.toNat put } } 0x02 tag .ok [] := by
  have place : u8 ([n, lo, hi] ++ bytes) 0 = n.toNat := rfl
  have offset : u16 ([n, lo, hi] ++ bytes) 1 = pair lo hi := rfl
  have run : ([n, lo, hi] ++ bytes).drop 3 = bytes := rfl
  have commit : s.heard.committing = s.commitRec.isSome := rfl
  simp only [requestStageWrite, place, offset, run, commit]
  split_ifs <;> exact ⟨rfl, rfl⟩

theorem respond_discard (tag mask : Byte) (s : State) :
    (requestDiscard [mask] s.heard).tasks = [] ∧
    (respond 0x05 tag (requestDiscard [mask] s.heard)).1 =
      if s.commitRec.isSome then s.answered 0x05 tag .busy []
      else State.answered
        { s with sru := { s.sru with staging := maskTables mask s.sru.staging s.sru.committed } } 0x05 tag .ok [] := by
  have commit : s.heard.committing = s.commitRec.isSome := rfl
  simp only [requestDiscard, commit]
  split_ifs <;> exact ⟨rfl, rfl⟩

/-! ## FETCH_NOTICES and SET_ALERT_LEVEL (R189, R190) -/

theorem respond_fetch (tag count peek : Byte) (s : State) :
    let q := s.ntq.fetched count.toNat (peek != 0)
    (requestFetch [count, peek] s.heard).tasks = [] ∧
    (respond 0x10 tag (requestFetch [count, peek] s.heard)).1 =
      if ¬(1 ≤ count.toNat ∧ count.toNat ≤ 2) then s.answered 0x10 tag .badLength []
      else State.answered { s with ntq := q } 0x10 tag .ok
        (fetchImage (s.ntq.queue.take count.toNat) q.queue.length s.ntq.overflow) := by
  have number : u8 [count, peek] 0 = count.toNat := rfl
  simp only [requestFetch, number, not_within_iff]
  split_ifs <;> exact ⟨rfl, rfl⟩

/-- The queue after a fetch (R189, R190). -/
theorem fetched_eq (q : Ntq) (count peek : Byte) : q.fetched count.toNat (peek != 0) = if peek ≠ 0 then q else
    { q with
      queue := q.queue.drop count.toNat, overflow := false
      alertLow := (q.queue.drop count.toNat).any fun n => atOrAbove q.alertLevel n.severity } := by
  by_cases look : peek = 0 <;> simp [Ntq.fetched, Ntq.alert, look]

/-- An alert level above 2 is none (R190). -/
theorem severityOfCode_beyond {n : Nat} (h : 2 < n) : severityOfCode n = none := by
  match n, h with
  | n + 3, _ => rfl

theorem exec_setAlertLevel {s : State} (h : s.servesRequests) (tag c : Byte) :
    exec (.setAlertLevel tag [c]) s = .next
      (match severityOfCode c.toNat with
      | some level => State.answered { s with ntq := s.ntq.withLevel level } 0x11 tag .ok []
      | none => s.answered 0x11 tag .notApplicable []) := by
  have act : Request.act .setAlertLevel [c] s.heard = requestAlertLevel [c] s.heard := rfl
  have code : u8 [c] 0 = c.toNat := rfl
  simp only [requestAlertLevel, code] at act
  cases level : severityOfCode c.toNat with
  | none => exact exec_request h (q := .setAlertLevel) rfl rfl rfl nofun (by rw [act, level]) rfl
  | some level' => exact exec_request h (q := .setAlertLevel) rfl rfl rfl nofun (by rw [act, level]) rfl

/-! ## The records of FETCH_NOTICES (Table 12-6) -/

/-- The low bytes of a 32-bit number hold it modulo their range. -/
theorem word4_low_field (w : BitVec 32) {k : Nat} (h : k ≤ 4) : IsField ((word4 w).take k) k (w.toNat % 256 ^ k) := by
  have := w.isLt
  interval_cases k <;> refine ⟨rfl, ?_⟩ <;>
    simp [word4, numberAt, byteAt, Nat.shiftRight_eq_div_pow] <;> omega

/-- A signed 24-bit number, held at its ends (R197). -/
theorem i3_field (v : Int) : IsField (i3 v) 3 (heldSigned 3 v) := by
  have clamped : clampInt v (-8388608) 8388607 =
      if v < -8388608 then -8388608 else if 8388608 ≤ v then 8388607 else v := by
    unfold clampInt
    split_ifs <;> omega
  have number : (BitVec.ofInt 32 (clampInt v (-8388608) 8388607)).toNat % 256 ^ 3 = heldSigned 3 v := by
    rw [clamped, BitVec.toNat_ofInt]
    simp only [heldSigned]
    split_ifs <;> omega
  exact number ▸ word4_low_field _ (by decide)

theorem kindCode_le (k : NoticeKind) : kindCode k ≤ 63 := by cases k <;> decide

theorem noticeImage_fields (o : Nat) (n : Notice) (tail : List Byte) : Fields o (noticeImage n ++ tail)
    [(o, 2, n.seq.toNat), (o + 2, 2, n.time.toNat % 65536), (o + 4, 1, kindCode n.kind + 64 * severityCode n.severity),
      (o + 5, 1, heldNumber 1 n.subject), (o + 6, 1, heldNumber 1 n.repeats), (o + 7, 3, heldSigned 3 n.arg1),
      (o + 10, 3, heldSigned 3 n.arg2)] (o + 13) tail := by
  have kind : kindCode n.kind + 64 * severityCode n.severity ≤ 255 := by
    have := kindCode_le n.kind
    have : severityCode n.severity ≤ 2 := by cases n.severity <;> decide
    omega
  simp only [noticeImage, List.append_assoc]
  exact .cons (half_field _) <| .cons (word4_low_field n.time (k := 2) (by decide)) <| .cons (f1_field_of_le kind) <|
    .cons (f1_field _) <| .cons (f1_field _) <| .cons (i3_field _) <| .cons (i3_field _) .nil

theorem noticeImage_length (n : Notice) : (noticeImage n).length = 13 := by
  have := (noticeImage_fields 0 n []).length_from
  simp only [List.append_nil, List.length_nil] at this
  omega

theorem fetchImage_fields (taken : List Notice) (left : Nat) (overflow : Bool) :
    Fields 0 (fetchImage taken left overflow)
      [(0, 1, heldNumber 1 (taken.length + flagBit overflow 7)), (1, 1, heldNumber 1 left)] 2
      (taken.flatMap noticeImage) := by
  simp only [fetchImage, List.append_assoc]
  exact .cons (f1_field _) (.cons (f1_field _) .nil)

/-- A record of the answer by its fields (Table 12-6). -/
theorem fetchImage_record {taken : List Notice} {k : Nat} {n : Notice} (h : taken[k]? = some n) (left : Nat)
    (overflow : Bool) :
    let o := 2 + 13 * k
    readsAs (fetchImage taken left overflow)
      [(o, 2, n.seq.toNat), (o + 2, 2, n.time.toNat % 65536), (o + 4, 1, kindCode n.kind + 64 * severityCode n.severity),
        (o + 5, 1, heldNumber 1 n.subject), (o + 6, 1, heldNumber 1 n.repeats), (o + 7, 3, heldSigned 3 n.arg1),
        (o + 10, 3, heldSigned 3 n.arg2)] := by
  intro o
  obtain ⟨front, back, e, hl⟩ := flatMap_at noticeImage_length taken h
  exact (fetchImage_fields taken left overflow).readsAs_part e (by rw [hl]) (noticeImage_fields o n back)

/-- Settles O30: each request by its own rule, and the answer of FETCH_NOTICES field by field. -/
theorem stagingAndNoticeRequestsAct : Obligations.StagingAndNoticeRequestsAct := by
  intro s tag h
  refine ⟨fun n lo hi bytes short long => ?stage, fun mask => ?discard, fun length => ?clear, fun count peek => ?fetch,
    fun c level named => ?level, fun c beyond => ?beyond, fun taken left overflow => ?image⟩
  case stage =>
    obtain ⟨none, answer⟩ := respond_stageWrite tag n lo hi bytes s
    have takes : Request.takes .stageWrite ([n, lo, hi] ++ bytes).length = true := by
      simp only [Request.takes, within_iff, List.length_append, List.length_cons, List.length_nil]
      omega
    exact (exec_request h (q := .stageWrite) rfl takes rfl nofun rfl none).trans (congrArg _ answer)
  case discard =>
    obtain ⟨none, answer⟩ := respond_discard tag mask s
    exact (exec_request h (q := .discard) rfl rfl rfl nofun rfl none).trans (congrArg _ answer)
  case clear =>
    obtain ⟨same, bytes⟩ := clearIndicatorBits_bytes (routes := s.sru.committed.routes) (by omega)
    exact ⟨clearIndicatorBits s.sru.committed.routes,
      exec_request h (q := .clearIndicators) rfl rfl rfl nofun rfl rfl, same.trans length, bytes⟩
  case fetch =>
    obtain ⟨none, answer⟩ := respond_fetch tag count peek s
    rw [fetched_eq] at answer
    exact (exec_request h (q := .fetchNotices) rfl rfl rfl nofun rfl none).trans (congrArg _ answer)
  case level =>
    exact (exec_setAlertLevel h tag c).trans (by rw [named]; rfl)
  case beyond =>
    exact (exec_setAlertLevel h tag c).trans (by rw [severityOfCode_beyond beyond])
  case image =>
    have fields := fetchImage_fields taken left overflow
    refine ⟨?_, fields.readsAs, fun k n hk => fetchImage_record hk left overflow⟩
    rw [fields.length, length_flatMap noticeImage_length]

end Sys2Proof.Machine
end

section
/-!
CLAIM. O31, COMMIT is accepted (R42, R176, R179).
-/

namespace Sys2Proof.Machine

/-- A change of the ports of some segments, each once, changes those alone. -/
theorem mapPorts_port_of_nodup (f : Port → Port) (g : Seg) : ∀ {segs : List Seg}, segs.Nodup → ∀ s : State,
    (s.mapPorts segs f).port g = if g ∈ segs then f (s.port g) else s.port g
  | [], _, s => by simp [State.mapPorts]
  | x :: xs, once, s => by
    obtain ⟨new, rest⟩ := List.nodup_cons.1 once
    have first : s.mapPorts (x :: xs) f = (s.setPort x (f (s.port x))).mapPorts xs f := rfl
    rw [first, mapPorts_port_of_nodup f g rest]
    by_cases here : g = x
    · subst here
      rw [if_neg new, if_pos (List.mem_cons_self ..), State.setPort_port_self]
    · simp only [State.setPort_port_ne _ _ here, List.mem_cons, here, false_or]

theorem segments_nodup (c : CommitRec) : c.segments.Nodup := List.Nodup.filter _ (by decide)

/-- The ports of a commit's affected segments. -/
theorem mapPorts_segments (f : Port → Port) (c : CommitRec) (s : State) (g : Seg) :
    (s.mapPorts c.segments f).port g = if c.held.get g then f (s.port g) else s.port g := by
  simp only [mapPorts_port_of_nodup f g (segments_nodup c) s, segments_mem]

/-- Settles O31: the request decodes to `acceptCommit`, which holds the affected ports and changes no other block. -/
theorem commitIsAccepted : Obligations.CommitIsAccepted := by
  intro s tag lo hi mask h free
  have decoded := exec_request_act (c := .commit tag [lo, hi, mask]) h (q := .commit) rfl rfl (.inr free) nofun
  have named : byteAt [lo, hi, mask] 2 = mask := rfl
  refine ⟨fun zero => ?_, fun masked => ?_⟩
  · have act : Request.act .commit [lo, hi, mask] s.heard = refusal .notApplicable s.heard := by
      simp only [Request.act, requestCommit, named, if_pos zero]
    rw [decoded, act]
    exact congrArg _ (run_nil ..)
  · have act : Request.act .commit [lo, hi, mask] s.heard =
        { status := .accepted, payload := [], state := acceptCommit (BitVec.ofNat 16 (pair lo hi)) mask s.heard
          tasks := [] } := by
      simp only [Request.act, requestCommit, named, if_neg masked]
      rfl
    refine ⟨_, decoded, ?_⟩
    rw [act, run_nil]
    refine ⟨⟨?_, fun seg => ?_⟩, ?_⟩
    · simp [respond, responseOf, acceptCommit, State.heard, State.stagedTables, timerNow, commitLimit]
      rfl
    · exact mapPorts_segments Port.hold _ s.heard seg
    · simp [respond, acceptCommit, State.heard]

end Sys2Proof.Machine
end

section
/-!
CLAIM. O10, the events at which the generation, the committed tables and the private memory change (R178, R181, R182,
R191, R194, R195).
-/

namespace Sys2Proof.Machine

/-! ## ROUTES apart from its indicators (R23) -/

/-- Two images of ROUTES agree but for the indicator bytes of their places. -/
def SameEntries (old new : Image) : Prop :=
  old.length = 392 → new.length = 392 ∧ ∀ i, ¬(i < 384 ∧ i % 12 = 11) → byteAt new i = byteAt old i

/-- The committed entries of ROUTES stay, their indicators apart. -/
def State.keepsEntries (s t : State) : Prop := SameEntries s.sru.committed.routes t.sru.committed.routes

namespace State.keepsEntries

theorem of_eq {s t : State} (h : t.sru.committed = s.sru.committed) : s.keepsEntries t := fun length => by
  rw [h]
  exact ⟨length, fun _ _ => rfl⟩

theorem trans {s t u : State} (h : s.keepsEntries t) (k : t.keepsEntries u) : s.keepsEntries u := fun length => by
  obtain ⟨middle, same⟩ := h length
  obtain ⟨last, same'⟩ := k middle
  exact ⟨last, fun i outside => (same' i outside).trans (same i outside)⟩

end State.keepsEntries

/-- A change to an indicator byte of a place is outside the entries. -/
theorem mapIndicator_entries {routes : Image} {p : Nat} (place : p < 32) (f : Byte → Byte) :
    SameEntries routes (mapIndicator routes p f) := fun length => by
  have inside : 12 * p + 11 < routes.length := by omega
  refine ⟨(mapIndicator_length inside f).trans length, fun i outside => ?_⟩
  rw [byteAt_mapIndicator inside, if_neg (by omega)]

theorem clearIndicatorBits_entries (routes : Image) : SameEntries routes (clearIndicatorBits routes) := fun length => by
  obtain ⟨same, bytes⟩ := clearIndicatorBits_bytes (routes := routes) (by omega)
  exact ⟨same.trans length, fun i outside => by rw [bytes, if_neg outside]⟩

/-! ## Every handling keeps the entries -/

theorem markUsed_entries (s : State) (e : RouteSnap) : s.keepsEntries (s.markUsed e) := by
  unfold State.markUsed
  split
  · next p found =>
    obtain ⟨key, -, named⟩ := Option.bind_eq_some_iff.1 found
    exact mapIndicator_entries (routePlace_eq_some.1 named).1 (· ||| 1)
  · exact .of_eq rfl

theorem markWritten_entries (t : LaneTxn) (s : State) : s.keepsEntries (markWritten t s) := by
  unfold markWritten
  (repeat' split) <;> first
    | exact mapIndicator_entries (routePlace_eq_some.1 ‹routePlace _ _ = some _›).1 (· ||| 2)
    | exact .of_eq rfl

theorem onFirstAddress_entries (addr : Addr) (read : Bool) (s : State) : s.keepsEntries (onFirstAddress addr read s) := by
  have opened : s.keepsEntries (openTransaction addr read s) := by
    unfold openTransaction
    dsimp only
    (repeat' split) <;> first
      | exact (markUsed_entries s ‹RouteSnap›).trans (.of_eq (by simp))
      | exact .of_eq (by simp)
  unfold onFirstAddress
  split
  case h_2 => exact opened
  all_goals exact .of_eq rfl

theorem atBoundary_entries (seg : Seg) (s : State) : s.keepsEntries (atBoundary seg s).1 := by
  have placed : ∀ p, s.keepsEntries (s.setPort seg p) := fun p => .of_eq rfl
  generalize h : atBoundary seg s = r
  unfold atBoundary at h
  dsimp only at h
  (repeat' split at h) <;> subst h <;> first
    | exact (placed _).trans (markWritten_entries _ _)
    | exact .of_eq (by simp)

/-- CLEAR_INDICATORS clears indicators, and no other request touches a committed table. -/
theorem act_entries (r : Request) (p : List Byte) (s : State) : s.keepsEntries (r.act p s).state := by
  by_cases clears : r = .clearIndicators
  · subst clears
    exact clearIndicatorBits_entries s.sru.committed.routes
  · refine .of_eq ?_
    generalize h : r.act p s = a
    cases r <;>
      simp only [Request.act, requestIdentify, requestStageWrite, requestStageRead, requestTableRead, requestDiscard,
        requestCommit, requestSave, requestSettingsRead, requestSettingsWrite, requestFetch, requestAlertLevel,
        requestTelemetry, requestReadBay, requestReadPower, requestReadBrightness, requestBrightness, requestSwapOf,
        requestRetry, requestReadDrop, requestClearDrop, requestReadMotion, requestReadPoll, requestReadLink,
        requestReset, readImageRun, longRead, firstPart, laterPart, acceptCommit] at h clears <;>
      (repeat' split at h) <;> subst h <;> simp [refusal, reading, acting, State.clearMarks, State.setLog] at clears ⊢

theorem decodeRequest_entries (code tag : Byte) (p : List Byte) (s : State) :
    s.keepsEntries (decodeRequest code tag p s).1 := by
  have answered : ∀ r : Request, s.keepsEntries (answerOf r p s).state := fun r => by
    unfold answerOf
    split_ifs
    · exact .of_eq rfl
    · exact .of_eq rfl
    · exact .of_eq rfl
    · exact act_entries r p s
  unfold decodeRequest
  split
  · exact (answered _).trans (.of_eq rfl)
  · exact .of_eq rfl

theorem writeEnd_committed (code : Byte) (status : Status) (payload : List Byte) (s : State) :
    (s.writeEnd code status payload).sru.committed = s.sru.committed := by
  unfold State.writeEnd
  dsimp only
  split <;> simp

theorem onBackgroundEnd_committed (status : Status) (payload : List Byte) (s : State) :
    (onBackgroundEnd status payload s).sru.committed = s.sru.committed := writeEnd_committed ..

theorem onSwapEnd_committed (bay : Bay) (s : State) : (onSwapEnd bay s).sru.committed = s.sru.committed := by
  unfold onSwapEnd
  (repeat' split) <;> first | exact onBackgroundEnd_committed .. | rfl

/-- Every handling keeps the entries of ROUTES: traffic and CLEAR_INDICATORS change indicators alone (R23). -/
theorem handle_entries (t : Task) (s : State) : s.keepsEntries (handle t s).1 := by
  cases t
  case openTxn addr read => exact onFirstAddress_entries addr read s
  case request code tag payload => exact decodeRequest_entries code tag payload s
  case boundary seg => exact atBoundary_entries seg s
  case swapEnd bay => exact .of_eq (onSwapEnd_committed bay s)
  case backgroundEnd status payload => exact .of_eq (onBackgroundEnd_committed status payload s)
  case resetDone => exact .of_eq (writeEnd_committed ..)
  case motionSwitch =>
    refine .of_eq ?_
    simp only [handle, takeMotionTable]
    split <;> simp
  case supplySwitch => exact .of_eq (by simp [handle, takeSupplyTable, State.forceSupply])
  case malformed => exact .of_eq rfl
  all_goals exact .of_eq (by simp [handle, alone])

/-! ## The first change of a command -/

/-- The events that change the committed tables (R181, R182, R191). -/
def ChangesTables (c : Instr) : Prop :=
  c = .powerOnReset ∨ c = .commitSwitch ∨ c = .commitLimitExpiry ∨ ∃ answered, c = .settingsLoadEnd answered

theorem onValidationEnd_sru (s : State) : (onValidationEnd s).1.sru.committed = s.sru.committed ∧
    (onValidationEnd s).1.sru.generation = s.sru.generation := by
  unfold onValidationEnd
  (repeat' split) <;> exact ⟨rfl, rfl⟩

/-- Every other command changes at most an indicator at its first change. -/
theorem commandAct_tables {c : Instr} (h : ¬ChangesTables c) (s : State) :
    (∃ addr read, c = .firstAddressByte addr read) ∨ (commandAct c s).1.sru.committed = s.sru.committed ∧
      (commandAct c s).1.sru.generation = s.sru.generation := by
  cases c
  case powerOnReset => exact absurd (.inl rfl) h
  case commitSwitch => exact absurd (.inr (.inl rfl)) h
  case commitLimitExpiry => exact absurd (.inr (.inr (.inl rfl))) h
  case settingsLoadEnd answered => exact absurd (.inr (.inr (.inr ⟨answered, rfl⟩))) h
  case firstAddressByte addr read => exact .inl ⟨addr, read, rfl⟩
  case commitValidationEnd => exact .inr (onValidationEnd_sru s)
  case slotStale slot => exact .inr (by simp only [commandAct]; split <;> simp [alone])
  case presenceRise bay => exact .inr (by simp only [commandAct]; split <;> simp [alone])
  case presenceFall bay => exact .inr (by simp only [commandAct]; split <;> simp [alone])
  all_goals exact .inr (by simp [commandAct, alone])

/-- The generation and the tables of one state are those of another, the indicators of ROUTES apart. -/
structure State.keepsTables (s t : State) : Prop where
  generation : t.sru.generation = s.sru.generation
  guards : t.sru.committed.guards = s.sru.committed.guards
  polls : t.sru.committed.polls = s.sru.committed.polls
  snoops : t.sru.committed.snoops = s.sru.committed.snoops
  slots : t.sru.committed.slots = s.sru.committed.slots
  light : t.sru.committed.light = s.sru.committed.light
  supply : t.sru.committed.supply = s.sru.committed.supply
  motion : t.sru.committed.motion = s.sru.committed.motion
  entries : s.keepsEntries t

namespace State.keepsTables

theorem of_settings {s t : State} (h : SameSettings s t) (k : s.keepsEntries t) : s.keepsTables t :=
  ⟨h.generation, h.guards, h.polls, h.snoops, h.slots, h.light, h.supply, h.motion, k⟩

theorem of_eq {s t : State} (h : t.sru.committed = s.sru.committed) (g : t.sru.generation = s.sru.generation) :
    s.keepsTables t := by
  constructor <;> first | exact g | exact .of_eq h | rw [h]

theorem trans {s t u : State} (h : s.keepsTables t) (k : t.keepsTables u) : s.keepsTables u :=
  ⟨k.generation.trans h.generation, k.guards.trans h.guards, k.polls.trans h.polls, k.snoops.trans h.snoops,
    k.slots.trans h.slots, k.light.trans h.light, k.supply.trans h.supply, k.motion.trans h.motion,
    h.entries.trans k.entries⟩

end State.keepsTables

theorem handle_keepsTables (t : Task) (s : State) : s.keepsTables (handle t s).1 :=
  .of_settings (handle_settings t s) (handle_entries t s)

theorem commandAct_keepsTables {c : Instr} (h : ¬ChangesTables c) (s : State) : s.keepsTables (commandAct c s).1 := by
  rcases commandAct_tables h s with ⟨addr, read, rfl⟩ | ⟨committed, generation⟩
  · exact .of_settings (onFirstAddress_settings addr read s) (onFirstAddress_entries addr read s)
  · exact .of_eq committed generation

/-! ## The private memory (R194, R195) -/

theorem takeLoad_memory (answered : Bool) (s : State) : (s.takeLoad answered).smi.memory = s.smi.memory := by
  unfold State.takeLoad
  dsimp only
  split <;> simp

theorem onLoadEnd_memory (answered : Bool) (s : State) : (onLoadEnd answered s).1.smi.memory = s.smi.memory := by
  have acts : (actReset answered s).1.smi.memory = s.smi.memory := by
    refine Eq.trans ?_ (takeLoad_memory answered { s with ntq := s.ntq.emptied, uli := { s.uli with ring := [] } })
    simp only [actReset, State.supplyReload]
    split <;> simp [takeSupplyTable, State.forceMotion, State.forceSupply]
  have opens : (openTraffic answered s).1.smi.memory = s.smi.memory := by
    refine Eq.trans ?_ (takeLoad_memory answered s)
    simp [openTraffic]
  unfold onLoadEnd
  (repeat' split) <;> first | exact acts | exact opens | rfl

/-- The two page events (R194, R195). -/
def WritesPage (c : Instr) : Prop :=
  c = .rawWritePageDone ∨ ∃ acknowledged held, c = .savePageDone acknowledged held

theorem commandAct_memory {c : Instr} (h : ¬WritesPage c) (s : State) :
    (commandAct c s).1.smi.memory = s.smi.memory := by
  cases c
  case rawWritePageDone => exact absurd (.inl rfl) h
  case savePageDone acknowledged held => exact absurd (.inr ⟨acknowledged, held, rfl⟩) h
  case settingsLoadEnd answered => exact onLoadEnd_memory answered s
  case slotStale slot => simp only [commandAct]; split <;> simp [alone]
  case presenceRise bay => simp only [commandAct]; split <;> simp [alone]
  case presenceFall bay => simp only [commandAct]; split <;> simp [alone]
  all_goals simp [commandAct, alone]

/-- Settles O10: every handling keeps the tables and the memory, so only a command's first change can change them. -/
theorem settingsChangeAtTheirEvents : Obligations.SettingsChangeAtTheirEvents := by
  refine ⟨fun c s t done reset switch limit load => ?tables, fun c s t done raw save => ?memory⟩
  case tables =>
    have other : ¬ChangesTables c := by
      rintro (h | h | h | ⟨answered, h⟩)
      exacts [reset h, switch h, limit h, load answered h]
    rw [exec_eq reset] at done
    have kept : s.keepsTables (perform (commandAct c) s) :=
      perform_keeps (s.keepsTables ·) (fun _ _ h => h.trans (.of_eq rfl rfl)) (fun t x h => h.trans (handle_keepsTables t x))
        _ (fun x h => h.trans (commandAct_keepsTables other x)) s (.of_eq rfl rfl)
    obtain rfl := Host.Outcome.next.inj done
    exact ⟨kept.generation, kept.guards, kept.polls, kept.snoops, kept.slots, kept.light, kept.supply, kept.motion,
      kept.entries⟩
  case memory =>
    have other : ¬WritesPage c := by
      rintro (h | ⟨acknowledged, held, h⟩)
      exacts [raw h, save acknowledged held h]
    rcases exec_cases done with ⟨-, rfl⟩ | ⟨-, rfl⟩
    · rfl
    · exact perform_keeps (fun x => x.smi.memory = s.smi.memory) (fun _ _ h => h)
        (fun t x h => (handle_settings t x).memory.trans h) _ (fun x h => (commandAct_memory other x).trans h) s rfl

end Sys2Proof.Machine
end

section
/-!
CLAIM. O38, the end of a commit's validation, its limit, and its unmet conditions (R176, R180 to R182).
-/

namespace Sys2Proof.Machine

/-! ## The unmet conditions (R182) -/

/-- Each condition is a bit of its own. -/
theorem unmet_bits : ∀ a b c d e f : Bool,
    let n := flagBit a 0 + flagBit b 1 + flagBit c 2 + flagBit d 3 + flagBit e 4 + flagBit f 5
    n.testBit 0 = a ∧ n.testBit 1 = b ∧ n.testBit 2 = c ∧ n.testBit 3 = d ∧ n.testBit 4 = e ∧ n.testBit 5 = f ∧
      n < 64 := by decide

theorem unready_eq (s : State) (c : CommitRec) (seg : Seg) :
    s.unready c seg = (c.held.get seg && decide ((s.port seg).mark ≠ .ready)) := by
  simp only [State.unready, bne, beq_eq_decide, decide_not]

/-- The bit of a held segment. -/
theorem unmet_testBit_seg (s : State) (c : CommitRec) (seg : Seg) : (s.unmet c).testBit (segNumber seg - 1) =
    (c.held.get seg && decide ((s.port seg).mark ≠ .ready)) := by
  rw [← unready_eq]
  obtain ⟨first, second, third, fourth, -⟩ := unmet_bits (s.unready c .sp1) (s.unready c .sp2) (s.unready c .sp3)
    (s.unready c .sp4) (bitAt c.mask 6 && s.ppc.attempt.isSome) (bitAt c.mask 7 && s.mtu.openRec.isSome)
  cases seg
  exacts [first, second, third, fourth]

/-- The bits of SUPPLY and MOTION; there are no others. -/
theorem unmet_testBit_blocks (s : State) (c : CommitRec) :
    (s.unmet c).testBit 4 = (bitAt c.mask 6 && s.ppc.attempt.isSome) ∧
    (s.unmet c).testBit 5 = (bitAt c.mask 7 && s.mtu.openRec.isSome) ∧ s.unmet c < 64 := by
  obtain ⟨-, -, -, -, supply, motion, bound⟩ := unmet_bits (s.unready c .sp1) (s.unready c .sp2) (s.unready c .sp3)
    (s.unready c .sp4) (bitAt c.mask 6 && s.ppc.attempt.isSome) (bitAt c.mask 7 && s.mtu.openRec.isSome)
  exact ⟨supply, motion, bound⟩

/-! ## A commit that fails (R180, R182) -/

section
variable {s : State} {c : CommitRec} (background : s.sru.background = .commit c)
include background

theorem commitRec_of_background : s.commitRec = some c := by simp [State.commitRec, background]

/-- The holds end, then the operation, and COMMIT_FAILED is raised; the held ports begin nothing. -/
theorem failCommit_run {tag : Byte} (awaits : s.awaitsEnd 0x06 tag)
    (rests : ∀ seg, c.held.get seg = true → (s.port seg).rests) (status : Status) (payload : List Byte) (arg2 : Int) :
    run stepFuel (failCommit c status payload arg2 s).2 (failCommit c status payload arg2 s).1 =
      s.commitFailed c tag status payload arg2 := by
  have few := segments_length c
  have fuel : stepFuel = 4096 := rfl
  obtain ⟨n, enough, unheld⟩ := run_unholds c.segments s [.backgroundEnd status payload,
    .post { kind := .commitFailed, severity := .warn, subject := 0, arg1 := statusCode status, arg2 := arg2 }] stepFuel
    (fun g hg => rests g ((segments_mem c g).1 hg)) (by omega)
  obtain ⟨m, rfl⟩ : ∃ m, n = m + 2 := ⟨n - 2, by omega⟩
  have ends : handle (.backgroundEnd status payload) (s.mapPorts c.segments Port.freed) =
      ((s.mapPorts c.segments Port.freed).ended 0x06 tag status payload, []) := by
    refine handle_backgroundEnd ?_ ?_ status payload
    · simpa [State.awaitsEnd] using awaits
    · simp [background, backgroundCode]
  simp only [failCommit]
  rw [unheld, run_cons, ends, List.nil_append, run_cons]
  exact run_nil ..

theorem onValidationEnd_early (h : c.waiting = true ∨ age s.now c.limit.start < 2) : onValidationEnd s = (s, []) := by
  rcases h with h | h <;> simp [onValidationEnd, commitRec_of_background background, h, validationTime]

/-- Validation ends by the first failure of the masked tables (R180). -/
theorem onValidationEnd_due (free : c.waiting = false) (due : 2 ≤ age s.now c.limit.start) : onValidationEnd s =
    match firstFailure (addrByte (serviceAddr s.lines.addrSelHigh)) c.mask s.sru.staging with
    | none => (s.setSru { s.sru with background := .commit { c with waiting := true } }, [])
    | some (n, i) => failCommit c .invalidTable [BitVec.ofNat 8 n, BitVec.ofNat 8 i] ((256 * n + i : Nat) : Int) s := by
  have late : ¬age s.now c.limit.start < validationTime := Nat.not_lt.2 due
  simp only [onValidationEnd, commitRec_of_background background, free, late]
  rfl

theorem onCommitLimit_early (h : age s.now c.limit.start < c.limit.dur) : onCommitLimit s = (s, []) := by
  have running : c.limit.due s.now = false := decide_eq_false (Nat.not_le.2 h)
  simp [onCommitLimit, commitRec_of_background background, running]

theorem onCommitLimit_due (h : c.limit.dur ≤ age s.now c.limit.start) : onCommitLimit s =
    if s.commitReady c then switchCommit c s
    else failCommit c .busy [BitVec.ofNat 8 (s.unmet c)] (s.unmet c) s := by
  have due : c.limit.due s.now = true := decide_eq_true h
  simp [onCommitLimit, commitRec_of_background background, due]

theorem onCommitSwitch_eq : onCommitSwitch s = if s.commitReady c then switchCommit c s else (s, []) := by
  simp only [onCommitSwitch, commitRec_of_background background]

end

theorem commitReady_iff {s : State} {c : CommitRec} : s.commitReady c = true ↔ c.waiting = true ∧ s.unmet c = 0 := by
  simp [State.commitReady]

/-- Settles O38: what each event finds, the run of a failure, and the bits of the unmet conditions. -/
theorem commitValidatesOrFails : Obligations.CommitValidatesOrFails := by
  intro s c tag quiet background awaits busy
  have fails := failCommit_run background awaits fun seg held => .inl (busy seg held)
  have validation := exec_quiet .commitValidationEnd nofun quiet
  have limit := exec_quiet .commitLimitExpiry nofun quiet
  simp only [commandAct] at validation limit
  refine ⟨fun _ early => ?early, fun free due => ⟨fun passed => ?passed, fun n i failed => ?failed⟩, fun running => ?running,
    fun due => ⟨fun unready => ?busy, fun waits met => ?ready⟩, unmet_testBit_seg s c, unmet_testBit_blocks s c⟩
  case early => rw [validation, onValidationEnd_early background (.inr early), run_nil]
  case passed =>
    rw [validation, onValidationEnd_due background free due, passed]
    exact congrArg _ (run_nil ..)
  case failed => simp only [validation, onValidationEnd_due background free due, failed, fails]
  case running => rw [limit, onCommitLimit_early background running, run_nil]
  case busy =>
    have waits : ¬s.commitReady c = true := fun ready => by
      obtain ⟨waiting, met⟩ := commitReady_iff.1 ready
      rcases unready with free | unmet
      · simp [free] at waiting
      · exact unmet met
    rw [limit, onCommitLimit_due background due, if_neg waits, fails]
  case ready =>
    have ready := commitReady_iff.2 ⟨waits, met⟩
    have switch := exec_quiet .commitSwitch nofun quiet
    simp only [commandAct] at switch
    rw [limit, switch, onCommitLimit_due background due, onCommitSwitch_eq background, if_pos ready, if_pos ready]

end Sys2Proof.Machine
end

section
/-!
SUPPORT. The affected segments of a commit (R179): a segment's content, place by place.
-/

namespace Sys2Proof.Machine

/-! ## Items of a segment -/

/-- Two optional values agree when they stand under the same condition and are the same there. -/
theorem optional_eq_iff {α : Type} {P Q : Prop} [Decidable P] [Decidable Q] {x y : α} :
    (if P then some x else none) = (if Q then some y else none) ↔ (P ↔ Q) ∧ (P → x = y) := by
  by_cases p : P <;> by_cases q : Q <;> simp [p, q]

section
variable {α : Type} {n : Nat} {a b : Nat → Option Seg} {f g : Nat → α} {seg : Seg}

theorem mem_itemsOn {p : Nat} {x : α} : (p, x) ∈ itemsOn n a f seg ↔ p < n ∧ a p = some seg ∧ f p = x := by
  simp [itemsOn, and_assoc]

theorem itemsOn_succ : itemsOn (n + 1) a f seg = itemsOn n a f seg ++ if a n = some seg then [(n, f n)] else [] := by
  by_cases on : a n = some seg <;> simp [itemsOn, List.range_succ, List.filter_append, on]

/-- The items of a segment are the same when they are so place by place. -/
theorem itemsOn_eq_iff : itemsOn n a f seg = itemsOn n b g seg ↔
    ∀ p, p < n → (a p = some seg ↔ b p = some seg) ∧ (a p = some seg → f p = g p) := by
  refine ⟨fun same p below => ?_, fun places => ?_⟩
  · have item : ∀ x, (a p = some seg ∧ f p = x) ↔ (b p = some seg ∧ g p = x) := fun x => by
      have : (p, x) ∈ itemsOn n a f seg ↔ (p, x) ∈ itemsOn n b g seg := by rw [same]
      simpa only [mem_itemsOn, below, true_and] using this
    exact ⟨⟨fun on => ((item (f p)).1 ⟨on, rfl⟩).1, fun on => ((item (g p)).2 ⟨on, rfl⟩).1⟩,
      fun on => (((item (f p)).1 ⟨on, rfl⟩).2).symm⟩
  · induction n with
    | zero => rfl
    | succ n ih =>
      obtain ⟨on, item⟩ := places n (Nat.lt_succ_self n)
      rw [itemsOn_succ, itemsOn_succ, ih fun p below => places p (Nat.lt_succ_of_lt below)]
      congr 1
      by_cases here : a n = some seg
      · rw [if_pos here, if_pos (on.1 here), item here]
      · rw [if_neg here, if_neg (mt on.2 here)]

end

/-! ## The segment of an item (log entry 11) -/

/-- A segment byte names a segment: in a staged image only from 1 to 4. -/
theorem segmentNamed_iff {staged : Bool} {n : Nat} {seg : Seg} : segmentNamed staged n = some seg ↔
    ((!staged || decide (1 ≤ n ∧ n ≤ 4)) && segOfNumber n == seg) = true := by
  by_cases range : 1 ≤ n ∧ n ≤ 4 <;> cases staged <;> simp [segmentNamed, ← Bool.decide_and, range]

theorem placeSegment_iff {staged : Bool} {routes : Image} {p : Nat} {seg : Seg} :
    placeSegment staged routes p = some seg ↔ (byteAt routes (12 * p) != 0 &&
      ((!staged || decide (1 ≤ u8 routes (12 * p + 1) ∧ u8 routes (12 * p + 1) ≤ 4)) &&
        segOfNumber (u8 routes (12 * p + 1)) == seg)) = true := by
  by_cases empty : byteAt routes (12 * p) = 0
  · simp [placeSegment, empty]
  · rw [placeSegment, if_neg empty, segmentNamed_iff, bne_iff_ne.2 empty, Bool.true_and]

theorem windowSegment_iff {staged : Bool} {routes : Image} {w : Nat} {seg : Seg} :
    windowSegment staged routes w = some seg ↔ byteAt routes (384 + 4 * w + 2) ≠ 0 ∧
      ((!staged || decide (1 ≤ u8 routes (384 + 4 * w + 2) ∧ u8 routes (384 + 4 * w + 2) ≤ 4)) &&
        segOfNumber (u8 routes (384 + 4 * w + 2)) == seg) = true := by
  by_cases unused : byteAt routes (384 + 4 * w + 2) = 0
  · simp [windowSegment, unused]
  · rw [windowSegment, if_neg unused, segmentNamed_iff, and_iff_right unused]

/-- A key names the segment of its lowest place. -/
theorem keySegment_iff {staged : Bool} {routes : Image} {key : Byte} {seg : Seg} :
    keySegment staged routes key = some seg ↔
      (routePlace routes key).any (fun p => byteAt routes (12 * p) != 0 &&
        ((!staged || decide (1 ≤ u8 routes (12 * p + 1) ∧ u8 routes (12 * p + 1) ≤ 4)) &&
          segOfNumber (u8 routes (12 * p + 1)) == seg)) = true := by
  simp only [keySegment, Option.bind_eq_some_iff, placeSegment_iff, Option.any_eq_true]

theorem some_of_unless {empty : Prop} [Decidable empty] {x : Option Seg} {seg : Seg} :
    (if empty then none else x) = some seg ↔ ¬empty ∧ x = some seg := by
  by_cases e : empty <;> simp [e]

/-! ## The content of a segment -/

theorem affectedSegments_get (staged : Bool) (old new : Tables) (seg : Seg) :
    (affectedSegments staged old new).get seg = !sameContent staged old new seg := by cases seg <;> rfl

/-- The content is the same when the entries with their rules, the windows, the polls and the snoops are. -/
theorem sameContent_iff {staged : Bool} {old new : Tables} {seg : Seg} : sameContent staged old new seg = true ↔
    (∀ p, p < 32 →
      (placeSegment false old.routes p = some seg ↔ placeSegment staged new.routes p = some seg) ∧
      (placeSegment false old.routes p = some seg →
        (routeFields old.routes p, guardBytes old p) = (routeFields new.routes p, guardBytes new p))) ∧
    (∀ w, w < 2 →
      (windowSegment false old.routes w = some seg ↔ windowSegment staged new.routes w = some seg) ∧
      (windowSegment false old.routes w = some seg →
        slice old.routes (384 + 4 * w) 4 = slice new.routes (384 + 4 * w) 4)) ∧
    (∀ p, p < 24 →
      (byteAt old.polls (95 * p) ≠ 0 ∧ keySegment false old.routes (byteAt old.polls (95 * p + 1)) = some seg ↔
        byteAt new.polls (95 * p) ≠ 0 ∧ keySegment staged new.routes (byteAt new.polls (95 * p + 1)) = some seg) ∧
      (byteAt old.polls (95 * p) ≠ 0 ∧ keySegment false old.routes (byteAt old.polls (95 * p + 1)) = some seg →
        pollFields old.polls p = pollFields new.polls p)) ∧
    ∀ p, p < 16 →
      (byteAt old.snoops (79 * p) ≠ 0 ∧ keySegment false old.routes (byteAt old.snoops (79 * p)) = some seg ↔
        byteAt new.snoops (79 * p) ≠ 0 ∧ keySegment staged new.routes (byteAt new.snoops (79 * p)) = some seg) ∧
      (byteAt old.snoops (79 * p) ≠ 0 ∧ keySegment false old.routes (byteAt old.snoops (79 * p)) = some seg →
        snoopFields old.snoops p = snoopFields new.snoops p) := by
  simp only [sameContent, Bool.and_eq_true, beq_iff_eq, routeItems, windowItems, guardItems, pollItems, snoopItems,
    itemsOn_eq_iff, some_of_unless, Prod.mk.injEq]
  constructor
  · rintro ⟨⟨⟨⟨routes, windows⟩, guards⟩, polls⟩, snoops⟩
    exact ⟨fun p below => ⟨(routes p below).1, fun on => ⟨(routes p below).2 on, (guards p below).2 on⟩⟩, windows, polls,
      snoops⟩
  · rintro ⟨entries, windows, polls, snoops⟩
    exact ⟨⟨⟨⟨fun p below => ⟨(entries p below).1, fun on => ((entries p below).2 on).1⟩, windows⟩,
      fun p below => ⟨(entries p below).1, fun on => ((entries p below).2 on).2⟩⟩, polls⟩, snoops⟩

/-! ## The fields that count (R197, log entry 51) -/

/-- Two runs with a byte between them, each read at its own place. -/
theorem byteAt_between {front back : List Byte} {b : Byte} {m : Nat} (h : front.length = m) (i : Nat) :
    byteAt (front ++ [b] ++ back) i =
      if i < m then byteAt front i else if i = m then b else byteAt back (i - (m + 1)) := by
  subst h
  rcases lt_trichotomy i front.length with below | here | above
  · rw [if_pos below, List.append_assoc, byteAt_append_left _ below]
  · subst here
    simp [byteAt]
  · rw [if_neg (by omega), if_neg (by omega)]
    simp only [byteAt, List.getD_eq_getElem?_getD]
    rw [List.getElem?_append_right (by simp; omega)]
    simp

theorem routeFields_bytes {routes : Image} {p : Nat} (length : routes.length = 392) (place : p < 32) :
    (routeFields routes p).length = 11 ∧ ∀ i, i < 11 → byteAt (routeFields routes p) i =
      if i = 3 then byteAt routes (12 * p + 3) &&& 0x7F else byteAt routes (12 * p + i) := by
  have front : (slice routes (12 * p) 3).length = 3 := length_slice (by omega)
  have back : (slice routes (12 * p + 4) 7).length = 7 := length_slice (by omega)
  refine ⟨by simp [routeFields, front, back], fun i below => ?_⟩
  rw [routeFields, byteAt_between front]
  split_ifs with first flags
  · omega
  · exact byteAt_slice first
  · rfl
  · rw [byteAt_slice (by omega)]
    congr 1
    omega

theorem descriptorFields_bytes {img : Image} {o : Nat} (length : o + 19 ≤ img.length) :
    (descriptorFields img o).length = 19 ∧ ∀ i, i < 19 → byteAt (descriptorFields img o) i =
      if i = 2 then byteAt img (o + 2) &&& 1 else byteAt img (o + i) := by
  have front : (slice img o 2).length = 2 := length_slice (by omega)
  have back : (slice img (o + 3) 16).length = 16 := length_slice (by omega)
  refine ⟨by simp [descriptorFields, front, back], fun i below => ?_⟩
  rw [descriptorFields, byteAt_between front]
  split_ifs with first flags
  · omega
  · exact byteAt_slice first
  · rfl
  · rw [byteAt_slice (by omega)]
    congr 1
    omega

end Sys2Proof.Machine
end

section
/-!
SUPPORT. The validation of a commit (R180): the first failure of a table, and the conditions of its places.
-/

namespace Sys2Proof.Machine

/-! ## First failures -/

section
variable {n : Nat} {ok : Nat → Bool}

theorem firstBad_eq_none : firstBad n ok = none ↔ ∀ i, i < n → ok i = true := by
  simp [firstBad]

theorem firstBad_eq_some {i : Nat} : firstBad n ok = some i ↔ i < n ∧ ok i = false ∧ ∀ j, j < i → ok j = true := by
  simp only [firstBad, List.find?_range_eq_some, Bool.not_eq_true', Bool.not_not, List.mem_range]
  exact ⟨fun ⟨bad, below, good⟩ => ⟨below, bad, good⟩, fun ⟨below, bad, good⟩ => ⟨bad, below, good⟩⟩

/-- The first failure of places whose checks mean a condition. -/
theorem firstBad_of_first {good : Nat → Prop} (means : ∀ i, ok i = true ↔ good i) {i : Nat} (below : i < n)
    (bad : ¬good i) (first : ∀ j, j < i → good j) : firstBad n ok = some i :=
  firstBad_eq_some.2 ⟨below, Bool.eq_false_iff.2 (mt (means i).1 bad), fun j hj => (means j).2 (first j hj)⟩

end

/-- The first of a run of numbers that a search finds. -/
theorem findSome?_range_eq_some {α : Type} {f : Nat → Option α} {b : α} : ∀ {n : Nat},
    (List.range n).findSome? f = some b ↔ ∃ i, i < n ∧ f i = some b ∧ ∀ j, j < i → f j = none
  | 0 => by simp
  | n + 1 => by
    rw [List.range_succ, List.findSome?_append, Option.or_eq_some_iff, findSome?_range_eq_some,
      List.findSome?_eq_none_iff]
    simp only [List.mem_range, List.findSome?_singleton]
    constructor
    · rintro (⟨i, below, found, first⟩ | ⟨before, found⟩)
      · exact ⟨i, by omega, found, first⟩
      · exact ⟨n, by omega, found, before⟩
    · rintro ⟨i, below, found, first⟩
      rcases Nat.lt_succ_iff_lt_or_eq.1 below with inside | rfl
      · exact .inl ⟨i, inside, found, first⟩
      · exact .inr ⟨first, found⟩

section
variable {service mask : Byte} {t : Tables}

theorem firstFailure_eq_none :
    firstFailure service mask t = none ↔ ∀ n, n < 8 → bitAt mask n = true → badTable service t n = none := by
  simp only [firstFailure, List.findSome?_eq_none_iff, List.mem_range, ite_eq_right_iff, Option.map_eq_none_iff]

theorem firstFailure_eq_some {n i : Nat} : firstFailure service mask t = some (n, i) ↔ n < 8 ∧ bitAt mask n = true ∧
    badTable service t n = some i ∧ ∀ k, k < n → bitAt mask k = true → badTable service t k = none := by
  simp only [firstFailure, findSome?_range_eq_some, ite_eq_right_iff, Option.map_eq_none_iff, ite_eq_iff, reduceCtorEq,
    and_false, or_false, Option.map_eq_some_iff, Prod.mk.injEq]
  constructor
  · rintro ⟨m, below, ⟨masked, j, bad, rfl, rfl⟩, first⟩
    exact ⟨below, masked, bad, first⟩
  · rintro ⟨below, masked, bad, first⟩
    exact ⟨n, below, ⟨masked, i, bad, rfl, rfl⟩, first⟩

end

/-- A list of checks has no failing field when every check holds. -/
theorem badField_eq_none {table first : Nat} {fields : List Bool} :
    badField table first fields = none ↔ ∀ b ∈ fields, b = true := by
  rw [badField, Option.map_eq_none_iff, firstBad_eq_none, List.forall_mem_iff_getElem]
  exact ⟨fun good i below => by simpa [below] using good i below, fun good i below => by simpa [below] using good i below⟩

theorem u8_le (img : Image) (i : Nat) : u8 img i ≤ 255 := by
  have := (byteAt img i).isLt
  rw [u8]
  omega

theorem u16_le (img : Image) (i : Nat) : u16 img i ≤ 65535 := by
  have := u8_le img i
  have := u8_le img (i + 1)
  rw [u16]
  omega

/-! ## ROUTES and GUARDS (R8, R9, R14) -/

/-- A route entry place is empty, or its fields are in their ranges and no place before it holds its key (log entry 62). -/
theorem routeOk_iff {service : Byte} {img : Image} {p : Nat} : routeOk service img p = true ↔
    let b := fun i => u8 img (12 * p + i)
    b 0 = 0 ∨ 0x08 ≤ b 0 ∧ b 0 ≤ 0x77 ∧ b 0 ≠ service.toNat ∧ (∀ q, q < p → u8 img (12 * q) ≠ b 0) ∧
      1 ≤ b 1 ∧ b 1 ≤ 4 ∧ b 2 ≤ 0x7F ∧ b 3 / 8 % 4 ≤ 2 ∧
      ((b 3).testBit 5 = true → b 4 ≤ 63 ∧ b 5 ≤ 8 ∧ b 4 + b 5 ≤ 64) ∧ ((b 3).testBit 6 = true → b 6 ≤ 4) := by
  have flag : ∀ i, bitAt (byteAt img (12 * p + 3)) i = (u8 img (12 * p + 3)).testBit i := fun _ => rfl
  have empty : byteAt img (12 * p) = 0 ↔ u8 img (12 * p) = 0 := (BitVec.toNat_inj (y := 0)).symm
  have own : byteAt img (12 * p) = service ↔ u8 img (12 * p) = service.toNat := BitVec.toNat_inj.symm
  have twice : ∀ q, byteAt img (12 * q) = byteAt img (12 * p) ↔ u8 img (12 * q) = u8 img (12 * p) := fun _ =>
    BitVec.toNat_inj.symm
  have gate : (byteAt img (12 * p + 3)).toNat = u8 img (12 * p + 3) := rfl
  have implied : ∀ {x y : Bool}, (!x || y) = true ↔ (x = true → y = true) := by decide
  simp only [routeOk, Bool.or_eq_true, Bool.and_eq_true, beq_iff_eq, bne_iff_ne, ne_eq, List.all_eq_true, List.mem_range,
    within_iff, implied, flag, empty, own, twice, gate, Nat.zero_le, true_and, and_assoc, Nat.add_zero]

theorem windowOk_iff {img : Image} {w : Nat} : windowOk img w = true ↔
    let b := fun i => u8 img (384 + 4 * w + i)
    b 0 ≤ 0x7F ∧ b 1 ≤ 0x7F ∧ b 2 ≤ 4 ∧ b 3 ≤ 1 := by
  simp only [windowOk, Bool.and_eq_true, within_iff, Nat.zero_le, true_and, and_assoc, Nat.add_zero]

theorem guardOk_iff {img : Image} {i : Nat} : guardOk img i = true ↔
    let b := fun j => u8 img (13 * i + j)
    b 0 ≤ b 1 ∧ b 2 ≤ 2 ∧ b 3 ≤ 4 := by
  simp only [guardOk, Bool.and_eq_true, within_iff, decide_eq_true_eq, Nat.zero_le, true_and, and_assoc, Nat.add_zero]

/-- ROUTES has no failure when its places and its windows have none. -/
theorem badRoutes_eq_none {service : Byte} {img : Image} : badRoutes service img = none ↔
    (∀ p, p < 32 → routeOk service img p = true) ∧ ∀ w, w < 2 → windowOk img w = true := by
  unfold badRoutes
  cases places : firstBad 32 (routeOk service img) with
  | none => simp only [Option.map_eq_none_iff, firstBad_eq_none, and_iff_right (firstBad_eq_none.1 places)]
  | some p =>
    obtain ⟨below, bad, -⟩ := firstBad_eq_some.1 places
    simp only [reduceCtorEq, false_iff]
    exact fun ⟨good, _⟩ => by simp [good p below] at bad

/-- A failing place of ROUTES comes before its windows. -/
theorem badRoutes_of_place {service : Byte} {img : Image} {p : Nat}
    (h : firstBad 32 (routeOk service img) = some p) : badRoutes service img = some p := by
  simp only [badRoutes, h]

/-! ## POLLS and SNOOPS (R46, R56) -/

/-- The descriptors of a list are valid; those beyond four are not read. -/
theorem descriptorsOk_iff {img : Image} {o count : Nat} : descriptorsOk img o count = true ↔
    ∀ k, k < count → k < 4 →
      let d := o + 19 * k
      1 ≤ u8 img (d + 1) ∧ u8 img (d + 1) ≤ 32 ∧ u8 img (d + 3) ≤ 15 ∧ u8 img (d + 10) ≤ 31 ∧
        i32 img (d + 11) ≤ i32 img (d + 15) := by
  simp only [descriptorsOk, descriptorOk, List.all_eq_true, List.mem_range, lt_inf_iff, Bool.and_eq_true, within_iff,
    decide_eq_true_eq, Nat.zero_le, true_and, and_assoc, and_imp]

theorem pollOk_iff {img : Image} {p : Nat} : pollOk img p = true ↔
    let b := fun i => u8 img (95 * p + i)
    b 0 = 0 ∨ b 0 ≤ 4 ∧ 0x08 ≤ b 1 ∧ b 1 ≤ 0x77 ∧ b 2 ≤ 1 ∧ b 5 ≤ 1 ∧ b 10 ≤ 4 ∧
      descriptorsOk img (95 * p + 19) (b 10) = true ∧ (b 2 = 1 → 1 ≤ b 4 ∧ b 4 ≤ 32) ∧
      (b 2 = 0 → b 0 = 2 ∧ b 4 ≤ 8 ∧ b 10 = 0) ∧ (b 0 = 1 → 10 ≤ u16 img (95 * p + 6)) := by
  have period := u16_le img (95 * p + 6)
  by_cases read : u8 img (95 * p + 2) = 1
  · simp only [pollOk, Bool.or_eq_true, Bool.and_eq_true, within_iff, beq_iff_eq, bne_iff_ne, and_assoc, read, BEq.rfl,
      if_true, Nat.add_zero]
    grind
  · simp only [pollOk, Bool.or_eq_true, Bool.and_eq_true, within_iff, beq_iff_eq, bne_iff_ne, and_assoc,
      beq_false_of_ne read, Bool.false_eq_true, if_false, Nat.add_zero]
    grind

theorem snoopOk_iff {img : Image} {p : Nat} : snoopOk img p = true ↔
    let b := fun i => u8 img (79 * p + i)
    b 0 = 0 ∨ 0x08 ≤ b 0 ∧ b 0 ≤ 0x77 ∧ 1 ≤ b 2 ∧ b 2 ≤ 4 ∧ descriptorsOk img (79 * p + 3) (b 2) = true := by
  simp only [snoopOk, Bool.or_eq_true, Bool.and_eq_true, within_iff, beq_iff_eq, and_assoc, Nat.add_zero]

/-! ## LIGHT, SUPPLY and MOTION (R90, R124, R148, R172) -/

/-- Points that are each in range and in order with the one before it are in range and pairwise in order. -/
theorem points_iff {α : Type} {inRange : α → Prop} {r : α → α → Prop} (trans : ∀ x y z, r x y → r y z → r x z) (d : α)
    (l : List α) :
    (∀ i, i < l.length → inRange (l.getD i d) ∧ (i = 0 ∨ r (l.getD (i - 1) d) (l.getD i d))) ↔
      (∀ q ∈ l, inRange q) ∧ l.Pairwise r := by
  have : Trans r r r := ⟨fun h k => trans _ _ _ h k⟩
  have point : ∀ {i} (below : i < l.length), l.getD i d = l[i] := fun below => by simp [below]
  rw [← List.isChain_iff_pairwise, List.isChain_iff_getElem, List.forall_mem_iff_getElem]
  constructor
  · intro points
    refine ⟨fun i below => point below ▸ (points i below).1, fun i below => ?_⟩
    have step := (points (i + 1) below).2.resolve_left (Nat.succ_ne_zero i)
    rwa [Nat.add_sub_cancel, point below, point (Nat.lt_of_succ_lt below)] at step
  · rintro ⟨range, steps⟩ i below
    refine ⟨(point below).symm ▸ range i below, ?_⟩
    match i, below with
    | 0, _ => exact .inl rfl
    | i + 1, below =>
      rw [Nat.add_sub_cancel, point below, point (Nat.lt_of_succ_lt below)]
      exact .inr (steps i below)

theorem curvePoints_good {l : List (Nat × Nat)} : firstBad l.length (curvePointOk l) = none ↔
    (∀ q ∈ l, q.1 ≤ 319 ∧ q.2 ≤ 2000) ∧ l.Pairwise fun x y => x.1 < y.1 := by
  rw [firstBad_eq_none, ← points_iff (r := fun x y : Nat × Nat => x.1 < y.1) (fun _ _ _ => Nat.lt_trans) (0, 0)]
  simp only [curvePointOk, Bool.or_eq_true, Bool.and_eq_true, within_iff, beq_iff_eq, decide_eq_true_eq, Nat.zero_le,
    true_and]

theorem powerPoints_good {l : List (Nat × Nat)} : firstBad l.length (powerPointOk l) = none ↔
    (∀ q ∈ l, q.1 ≤ 2000 ∧ q.2 ≤ 20000) ∧ l.Pairwise fun x y => x.1 < y.1 ∧ x.2 ≤ y.2 := by
  rw [firstBad_eq_none, ← points_iff (fun _ _ _ h k => ⟨Nat.lt_trans h.1 k.1, Nat.le_trans h.2 k.2⟩) (0, 0)]
  simp only [powerPointOk, Bool.or_eq_true, Bool.and_eq_true, within_iff, beq_iff_eq, decide_eq_true_eq, Nat.zero_le,
    true_and]

/-- LIGHT has no failure when its fields, the points of its curves and the count of the second have none. -/
theorem badLight_eq_none {p : Light} : badLight p = none ↔ (∀ b ∈ lightFields p, b = true) ∧
    firstBad p.curve.length (curvePointOk p.curve) = none ∧ (2 ≤ p.powerCount ∧ p.powerCount ≤ 8) ∧
      firstBad p.power.length (powerPointOk p.power) = none := by
  have count : badField 5 19 [within 2 8 p.powerCount] = none ↔ 2 ≤ p.powerCount ∧ p.powerCount ≤ 8 := by
    simp [badField_eq_none, within_iff]
  rw [← badField_eq_none (table := 5) (first := 0), ← count]
  unfold badLight
  cases badField 5 0 (lightFields p) <;> cases firstBad p.curve.length (curvePointOk p.curve) <;>
    cases badField 5 19 [within 2 8 p.powerCount] <;> simp

theorem statusSlotOk_iff {n : Nat} : statusSlotOk n = true ↔ n = 0xFF ∨ 16 ≤ n ∧ n ≤ 31 := by
  simp only [statusSlotOk, Bool.or_eq_true, beq_iff_eq, within_iff]

/-- The fields of LIGHT before its curves (Table 7-8). -/
theorem lightFields_good {img : Image} : let l := lightOf img
    (∀ b ∈ lightFields l, b = true) ↔
      (1 ≤ l.frontK ∧ 1 ≤ l.rearK ∧ (∀ c, c = l.frontStatus ∨ c = l.rearStatus → c = 0xFF ∨ 16 ≤ c ∧ c ≤ 31) ∧
        1 ≤ l.alphaUp ∧ l.alphaUp ≤ 256 ∧ 1 ≤ l.alphaDown ∧ l.alphaDown ≤ 256 ∧ 20 ≤ l.period ∧ l.period ≤ 1000 ∧
        l.nMin ≤ 2000 ∧ 1 ≤ l.nMax ∧ l.nMax ≤ 2000 ∧ 1 ≤ l.rUp ∧ l.rUp ≤ 2000 ∧ 1 ≤ l.rDown ∧ l.rDown ≤ 2000 ∧
        l.hysteresis ≤ 4095 ∧ l.start ≤ 2000 ∧ 0x08 ≤ l.driverKey.toNat ∧ l.driverKey.toNat ≤ 0x77) ∧
      2 ≤ l.curveCount ∧ l.curveCount ≤ 16 := by
  intro l
  have front : l.frontK ≤ 65535 := u16_le img 0
  have rear : l.rearK ≤ 65535 := u16_le img 2
  simp only [lightFields, List.forall_mem_cons, List.not_mem_nil, within_iff, statusSlotOk_iff, front, rear, forall_eq_or_imp,
    forall_eq, Nat.zero_le, true_and, and_true, and_assoc, false_imp_iff, implies_true]

theorem supplyFields_good {img : Image} : let u := supplyOf img
    (∀ b ∈ supplyFields img u, b = true) ↔
      u8 img 0 ≤ 1 ∧ u8 img 1 ≤ 1 ∧ u.reserve ≤ 100000 ∧ u.margin ≤ 100000 ∧ u.dwell ≤ 3600 ∧
        u.window ≤ 5000 ∧ u.cutoff ≤ 20000 ∧ u.temperature ≤ 1000 ∧ u.bridgeLow ≤ 30000 ∧ 1 ≤ u.bridgeTime ∧
        u.bridgeTime ≤ 600 ∧ 2 ≤ u.debounce ∧ u.debounce ≤ 64 ∧ 50 ≤ u.seat ∧ u.seat ≤ 2000 ∧ 200 ≤ u.identify ∧
        u.identify ≤ 10000 ∧ u.high ≤ 200000 ∧ u.crit ≤ u.high ∧ u.hyst ≤ 50000 ∧ u.mains ≤ 20000 ∧
        u.packHigh ≤ 20000 ∧ u.packLow ≤ 20000 ∧ u.packCritical ≤ 20000 ∧ u.bridge ≤ 20000 := by
  intro u
  simp only [supplyFields, List.forall_mem_cons, List.not_mem_nil, within_iff, Bool.and_eq_true, decide_eq_true_eq,
    Nat.zero_le, true_and, and_true, and_assoc, false_imp_iff, implies_true]
  omega

theorem motionFields_good {m : MotionParams} : (∀ b ∈ motionFields m, b = true) ↔
    0x08 ≤ m.key.toNat ∧ m.key.toNat ≤ 0x77 ∧ 1 ≤ m.fall ∧ m.fall ≤ 1024 ∧ 1 ≤ m.fallCount ∧ m.fallCount ≤ 255 ∧
      64 ≤ m.impact ∧ m.impact ≤ 3547 ∧ 1 ≤ m.window ∧ m.window ≤ 255 ∧ m.fall ≤ m.low ∧ m.low ≤ m.high ∧
      m.high < m.impact ∧ 1 ≤ m.settleCount ∧ m.settleCount ≤ 1000 ∧ 100 ≤ m.fallLimit ∧ m.fallLimit ≤ 10000 ∧
      100 ≤ m.settleLimit ∧ m.settleLimit ≤ 30000 ∧ m.parkHold ≤ 10000 ∧ m.shockHold ≤ 10000 := by
  simp only [motionFields, List.forall_mem_cons, List.not_mem_nil, within_iff, Bool.and_eq_true, decide_eq_true_eq,
    Nat.zero_le, true_and, and_true, and_assoc, false_imp_iff, implies_true]
  omega

end Sys2Proof.Machine
end

section
/-!
CLAIM. O32, the affected segments of a commit and the conditions of its validation (R179, R180).
-/

namespace Sys2Proof.Machine

/-- Settles O32: a segment is affected when its content differs at a place, and each table's checks mean its conditions. -/
theorem commitConditions : Obligations.CommitConditions := by
  refine ⟨fun staged old new seg => ?affected, fun routes p i length place => ?route, fun img o i length => ?descriptor,
    fun service mask t => ?validation⟩
  case affected =>
    intro names entryOn rules route window keyOn poll snoop
    have same := sameContent_iff (staged := staged) (old := old) (new := new) (seg := seg)
    simp only [placeSegment_iff, windowSegment_iff, keySegment_iff, ← optional_eq_iff] at same
    rw [affectedSegments_get, Bool.not_eq_true', ← Bool.not_eq_true, same]
    simp only [not_and_or, not_forall, exists_prop]
    exact Iff.rfl
  case route =>
    obtain ⟨count, bytes⟩ := routeFields_bytes length place
    exact ⟨count, bytes i⟩
  case descriptor =>
    obtain ⟨count, bytes⟩ := descriptorFields_bytes length
    exact ⟨count, bytes i⟩
  case validation =>
    intro firstOfPlaces describes entry window guard poll snoop l u m
    have polls : ∀ p, pollOk t.polls p = true ↔ poll p := fun p => by
      simp only [pollOk_iff, descriptorsOk_iff]
      exact Iff.rfl
    have snoops : ∀ p, snoopOk t.snoops p = true ↔ snoop p := fun p => by
      simp only [snoopOk_iff, descriptorsOk_iff]
      exact Iff.rfl
    have entries : ∀ p, routeOk service t.routes p = true ↔ entry p := fun p => routeOk_iff
    have guards : ∀ i, guardOk t.guards i = true ↔ guard i := fun i => guardOk_iff
    refine ⟨firstFailure_eq_none, fun n i => firstFailure_eq_some, ?_, fun i below bad first => ?_, ?_,
      fun i below bad first => firstBad_of_first guards below bad first, ?_,
      fun i below bad first => firstBad_of_first polls below bad first, ?_,
      fun i below bad first => firstBad_of_first snoops below bad first, rfl, ?_,
      badField_eq_none.trans supplyFields_good, badField_eq_none.trans motionFields_good⟩
    · refine badRoutes_eq_none.trans ?_
      simp only [entries, windowOk_iff]
      exact Iff.rfl
    · exact badRoutes_of_place (firstBad_of_first entries below bad first)
    · refine firstBad_eq_none.trans ?_
      simp only [guards]
    · refine firstBad_eq_none.trans ?_
      simp only [polls]
    · refine firstBad_eq_none.trans ?_
      simp only [snoops]
    · refine badLight_eq_none.trans ?_
      refine (and_congr lightFields_good (and_congr curvePoints_good (and_congr_right' powerPoints_good))).trans ?_
      simp only [and_assoc]
      exact Iff.rfl

end Sys2Proof.Machine
end

section
/-!
SUPPORT. The state that refutes O39: a commit of SLOTS whose lapses end the awaited attempt within the same handling.
-/

namespace Sys2Proof.Machine

/-- A commit of SLOTS alone that waits for its switch; its staged image gives the status slot of bay A, slot 4, the limit
of 50 ms, and every other slot none. -/
def slotsCommit : CommitRec :=
  { gen := 5, mask := 0x10, waiting := true, held := { p1 := false, p2 := false, p3 := false, p4 := false }
    limit := { start := 990, dur := 50 } }

/-- Bay A is IDENTIFYING with nothing left to be done; only its status word, which is a fault and 100 ms old, keeps it
from its admission. Its source is ON as the target of an awaited attempt, a SUPPLY reload waits for the attempt's end, and
its presence line has been open for 500 ms, which has not been taken yet. -/
def admittedByLapse : State :=
  let s := State.reset
  { s with
    now := 1000
    uli := { s.uli with phase := .idle }
    slots := ((s.slots.set 0 (freshSlot 16000)).set 3 (freshSlot 250)).set 4 { freshSlot 1 with time := some 900 }
    ppc := { s.ppc with
      sources := { s.ppc.sources with a := { s.ppc.sources.a with sw := .on } }
      managed := true
      startup := none
      supplyDue := true
      attempt := some
        { kind := .startup, target := .a, old := none, reason := .policy, confirm := { start := 1000, dur := 5 }
          rest := [] } }
    bays := { s.bays with a := { s.bays.a with
      state := .identifying, present := true, latchClosed := true, wordFault := true
      presenceFilter := { line := false, out := true, since := some 500 } } }
    sru := { s.sru with
      background := .commit slotsCommit
      staging := { s.sru.staging with slots := List.replicate 8 0 ++ [50, 0] } }
    smi := { s.smi with activity := .idle } }

/-- The state after the switch. -/
def afterLapse : State := perform (commandAct .commitSwitch) admittedByLapse

theorem exec_slotsSwitch : exec .commitSwitch admittedByLapse = .next afterLapse := by
  rw [exec_eq (by simp), afterLapse]

/-- The status slot goes STALE, which admits the bay; a READY bay carries no load, so the attempt is lost; the reload that
waited for its end takes the presence change, and the bay that enters EMPTY takes its voltage slot, slot 0, with it. -/
theorem afterLapse_never : (afterLapse.slot 0).state = .never := by
  decide +kernel

theorem slotsCommit_unmet : admittedByLapse.unmet slotsCommit = 0 := by
  decide +kernel

/-- Refutes O39: while an attempt is awaited, a switch of SLOTS is said to make the slots that their new limits expire
STALE and to leave every other slot as it was. The attempt may end within the handling, and the SUPPLY reload that waits
for its end then takes a presence fall that is due: slot 0, FRESH and without a limit, becomes NEVER. -/
theorem not_commitSwitchesTables : ¬ Obligations.CommitSwitchesTables := by
  rintro ⟨-, switches⟩
  obtain ⟨-, switch⟩ := switches admittedByLapse slotsCommit rfl rfl
  obtain ⟨t, done, -, -, -, -, -, -, -, -, -, -, -, -, -, -, -, -, -, slots, -⟩ := switch rfl slotsCommit_unmet
  obtain rfl : afterLapse = t := Host.Outcome.next.inj (exec_slotsSwitch.symm.trans done)
  have kept : afterLapse.slot 0 = admittedByLapse.slot 0 := (slots rfl rfl 0).trans (if_neg fun ⟨_, limited, _⟩ => limited rfl)
  exact absurd (afterLapse_never.symm.trans (congrArg Slot.state kept)) nofun

end Sys2Proof.Machine
end

section
/-!
SUPPORT. How far a run gets: a bound on the tasks that are worked off before the run is at a place with a property.
-/

namespace Sys2Proof.Machine

/-- Within so many tasks the work-off is at tasks and a state with a property. -/
inductive Leads (goal : List Task → State → Prop) : Nat → List Task → State → Prop
  | here {n : Nat} {ts : List Task} {s : State} (h : goal ts s) : Leads goal n ts s
  | step {n : Nat} {t : Task} {ts : List Task} {s : State}
      (h : Leads goal n ((handle t s).2 ++ ts) (handle t s).1) : Leads goal (n + 1) (t :: ts) s

namespace Leads

variable {goal aim : List Task → State → Prop} {n m : Nat} {ts : List Task} {s : State}

theorem mono (h : Leads goal n ts s) (le : n ≤ m) : Leads goal m ts s := by
  induction h generalizing m with
  | here h => exact .here h
  | step _ ih =>
    obtain ⟨m, rfl⟩ : ∃ k, m = k + 1 := ⟨m - 1, by omega⟩
    exact .step (ih (by omega))

theorem then_ (h : Leads goal n ts s) (next : ∀ ts s, goal ts s → Leads aim m ts s) : Leads aim (n + m) ts s := by
  induction h with
  | here h => exact (next _ _ h).mono (by omega)
  | step _ ih => exact .mono (.step ih) (by omega)

theorem imp (h : Leads goal n ts s) (next : ∀ ts s, goal ts s → aim ts s) : Leads aim n ts s :=
  h.then_ (m := 0) fun _ _ g => .here (next _ _ g)

/-- A task whose handling is known. -/
theorem of_handle {t : Task} {s' : State} {new : List Task} (e : handle t s = (s', new))
    (h : Leads goal n (new ++ ts) s') : Leads goal (n + 1) (t :: ts) s := .step (by rw [e]; exact h)

/-- The run goes on from there with the fuel that is left. -/
theorem run_eq (h : Leads goal n ts s) (fuel : Nat) :
    ∃ m us t, fuel ≤ m ∧ goal us t ∧ run (fuel + n) ts s = run m us t := by
  induction h generalizing fuel with
  | here h => exact ⟨_, _, _, Nat.le_add_right .., h, rfl⟩
  | step _ ih => exact ih fuel

/-- The tasks in front of a rest are worked off within a measure that every task lowers, unless the goal is reached from
where they are. -/
theorem of_measure {rest : List Task} (inv : List Task → State → Prop) (μ : List Task → State → Nat)
    (lowers : ∀ t ts s, inv (t :: ts) s →
      inv ((handle t s).2 ++ ts) (handle t s).1 ∧ μ ((handle t s).2 ++ ts) (handle t s).1 < μ (t :: ts) s ∨
        Leads goal (μ (t :: ts) s + m) (t :: ts ++ rest) s)
    (done : ∀ s, inv [] s → Leads goal m rest s) :
    ∀ k ts s, μ ts s ≤ k → inv ts s → Leads goal (k + m) (ts ++ rest) s := by
  intro k
  induction k with
  | zero =>
    intro ts s le h
    cases ts with
    | nil => exact (done s h).mono (by omega)
    | cons t ts => exact (lowers t ts s h).elim (fun k => absurd k.2 (by omega)) fun k => k.mono (by omega)
  | succ k ih =>
    intro ts s le h
    cases ts with
    | nil => exact (done s h).mono (by omega)
    | cons t ts =>
      rcases lowers t ts s h with ⟨inv', lt⟩ | reached
      · have goesOn := ih _ _ (by omega) inv'
        rw [List.append_assoc] at goesOn
        exact .mono (.step goesOn) (by omega)
      · exact reached.mono (by omega)

end Leads

/-- The weights of some tasks together. -/
def load (w : Task → Nat) (ts : List Task) : Nat := (ts.map w).sum

section
variable (w : Task → Nat)

@[simp] theorem load_nil : load w [] = 0 := rfl

@[simp] theorem load_cons (t : Task) (ts : List Task) : load w (t :: ts) = w t + load w ts := by simp [load]

@[simp] theorem load_append (ts us : List Task) : load w (ts ++ us) = load w ts + load w us := by simp [load]

theorem load_tasksIf (c : Bool) (ts : List Task) : load w (tasksIf c ts) ≤ load w ts := by
  cases c <;> simp [tasksIf]

theorem load_eq_of {v : Task → Nat} {ts : List Task} (h : ∀ t ∈ ts, v t = w t) : load v ts = load w ts :=
  congrArg List.sum (List.map_congr_left h)

theorem load_le {ts : List Task} {b : Nat} (h : ∀ t ∈ ts, w t ≤ b) : load w ts ≤ ts.length * b := by
  induction ts with
  | nil => simp
  | cons t ts ih =>
    have first := h t (by simp)
    have rest := ih fun u hu => h u (by simp [hu])
    rw [load_cons, List.length_cons, Nat.succ_mul]
    omega

theorem le_load {ts : List Task} {t : Task} (h : t ∈ ts) : w t ≤ load w ts := by
  induction ts with
  | nil => simp at h
  | cons u us ih =>
    rcases List.mem_cons.1 h with rfl | h
    · simp
    · have := ih h
      simp only [load_cons]
      omega

end

end Sys2Proof.Machine
end

section
/-!
SUPPORT. The part behind the start of the polls in a SOFT_RESET (R184): its ports hold no lane and no live poll, no SETUP
run waits for a gate, and the settings are those the reset loaded.
-/

namespace Sys2Proof.Machine

/-! ## The ports -/

/-- An engine transaction that is no live poll. -/
def EngTxn.detached (t : EngTxn) : Bool :=
  match t.issuer with
  | .ple tag => tag.orphan
  | .brc => true
  | .mtu => true

/-- A port without a lane and without a live poll. -/
structure Port.Tame (p : Port) : Prop where
  lane : p.lane = none
  queue : ∀ t ∈ p.queue, t.detached = true
  room : p.queue.length ≤ 8
  running : ∀ t time, p.running = some (.engine t, time) → t.detached = true

namespace Port.Tame

variable {p : Port} (h : p.Tame)
include h

/-- A port that keeps at most its transactions. -/
theorem of_queue {q : Port} (lane : q.lane = none) (running : ∀ t time, q.running = some (.engine t, time) → t.detached = true)
    (mem : ∀ t ∈ q.queue, t ∈ p.queue) (length : q.queue.length ≤ p.queue.length) : q.Tame :=
  ⟨lane, fun t ht => h.queue t (mem t ht), length.trans h.room, running⟩

theorem join {t : EngTxn} (ht : t.detached = true) (hl : p.queue.length < 8) : (p.join t).Tame where
  lane := h.lane
  queue u hu := by
    rcases List.mem_append.1 hu with hu | hu
    · exact h.queue u hu
    · obtain rfl := List.mem_singleton.1 hu
      exact ht
  room := by simp [Port.join]; omega
  running := h.running

theorem recoded (code : Nat) : (p.recoded code).Tame where
  lane := h.lane
  queue t ht := by
    obtain ⟨u, hu, rfl⟩ := List.mem_map.1 ht
    split
    · exact h.queue u hu
    · exact h.queue u hu
  room := by simpa [Port.recoded] using h.room
  running := h.running

end Port.Tame

/-- How many transactions wait at the ports. -/
def State.queued (s : State) : Nat :=
  s.ports.p1.queue.length + s.ports.p2.queue.length + s.ports.p3.queue.length + s.ports.p4.queue.length

theorem setPort_queued (s : State) (seg : Seg) (p : Port) :
    (s.setPort seg p).queued + (s.port seg).queue.length = s.queued + p.queue.length := by
  cases seg <;> simp only [State.queued, State.setPort, State.port, PerSeg.set, PerSeg.get] <;> omega

theorem queued_of_ports {s t : State} (h : t.ports = s.ports) : t.queued = s.queued := by simp [State.queued, h]

/-! ## The state -/

/-- The state in the course of a SOFT_RESET, seen from the one in which it loaded its tables. -/
structure Tame (r s : State) : Prop where
  port : ∀ seg, (s.port seg).Tame
  gates : ∀ place, (s.poll place).gateWait = false
  committed : s.sru.committed = r.sru.committed
  staging : s.sru.staging = r.sru.staging
  generation : s.sru.generation = r.sru.generation
  supply : s.sru.supplyForce = r.sru.committed.supply
  motion : r.sru.motionForce = r.sru.committed.motion → s.sru.motionForce = r.sru.committed.motion
  smi : s.smi = r.smi

namespace Tame

variable {r s t : State} (h : Tame r s)
include h

theorem queued_le : s.queued ≤ 32 := by
  have p1 : s.ports.p1.queue.length ≤ 8 := (h.port .sp1).room
  have p2 : s.ports.p2.queue.length ≤ 8 := (h.port .sp2).room
  have p3 : s.ports.p3.queue.length ≤ 8 := (h.port .sp3).room
  have p4 : s.ports.p4.queue.length ≤ 8 := (h.port .sp4).room
  unfold State.queued
  omega

theorem of_ports (ports : ∀ seg, (t.port seg).Tame) (polls : t.polls = s.polls) (sru : t.sru = s.sru) (smi : t.smi = s.smi) :
    Tame r t where
  port := ports
  gates place := by rw [State.poll, polls]; exact h.gates place
  committed := by rw [sru, h.committed]
  staging := by rw [sru, h.staging]
  generation := by rw [sru, h.generation]
  supply := by rw [sru, h.supply]
  motion := by rw [sru]; exact h.motion
  smi := smi.trans h.smi

theorem of_eq (ports : t.ports = s.ports) (polls : t.polls = s.polls) (sru : t.sru = s.sru) (smi : t.smi = s.smi) :
    Tame r t :=
  h.of_ports (fun seg => by rw [State.port, ports]; exact h.port seg) polls sru smi

theorem setPort {seg : Seg} {p : Port} (hp : p.Tame) : Tame r (s.setPort seg p) := by
  refine h.of_ports (fun other => ?_) rfl rfl rfl
  by_cases e : other = seg
  · subst e
    simpa using hp
  · rw [State.setPort_port_ne _ _ e]
    exact h.port other

theorem of_polls (ports : t.ports = s.ports) (gates : ∀ place, (t.poll place).gateWait = false) (sru : t.sru = s.sru)
    (smi : t.smi = s.smi) : Tame r t where
  port seg := by rw [State.port, ports]; exact h.port seg
  gates := gates
  committed := by rw [sru, h.committed]
  staging := by rw [sru, h.staging]
  generation := by rw [sru, h.generation]
  supply := by rw [sru, h.supply]
  motion := by rw [sru]; exact h.motion
  smi := smi.trans h.smi

theorem mapPolls {f : Fin 24 → PollStatus → PollStatus} (hf : ∀ i p, p.gateWait = false → (f i p).gateWait = false) :
    Tame r (s.mapPolls f) :=
  h.of_polls (by simp) (fun place => by rw [State.mapPolls_poll]; exact hf place _ (h.gates place)) (by simp) (by simp)

theorem recode (code : Nat) : Tame r (s.recode code) := by
  refine h.of_ports (fun seg => ?_) rfl rfl rfl
  have recoded := (h.port seg).recoded code
  cases seg <;> exact recoded

/-- A change of the service unit that keeps the settings. -/
theorem of_settings (ports : t.ports = s.ports) (polls : t.polls = s.polls) (smi : t.smi = s.smi)
    (committed : t.sru.committed = s.sru.committed) (staging : t.sru.staging = s.sru.staging)
    (generation : t.sru.generation = s.sru.generation) (supply : t.sru.supplyForce = s.sru.supplyForce)
    (motion : t.sru.motionForce = s.sru.motionForce ∨ t.sru.motionForce = s.sru.committed.motion) : Tame r t where
  port seg := by rw [State.port, ports]; exact h.port seg
  gates place := by rw [State.poll, polls]; exact h.gates place
  committed := committed.trans h.committed
  staging := staging.trans h.staging
  generation := generation.trans h.generation
  supply := supply.trans h.supply
  motion force := by
    rcases motion with motion | motion
    · exact motion.trans (h.motion force)
    · rw [motion, h.committed]
  smi := smi.trans h.smi

end Tame

theorem writeEnd_sru (code : Byte) (status : Status) (payload : List Byte) (s : State) :
    ∃ response, (s.writeEnd code status payload).sru = { s.sru with response := response } := by
  unfold State.writeEnd
  dsimp only
  split
  · exact ⟨_, rfl⟩
  · exact ⟨_, by simp [State.setSru]; rfl⟩

theorem Tame.backgroundEnd {r s : State} (h : Tame r s) (status : Status) (payload : List Byte) :
    Tame r (onBackgroundEnd status payload s) := by
  obtain ⟨response, sru⟩ := writeEnd_sru (backgroundCode s.sru.background) status payload
    (s.setSru { s.sru with background := .none })
  have sru : (onBackgroundEnd status payload s).sru = { s.sru with background := .none, response := response } := sru
  exact h.of_settings (by simp) (by simp) (by simp) (by rw [sru]) (by rw [sru]) (by rw [sru]) (by rw [sru])
    (.inl (by rw [sru]))

theorem Tame.swapEnd {r s : State} (h : Tame r s) (bay : Bay) : Tame r (onSwapEnd bay s) := by
  unfold onSwapEnd
  (repeat' split) <;> first | exact h | exact h.backgroundEnd ..

theorem Tame.resetDone {r s : State} (h : Tame r s) : Tame r (onResetDone s) := by
  obtain ⟨response, sru⟩ := writeEnd_sru 0x7F .done
    (Builtin.le2 s.sru.generation.toNat ++ [if s.sru.gaveUp then 1 else 0])
    (s.setSru { s.sru with resetPending := false, gaveUp := false })
  have sru : (onResetDone s).sru = { s.sru with resetPending := false, gaveUp := false, response := response } := sru
  exact h.of_settings (by simp) (by simp) (by simp) (by rw [sru]) (by rw [sru]) (by rw [sru]) (by rw [sru])
    (.inl (by rw [sru]))

end Sys2Proof.Machine
end

section
/-!
SUPPORT. The small tasks of a SOFT_RESET while the power path is engaged (R77, R83, R84, R184): what they weigh, and that
they leave the bays and the path as they are.
-/

namespace Sys2Proof.Machine

/-- The weight of a task that does not belong to a class. -/
abbrev alien : Nat := 1000000

/-- What a small task weighs: more than all it starts, each transaction that waits at a port counting two. -/
def smallWeight : Task → Nat
  | .post _ => 1
  | .swapEnd _ => 1
  | .bridgeCheck => 1
  | .settled => 1
  | .alternates => 1
  | .reselect => 1
  | .releaseRequest .. => 1
  | .admissionBegin _ => 1
  | .setupSegment _ => 1
  | .boundary _ => 1
  | .engineDone _ t outcome _ _ => if t.detached = true ∧ (outcome = .absent ∨ outcome = .lost) then 1 else alien
  | .pollBay .. => 2
  | .isolate _ => 2
  | .connect _ => 2
  | .resetPort _ => 2
  | .trigger => 3
  | .place _ t => if t.detached = true then 4 else alien
  | .brightStep => 5
  | .ceiling => 6
  | .energy => 7
  | .classify => 7
  | .supplyClass => 7
  | .brightReset => 12
  | .resetDone => 1
  | _ => alien

/-- The bays, and what the power path rests on. -/
structure SamePath (s t : State) : Prop where
  lines : t.lines = s.lines
  slots : t.slots = s.slots
  bays : t.bays = s.bays
  sources : t.ppc.sources = s.ppc.sources
  attempt : t.ppc.attempt = s.ppc.attempt
  onSrc : t.ppc.onSrc = s.ppc.onSrc
  moving : t.ppc.moving = s.ppc.moving
  switching : t.ppc.switching = s.ppc.switching
  supplyDue : t.ppc.supplyDue = s.ppc.supplyDue

namespace SamePath

theorem refl (s : State) : SamePath s s := by constructor <;> rfl

theorem of_eq {s t : State} (lines : t.lines = s.lines) (slots : t.slots = s.slots) (bays : t.bays = s.bays)
    (ppc : t.ppc = s.ppc) : SamePath s t := by
  constructor <;> simp [lines, slots, bays, ppc]

theorem trans {s t u : State} (h : SamePath s t) (k : SamePath t u) : SamePath s u where
  lines := k.lines.trans h.lines
  slots := k.slots.trans h.slots
  bays := k.bays.trans h.bays
  sources := k.sources.trans h.sources
  attempt := k.attempt.trans h.attempt
  onSrc := k.onSrc.trans h.onSrc
  moving := k.moving.trans h.moving
  switching := k.switching.trans h.switching
  supplyDue := k.supplyDue.trans h.supplyDue

variable {s t : State} (h : SamePath s t)
include h

theorem bay (i : Bay) : t.bay i = s.bay i := by rw [State.bay, h.bays]; rfl

theorem source (x : Src) : t.source x = s.source x := by rw [State.source, h.sources]; rfl

theorem engaged : t.ppc.engaged = s.ppc.engaged := by simp [Ppc.engaged, h.attempt, h.moving, h.switching]

end SamePath

/-- What a small task comes to: the settings and the path stay, and the weight falls. -/
structure Small (r s : State) (a : Act) (bound : Nat) : Prop where
  tame : Tame r a.1
  path : SamePath s a.1
  lowers : load smallWeight a.2 + 2 * a.1.queued < bound + 2 * s.queued

section
variable {r s : State} (tame : Tame r s)
include tame

/-- An operation that leaves the ports, the polls, the settings, the bays and the path. -/
theorem small_of_eq {a : Act} {bound : Nat} (ports : a.1.ports = s.ports) (polls : a.1.polls = s.polls)
    (sru : a.1.sru = s.sru) (smi : a.1.smi = s.smi) (path : SamePath s a.1) (less : load smallWeight a.2 < bound) :
    Small r s a bound :=
  ⟨tame.of_eq ports polls sru smi, path, by rw [queued_of_ports ports]; omega⟩

/-! ## The ports (R29 to R34, R44) -/

omit tame in
theorem load_absentTasks (seg : Seg) {queue : List EngTxn} (h : ∀ t ∈ queue, t.detached = true) :
    load smallWeight (absentTasks seg queue) = queue.length := by
  induction queue with
  | nil => rfl
  | cons t ts ih =>
    have rest := ih fun u hu => h u (by simp [hu])
    have first : smallWeight (absentTask seg none t) = 1 := by simp [absentTask, smallWeight, h t (by simp)]
    rw [absentTasks, List.map_cons, load_cons, first, ← absentTasks, rest, List.length_cons, Nat.add_comm]

omit tame in
theorem load_boundaryIfIdle (p : Port) (seg : Seg) : load smallWeight (boundaryIfIdle p seg) ≤ 1 := by
  unfold boundaryIfIdle
  split <;> simp [smallWeight]

theorem small_setPort {seg : Seg} {p : Port} {ts : List Task} {bound : Nat} (hp : p.Tame)
    (less : load smallWeight ts + 2 * p.queue.length < bound + 2 * (s.port seg).queue.length) :
    Small r s (s.setPort seg p, ts) bound := by
  refine ⟨tame.setPort hp, .of_eq (by simp) (by simp) (by simp) (by simp), ?_⟩
  have count := setPort_queued s seg p
  dsimp only
  omega

theorem small_place (seg : Seg) {t : EngTxn} (ht : t.detached = true) : Small r s (handle (.place seg t) s) 4 := by
  have port := tame.port seg
  have refused : ∀ reason, Small r s (s, [absentTask seg reason t]) 4 := fun reason =>
    small_of_eq tame rfl rfl rfl rfl (.refl s) (by simp [absentTask, smallWeight, ht])
  simp only [handle, placeEngine]
  split
  · exact refused none
  · split
    · refine small_setPort tame (port.join ht ‹_›) ?_
      have := load_boundaryIfIdle (s.port seg) seg
      simp [Port.join]
      omega
    · split
      · split
        · next v found =>
          have member : v ∈ (s.port seg).queue := by
            unfold evictee at found
            split at found
            · next u e =>
              obtain rfl := Option.some.inj found
              exact List.mem_of_find?_eq_some e
            · exact List.mem_of_find?_eq_some found
          have shorter : (withoutArrival (s.port seg).queue v.arrival).length + 1 = (s.port seg).queue.length :=
            List.length_eraseP_add_one member (by simp)
          refine small_setPort tame (port.of_queue port.lane port.running (fun u hu => List.mem_of_mem_eraseP hu)
            (by simp only; omega)) ?_
          simp [absentTask, smallWeight, ht, port.queue v member]
          omega
        · exact refused _
      · exact refused _

omit tame in
/-- What the arbiter selects of a port without a lane is a queued transaction (R32). -/
theorem select_mem {p : Port} (lane : p.lane = none) {x : Selection} (h : p.select = some x) :
    ∃ t ∈ p.queue, x = .engine t := by
  have queued : ∀ {cls t}, firstOf cls p.queue = some t → t ∈ p.queue := List.mem_of_find?_eq_some
  unfold Port.select at h
  split at h
  · exact ⟨_, queued ‹_›, (Option.some.inj h).symm⟩
  · split at h
    · exact nomatch h
    · simp only [lane] at h
      split at h
      · exact ⟨_, queued ‹_›, (Option.some.inj h).symm⟩
      · obtain ⟨t, found, rfl⟩ := Option.map_eq_some_iff.1 h
        exact ⟨t, queued found, rfl⟩

omit tame in
theorem tellStart_polls {t : EngTxn} (h : t.detached = true) (s : State) : (tellStart t s).polls = s.polls := by
  unfold tellStart
  split
  · next tag issuer =>
    have orphan : tag.orphan = true := by simpa [EngTxn.detached, issuer] using h
    rw [if_pos orphan]
  · split <;> rfl
  · rfl

theorem small_tellStart {t : EngTxn} (ht : t.detached = true) {seg : Seg} {p : Port} (hp : p.Tame)
    (shorter : p.queue.length ≤ (s.port seg).queue.length) : Small r s (tellStart t (s.setPort seg p), []) 1 := by
  have placed : Small r s (s.setPort seg p, []) 1 := small_setPort tame hp (by simp; omega)
  refine ⟨placed.tame.of_eq (by simp) (tellStart_polls ht _) (by simp) (by simp), .of_eq (by simp) (by simp) (by simp) (by simp), ?_⟩
  have same : (tellStart t (s.setPort seg p)).queued = (s.setPort seg p).queued := queued_of_ports (by simp)
  have less := placed.lowers
  dsimp only at less ⊢
  omega

theorem small_boundary (seg : Seg) : Small r s (handle (.boundary seg) s) 1 := by
  have port := tame.port seg
  have marked : ({ s.port seg with mark := (s.port seg).readyMark } : Port).Tame := ⟨port.1, port.2, port.3, port.4⟩
  have kept : ∀ {t : EngTxn} {time}, (s.port seg).running = some (.engine t, time) → t.detached = true :=
    fun e => port.running _ _ e
  simp only [handle, atBoundary]
  split
  · exact small_of_eq tame rfl rfl rfl rfl (.refl s) (by simp)
  · split
    · exact small_setPort tame marked (by simp)
    · next t selected =>
      obtain ⟨t', member, e⟩ := select_mem (p := { s.port seg with mark := (s.port seg).readyMark }) port.lane selected
      obtain rfl : t = t' := by simpa using e
      have shorter : (withoutArrival (s.port seg).queue t.arrival).length + 1 = (s.port seg).queue.length :=
        List.length_eraseP_add_one member (by simp)
      have passed : ∀ u ∈ (withoutArrival (s.port seg).queue t.arrival).map passOver, u.detached = true := fun u hu => by
        obtain ⟨v, hv, rfl⟩ := List.mem_map.1 hu
        have detached := port.queue v (List.mem_of_mem_eraseP hv)
        unfold passOver
        split
        · exact detached
        · exact detached
      have room : ((withoutArrival (s.port seg).queue t.arrival).map passOver).length ≤ 8 := by
        have := port.room
        rw [List.length_map]
        omega
      split
      · refine small_setPort tame ⟨port.lane, passed, room, port.running⟩ ?_
        simp [absentTask, smallWeight, port.queue t member]
        omega
      · refine small_tellStart tame (port.queue t member) ⟨port.lane, passed, room, fun u time e => ?_⟩ (by simp; omega)
        obtain ⟨rfl, -⟩ := by simpa using e
        exact port.queue _ member
    · next t selected =>
      obtain ⟨t', -, e⟩ := select_mem (p := { s.port seg with mark := (s.port seg).readyMark }) port.lane selected
      exact nomatch e

theorem small_engineDone (seg : Seg) {t : EngTxn} (ht : t.detached = true) {outcome : TxOutcome}
    (ho : outcome = .absent ∨ outcome = .lost) (reason : Option AbsentReason) (data : List Byte) :
    Small r s (handle (.engineDone seg t outcome reason data) s) 1 := by
  have failed : outcome ≠ .done := by rcases ho with rfl | rfl <;> exact nofun
  have start : ∀ tag, t.issuer = .ple tag → tag.orphan = true := fun tag issuer => by
    simpa [EngTxn.detached, issuer] using ht
  simp only [handle, engineDone]
  split
  · next tag issuer =>
    simp only [pollDone, start tag issuer]
    exact small_of_eq tame rfl rfl rfl rfl (.refl s) (by simp [failed])
  · exact small_of_eq tame (by simp [alone]) (by simp [alone]) (by simp [alone]) (by simp [alone])
      (.of_eq (by simp [alone]) (by simp [alone]) (by simp [alone]) (by simp [alone])) (by simp [alone])
  · rw [motionDone, if_neg failed]
    exact small_of_eq tame rfl rfl rfl rfl (.of_eq rfl rfl rfl rfl) (by simp)

theorem small_resetPort (seg : Seg) : Small r s (handle (.resetPort seg) s) 2 := by
  have port := tame.port seg
  refine small_setPort tame (port.of_queue port.lane port.running (by simp [Port.softReset]) (by simp [Port.softReset])) ?_
  have boundary := load_boundaryIfIdle (s.port seg).softReset seg
  have empty : (s.port seg).softReset.queue = [] := rfl
  rw [load_append, load_absentTasks seg port.queue, empty]
  simp only [List.length_nil]
  omega

theorem small_isolate (seg : Seg) : Small r s (handle (.isolate seg) s) 2 := by
  have port := tame.port seg
  have lost : load smallWeight (lostTasks seg (s.port seg)) ≤ 1 := by
    unfold lostTasks
    split
    · simp [smallWeight, port.running _ _ ‹_›]
    · next lane => exact nomatch port.lane.symm.trans lane
    · simp
  have lane : load smallWeight (absentLane (s.port seg).waitingLane) = 0 := by
    unfold Port.waitingLane
    split <;> simp [absentLane, port.lane]
  refine small_setPort tame (port.of_queue rfl (by simp [Port.isolated]) (by simp [Port.isolated])
    (by simp [Port.isolated])) ?_
  have empty : (s.port seg).isolated.queue = [] := rfl
  rw [load_append, load_append, load_absentTasks seg port.queue, lane, empty]
  simp only [List.length_nil]
  omega

theorem small_connect (seg : Seg) : Small r s (handle (.connect seg) s) 2 := by
  have port := tame.port seg
  exact small_setPort tame (port.of_queue port.lane port.running (fun _ h => h) le_rfl) (by simp [smallWeight])

/-! ## The classifier and the Brightness Controller (R119, R133, R143, R150) -/

theorem small_evaluateClass {s' : State} (ports : s'.ports = s.ports) (polls : s'.polls = s.polls) (sru : s'.sru = s.sru)
    (smi : s'.smi = s.smi) (path : SamePath s s') : Small r s (evaluateClass s') 7 := by
  refine small_of_eq tame (by simp [ports]) (by simp [polls]) (by simp [sru]) (by simp [smi])
    (path.trans (.of_eq (by simp) (by simp) (by simp) (by simp))) ?_
  unfold evaluateClass
  dsimp only
  split <;> simp [smallWeight]

theorem small_ceiling : Small r s (handle .ceiling s) 6 := by
  simp only [handle, recomputeCeiling]
  (repeat' split) <;> exact small_of_eq tame rfl rfl rfl rfl (.of_eq rfl rfl rfl rfl) (by simp [smallWeight])

theorem small_writeOut : Small r s (writeOut s) 5 := by
  have kept : ∀ {s' : State}, s'.ports = s.ports → s'.polls = s.polls → s'.sru = s.sru → s'.smi = s.smi →
      SamePath s s' → Small r s (s', []) 5 := fun ports polls sru smi path =>
    small_of_eq tame ports polls sru smi path (by simp)
  unfold writeOut placeDriver
  split
  · exact kept rfl rfl rfl rfl (.refl s)
  · refine ⟨tame.recode _, .of_eq rfl rfl rfl rfl, ?_⟩
    simp [State.queued, State.recode, Port.recoded]
  · split
    · split
      · exact kept (by simp) (by simp) (by simp) (by simp) (.of_eq (by simp) (by simp) (by simp) (by simp))
      · refine small_of_eq tame rfl rfl rfl rfl (.of_eq rfl rfl rfl rfl) ?_
        simp [smallWeight, EngTxn.detached, driverTxn]
    · exact kept rfl rfl rfl rfl (.of_eq rfl rfl rfl rfl)

end

theorem Small.of_same {r s s' : State} {a : Act} {bound : Nat} (h : Small r s' a bound) (path : SamePath s s')
    (ports : s'.ports = s.ports) : Small r s a bound :=
  ⟨h.tame, path.trans h.path, by rw [← queued_of_ports ports]; exact h.lowers⟩

section
variable {r s : State} (tame : Tame r s)
include tame

theorem small_brightStep : Small r s (handle .brightStep s) 5 := by
  have written : ∀ s' : State, s'.ports = s.ports → s'.polls = s.polls → s'.sru = s.sru → s'.smi = s.smi →
      SamePath s s' → Small r s (writeOut s') 5 := fun s' ports polls sru smi path =>
    (small_writeOut (tame.of_eq ports polls sru smi)).of_same path ports
  simp only [handle, brightnessStep]
  split
  · exact small_of_eq tame rfl rfl rfl rfl (.refl s) (by simp)
  · split
    · exact small_of_eq tame rfl rfl rfl rfl (.of_eq rfl rfl rfl rfl) (by simp)
    · exact written _ (by simp) (by simp) (by simp) (by simp) (.of_eq (by simp) (by simp) (by simp) (by simp))

/-! ## The Poll Engine (R52 to R54) -/

theorem small_mapPolls {f : Fin 24 → PollStatus → PollStatus}
    (hf : ∀ i p, p.gateWait = false → (f i p).gateWait = false) {ts : List Task} {bound : Nat}
    (less : load smallWeight ts < bound) : Small r s (s.mapPolls f, ts) bound := by
  refine ⟨tame.mapPolls hf, .of_eq (by simp) (by simp) (by simp) (by simp), ?_⟩
  rw [queued_of_ports (s := s) (by simp)]
  dsimp only
  omega

theorem small_pollBay (bay : Bay) (old new : BayState) : Small r s (handle (.pollBay bay old new) s) 2 := by
  have freed : (if !gateOpen old && gateOpen new then gateWaiters bay s else []) = [] := by
    split
    · simp [gateWaiters, tame.gates]
    · rfl
  simp only [handle, pollOnBay, freed]
  refine small_mapPolls tame (fun i p waits => ?_) ?_
  · (repeat' split) <;> first | exact waits | rfl
  · have := load_tasksIf smallWeight (new == .identifying) [.admissionBegin bay]
    simp [smallWeight] at this ⊢
    omega

theorem small_admissionBegin (bay : Bay) : Small r s (handle (.admissionBegin bay) s) 1 := by
  refine small_mapPolls tame (fun i p waits => ?_) (by simp)
  (repeat' split) <;> exact waits

theorem small_setupSegment (seg : Seg) : Small r s (handle (.setupSegment seg) s) 1 := by
  refine small_mapPolls tame (fun i p waits => ?_) (by simp)
  (repeat' split) <;> first | exact waits | rfl

/-! ## Every small task -/

/-- The tasks that ask the Power Path Controller to begin something. -/
def asksPath : Task → Bool
  | .settled => true
  | .alternates => true
  | .reselect => true
  | .releaseRequest .. => true
  | .trigger => true
  | _ => false

/-- A small task leaves the path and the settings, where the power path is engaged if the task asks it; what it starts
weighs less. -/
theorem handle_small {t : Task} (engaged : asksPath t = true → s.ppc.engaged = true) (ht : smallWeight t < alien) :
    Small r s (handle t s) (smallWeight t) := by
  have marked : ∀ {s' : State} {ts : List Task} {bound : Nat}, s'.ports = s.ports → s'.polls = s.polls →
      s'.sru = s.sru → s'.smi = s.smi → SamePath s s' → load smallWeight ts < bound → Small r s (s', ts) bound :=
    fun ports polls sru smi path less => small_of_eq tame ports polls sru smi path less
  cases t <;> simp only [smallWeight, lt_self_iff_false] at ht ⊢
  case post p => exact marked rfl rfl rfl rfl (.of_eq rfl rfl rfl rfl) (by simp)
  case swapEnd bay =>
    refine ⟨tame.swapEnd bay, .of_eq (by simp [handle, alone]) (by simp [handle, alone])
      (by simp [handle, alone]) (by simp [handle, alone]), ?_⟩
    rw [queued_of_ports (s := s) (by simp [handle, alone])]
    simp [handle, alone]
  case resetDone =>
    refine ⟨tame.resetDone, .of_eq (by simp [handle, alone]) (by simp [handle, alone])
      (by simp [handle, alone]) (by simp [handle, alone]), ?_⟩
    rw [queued_of_ports (s := s) (by simp [handle, alone])]
    simp [handle, alone]
  case bridgeCheck =>
    simp only [handle, alone, checkBridge, addBridgeCause]
    (repeat' split) <;> exact marked rfl rfl rfl rfl (by constructor <;> rfl) (by simp)
  case settled =>
    have engaged := engaged rfl
    simp only [handle, takeWaiting, engaged, if_true]
    exact marked rfl rfl rfl rfl (.refl s) (by simp)
  case alternates =>
    have engaged := engaged rfl
    simp only [handle, checkAlternates, engaged, if_true]
    exact marked rfl rfl rfl rfl (by constructor <;> rfl) (by simp)
  case reselect =>
    have engaged := engaged rfl
    simp only [handle, reselect, State.reselectionWaits, engaged, Bool.true_or, if_true]
    exact marked rfl rfl rfl rfl (by constructor <;> rfl) (by simp)
  case releaseRequest bay origin =>
    have engaged := engaged rfl
    simp only [handle, onReleaseRequest, engaged, Bool.true_or, if_true]
    split
    · exact marked rfl rfl rfl rfl (.refl s) (by simp)
    · exact marked rfl rfl rfl rfl (by constructor <;> rfl) (by simp)
  case trigger =>
    have engaged := engaged rfl
    have none : s.repeatTakeover = [] := by
      unfold State.repeatTakeover
      split <;> simp [tasksIf, engaged]
    simp only [handle, onTrigger, none]
    split
    · exact marked rfl rfl rfl rfl (.refl s) (by simp)
    · exact marked rfl rfl rfl rfl (.refl s) (by simp [smallWeight])
  case admissionBegin bay => exact small_admissionBegin tame bay
  case setupSegment seg => exact small_setupSegment tame seg
  case boundary seg => exact small_boundary tame seg
  case engineDone seg t outcome reason data =>
    by_cases ours : t.detached = true ∧ (outcome = .absent ∨ outcome = .lost)
    · rw [if_pos ours]
      exact small_engineDone tame seg ours.1 ours.2 reason data
    · exact absurd (if_neg ours) ht.ne
  case pollBay bay old new => exact small_pollBay tame bay old new
  case isolate seg => exact small_isolate tame seg
  case connect seg => exact small_connect tame seg
  case resetPort seg => exact small_resetPort tame seg
  case place seg t =>
    by_cases ours : t.detached = true
    · rw [if_pos ours]
      exact small_place tame seg ours
    · exact absurd (if_neg ours) ht.ne
  case brightStep => exact small_brightStep tame
  case ceiling => exact small_ceiling tame
  case energy => exact small_evaluateClass tame rfl rfl rfl rfl (.of_eq rfl rfl rfl rfl)
  case classify => exact small_evaluateClass tame rfl rfl rfl rfl (.of_eq rfl rfl rfl rfl)
  case supplyClass => exact small_evaluateClass tame rfl rfl rfl rfl (.of_eq rfl rfl rfl rfl)
  case brightReset => exact marked rfl rfl rfl rfl (.of_eq rfl rfl rfl rfl) (by simp [smallWeight])

end

end Sys2Proof.Machine
end

section
/-!
SUPPORT. From the moment a SUPPLY table takes force until the Power Path Controller is told (R90; log entry 53): what its
bays' part starts ends within a bound, and the path stays engaged.
-/

namespace Sys2Proof.Machine

/-! ## The weights -/

/-- What a task weighs before the Power Path Controller's part. -/
def switchWeight : Task → Nat
  | .powerBay .. => 5
  | .moved => 1
  | .admissionCheck _ => 52
  | .latchTaken _ => 52
  | .seatExpiry _ => 52
  | .identifyExpiry _ => 52
  | .slotLapsed _ => 63
  | .slotsNever _ => 316
  | .presenceTaken _ => 370
  | .supplyBay _ => 560
  | t => smallWeight t

theorem smallWeight_lt {t : Task} (h : smallWeight t < alien) : smallWeight t < 13 := by
  cases t <;> simp only [smallWeight] at h ⊢
  case place | engineDone => split at h <;> simp_all
  all_goals omega

/-- A weight that small tasks and a bay's news have in common with others. -/
structure Weighs (w : Task → Nat) : Prop where
  small : ∀ t, smallWeight t < alien → w t = smallWeight t
  powerBay : ∀ bay old new, w (.powerBay bay old new) = 5

theorem switchWeight_weighs : Weighs switchWeight :=
  ⟨fun t h => by cases t <;> first | rfl | exact absurd rfl h.ne, fun _ _ _ => rfl⟩

namespace Weighs

variable {w : Task → Nat} (hw : Weighs w)
include hw

/-- What small tasks start weighs the same. -/
theorem load {ts : List Task} (h : load smallWeight ts < alien) : load w ts = load smallWeight ts :=
  load_eq_of _ fun t ht => hw.small t ((le_load smallWeight ht).trans_lt h)

/-- A bay's news, where it does not empty (R94). -/
theorem bayNews {new : BayState} (h : new ≠ .empty) (bay : Bay) (old : BayState) (notices : List Task) :
    Machine.load w (bayNews bay old new notices) ≤ 17 + Machine.load w notices := by
  have connected := load_tasksIf w (old == .seated && new == .identifying) [.connect (baySeg bay)]
  have summed := load_tasksIf w (counted old || counted new) [.energy]
  have swapped := load_tasksIf w (endsSwap new) [.swapEnd bay]
  have kept : (new == BayState.empty) = false := by simpa using h
  have polled := hw.small (.pollBay bay old new) (by simp [smallWeight, alien])
  rw [load_cons, load_nil, hw.small _ (by simp [smallWeight, alien])] at connected summed swapped
  simp only [Machine.bayNews, kept, load_append, load_cons, load_nil, hw.powerBay, polled]
  simp only [tasksIf, Bool.false_eq_true, if_false, load_nil, smallWeight] at connected summed swapped ⊢
  omega

theorem bayNotice (bay : Bay) (kind : NoticeKind) (severity : Severity) (arg1 arg2 : Int) :
    w (bayNotice bay kind severity arg1 arg2) = 1 :=
  hw.small (.post _) (by simp [smallWeight, alien])

theorem bayGoto {new : BayState} (h : new ≠ .empty) (bay : Bay) (r : BayRec) {notices : List Task}
    (light : Machine.load w notices ≤ 1) (s : State) : Machine.load w (bayGoto bay new r notices s).2 ≤ 18 :=
  (hw.bayNews h ..).trans (by omega)

theorem toReady (bay : Bay) (r : BayRec) (s : State) : Machine.load w (toReady bay r s).2 ≤ 18 := by
  unfold Machine.toReady toFaulted
  split <;> exact hw.bayGoto (by decide) _ _ (by simp) _

theorem toReleased (bay : Bay) (r : BayRec) (s : State) : Machine.load w (toReleased bay r s).2 ≤ 18 :=
  hw.bayGoto (by decide) _ _ (by simp [hw.bayNotice]) _

theorem commandOn (x : Src) (s : State) : Machine.load w (commandOn x s).2 ≤ 18 := by
  unfold Machine.commandOn tellBay onSwitchOn
  dsimp only
  (repeat' split) <;> first | exact hw.bayGoto (by decide) _ _ (by simp) _ | simp

theorem commandOff (x : Src) (sw : Switch) (s : State) : Machine.load w (commandOff x sw s).2 ≤ 18 := by
  unfold Machine.commandOff tellBay onSwitchOff
  dsimp only
  (repeat' split) <;> first | exact hw.toReady .. | simp

end Weighs

/-! ## A step -/

/-- The ON source is a pack whose bay does not carry the load (R95). -/
def State.deserted (s : State) : Nat :=
  (s.ppc.onSrc.bind srcBay).elim 0 fun bay => if (s.bay bay).carries then 0 else 1

theorem deserted_le (s : State) : s.deserted ≤ 1 := by
  unfold State.deserted
  cases s.ppc.onSrc.bind srcBay with
  | none => exact Nat.zero_le _
  | some bay =>
    dsimp only [Option.elim]
    split <;> simp

theorem deserted_congr {s t : State} (bays : t.bays = s.bays) (onSrc : t.ppc.onSrc = s.ppc.onSrc) :
    t.deserted = s.deserted := by
  unfold State.deserted State.bay
  rw [onSrc, bays]

theorem SamePath.deserted {s t : State} (h : SamePath s t) : t.deserted = s.deserted := deserted_congr h.bays h.onSrc

/-- A transaction at a port counts two, a deserted ON source 32. -/
def State.toSettle (s : State) : Nat := 2 * s.queued + 32 * s.deserted

theorem Tame.toSettle_le {r s : State} (h : Tame r s) : s.toSettle ≤ 96 := by
  have := h.queued_le
  have := deserted_le s
  unfold State.toSettle
  omega

/-- What a task leaves in force, and what it starts weighs less. -/
structure Switches (r s : State) (a : Act) (bound : Nat) : Prop where
  tame : Tame r a.1
  attempt : a.1.ppc.attempt = s.ppc.attempt
  switching : a.1.ppc.switching = s.ppc.switching
  supplyDue : a.1.ppc.supplyDue = s.ppc.supplyDue
  moving : a.1.ppc.moving = true → s.ppc.moving = true ∨ .moved ∈ a.2
  lowers : load switchWeight a.2 + a.1.toSettle < bound + s.toSettle

theorem Small.switches {r s : State} (tame : Tame r s) {a : Act} {bound : Nat} (h : Small r s a bound)
    (less : bound < 1000) : Switches r s a bound where
  tame := h.tame
  attempt := h.path.attempt
  switching := h.path.switching
  supplyDue := h.path.supplyDue
  moving m := .inl (by rw [← h.path.moving, m])
  lowers := by
    have room := tame.queued_le
    have lowers := h.lowers
    have light : load smallWeight a.2 < alien := by
      unfold alien
      omega
    rw [switchWeight_weighs.load light, State.toSettle, State.toSettle, h.path.deserted]
    omega

section
variable {r s : State} (tame : Tame r s)
include tame

/-- An operation on the bays and the slots. -/
theorem switches_of_frame {a : Act} {bound : Nat} (ports : a.1.ports = s.ports) (polls : a.1.polls = s.polls)
    (sru : a.1.sru = s.sru) (smi : a.1.smi = s.smi) (ppc : a.1.ppc = s.ppc)
    (less : load switchWeight a.2 + 32 < bound) : Switches r s a bound where
  tame := tame.of_eq ports polls sru smi
  attempt := by rw [ppc]
  switching := by rw [ppc]
  supplyDue := by rw [ppc]
  moving m := .inl (by rw [← ppc, m])
  lowers := by
    have := deserted_le a.1
    rw [State.toSettle, State.toSettle, queued_of_ports ports]
    omega

/-- An operation that leaves the bays and the ON source. -/
theorem switches_of_kept {a : Act} {bound : Nat} (ports : a.1.ports = s.ports) (polls : a.1.polls = s.polls)
    (sru : a.1.sru = s.sru) (smi : a.1.smi = s.smi) (bays : a.1.bays = s.bays) (onSrc : a.1.ppc.onSrc = s.ppc.onSrc)
    (attempt : a.1.ppc.attempt = s.ppc.attempt) (switching : a.1.ppc.switching = s.ppc.switching)
    (supplyDue : a.1.ppc.supplyDue = s.ppc.supplyDue) (moving : a.1.ppc.moving = s.ppc.moving)
    (less : load switchWeight a.2 < bound) : Switches r s a bound where
  tame := tame.of_eq ports polls sru smi
  attempt := attempt
  switching := switching
  supplyDue := supplyDue
  moving m := .inl (by rw [← moving, m])
  lowers := by
    rw [State.toSettle, State.toSettle, queued_of_ports ports, deserted_congr bays onSrc]
    omega

/-! ## The bays (R93 to R101, R105, R111) -/

omit tame in
theorem load_latchCloses (bay : Bay) (s : State) : load switchWeight (latchCloses bay s).2 ≤ 18 := by
  have w := switchWeight_weighs
  unfold latchCloses toIdentifying
  dsimp only
  (repeat' split) <;> first
    | exact w.toReady ..
    | exact w.bayGoto (by decide) _ _ (by simp) _
    | simp

omit tame in
theorem load_latchOpens (bay : Bay) (s : State) : load switchWeight (latchOpens bay s).2 ≤ 18 := by
  have w := switchWeight_weighs
  have admitted : load switchWeight (latchOpensAdmitted bay s).2 ≤ 18 := by
    unfold latchOpensAdmitted toReleasing
    dsimp only
    split <;> exact w.bayGoto (by decide) _ _ (by simp) _
  unfold latchOpens
  dsimp only
  split <;> first
    | exact w.toReleased ..
    | exact admitted
    | simp

omit tame in
theorem load_latch (bay : Bay) (s : State) : load switchWeight (onLatch bay s).2 ≤ 18 := by
  unfold onLatch
  dsimp only
  (repeat' split) <;> first
    | exact load_latchCloses ..
    | exact load_latchOpens ..
    | simp

omit tame in
theorem load_seat (bay : Bay) (s : State) : load switchWeight (onSeatExpiry bay s).2 ≤ 18 := by
  unfold onSeatExpiry toIdentifying
  dsimp only
  (repeat' split) <;> first
    | exact switchWeight_weighs.bayGoto (by decide) _ _ (by simp) _
    | simp

omit tame in
theorem load_identify (bay : Bay) (s : State) : load switchWeight (onIdentifyExpiry bay s).2 ≤ 18 := by
  unfold onIdentifyExpiry failAdmission toFaulted
  split
  · exact switchWeight_weighs.bayGoto (by decide) _ _ (by simp [switchWeight_weighs.bayNotice]) _
  · simp

omit tame in
theorem load_admission (bay : Bay) (s : State) : load switchWeight (checkAdmission bay s).2 ≤ 18 := by
  unfold checkAdmission
  split
  · exact switchWeight_weighs.bayGoto (by decide) _ _ (by simp [switchWeight_weighs.bayNotice]) _
  · simp

omit tame in
theorem load_empty (bay : Bay) (old : BayState) {notices : List Task} (light : load switchWeight notices ≤ 1) :
    load switchWeight (bayNews bay old .empty notices) ≤ 336 := by
  have summed := load_tasksIf switchWeight (counted old) [.energy]
  have news : bayNews bay old .empty notices = [.isolate (baySeg bay), .slotsNever bay, .pollBay bay old .empty,
      .powerBay bay old .empty] ++ tasksIf (counted old) [.energy] ++ notices ++ [.swapEnd bay] := by
    simp [bayNews, tasksIf, show counted .empty = false from rfl, show endsSwap .empty = true from rfl]
  rw [news]
  simp [switchWeight, smallWeight] at summed ⊢
  omega

omit tame in
theorem load_presence (bay : Bay) (s : State) : load switchWeight (onPresence bay s).2 ≤ 336 := by
  have lost : ∀ s, load switchWeight [lossNotice bay s] ≤ 1 := fun s => by
    simp only [lossNotice, bayNotice]
    split <;> simp [switchWeight, smallWeight]
  unfold onPresence toSeated toEmpty
  dsimp only
  (repeat' split) <;> first
    | exact (switchWeight_weighs.bayGoto (by decide) _ _ (by simp) _).trans (by omega)
    | exact load_empty _ _ (lost _)
    | simp

/-! ## The slots (R65, R66, R72) -/

theorem switches_slotLapsed (slot : Fin 32) : Switches r s (handle (.slotLapsed slot) s) 63 := by
  have bays : load switchWeight (bayOnLapse slot) ≤ 52 := by
    unfold bayOnLapse
    split
    · exact Nat.zero_le _
    · exact (load_tasksIf ..).trans (by simp [switchWeight])
  have energy := load_tasksIf switchWeight (isEnergySlot slot && (s.slot slot).state == .never) [.energy]
  have power : ((powerOnLapse slot s).1 = s ∨ (powerOnLapse slot s).1 = s.refresh) ∧
      load switchWeight (powerOnLapse slot s).2 ≤ 3 := by
    unfold powerOnLapse afterInput
    split
    · exact ⟨.inl rfl, Nat.zero_le _⟩
    · refine ⟨.inr rfl, ?_⟩
      dsimp only
      split <;> simp [switchWeight, smallWeight]
  obtain ⟨state, triggers⟩ := power
  have weight : load switchWeight (tellLapsed slot s).2 < 63 := by
    simp only [tellLapsed, load_append]
    simp [switchWeight, smallWeight] at energy
    omega
  have told : (handle (.slotLapsed slot) s).1 = s ∨ (handle (.slotLapsed slot) s).1 = s.refresh := state
  have kept : ∀ {s' : State}, s' = s ∨ s' = s.refresh → s'.ports = s.ports ∧ s'.polls = s.polls ∧ s'.sru = s.sru ∧
      s'.smi = s.smi ∧ s'.bays = s.bays ∧ s'.ppc.onSrc = s.ppc.onSrc ∧ s'.ppc.attempt = s.ppc.attempt ∧
      s'.ppc.switching = s.ppc.switching ∧ s'.ppc.supplyDue = s.ppc.supplyDue ∧ s'.ppc.moving = s.ppc.moving := by
    rintro s' (rfl | rfl) <;> exact ⟨rfl, rfl, rfl, rfl, rfl, rfl, rfl, rfl, rfl, rfl⟩
  obtain ⟨ports, polls, sru, smi, bays, onSrc, attempt, switching, supplyDue, moving⟩ := kept told
  exact switches_of_kept tame ports polls sru smi bays onSrc attempt switching supplyDue moving weight

theorem switches_slotsNever (bay : Bay) : Switches r s (handle (.slotsNever bay) s) 316 := by
  have count : load switchWeight (handle (.slotsNever bay) s).2 ≤ 315 := by
    have listed : load switchWeight (handle (.slotsNever bay) s).2 ≤ _ * 63 :=
      load_le switchWeight fun t ht => by
        obtain ⟨i, -, rfl⟩ := List.mem_map.1 ht
        exact le_rfl
    have few : (handle (.slotsNever bay) s).2.length ≤ 5 := by
      refine (List.length_map _).le.trans ((List.length_filter_le ..).trans ?_)
      cases bay <;> decide
    omega
  exact switches_of_kept tame (by simp [handle]) (by simp [handle]) (by simp [handle]) (by simp [handle])
    (by simp [handle]) (by simp [handle]) (by simp [handle]) (by simp [handle]) (by simp [handle]) (by simp [handle])
    (by omega)

/-! ## A bay's news (R82, R85, R95) -/

omit tame in
/-- A bay that does not carry the load is told nothing when its switch leaves ON. -/
theorem commandOff_deserted {bay : Bay} (lost : (s.bay bay).carries = false) (sw : Switch) :
    (commandOff (baySrc bay) sw s).2 = [] := by
  have idle : (s.bay bay).state ≠ .active := fun e => by simp [BayRec.carries, e] at lost
  rw [commandOff_pack]
  simp only [onSwitchOff]
  exact (congrArg Prod.snd (if_neg idle)).trans (by split <;> rfl)

omit tame in
/-- A source that may be commanded ON carries the load once it has been. -/
theorem commandOn_carries {c : Src} (h : s.admitted c = true) {bay : Bay} (hc : srcBay c = some bay) :
    ((commandOn c s).1.bay bay).carries = true := by
  have state : (s.bay bay).state = .ready ∨ (s.bay bay).state = .active := by simpa [State.admitted, hc] using h
  obtain rfl : c = baySrc bay := by cases c <;> simp_all [srcBay] <;> cases bay <;> simp_all [baySrc]
  rcases state with ready | active
  · rw [commandOn_bay_ready ready]
    rfl
  · rw [commandOn_bay_active active]
    have same : (s.setSwitch (baySrc bay) .on).bay bay = s.bay bay := rfl
    simp [BayRec.carries, same, active]

/-- The ON pack has been lost: the load moves off it at once, to a source that carries it (R82, R85). -/
theorem switches_takeOver {bay : Bay} (on : s.ppc.onSrc = some (baySrc bay)) (lost : (s.bay bay).carries = false)
    {c : Src} (other : c ≠ baySrc bay) (admitted : s.admitted c = true) (urgent : Bool) :
    Switches r s (takeOver (baySrc bay) c urgent s) 5 := by
  have w := switchWeight_weighs
  obtain ⟨onSrc, -, -, bays, tasks⟩ := takeOver_fields (baySrc bay) c urgent s
  have left : leaveForTakeover (baySrc bay) s = commandOff (baySrc bay) .off s := by
    simp [leaveForTakeover, on]
  rw [left] at bays tasks
  have departed : s.departed = [] := by
    have held : (s.bay bay).state ≠ .releasing ∧ (s.bay bay).state ≠ .releaseBlocked := by
      constructor <;> exact fun e => by simp [BayRec.carries, e] at lost
    simp [State.departed, on, srcBay_baySrc, held]
  have settled : (takeOver (baySrc bay) c urgent s).1.deserted = 0 := by
    rw [State.deserted, onSrc]
    cases hc : srcBay c with
    | none => simp [hc]
    | some target =>
      have kept : (commandOff (baySrc bay) .off s).1.admitted c = true := by
        have same : baySrc target ≠ baySrc bay := by
          obtain rfl : c = baySrc target := by cases c <;> cases target <;> simp_all [srcBay, baySrc]
          exact other
        simpa [State.admitted, hc, commandOff_bay_ne same] using admitted
      have carries := commandOn_carries kept hc
      simpa [hc, State.bay, bays] using carries
  have deserted : s.deserted = 1 := by simp [State.deserted, on, srcBay_baySrc, lost]
  have ppc := takeOver_lost_ppc (baySrc bay) c urgent s on
  refine ⟨tame.of_eq (by simp) (by simp) (by simp) (by simp), ?_, ?_, ?_, fun _ => .inr (by rw [tasks]; simp), ?_⟩
  · rw [ppc]
    rfl
  · rw [ppc]
    rfl
  · rw [ppc]
    rfl
  · have on' := w.commandOn c (commandOff (baySrc bay) .off s).1
    have check := load_tasksIf switchWeight (c == .br) [.bridgeCheck]
    rw [State.toSettle, State.toSettle, settled, deserted, queued_of_ports (s := s) (by simp), tasks, departed,
      commandOff_deserted lost]
    simp [switchWeight, smallWeight] at check ⊢
    omega

omit tame in
/-- A presence loss of the ON pack is taken over by a source that may be commanded ON (R85). -/
theorem onTakeover_lost {x : Src} (on : s.ppc.onSrc = some x) (pack : x ≠ .br) :
    ∃ c, c ≠ x ∧ s.admitted c = true ∧ onTakeover x true s = takeOver x c true s := by
  unfold onTakeover
  split
  · next c rest listed =>
    obtain ⟨choosable, other⟩ := mem_candidates (s := s) (excluded := some x) (c := c) (by simp [listed])
    have other : c ≠ x := fun e => other (by rw [e])
    refine ⟨c, other, (Bool.and_eq_true_iff.1 choosable).2, if_neg ?_⟩
    rw [on]
    simpa using other.symm
  · refine ⟨.br, pack.symm, rfl, ?_⟩
    rw [if_pos rfl, if_neg (by rw [on]; simpa using pack)]

omit tame in
/-- What the Power Path Controller makes of a bay's news (R68, R72, R76, R82, R83, R85). -/
theorem powerBay_cases (bay : Bay) (old new : BayState) (s : State) : ∃ trigger,
    trigger = (s.bayTriggers bay old new || ((s.emptySource bay).enterSwitch bay).eligibilityChanges) ∧
    handle (.powerBay bay old new) s =
      if (s.source (baySrc bay)).sw = .on ∧ (s.bay bay).carries = false then
        onLoss (baySrc bay) true trigger (s.knowing bay)
      else if new = .releasing then
        (s.knowing bay, match (s.bay bay).origin with | some o => [.releaseRequest bay o] | none => [])
      else (s.knowing bay, changeNews trigger old) := by
  have told : handle (.powerBay bay old new) s = if (s.source (baySrc bay)).sw = .on ∧ !(s.bay bay).carries then
      onLoss (baySrc bay) true (s.bayTriggers bay old new ||
        ((s.emptySource bay).enterSwitch bay).eligibilityChanges) (s.knowing bay)
    else if new = .releasing then
      (s.knowing bay, match (s.bay bay).origin with | some o => [.releaseRequest bay o] | none => [])
    else (s.knowing bay, changeNews (s.bayTriggers bay old new ||
      ((s.emptySource bay).enterSwitch bay).eligibilityChanges) old) := rfl
  simp only [Bool.not_eq_true'] at told
  exact ⟨_, rfl, told⟩

omit tame in
theorem load_trigger (trigger : Bool) : load smallWeight (tasksIf trigger [.trigger]) ≤ 3 :=
  (load_tasksIf ..).trans (by simp [smallWeight])

omit tame in
theorem load_changeNews (trigger : Bool) (old : BayState) : load smallWeight (changeNews trigger old) ≤ 4 := by
  have settled := load_tasksIf smallWeight (old == .suspect) [.settled]
  have := load_trigger trigger
  simp [smallWeight, changeNews] at settled ⊢
  omega

/-- The sources follow the bay, and nothing else of the path. -/
theorem switches_knowing (bay : Bay) {ts : List Task} (less : load smallWeight ts < 5) :
    Switches r s (s.knowing bay, ts) 5 := by
  obtain ⟨sources, release, known⟩ := knowing_eq s bay
  rw [known]
  refine switches_of_kept tame rfl rfl rfl rfl rfl rfl rfl rfl rfl rfl ?_
  have same : load switchWeight ts = load smallWeight ts := switchWeight_weighs.load (by unfold alien; omega)
  exact same.trans_lt less

theorem switches_powerBay (free : s.ppc.attempt = none) (bay : Bay) (old new : BayState) :
    Switches r s (handle (.powerBay bay old new) s) 5 := by
  obtain ⟨trigger, -, told⟩ := powerBay_cases bay old new s
  have known := switches_knowing tame bay (ts := []) (by simp)
  have aside := knowing_aside s bay
  rw [told]
  split
  · next lost =>
    have unattended : onLoss (baySrc bay) true trigger (s.knowing bay) =
        if s.ppc.onSrc = some (baySrc bay) then onTakeover (baySrc bay) true (s.knowing bay)
        else (s.knowing bay, tasksIf trigger [.trigger]) := by
      simp [onLoss, aside.attempt, free, aside.onSrc]
    rw [unattended]
    split
    · next on =>
      have on := aside.onSrc.trans on
      obtain ⟨c, other, admitted, e⟩ := onTakeover_lost on (by cases bay <;> exact nofun)
      have taken := switches_takeOver known.tame on (by rw [aside.bay]; exact lost.2) other admitted true
      have same : (s.knowing bay).toSettle = s.toSettle := by
        rw [State.toSettle, State.toSettle, queued_of_ports aside.ports, deserted_congr aside.bays aside.onSrc]
      rw [e]
      exact ⟨taken.tame, taken.attempt.trans known.attempt, taken.switching.trans known.switching,
        taken.supplyDue.trans known.supplyDue,
        fun m => (taken.moving m).imp_left fun before => (known.moving before).resolve_right (by simp),
        by rw [← same]; exact taken.lowers⟩
    · have := load_trigger trigger
      exact switches_knowing tame bay (by omega)
  · split
    · refine switches_knowing tame bay ?_
      split <;> simp [smallWeight]
    · have := load_changeNews trigger old
      exact switches_knowing tame bay (by omega)

/-! ## The phase -/

/-- Every task of the bays' part (log entry 53). -/
theorem handle_switches (free : s.ppc.attempt = none) (switching : s.ppc.switching = true) {t : Task}
    (ht : switchWeight t < alien) (other : t ≠ .moved) : Switches r s (handle t s) (switchWeight t) := by
  have small : ∀ {t : Task}, switchWeight t = smallWeight t → switchWeight t < alien →
      Switches r s (handle t s) (switchWeight t) := fun e less => by
    rw [e] at less ⊢
    have := smallWeight_lt less
    exact (handle_small tame (fun _ => by simp [Ppc.engaged, switching]) less).switches tame (by omega)
  cases t
  case moved => exact absurd rfl other
  case powerBay bay old new => exact switches_powerBay tame free bay old new
  case admissionCheck bay =>
    exact switches_of_frame tame (by simp [handle]) (by simp [handle]) (by simp [handle]) (by simp [handle])
      (by simp [handle]) (by have := load_admission bay s; simp only [handle, switchWeight]; omega)
  case latchTaken bay =>
    exact switches_of_frame tame (by simp [handle]) (by simp [handle]) (by simp [handle]) (by simp [handle])
      (by simp [handle]) (by have := load_latch bay s; simp only [handle, switchWeight]; omega)
  case seatExpiry bay =>
    exact switches_of_frame tame (by simp [handle]) (by simp [handle]) (by simp [handle]) (by simp [handle])
      (by simp [handle]) (by have := load_seat bay s; simp only [handle, switchWeight]; omega)
  case identifyExpiry bay =>
    exact switches_of_frame tame (by simp [handle]) (by simp [handle]) (by simp [handle]) (by simp [handle])
      (by simp [handle]) (by have := load_identify bay s; simp only [handle, switchWeight]; omega)
  case presenceTaken bay =>
    exact switches_of_frame tame (by simp [handle]) (by simp [handle]) (by simp [handle]) (by simp [handle])
      (by simp [handle]) (by have := load_presence bay s; simp only [handle, switchWeight]; omega)
  case supplyBay bay =>
    exact switches_of_frame tame (by simp [handle]) (by simp [handle]) (by simp [handle]) (by simp [handle])
      (by simp [handle]) (by simp [handle, supplyBaySwitch, switchWeight])
  case slotLapsed slot => exact switches_slotLapsed tame slot
  case slotsNever bay => exact switches_slotsNever tame bay
  all_goals first
    | exact absurd rfl ht.ne
    | exact small rfl ht

end

/-- The state of the part in that phase; what a move has still to tell stands on the agenda. -/
structure Switching (r : State) (due : Bool) (ts : List Task) (s : State) : Prop where
  tame : Tame r s
  attempt : s.ppc.attempt = none
  switching : s.ppc.switching = true
  supplyDue : s.ppc.supplyDue = due
  moving : s.ppc.moving = true → .moved ∈ ts

theorem Switching.step {r s : State} {due : Bool} {t : Task} {ts : List Task} (h : Switching r due (t :: ts) s)
    (ht : switchWeight t < alien) : Switching r due ((handle t s).2 ++ ts) (handle t s).1 ∧
      load switchWeight (handle t s).2 + (handle t s).1.toSettle < switchWeight t + s.toSettle := by
  by_cases told : t = .moved
  · subst told
    exact ⟨⟨h.tame.of_eq rfl rfl rfl rfl, h.attempt, h.switching, h.supplyDue, fun m => nomatch m⟩,
      show 0 + s.toSettle < 1 + s.toSettle by omega⟩
  · have step := handle_switches h.tame h.attempt h.switching ht told
    refine ⟨⟨step.tame, step.attempt.trans h.attempt, step.switching.trans h.switching,
      step.supplyDue.trans h.supplyDue, fun m => List.mem_append.2 ?_⟩, step.lowers⟩
    rcases step.moving m with before | new
    · exact .inr ((List.mem_cons.1 (h.moving before)).resolve_left (Ne.symm told))
    · exact .inl new

/-- The phase ends, with no move left to be told. -/
theorem Switching.ends {goal : List Task → State → Prop} {r : State} {due : Bool} {rest : List Task} {m : Nat}
    (next : ∀ s, Switching r due [] s → Leads goal m rest s) {ts : List Task} {s : State} (h : Switching r due ts s)
    (light : load switchWeight ts < 2000) : Leads goal (load switchWeight ts + 96 + m) (ts ++ rest) s := by
  have start := h.tame.toSettle_le
  refine Leads.of_measure (goal := goal)
    (fun ts s => Switching r due ts s ∧ load switchWeight ts + s.toSettle < alien)
    (fun ts s => load switchWeight ts + s.toSettle) (fun t ts s h => .inl ?_) (fun s h => next s h.1) _ ts s (by omega)
    ⟨h, by unfold alien; omega⟩
  obtain ⟨phase, bound⟩ := h
  rw [load_cons] at bound ⊢
  obtain ⟨phase', lowers⟩ := phase.step (by omega)
  rw [load_append]
  exact ⟨⟨phase', by omega⟩, by omega⟩

end Sys2Proof.Machine
end

section
/-!
SUPPORT. While an attempt is awaited, and while a move is told (R77, R79, R82, R83): a SOFT_RESET's work ends within a
bound, or the move has been told and the SUPPLY reload that waits is taken (R90).
-/

namespace Sys2Proof.Machine

/-! ## The weights -/

/-- What a task weighs while a move is told. -/
def movedWeight : Task → Nat
  | .powerBay .. => 5
  | .releaseDone _ => 25
  | t => smallWeight t

/-- What a task weighs while an attempt is awaited. -/
def awaitWeight : Task → Nat
  | .powerBay .. => 5
  | .releaseDone _ => 25
  | .releaseBlocked _ => 25
  | .alternate _ => 25
  | .flagBay _ => 25
  | .walk .. => 1
  | .takeover _ => 1
  | .confirm => 1
  | .flagPower set => if set = true then alien else 2
  | .flagChanged set => if set = true then alien else 53
  | .motionSwitch => 54
  | t => smallWeight t

theorem movedWeight_weighs : Weighs movedWeight :=
  ⟨fun t h => by cases t <;> first | rfl | exact absurd rfl h.ne, fun _ _ _ => rfl⟩

theorem awaitWeight_weighs : Weighs awaitWeight :=
  ⟨fun t h => by cases t <;> first | rfl | exact absurd rfl h.ne, fun _ _ _ => rfl⟩

/-- The tasks of the power path and of the blocks that SOFT_RESET tells after it, none of which brings a SUPPLY table into
force unless one waits. -/
def calm (t : Task) : Prop := awaitWeight t < alien ∨ t = .moved ∨ ∃ kind rest, t = .goOn kind rest

/-- A small task starts such tasks alone. -/
theorem Small.calm {r s : State} (tame : Tame r s) {a : Act} {bound : Nat} (h : Small r s a bound) (less : bound < 1000) :
    ∀ t ∈ a.2, calm t := fun t ht => by
  have room := tame.queued_le
  have lowers := h.lowers
  have light := le_load smallWeight ht
  have small : smallWeight t < alien := by unfold alien; omega
  exact .inl (by rw [awaitWeight_weighs.small t small]; exact small)

/-! ## The sources -/

/-- A source is commanded ON, in a bay that carries the load if it is a pack (R95). -/
def State.carriedBy (s : State) (x : Src) : Prop :=
  ∀ bay, srcBay x = some bay → (s.bay bay).carries = true ∧ (s.source x).sw = .on

theorem eq_baySrc {x : Src} {bay : Bay} (h : srcBay x = some bay) : x = baySrc bay := by
  rcases src_cases x with ⟨i, rfl⟩ | none
  · rw [srcBay_baySrc] at h
    rw [Option.some.inj h]
  · exact nomatch h.symm.trans none

theorem SamePath.carriedBy {s t : State} (h : SamePath s t) {x : Src} (hx : s.carriedBy x) : t.carriedBy x :=
  fun bay hb => by rw [h.bay, h.source]; exact hx bay hb

/-- A switch that is ON stays ON when a bay's news are known. -/
theorem knowing_on {s : State} (bay : Bay) {x : Src} (h : (s.source x).sw = .on) : ((s.knowing bay).source x).sw = .on := by
  have emptied : ((s.emptySource bay).source x).sw = .on := by
    unfold State.emptySource
    split
    · by_cases e : x = baySrc bay
      · subst e
        simpa [State.setHeldOff, State.dropRelease, State.source] using h
      · rw [State.setHeldOff, State.setSource_source_ne _ _ e]
        exact h
    · exact h
  rw [State.knowing, State.refresh_source, State.refreshed, enterSwitch_eq]
  split
  · rw [setIdleSwitch_source]
    split
    · next idle =>
      obtain ⟨rfl, idle⟩ := idle
      exact absurd emptied idle
    · exact emptied
  · exact emptied

theorem knowing_carriedBy {s : State} (bay : Bay) {x : Src} (h : s.carriedBy x) : (s.knowing bay).carriedBy x :=
  fun i hi => ⟨by rw [(knowing_aside s bay).bay]; exact (h i hi).1, knowing_on bay (h i hi).2⟩

/-- A bay that enters a state that carries the load, or whose switch is not ON, takes the load of no source. -/
theorem setBay_carriedBy {s : State} {bay : Bay} {q : BayRec}
    (hq : (s.source (baySrc bay)).sw = .on → (s.bay bay).carries = true → q.carries = true) {x : Src}
    (h : s.carriedBy x) : (s.setBay bay q).carriedBy x := fun i hi => by
  obtain ⟨carries, on⟩ := h i hi
  refine ⟨?_, on⟩
  obtain rfl := eq_baySrc hi
  by_cases e : i = bay
  · subst e
    rw [State.setBay_bay_self]
    exact hq on carries
  · rw [State.setBay_bay_ne _ _ e]
    exact carries

/-! ## A move is told (R79, R85) -/

/-- The power path carries nothing out and only the SUPPLY reload has to follow. -/
structure Dormant (r s : State) : Prop where
  tame : Tame r s
  attempt : s.ppc.attempt = none
  moving : s.ppc.moving = false
  switching : s.ppc.switching = false
  supplyDue : s.ppc.supplyDue = false

/-- The SUPPLY reload that waited is taken. -/
def ReloadTurn (r : State) (ts : List Task) (s : State) : Prop :=
  ∃ rest, ts = .supplySwitch :: rest ∧ (∀ t ∈ rest, calm t) ∧ Dormant r s

/-- The power path between two moves, a SUPPLY reload waiting. -/
structure Unmoved (r s : State) : Prop where
  tame : Tame r s
  attempt : s.ppc.attempt = none
  moving : s.ppc.moving = false
  switching : s.ppc.switching = false
  supplyDue : s.ppc.supplyDue = true

/-- What waits is taken at the next chance. -/
theorem Unmoved.settled {r s : State} (h : Unmoved r s) {rest : List Task} (calm_ : ∀ t ∈ rest, calm t) :
    Leads (ReloadTurn r) 1 (.settled :: rest) s := by
  have free : s.ppc.engaged = false := by simp [Ppc.engaged, h.attempt, h.moving, h.switching]
  have told : handle .settled s = (s.takeDueSupply, [.supplySwitch, .settled]) := by
    simp [handle, takeWaiting, free, h.supplyDue]
  refine .of_handle told (.here ⟨_, rfl, fun t ht => ?_, h.tame.of_eq rfl rfl rfl rfl, h.attempt, h.moving, h.switching,
    rfl⟩)
  rcases List.mem_cons.1 ht with rfl | ht
  · exact .inl (by simp [awaitWeight, smallWeight, alien])
  · exact calm_ t ht

/-- The state while a move is told. -/
structure Moving (r s : State) : Prop where
  tame : Tame r s
  attempt : s.ppc.attempt = none
  moving : s.ppc.moving = true
  switching : s.ppc.switching = false
  supplyDue : s.ppc.supplyDue = true
  carried : ∀ x, s.ppc.onSrc = some x → s.carriedBy x

namespace Moving

variable {r s : State} (h : Moving r s)
include h

theorem of_path {t : State} (tame : Tame r t) (path : SamePath s t) : Moving r t where
  tame := tame
  attempt := path.attempt.trans h.attempt
  moving := path.moving.trans h.moving
  switching := path.switching.trans h.switching
  supplyDue := path.supplyDue.trans h.supplyDue
  carried x hx := path.carriedBy (h.carried x (path.onSrc ▸ hx))

theorem knowing (bay : Bay) : Moving r (s.knowing bay) := by
  obtain ⟨sources, release, known⟩ := knowing_eq s bay
  have aside := knowing_aside s bay
  have path : (s.knowing bay).ppc.moving = s.ppc.moving ∧ (s.knowing bay).ppc.switching = s.ppc.switching ∧
      (s.knowing bay).ppc.supplyDue = s.ppc.supplyDue ∧ (s.knowing bay).polls = s.polls := by
    rw [known]
    exact ⟨rfl, rfl, rfl, rfl⟩
  obtain ⟨moving, switching, supplyDue, polls⟩ := path
  exact ⟨h.tame.of_eq aside.ports polls aside.sru aside.smi, aside.attempt.trans h.attempt, moving.trans h.moving,
    switching.trans h.switching, supplyDue.trans h.supplyDue,
    fun x hx => knowing_carriedBy bay (h.carried x (aside.onSrc ▸ hx))⟩

theorem step {t : Task} (ht : movedWeight t < alien) : Moving r (handle t s).1 ∧
    load movedWeight (handle t s).2 + 2 * (handle t s).1.queued < movedWeight t + 2 * s.queued := by
  have small : ∀ {t : Task}, movedWeight t = smallWeight t → movedWeight t < alien → Moving r (handle t s).1 ∧
      load movedWeight (handle t s).2 + 2 * (handle t s).1.queued < movedWeight t + 2 * s.queued := fun e less => by
    rw [e] at less ⊢
    have step := handle_small h.tame (fun _ => by simp [Ppc.engaged, h.moving]) less
    have room := h.tame.queued_le
    have lowers := step.lowers
    have bound := smallWeight_lt less
    rw [movedWeight_weighs.load (by unfold alien; omega)]
    exact ⟨h.of_path step.tame step.path, lowers⟩
  cases t
  case powerBay bay old new =>
    obtain ⟨trigger, -, told⟩ := powerBay_cases bay old new s
    have aside := knowing_aside s bay
    have same : (s.knowing bay).queued = s.queued := queued_of_ports aside.ports
    have kept : ∀ ts, load smallWeight ts < 5 → Moving r (s.knowing bay, ts).1 ∧
        load movedWeight ts + 2 * (s.knowing bay).queued < 5 + 2 * s.queued := fun ts less => by
      rw [movedWeight_weighs.load (by unfold alien; omega), same]
      exact ⟨h.knowing bay, by omega⟩
    rw [told]
    split
    · next lost =>
      have off : s.ppc.onSrc ≠ some (baySrc bay) := fun on => by
        have carries := (h.carried _ on bay (srcBay_baySrc bay)).1
        exact nomatch carries.symm.trans lost.2
      have unattended : onLoss (baySrc bay) true trigger (s.knowing bay) = (s.knowing bay, tasksIf trigger [.trigger]) := by
        simp [onLoss, aside.attempt, h.attempt, aside.onSrc, off]
      rw [unattended]
      have := load_trigger trigger
      exact kept _ (by omega)
    · split
      · refine kept _ ?_
        split <;> simp [smallWeight]
      · have := load_changeNews trigger old
        exact kept _ (by omega)
  case releaseDone bay =>
    have frame : (handle (.releaseDone bay) s).1.queued = s.queued := queued_of_ports (by simp [handle])
    refine ⟨⟨h.tame.of_eq (by simp [handle]) (by simp [handle]) (by simp [handle]) (by simp [handle]),
      by simpa [handle] using h.attempt, by simpa [handle] using h.moving, by simpa [handle] using h.switching,
      by simpa [handle] using h.supplyDue, fun x hx => ?_⟩, ?_⟩
    · have hx : s.ppc.onSrc = some x := by simpa [handle] using hx
      simp only [handle, onReleaseDone]
      split
      · next ends => exact setBay_carriedBy (fun on => absurd on ends.2) (h.carried x hx)
      · exact h.carried x hx
    · have light : load movedWeight (handle (.releaseDone bay) s).2 ≤ 18 := by
        simp only [handle, onReleaseDone]
        split
        · exact movedWeight_weighs.toReleased ..
        · exact Nat.zero_le _
      rw [frame]
      simp only [movedWeight]
      omega
  all_goals first
    | exact absurd rfl ht.ne
    | exact small rfl ht

/-- The move has been told, and the SUPPLY reload that waits is taken (R90). -/
theorem ends {ts rest : List Task} (light : load movedWeight ts ≤ 100) (calm_ : ∀ t ∈ rest, calm t) :
    Leads (ReloadTurn r) 170 (ts ++ .moved :: .settled :: rest) s := by
  have room := h.tame.queued_le
  refine (Leads.of_measure (goal := ReloadTurn r) (m := 2)
    (fun ts s => Moving r s ∧ load movedWeight ts + 2 * s.queued < alien)
    (fun ts s => load movedWeight ts + 2 * s.queued) (fun t ts s h => .inl ?_) (fun s h => ?_) 164 ts s (by omega)
    ⟨h, by unfold alien; omega⟩).mono (by omega)
  · obtain ⟨phase, bound⟩ := h
    rw [load_cons] at bound ⊢
    obtain ⟨phase', lowers⟩ := phase.step (t := t) (by omega)
    rw [load_append]
    exact ⟨⟨phase', by omega⟩, by omega⟩
  · obtain ⟨phase, -⟩ := h
    exact .of_handle rfl (Unmoved.settled (s := s.moveTold) ⟨phase.tame.of_eq rfl rfl rfl rfl, phase.attempt, rfl,
      phase.switching, phase.supplyDue⟩ calm_)

end Moving

/-! ## An attempt is awaited (R77, R79, R82) -/

theorem leaveOld_due (old : Option Src) (lost : Bool) (s : State) :
    (leaveOld old lost s).1.ppc.switching = s.ppc.switching ∧ (leaveOld old lost s).1.ppc.supplyDue = s.ppc.supplyDue := by
  cases old <;> simp [leaveOld, State.leaveOn, State.setSource]

/-- A flag that clears is told if it was set (R163). -/
theorem flagTasks_cleared (was : Bool) : flagTasks was false = [] ∨ flagTasks was false = [.flagChanged false] := by
  cases was
  · exact .inl rfl
  · exact .inr rfl

/-- A MOTION table that waits takes force, and the flag may clear with it (R163, R172). -/
theorem takeMotionTable_cases (s : State) : ∃ force mtu ts,
    takeMotionTable s = ({ s with sru := { s.sru with motionForce := force }, mtu := mtu }, ts) ∧
      (force = s.sru.motionForce ∨ force = s.sru.committed.motion) ∧ (ts = [] ∨ ts = [.flagChanged false]) := by
  unfold takeMotionTable shockExpires parkExpires
  dsimp only
  (repeat' split) <;> first
    | exact ⟨_, _, _, rfl, .inr rfl, flagTasks_cleared _⟩
    | exact ⟨_, _, _, rfl, .inr rfl, .inl rfl⟩
    | exact ⟨_, _, _, rfl, .inl rfl, .inl rfl⟩

/-- The run has ended with the controller told of every SUPPLY table, or the SUPPLY reload that waited is taken. -/
def SettlesOrEnds (r : State) (ts : List Task) (s : State) : Prop :=
  ReloadTurn r ts s ∨ ts = [] ∧ Tame r s ∧ s.ppc.switching = false

/-- The state while an attempt is awaited. -/
structure Awaiting (r : State) (a : Attempt) (s : State) : Prop where
  tame : Tame r s
  attempt : s.ppc.attempt = some a
  switching : s.ppc.switching = false
  supplyDue : s.ppc.supplyDue = true
  other : a.old ≠ some a.target
  carried : s.carriedBy a.target

namespace Awaiting

variable {r s : State} {a : Attempt} (h : Awaiting r a s)
include h

theorem of_path {t : State} (tame : Tame r t) (path : SamePath s t) : Awaiting r a t where
  tame := tame
  attempt := path.attempt.trans h.attempt
  switching := path.switching.trans h.switching
  supplyDue := path.supplyDue.trans h.supplyDue
  other := h.other
  carried := path.carriedBy h.carried

/-- A change of the bays that the target rests on. -/
theorem of_bays {t : State} (tame : Tame r t) (ppc : t.ppc = s.ppc) (carried : t.carriedBy a.target) : Awaiting r a t :=
  ⟨tame, by rw [ppc, h.attempt], by rw [ppc, h.switching], by rw [ppc, h.supplyDue], h.other, carried⟩

theorem knowing (bay : Bay) : Awaiting r a (s.knowing bay) := by
  obtain ⟨sources, release, known⟩ := knowing_eq s bay
  have aside := knowing_aside s bay
  have path : (s.knowing bay).ppc.switching = s.ppc.switching ∧ (s.knowing bay).ppc.supplyDue = s.ppc.supplyDue ∧
      (s.knowing bay).polls = s.polls := by
    rw [known]
    exact ⟨rfl, rfl, rfl⟩
  obtain ⟨switching, supplyDue, polls⟩ := path
  exact ⟨h.tame.of_eq aside.ports polls aside.sru aside.smi, aside.attempt.trans h.attempt,
    switching.trans h.switching, supplyDue.trans h.supplyDue, h.other, knowing_carriedBy bay h.carried⟩

/-- The attempt completes, its move is told, and the SUPPLY reload is taken (R79, R82, R90). -/
theorem completes (result : MoveResult) (severity : Severity) (lost : Bool) {rest : List Task}
    (calm_ : ∀ t ∈ rest, calm t) : Leads (ReloadTurn r) 170 ((completeAttempt result severity lost s).2 ++ rest)
      (completeAttempt result severity lost s).1 := by
  obtain ⟨onSrc, attempt, sources, bays, tasks⟩ := completeAttempt_fields h.attempt result severity lost
  have left := leaveOld_leaves a.old lost s
  have carries : (completeAttempt result severity lost s).1.carriedBy a.target := fun bay hb => by
    obtain ⟨carries, on⟩ := h.carried bay hb
    have kept : (leaveOld a.old lost s).1.bay bay = s.bay bay := left.bay bay (eq_baySrc hb ▸ h.other)
    refine ⟨by rw [State.bay, bays]; exact (congrArg _ kept).trans carries, ?_⟩
    rw [sources, carriesFrom_source_self, left.kept _ h.other]
    exact on
  have flags : (completeAttempt result severity lost s).1.ppc.moving = true ∧
      (completeAttempt result severity lost s).1.ppc.switching = s.ppc.switching ∧
      (completeAttempt result severity lost s).1.ppc.supplyDue = s.ppc.supplyDue := by
    have same := leaveOld_due a.old lost s
    unfold completeAttempt
    rw [h.attempt]
    exact ⟨rfl, same⟩
  obtain ⟨moving, switching, supplyDue⟩ := flags
  have phase : Moving r (completeAttempt result severity lost s).1 :=
    ⟨h.tame.of_eq (by simp) (by simp) (by simp) (by simp), attempt, moving, switching.trans h.switching,
      supplyDue.trans h.supplyDue, fun x hx => by
        obtain rfl : a.target = x := Option.some.inj (onSrc.symm.trans hx)
        exact carries⟩
  have light : load movedWeight ((leaveOld a.old lost s).2 ++ [.classify] ++ doneTasks a.kind) ≤ 100 := by
    have w := movedWeight_weighs
    have first : load movedWeight (leaveOld a.old lost s).2 ≤ 18 := by
      unfold leaveOld
      split
      · exact w.commandOff ..
      · simp
    have last : load movedWeight (doneTasks a.kind) ≤ 25 := by
      unfold doneTasks
      split <;> simp [movedWeight]
    simp [movedWeight, smallWeight]
    omega
  have ends := phase.ends light calm_
  rw [tasks]
  simpa using ends

/-- A task of the rest: an attempt that completes is the only way out of the phase. -/
theorem step {t : Task} (ht : awaitWeight t < alien) {rest : List Task} (calm_ : ∀ t ∈ rest, calm t) :
    (Awaiting r a (handle t s).1 ∧
      load awaitWeight (handle t s).2 + 2 * (handle t s).1.queued < awaitWeight t + 2 * s.queued) ∨
    Leads (ReloadTurn r) 171 (t :: rest) s := by
  have small : ∀ {t : Task}, awaitWeight t = smallWeight t → awaitWeight t < alien → Awaiting r a (handle t s).1 ∧
      load awaitWeight (handle t s).2 + 2 * (handle t s).1.queued < awaitWeight t + 2 * s.queued := fun e less => by
    rw [e] at less ⊢
    have step := handle_small h.tame (fun _ => by simp [Ppc.engaged, h.attempt]) less
    have room := h.tame.queued_le
    have lowers := step.lowers
    have bound := smallWeight_lt less
    rw [awaitWeight_weighs.load (by unfold alien; omega)]
    exact ⟨h.of_path step.tame step.path, lowers⟩
  have idle : ∀ {t : Task} {w : Nat} {ts : List Task}, handle t s = (s, ts) → load awaitWeight ts < w →
      Awaiting r a (handle t s).1 ∧ load awaitWeight (handle t s).2 + 2 * (handle t s).1.queued < w + 2 * s.queued :=
    fun told less => by
      rw [told]
      exact ⟨h, by dsimp only; omega⟩
  have bays : ∀ {act : Act} {w : Nat}, act.1.ports = s.ports → act.1.polls = s.polls → act.1.sru = s.sru →
      act.1.smi = s.smi → act.1.ppc = s.ppc → act.1.carriedBy a.target → load awaitWeight act.2 < w →
      Awaiting r a act.1 ∧ load awaitWeight act.2 + 2 * act.1.queued < w + 2 * s.queued :=
    fun ports polls sru smi ppc carried less =>
      ⟨h.of_bays (h.tame.of_eq ports polls sru smi) ppc carried, by rw [queued_of_ports ports]; omega⟩
  have w := awaitWeight_weighs
  cases t
  case powerBay bay old new =>
    obtain ⟨trigger, -, told⟩ := powerBay_cases bay old new s
    have aside := knowing_aside s bay
    have same : (s.knowing bay).queued = s.queued := queued_of_ports aside.ports
    have kept : ∀ ts, load smallWeight ts < 5 → Awaiting r a (s.knowing bay, ts).1 ∧
        load awaitWeight ts + 2 * (s.knowing bay).queued < 5 + 2 * s.queued := fun ts less => by
      rw [w.load (by unfold alien; omega), same]
      exact ⟨h.knowing bay, by omega⟩
    by_cases lost : (s.source (baySrc bay)).sw = .on ∧ (s.bay bay).carries = false
    · rw [if_pos lost] at told
      have other : a.target ≠ baySrc bay := fun e => by
        have carries := (h.carried bay (by rw [e, srcBay_baySrc])).1
        exact nomatch carries.symm.trans lost.2
      have attempt := aside.attempt.trans h.attempt
      by_cases from_ : a.old = some (baySrc bay)
      · have left : onLoss (baySrc bay) true trigger (s.knowing bay) =
            completeAttempt .fromLost (lossSeverity true) true (s.knowing bay) := by
          simp [onLoss, attempt, other, from_]
        exact .inr (.step (by rw [told, left]; exact (h.knowing bay).completes _ _ _ calm_))
      · have left : onLoss (baySrc bay) true trigger (s.knowing bay) = (s.knowing bay, tasksIf trigger [.trigger]) := by
          simp [onLoss, attempt, other, from_]
        have := load_trigger trigger
        rw [told, left]
        exact .inl (kept _ (by omega))
    · rw [told, if_neg lost]
      refine .inl ?_
      split
      · refine kept _ ?_
        split <;> simp [smallWeight]
      · have := load_changeNews trigger old
        exact kept _ (by omega)
  case confirm =>
    by_cases conducts : s.ppc.attempt.any fun a => s.lines.feedback.get a.target
    · have told : handle .confirm s = completeAttempt .confirmed .info false s := if_pos conducts
      exact .inr (.step (by rw [told]; exact h.completes _ _ _ calm_))
    · exact .inl (idle (ts := []) (if_neg conducts) (by simp [awaitWeight]))
  case releaseDone bay =>
    refine .inl (bays (by simp [handle]) (by simp [handle]) (by simp [handle]) (by simp [handle]) (by simp [handle]) ?_ ?_)
    all_goals simp only [handle, onReleaseDone]; split
    · next ends => exact setBay_carriedBy (fun on => absurd on ends.2) h.carried
    · exact h.carried
    · exact (w.toReleased ..).trans_lt (by simp [awaitWeight])
    · simp [awaitWeight]
  case releaseBlocked bay =>
    refine .inl (bays (by simp [handle]) (by simp [handle]) (by simp [handle]) (by simp [handle]) (by simp [handle]) ?_ ?_)
    all_goals simp only [handle, onReleaseBlocked]; split
    · exact setBay_carriedBy (fun _ _ => rfl) h.carried
    · exact h.carried
    · exact (w.bayGoto (by decide) _ _ (by simp [w.bayNotice]) _).trans_lt (by simp [awaitWeight])
    · simp [awaitWeight]
  case alternate bay =>
    refine .inl (bays (by simp [handle]) (by simp [handle]) (by simp [handle]) (by simp [handle]) (by simp [handle]) ?_ ?_)
    all_goals simp only [handle, onAlternate]; split
    · exact setBay_carriedBy (fun _ _ => rfl) h.carried
    · exact h.carried
    · exact (w.bayGoto (by decide) _ _ (by simp) _).trans_lt (by simp [awaitWeight])
    · simp [awaitWeight]
  case flagBay bay =>
    refine .inl (bays (by simp [handle]) (by simp [handle]) (by simp [handle]) (by simp [handle]) (by simp [handle]) ?_ ?_)
    all_goals simp only [handle, onFlagCleared]; split
    · exact setBay_carriedBy (fun _ _ => rfl) h.carried
    · exact h.carried
    · exact (w.bayGoto (by decide) _ _ (by simp) _).trans_lt (by simp [awaitWeight])
    · simp [awaitWeight]
  case walk kind candidates =>
    exact .inl (idle (ts := []) (by simp [handle, walkOn, h.attempt]) (by simp [awaitWeight]))
  case takeover lost =>
    exact .inl (idle (ts := []) (by simp [handle, repeatedTakeover, h.attempt]) (by simp [awaitWeight]))
  case flagPower set =>
    cases set
    · exact .inl (idle (ts := [.settled]) (by simp [handle, powerOnFlag]) (by simp [awaitWeight, smallWeight]))
    · exact absurd rfl ht.ne
  case flagChanged set =>
    cases set
    · exact .inl (idle (ts := flagNews false) rfl (by simp [awaitWeight, flagNews]))
    · exact absurd rfl ht.ne
  case motionSwitch =>
    obtain ⟨force, mtu, ts, told, from_, news⟩ := takeMotionTable_cases s
    have path : SamePath s (handle .motionSwitch s).1 := by
      simp only [handle, told]
      constructor <;> rfl
    refine .inl ⟨h.of_path ?_ path, ?_⟩
    · simp only [handle, told]
      exact h.tame.of_settings rfl rfl rfl rfl rfl rfl rfl from_
    · have light : load awaitWeight ts ≤ 53 := by rcases news with rfl | rfl <;> simp [awaitWeight]
      have same : (handle .motionSwitch s).1.queued = s.queued := queued_of_ports (by simp only [handle, told])
      have few : load awaitWeight (handle .motionSwitch s).2 ≤ 53 := by simpa only [handle, told] using light
      rw [same]
      simp only [awaitWeight]
      omega
  all_goals first
    | exact absurd rfl ht.ne
    | exact .inl (small rfl ht)

theorem ends {ts : List Task} (light : load awaitWeight ts ≤ 1000) :
    Leads (SettlesOrEnds r) (load awaitWeight ts + 240) ts s := by
  have room := h.tame.queued_le
  have within := Leads.of_measure (goal := SettlesOrEnds r) (m := 171) (rest := [])
    (fun ts s => Awaiting r a s ∧ load awaitWeight ts + 2 * s.queued < alien)
    (fun ts s => load awaitWeight ts + 2 * s.queued) (fun t ts s h => ?_)
    (fun s h => .here (.inr ⟨rfl, h.1.tame, h.1.switching⟩)) (load awaitWeight ts + 64) ts s (by omega) ⟨h, by unfold alien; omega⟩
  · rw [List.append_nil] at within
    exact within.mono (by omega)
  · obtain ⟨phase, bound⟩ := h
    rw [load_cons] at bound ⊢
    have rest : ∀ u ∈ ts, calm u := fun u hu => .inl (by have := le_load awaitWeight hu; omega)
    rcases phase.step (t := t) (by omega) rest with ⟨phase', lowers⟩ | leads
    · refine .inl ⟨⟨phase', ?_⟩, ?_⟩ <;> rw [load_append] <;> omega
    · rw [List.append_nil]
      exact .inr ((leads.imp fun _ _ turn => .inl turn).mono (by omega))

end Awaiting

end Sys2Proof.Machine
end

section
/-!
SUPPORT. A trigger between two moves, a SUPPLY reload waiting (R69, R73, R76, R77, R83, R84, R86): it ends within a bound
in an attempt that is awaited or with the reload taken (R90).
-/

namespace Sys2Proof.Machine

/-! ## Eligibilities that are up to date (R72) -/

/-- Every eligibility is as its inputs have it. -/
def State.upToDate (s : State) : Prop := ∀ x, (s.source x).eligible = s.eligibleNow x

theorem upToDate_iff {s : State} : s.upToDate ↔ s.eligibilityChanges = false := by
  constructor
  · intro h
    have := fun x => (h x).symm
    simp only [State.source] at this
    simp [State.eligibilityChanges, this .dc, this .a, this .b, this .br, PerSrc.get]
  · intro h x
    simp only [State.eligibilityChanges, Bool.or_eq_false_iff, bne_eq_false_iff_eq] at h
    obtain ⟨⟨⟨dc, a⟩, b⟩, br⟩ := h
    cases x <;> exact (by assumption : _ = _).symm

/-- A bay whose pack may be eligible. -/
def admittedState (b : BayState) : Prop := b = .ready ∨ b = .active

/-- Eligibility reads of a bay that is not admitted no more than that. -/
theorem eligibleNow_of_admitted {s t : State} (lines : t.lines = s.lines) (slots : t.slots = s.slots)
    (supply : t.sru.supplyForce = s.sru.supplyForce)
    (bays : ∀ bay, (t.bay bay).state = (s.bay bay).state ∧
        (t.source (baySrc bay)).heldOff = (s.source (baySrc bay)).heldOff ∨
      ¬admittedState (t.bay bay).state ∧ ¬admittedState (s.bay bay).state) (x : Src) :
    t.eligibleNow x = s.eligibleNow x := by
  have fresh : ∀ slot, t.freshValue slot = s.freshValue slot := fun slot => by
    simp [State.freshValue, State.fresh, State.slot, slots]
  have supply : t.supply = s.supply := by simp [State.supply, supply]
  have packs : ∀ bay active, t.packSlots bay active = s.packSlots bay active := fun bay active => by
    simp only [State.packSlots, fresh, supply]
  rcases src_cases x with ⟨bay, rfl⟩ | other
  · simp only [State.eligibleNow, srcBay_baySrc, packs]
    rcases bays bay with ⟨state, held⟩ | ⟨out, out'⟩
    · rw [state, held]
    · obtain ⟨ready, active⟩ := not_or.1 out
      obtain ⟨ready', active'⟩ := not_or.1 out'
      simp only [beq_eq_false_iff_ne.2 ready, beq_eq_false_iff_ne.2 active, beq_eq_false_iff_ne.2 ready',
        beq_eq_false_iff_ne.2 active', Bool.or_self, Bool.false_and]
  · simp only [State.eligibleNow, other, fresh, supply, lines]

theorem upToDate_of {s t : State} (h : s.upToDate) (eligible : ∀ x, (t.source x).eligible = (s.source x).eligible)
    (now : ∀ x, t.eligibleNow x = s.eligibleNow x) : t.upToDate := fun x => by rw [eligible, now]; exact h x

theorem upToDate_congr {s t : State} (h : s.upToDate) (lines : t.lines = s.lines) (slots : t.slots = s.slots)
    (supply : t.sru.supplyForce = s.sru.supplyForce) (bays : t.bays = s.bays) (sources : t.ppc.sources = s.ppc.sources) :
    t.upToDate := by
  have source : ∀ x, t.source x = s.source x := fun x => by rw [State.source, sources]; rfl
  refine upToDate_of h (fun x => by rw [source]) (eligibleNow_of_admitted lines slots supply fun bay => .inl ⟨?_, ?_⟩)
  · rw [State.bay, bays]
    rfl
  · rw [source]

theorem refresh_upToDate (s : State) : s.refresh.upToDate := fun x => by
  have same : s.refresh.eligibleNow x = s.eligibleNow x :=
    eligibleNow_of_admitted (s := s) (t := s.refresh) rfl rfl rfl
      (fun bay => .inl ⟨rfl, by rw [State.refresh_source]; rfl⟩) x
  rw [State.refresh_source, same]
  rfl

/-- What a bay's news make of the sources leaves the eligibilities up to date, and the sources' eligibilities do not
change before they are looked at. -/
theorem enterSwitch_upToDate {s : State} (h : s.upToDate) (bay : Bay) : ((s.emptySource bay).enterSwitch bay).upToDate := by
  have emptied : (s.emptySource bay).upToDate := by
    unfold State.emptySource
    split
    · next empty =>
      refine upToDate_of h (fun x => ?_) (eligibleNow_of_admitted rfl rfl rfl fun i => ?_)
      · by_cases e : x = baySrc bay
        · subst e
          simp [State.setHeldOff, State.dropRelease, State.source]
        · rw [State.setHeldOff, State.setSource_source_ne _ _ e]
          rfl
      · by_cases e : i = bay
        · subst e
          have out : ¬admittedState (s.bay i).state := by simp [admittedState, empty]
          exact .inr ⟨out, out⟩
        · refine .inl ⟨rfl, ?_⟩
          rw [State.setHeldOff, State.setSource_source_ne _ _ (fun f => e (baySrc_inj.1 f))]
          rfl
    · exact h
  rw [enterSwitch_eq]
  split
  · obtain ⟨sources, e⟩ := setIdleSwitch_eq (s.emptySource bay) (baySrc bay) ‹Switch›
    refine upToDate_of emptied (fun x => ?_) (eligibleNow_of_admitted (by rw [e]) (by rw [e]) (by rw [e])
      fun i => .inl ⟨by rw [e]; rfl, ?_⟩)
    · rw [setIdleSwitch_source]
      split <;> rfl
    · rw [setIdleSwitch_source]
      split <;> rfl
  · exact emptied

/-! ## The weights -/

/-- What a task weighs from a trigger to the attempt it ends in. -/
def selectWeight : Task → Nat
  | .post _ => 1
  | .swapEnd _ => 1
  | .settled => 1
  | .takeover _ => 1
  | .pollBay _ _ new => if new = .identifying then alien else 2
  | .powerBay _ old new =>
    if old = .releaseBlocked ∧ new = .releasing then 45
    else if (old = .releasing ∨ old = .releaseBlocked) ∧ (new = .released ∨ new = .releaseBlocked) then 5 else alien
  | .releaseDone _ => 25
  | .releaseBlocked _ => 25
  | .walk _ candidates => candidates.length + 30
  | .releaseRequest .. => 40
  | .reselect => 40
  | .alternate _ => 50
  | .alternates => 105
  | _ => alien

theorem awaitWeight_le_select (t : Task) : awaitWeight t ≤ selectWeight t := by
  cases t <;> simp only [awaitWeight, selectWeight, smallWeight]
  case powerBay | pollBay | engineDone | place | flagPower | flagChanged => (repeat' split) <;> simp [alien]
  all_goals simp [alien]

theorem load_await_le (ts : List Task) : load awaitWeight ts ≤ load selectWeight ts :=
  List.sum_le_sum fun t _ => awaitWeight_le_select t

/-- A list of candidates is short (R73). -/
theorem candidates_length (s : State) (excluded : Option Src) : (s.candidates excluded).length ≤ 3 := by
  have packs : (if s.supply.balance then s.balancedPacks else s.orderedPacks).length = 2 := by
    unfold State.balancedPacks State.orderedPacks
    dsimp only
    (repeat' split) <;> rfl
  unfold State.candidates
  dsimp only
  generalize (if s.supply.balance then s.balancedPacks else s.orderedPacks) = listed at packs ⊢
  split
  · exact (List.length_filter_le ..).trans (by simp)
  · exact (List.length_filter_le ..).trans (by simp [packs])

/-! ## The phase -/

/-- The state between two moves, the eligibilities up to date. -/
structure Choosing (r s : State) : Prop where
  unmoved : Unmoved r s
  upToDate : s.upToDate

namespace Choosing

variable {r s : State} (h : Choosing r s)
include h

theorem of_path {t : State} (tame : Tame r t) (path : SamePath s t) : Choosing r t where
  unmoved := ⟨tame, path.attempt.trans h.unmoved.attempt, path.moving.trans h.unmoved.moving,
    path.switching.trans h.unmoved.switching, path.supplyDue.trans h.unmoved.supplyDue⟩
  upToDate := upToDate_congr h.upToDate path.lines path.slots (tame.supply.trans h.unmoved.tame.supply.symm) path.bays
    path.sources

/-- A bay that is not admitted enters such a state. -/
theorem setBay {bay : Bay} {q : BayRec} (old : ¬admittedState (s.bay bay).state) (new : ¬admittedState q.state) :
    Choosing r (s.setBay bay q) where
  unmoved := ⟨h.unmoved.tame.of_eq rfl rfl rfl rfl, h.unmoved.attempt, h.unmoved.moving, h.unmoved.switching,
    h.unmoved.supplyDue⟩
  upToDate := upToDate_of h.upToDate (fun _ => rfl) (eligibleNow_of_admitted rfl rfl rfl fun i => by
    by_cases e : i = bay
    · subst e
      exact .inr ⟨by rwa [State.setBay_bay_self], old⟩
    · exact .inl ⟨by rw [State.setBay_bay_ne _ _ e], rfl⟩)

theorem knowing (bay : Bay) : Choosing r (s.knowing bay) := by
  obtain ⟨sources, release, known⟩ := knowing_eq s bay
  refine ⟨?_, refresh_upToDate _⟩
  rw [known]
  exact ⟨h.unmoved.tame.of_eq rfl rfl rfl rfl, h.unmoved.attempt, h.unmoved.moving, h.unmoved.switching,
    h.unmoved.supplyDue⟩

/-- The load moves off the ON source at once, the move is told, and the SUPPLY reload is taken (R85, R90). -/
theorem takesOver {lost c : Src} (on : s.ppc.onSrc = some lost) (other : c ≠ lost) (admitted : s.admitted c = true)
    (urgent : Bool) {rest : List Task} (calm_ : ∀ t ∈ rest, calm t) :
    Leads (ReloadTurn r) 170 ((takeOver lost c urgent s).2 ++ rest) (takeOver lost c urgent s).1 := by
  obtain ⟨onSrc, -, sources, bays, tasks⟩ := takeOver_fields lost c urgent s
  have left : leaveForTakeover lost s = commandOff lost .off s := by simp [leaveForTakeover, on]
  have ppc := takeOver_lost_ppc lost c urgent s on
  have carried : (takeOver lost c urgent s).1.carriedBy c := fun bay hb => by
    have kept : (commandOff lost .off s).1.admitted c = true := by
      have same : baySrc bay ≠ lost := fun e => other (by rw [← e, eq_baySrc hb])
      simpa [State.admitted, hb, commandOff_bay_ne same] using admitted
    have carries := commandOn_carries kept hb
    rw [← left] at carries
    refine ⟨by rw [State.bay, bays]; exact carries, ?_⟩
    rw [sources, carriesFrom_source_self, commandOn_source_self]
  have phase : Moving r (takeOver lost c urgent s).1 := by
    refine ⟨h.unmoved.tame.of_eq (by simp) (by simp) (by simp) (by simp), ?_, ?_, ?_, ?_, fun x hx => ?_⟩
    · rw [ppc]
      exact h.unmoved.attempt
    · rw [ppc]
    · rw [ppc]
      exact h.unmoved.switching
    · rw [ppc]
      exact h.unmoved.supplyDue
    · obtain rfl : c = x := Option.some.inj (onSrc.symm.trans hx)
      exact carried
  have light : load movedWeight ((leaveForTakeover lost s).2 ++ (commandOn c (leaveForTakeover lost s).1).2 ++ [.classify] ++
      tasksIf (c == .br) [.bridgeCheck] ++ s.departed) ≤ 100 := by
    have w := movedWeight_weighs
    have first := w.commandOff lost .off s
    have second := w.commandOn c (commandOff lost .off s).1
    have check := load_tasksIf movedWeight (c == .br) [.bridgeCheck]
    have departed : load movedWeight s.departed ≤ 25 := by
      unfold State.departed
      (repeat' split) <;> simp [movedWeight]
    rw [left]
    simp [movedWeight, smallWeight] at check ⊢
    omega
  have ends := phase.ends light calm_
  rw [tasks]
  simpa using ends

/-- A source is commanded ON, and its attempt awaited (R69, R79). -/
theorem begins (kind : WalkKind) {c : Src} (rest : List Src) (on : s.ppc.onSrc ≠ some c) (admitted : s.admitted c = true)
    {tail : List Task} (light : load awaitWeight tail ≤ 900) :
    Leads (SettlesOrEnds r) (load awaitWeight tail + 300) ((beginAttempt kind c rest s).2 ++ tail)
      (beginAttempt kind c rest s).1 := by
  have begun := beginAttempt_begun kind c rest s
  obtain ⟨a, target, old, attempt⟩ : ∃ a : Attempt, a.target = c ∧ a.old = s.ppc.onSrc ∧
      (beginAttempt kind c rest s).1.ppc.attempt = some a := ⟨_, rfl, rfl, begun.attempt⟩
  have phase : Awaiting r a (beginAttempt kind c rest s).1 := by
    refine ⟨h.unmoved.tame.of_eq (by simp) (by simp) (by simp) (by simp), attempt, ?_, ?_, by rw [old, target]; exact on,
      fun bay hb => ?_⟩
    · have same : (commandOn c s).1.ppc.switching = s.ppc.switching := by simp [State.setSwitch, State.setSource]
      exact same.trans h.unmoved.switching
    · have same : (commandOn c s).1.ppc.supplyDue = s.ppc.supplyDue := by simp [State.setSwitch, State.setSource]
      exact same.trans h.unmoved.supplyDue
    · rw [target] at hb ⊢
      exact ⟨commandOn_carries admitted hb, begun.target⟩
  have told : load awaitWeight (beginAttempt kind c rest s).2 ≤ 20 := by
    have first := awaitWeight_weighs.commandOn c s
    have check := load_tasksIf awaitWeight (c == .br) [.bridgeCheck]
    have confirm := load_tasksIf awaitWeight (s.lines.feedback.get c) [.confirm]
    simp [beginAttempt, awaitWeight, smallWeight] at check confirm ⊢
    omega
  refine (phase.ends (ts := (beginAttempt kind c rest s).2 ++ tail) ?_).mono ?_
  all_goals
    rw [load_append]
    omega

/-- The ON pack does not carry the load: it is taken over at once (R82, R85). -/
theorem loses {bay : Bay} (on : s.ppc.onSrc = some (baySrc bay)) (trigger : Bool) {rest : List Task}
    (calm_ : ∀ t ∈ rest, calm t) : Leads (ReloadTurn r) 170 ((onLoss (baySrc bay) true trigger (s.knowing bay)).2 ++ rest)
      (onLoss (baySrc bay) true trigger (s.knowing bay)).1 := by
  have known := h.knowing bay
  have on := (knowing_aside s bay).onSrc.trans on
  obtain ⟨c, other, admitted, e⟩ := onTakeover_lost on (by cases bay <;> exact nofun)
  have left : onLoss (baySrc bay) true trigger (s.knowing bay) = onTakeover (baySrc bay) true (s.knowing bay) := by
    simp [onLoss, known.unmoved.attempt, on]
  rw [left, e]
  exact known.takesOver on other admitted true calm_

/-- A source that has left ON. -/
theorem leaveOn (x : Src) (sw : Switch) : Choosing r (s.leaveOn x sw) where
  unmoved := ⟨h.unmoved.tame.of_eq rfl rfl rfl rfl, h.unmoved.attempt, h.unmoved.moving, h.unmoved.switching,
    h.unmoved.supplyDue⟩
  upToDate := by
    have kept : ∀ y, ((s.leaveOn x sw).source y).eligible = (s.source y).eligible ∧
        ((s.leaveOn x sw).source y).heldOff = (s.source y).heldOff := fun y => by
      by_cases e : y = x
      · subst e
        simp [State.leaveOn]
      · rw [State.leaveOn, State.setSource_source_ne _ _ e]
        exact ⟨rfl, rfl⟩
    exact upToDate_of h.upToDate (fun y => (kept y).1)
      (eligibleNow_of_admitted rfl rfl rfl fun bay => .inl ⟨rfl, (kept (baySrc bay)).2⟩)

omit h in
/-- What a bay tells as its release comes to an end (R94, R109). -/
theorem load_releaseNews {old new : BayState} (from_ : old = .releasing ∨ old = .releaseBlocked)
    (to_ : new = .released ∨ new = .releaseBlocked) (bay : Bay) (notice : Post) :
    load selectWeight (bayNews bay old new [.post notice]) = 9 := by
  rcases from_ with rfl | rfl <;> rcases to_ with rfl | rfl <;>
    simp [bayNews, tasksIf, counted, endsSwap, selectWeight]

/-- A task on the way to an attempt: what ends the phase is an attempt that begins, a takeover, and the next chance to take
the SUPPLY reload. -/
theorem step {t : Task} (ht : selectWeight t < alien) {tail : List Task} (light : load awaitWeight tail ≤ 900) :
    (Choosing r (handle t s).1 ∧
      load selectWeight (handle t s).2 + 2 * (handle t s).1.queued < selectWeight t + 2 * s.queued) ∨
    Leads (SettlesOrEnds r) (load awaitWeight tail + 301) (t :: tail) s := by
  have calm_ : ∀ u ∈ tail, calm u := fun u hu => .inl (by
    have := le_load awaitWeight hu
    unfold alien
    omega)
  have free : s.ppc.engaged = false := by
    simp [Ppc.engaged, h.unmoved.attempt, h.unmoved.moving, h.unmoved.switching]
  have kept : ∀ {u : State} {ts : List Task} {w : Nat}, handle t s = (u, ts) → Choosing r u → u.queued = s.queued →
      load selectWeight ts < w → Choosing r (handle t s).1 ∧
        load selectWeight (handle t s).2 + 2 * (handle t s).1.queued < w + 2 * s.queued :=
    fun told phase same less => by
      rw [told]
      exact ⟨phase, by dsimp only; omega⟩
  have marked : ∀ {p : Ppc}, p.sources = s.ppc.sources → p.attempt = s.ppc.attempt → p.moving = s.ppc.moving →
      p.switching = s.ppc.switching → p.supplyDue = s.ppc.supplyDue → Choosing r { s with ppc := p } :=
    fun sources attempt moving switching supplyDue =>
      ⟨⟨h.unmoved.tame.of_eq rfl rfl rfl rfl, attempt.trans h.unmoved.attempt, moving.trans h.unmoved.moving,
        switching.trans h.unmoved.switching, supplyDue.trans h.unmoved.supplyDue⟩,
        upToDate_congr h.upToDate rfl rfl rfl rfl sources⟩
  cases t
  case post p => exact .inl (kept rfl (h.of_path (h.unmoved.tame.of_eq rfl rfl rfl rfl) (.of_eq rfl rfl rfl rfl)) rfl (by
      simp [selectWeight]))
  case swapEnd bay =>
    have small := handle_small h.unmoved.tame (t := .swapEnd bay) nofun (by simp [smallWeight, alien])
    exact .inl (kept (ts := []) rfl (h.of_path small.tame small.path) (queued_of_ports (by simp)) (by simp [selectWeight]))
  case pollBay bay old new =>
    have other : new ≠ .identifying := fun e => by simp [selectWeight, e] at ht
    obtain ⟨polls, told⟩ := handle_pollBay_quiet (s := s) (old := old) (new := new) (.inr (.inr h.unmoved.tame.gates)) bay
    have small := handle_small h.unmoved.tame (t := .pollBay bay old new) nofun (by simp [smallWeight, alien])
    have phase := h.of_path small.tame small.path
    rw [told] at phase
    exact .inl (kept told phase rfl (by simp [tasksIf, other, selectWeight]))
  case settled =>
    exact .inr (((h.unmoved.settled calm_).imp fun _ _ turn => .inl turn).mono (by omega))
  case takeover lost =>
    by_cases on : s.ppc.onSrc = some lost
    · have told : handle (.takeover lost) s = onTakeover lost false s := by
        simp [handle, repeatedTakeover, h.unmoved.attempt, on]
      rw [onTakeover] at told
      split at told
      · next c rest listed =>
        obtain ⟨choosable, other⟩ := mem_candidates (s := s) (excluded := some lost) (c := c) (by simp [listed])
        have other : c ≠ lost := fun e => other (by rw [e])
        rw [if_neg (by rw [on]; simpa using other.symm)] at told
        have taken := h.takesOver on other (Bool.and_eq_true_iff.1 choosable).2 false calm_
        rw [← told] at taken
        exact .inr (.mono (.step (taken.imp fun _ _ turn => .inl turn)) (by omega))
      · rw [if_neg (by simp), if_pos on, noAlternate] at told
        split at told
        · exact .inl (kept told h rfl (by simp [selectWeight]))
        · refine .inl (kept told ?_ rfl (by simp [selectWeight]))
          exact h.of_path (h.unmoved.tame.of_eq rfl rfl rfl rfl) (by constructor <;> rfl)
    · exact .inl (kept (ts := []) (by simp [handle, repeatedTakeover, on]) h rfl (by simp [selectWeight]))
  case powerBay bay old new =>
    have known := h.knowing bay
    have aside := knowing_aside s bay
    have same : (s.knowing bay).queued = s.queued := queued_of_ports aside.ports
    obtain ⟨trigger, asked, told⟩ := powerBay_cases bay old new s
    have quiet : ((s.emptySource bay).enterSwitch bay).eligibilityChanges = false :=
      upToDate_iff.1 (enterSwitch_upToDate h.upToDate bay)
    have change : (old = .releaseBlocked ∧ new = .releasing) ∨ (old = .releasing ∨ old = .releaseBlocked) ∧
        (new = .released ∨ new = .releaseBlocked) := by
      by_contra none
      obtain ⟨back, ends⟩ := not_or.1 none
      simp [selectWeight, back, ends] at ht
    have unasked : trigger = false := by
      rw [asked, quiet]
      rcases change with ⟨rfl, rfl⟩ | ⟨rfl | rfl, rfl | rfl⟩ <;> simp [State.bayTriggers]
    by_cases lost : (s.source (baySrc bay)).sw = .on ∧ (s.bay bay).carries = false
    · rw [if_pos lost] at told
      by_cases on : s.ppc.onSrc = some (baySrc bay)
      · have taken := h.loses on trigger calm_
        rw [← told] at taken
        exact .inr (.mono (.step (taken.imp fun _ _ turn => .inl turn)) (by omega))
      · have left : onLoss (baySrc bay) true trigger (s.knowing bay) = (s.knowing bay, []) := by
          simp [onLoss, known.unmoved.attempt, aside.onSrc, on, unasked, tasksIf]
        refine .inl (kept (told.trans left) known same ?_)
        rcases change with ⟨rfl, rfl⟩ | ⟨rfl | rfl, rfl | rfl⟩ <;> simp [selectWeight]
    · rw [if_neg lost] at told
      rcases change with ⟨rfl, rfl⟩ | ends
      · refine .inl (kept (told.trans (if_pos rfl)) known same ?_)
        split <;> simp [selectWeight]
      · have none : changeNews trigger old = [] := by
          rcases ends with ⟨rfl | rfl, -⟩ <;> simp [changeNews, unasked, tasksIf]
        refine .inl (kept (told.trans (if_neg ?_)) known same ?_)
        · rcases ends with ⟨-, rfl | rfl⟩ <;> exact nofun
        · rw [none]
          rcases ends with ⟨rfl | rfl, rfl | rfl⟩ <;> simp [selectWeight]
  case releaseDone bay =>
    by_cases ends : ((s.bay bay).state = .releasing ∨ (s.bay bay).state = .releaseBlocked) ∧
        (s.source (baySrc bay)).sw ≠ .on
    · have told : handle (.releaseDone bay) s = toReleased bay (s.bay bay) s := if_pos ends
      refine .inl (kept told (h.setBay ?_ (by simp [admittedState])) rfl ?_)
      · rcases ends.1 with e | e <;> simp [admittedState, e]
      · rw [bayNotice, load_releaseNews ends.1 (.inl rfl)]
        simp [selectWeight]
    · exact .inl (kept (ts := []) (if_neg ends) h rfl (by simp [selectWeight]))
  case releaseBlocked bay =>
    by_cases releasing : (s.bay bay).state = .releasing
    · refine .inl (kept (if_pos releasing) (h.setBay (by simp [admittedState, releasing]) (by simp [admittedState])) rfl ?_)
      rw [bayNotice, load_releaseNews (.inl releasing) (.inr rfl)]
      simp [selectWeight]
    · exact .inl (kept (ts := []) (if_neg releasing) h rfl (by simp [selectWeight]))
  case alternate bay =>
    by_cases blocked : (s.bay bay).state = .releaseBlocked
    · refine .inl (kept (if_pos blocked) (h.setBay (by simp [admittedState, blocked]) (by simp [admittedState])) rfl ?_)
      simp [bayNews, tasksIf, counted, endsSwap, selectWeight, blocked]
    · exact .inl (kept (ts := []) (if_neg blocked) h rfl (by simp [selectWeight]))
  case releaseRequest bay origin =>
    by_cases releasing : (s.bay bay).state = .releasing
    · by_cases waits : origin = .latch ∧ s.mtu.shockHold = true
      · exact .inl (kept (handle_release_waits releasing (.inr waits)) (marked rfl rfl rfl rfl rfl) rfl (by
          simp [selectWeight]))
      · have goes : origin = .request ∨ s.mtu.shockHold = false := by
          cases origin
          · exact .inr (by simpa using waits)
          · exact .inl rfl
        by_cases on : s.ppc.onSrc = some (baySrc bay)
        · have few := candidates_length s (some (baySrc bay))
          exact .inl (kept (handle_release_walks releasing free goes on) h rfl (by simp [selectWeight]; omega))
        · exact .inl (kept (handle_release_idle releasing free goes on) (h.leaveOn ..) rfl (by simp [selectWeight]))
    · exact .inl (kept (handle_release_gone releasing origin) h rfl (by simp [selectWeight]))
  case reselect =>
    have few := candidates_length s none
    by_cases waits : s.reselectionWaits = true
    · exact .inl (kept ((handle_reselect (s := s)).trans (if_pos waits)) (marked rfl rfl rfl rfl rfl) rfl (by simp [selectWeight]))
    · exact .inl (kept ((handle_reselect (s := s)).trans (if_neg waits)) (marked rfl rfl rfl rfl rfl) rfl (by
        simp [selectWeight]; omega))
  case alternates =>
    have few : (s.blockedBays.filter s.hasAlternate).length ≤ 2 :=
      (List.length_filter_le ..).trans ((List.length_filter_le ..).trans (by simp))
    have told : handle .alternates s = ({ s with ppc := { s.ppc with waitCheck := { a := false, b := false } } },
        (s.blockedBays.filter s.hasAlternate).map Task.alternate) := by
      simp [handle, checkAlternates, free]
    refine .inl (kept told (marked rfl rfl rfl rfl rfl) rfl ?_)
    have light := load_le selectWeight (ts := (s.blockedBays.filter s.hasAlternate).map Task.alternate) (b := 50)
      fun t ht => by
        obtain ⟨bay, -, rfl⟩ := List.mem_map.1 ht
        simp [selectWeight]
    rw [List.length_map] at light
    simp only [selectWeight]
    omega
  case walk kind candidates =>
    have ended : ∀ w, load selectWeight (endWalk kind s).2 < w + 30 := fun w => by
      unfold endWalk
      split
      · have blocked := load_tasksIf selectWeight ((s.bay ‹Bay›).state == .releasing) [.releaseBlocked ‹Bay›]
        simp [selectWeight] at blocked ⊢
        omega
      all_goals simp [selectWeight]
    have ends : handle (.walk kind candidates) s = endWalk kind s →
        Choosing r (handle (.walk kind candidates) s).1 ∧
          load selectWeight (handle (.walk kind candidates) s).2 + 2 * (handle (.walk kind candidates) s).1.queued <
            selectWeight (.walk kind candidates) + 2 * s.queued := fun told => by
      have same : (endWalk kind s).1 = s := by cases kind <;> rfl
      have less := ended candidates.length
      exact kept (told.trans (Prod.ext same rfl)) h rfl less
    have idle := h.unmoved.attempt
    by_cases stopped : (s.mtu.shockHold && !kind.explicit) = true
    · have told : handle (.walk kind candidates) s = (s.heldBack kind, [.settled]) := by
        simp only [handle, walkOn, idle, stopped]
        rfl
      exact .inl (kept told (marked rfl rfl rfl rfl rfl) rfl (by simp [selectWeight]))
    · have free : s.mtu.shockHold = false ∨ ∃ bay, kind = .release bay .request := by
        rw [← explicit_iff]
        simpa [or_iff_not_imp_left] using stopped
      cases candidates with
      | nil => exact .inl (ends (handle_walk_nil idle free))
      | cons c rest =>
        by_cases on : s.ppc.onSrc = some c
        · exact .inl (ends (handle_walk_onSrc idle free on rest))
        · by_cases goes : s.choosable c = true ∧ (kind = .startup ∨ s.windowPasses c = true)
          · have begun := h.begins kind rest on (Bool.and_eq_true_iff.1 goes.1).2 light
            rw [← handle_walk_begins idle free on goes.1 goes.2 rest] at begun
            exact .inr (.step begun)
          · exact .inl (kept (handle_walk_passes idle free on goes rest) h rfl (by simp [selectWeight]))
  all_goals exact absurd rfl ht.ne

theorem ends {ts rest : List Task} (light : load selectWeight ts ≤ 200) (room : load awaitWeight rest ≤ 500) :
    Leads (SettlesOrEnds r) (load selectWeight ts + load awaitWeight rest + 400) (ts ++ .settled :: rest) s := by
  have few := h.unmoved.tame.queued_le
  have calm_ : ∀ t ∈ rest, calm t := fun t ht => .inl (by
    have := le_load awaitWeight ht
    unfold alien
    omega)
  refine (Leads.of_measure (goal := SettlesOrEnds r) (m := load awaitWeight rest + 302)
    (fun ts s => Choosing r s ∧ load selectWeight ts + 2 * s.queued ≤ 300)
    (fun ts s => load selectWeight ts + 2 * s.queued) (fun t ts s h => ?_)
    (fun s h => ((h.1.unmoved.settled calm_).imp fun _ _ turn => .inl turn).mono (by omega))
    (load selectWeight ts + 64) ts s (by omega) ⟨h, by omega⟩).mono (by omega)
  obtain ⟨phase, bound⟩ := h
  have behind := load_await_le ts
  have next : awaitWeight .settled = 1 := rfl
  rw [load_cons] at bound ⊢
  rcases phase.step (t := t) (by unfold alien; omega) (tail := ts ++ .settled :: rest)
    (by rw [load_append, load_cons]; omega) with ⟨phase', lowers⟩ | leads
  · refine .inl ⟨⟨phase', ?_⟩, ?_⟩ <;> rw [load_append] <;> omega
  · refine .inr (leads.mono ?_)
    rw [load_append, load_cons]
    omega

end Choosing

end Sys2Proof.Machine
end

section
/-!
SUPPORT. A SUPPLY reload in a SOFT_RESET up to the Power Path Controller's part, and a second one where one had waited (R90,
R184): within a bound only tasks are left that bring no SUPPLY table into force.
-/

namespace Sys2Proof.Machine

/-! ## The Power Path Controller's part (R90) -/

/-- What the power path is in the middle of. -/
structure SameMarks (s t : State) : Prop where
  attempt : t.ppc.attempt = s.ppc.attempt
  moving : t.ppc.moving = s.ppc.moving
  switching : t.ppc.switching = s.ppc.switching
  supplyDue : t.ppc.supplyDue = s.ppc.supplyDue

namespace SameMarks

theorem refl (s : State) : SameMarks s s := ⟨rfl, rfl, rfl, rfl⟩

theorem trans {s t u : State} (h : SameMarks s t) (k : SameMarks t u) : SameMarks s u :=
  ⟨k.attempt.trans h.attempt, k.moving.trans h.moving, k.switching.trans h.switching, k.supplyDue.trans h.supplyDue⟩

end SameMarks

theorem setIdleSwitch_marks (s : State) (x : Src) (sw : Switch) : SameMarks s (s.setIdleSwitch x sw) := by
  unfold State.setIdleSwitch
  split
  · exact .refl s
  · exact ⟨rfl, rfl, rfl, rfl⟩

theorem reholdBay_marks (s : State) (bay : Bay) : SameMarks s (s.reholdBay bay) := by
  have marked : SameMarks s (s.setHeldOff (baySrc bay) (s.heldOffNow bay)) := ⟨rfl, rfl, rfl, rfl⟩
  unfold State.reholdBay State.holdOff State.restoreStandby
  dsimp only
  (repeat' split) <;> first
    | exact marked.trans (setIdleSwitch_marks ..)
    | exact marked

theorem dropNoAlternate_marks (s : State) : SameMarks s s.dropNoAlternate := by
  unfold State.dropNoAlternate
  (repeat' split) <;> exact ⟨rfl, rfl, rfl, rfl⟩

theorem resupplied_marks (s : State) : SameMarks s s.resupplied :=
  (((reholdBay_marks s .a).trans (reholdBay_marks _ .b)).trans (dropNoAlternate_marks _)).trans ⟨rfl, rfl, rfl, rfl⟩

/-- The bridge timer alone may fall due. -/
theorem expireBridge_path (s : State) : SamePath s (expireBridge s).1 := by
  unfold expireBridge addBridgeCause
  (repeat' split) <;> constructor <;> rfl

/-- After its part the controller's eligibilities are up to date, and it is no longer in a switch. -/
theorem supplyPowerSwitch_state (s : State) :
    (supplyPowerSwitch s).1.upToDate ∧ (supplyPowerSwitch s).1.ppc.switching = false ∧
      (supplyPowerSwitch s).1.ppc.attempt = s.ppc.attempt ∧ (supplyPowerSwitch s).1.ppc.moving = s.ppc.moving ∧
      (supplyPowerSwitch s).1.ppc.supplyDue = s.ppc.supplyDue := by
  have marks := resupplied_marks s
  have path := expireBridge_path s.resupplied.retimed
  have fresh : s.resupplied.retimed.upToDate :=
    upToDate_congr (refresh_upToDate (((s.reholdBay .a).reholdBay .b).dropNoAlternate)) rfl rfl rfl rfl rfl
  rw [supplyPowerSwitch_eq]
  exact ⟨upToDate_congr fresh path.lines path.slots (by simp) path.bays path.sources, path.switching,
    path.attempt.trans marks.attempt, path.moving.trans marks.moving, path.supplyDue.trans marks.supplyDue⟩

/-! ## The end of the switches -/

/-- What is left brings no SUPPLY table into force. -/
structure Settling (r : State) (ts : List Task) (s : State) : Prop where
  calm : ∀ t ∈ ts, calm t
  tame : Tame r s
  supplyDue : s.ppc.supplyDue = false
  switching : s.ppc.switching = false

/-- What is left brings no SUPPLY table into force, or nothing is left. -/
def Settles (r : State) (ts : List Task) (s : State) : Prop :=
  Settling r ts s ∨ ts = [] ∧ Tame r s ∧ s.ppc.switching = false

/-- The bays' part and the Power Path Controller's part of a switch behind which none waits (R90). -/
theorem Switching.settles {r s : State} (h : Switching r false [] s) {rest : List Task} (calm_ : ∀ t ∈ rest, calm t) :
    Leads (Settles r) 1 (.supplyPower :: rest) s := by
  obtain ⟨-, switching, -, -, supplyDue⟩ := supplyPowerSwitch_state s
  refine .step (.here (.inl ⟨fun t ht => ?_, h.tame.of_eq (by simp [handle]) (by simp [handle]) (by simp [handle])
    (by simp [handle]), supplyDue.trans h.supplyDue, switching⟩))
  have news : (handle .supplyPower s).2 = [.trigger, .settled] := congrArg Prod.snd (supplyPowerSwitch_eq s)
  rw [news] at ht
  rcases List.mem_cons.1 ht with rfl | ht
  · exact .inl (by simp [awaitWeight, smallWeight, alien])
  · rcases List.mem_cons.1 ht with rfl | ht
    · exact .inl (by simp [awaitWeight, smallWeight, alien])
    · exact calm_ t ht

/-- A switch of the SUPPLY table behind which none waits: the bays' part ends within its bound. -/
theorem Switching.settlesAll {r s : State} {ts : List Task} (h : Switching r false ts s)
    (light : load switchWeight ts < 2000) {rest : List Task} (calm_ : ∀ t ∈ rest, calm t) :
    Leads (Settles r) (load switchWeight ts + 97) (ts ++ .supplyPower :: rest) s :=
  (Switching.ends (fun _ ended => ended.settles calm_) h light).mono (by omega)

theorem load_supplyBays : load switchWeight [.supplyBay .a, .supplyBay .b] = 1120 := rfl

/-- The SUPPLY reload that waited is taken as a switch of its own (R90). -/
theorem ReloadTurn.settles {r s : State} {ts : List Task} (h : ReloadTurn r ts s) : Leads (Settles r) 1218 ts s := by
  obtain ⟨rest, rfl, calm_, dormant⟩ := h
  have calm' : ∀ t ∈ Task.supplyClass :: rest, calm t := fun t ht => by
    rcases List.mem_cons.1 ht with rfl | ht
    · exact .inl (by simp [awaitWeight, smallWeight, alien])
    · exact calm_ t ht
  have phase : Switching r false [.supplyBay .a, .supplyBay .b] (handle .supplySwitch s).1 := by
    refine ⟨?_, dormant.attempt, rfl, dormant.supplyDue, fun m => ?_⟩
    · have supply : s.sru.committed.supply = r.sru.committed.supply := by rw [dormant.tame.committed]
      exact ⟨dormant.tame.port, dormant.tame.gates, dormant.tame.committed, dormant.tame.staging,
        dormant.tame.generation, supply, dormant.tame.motion, dormant.tame.smi⟩
    · exact absurd (m.symm.trans dormant.moving) (by decide)
  exact .step ((phase.settlesAll (by rw [load_supplyBays]; omega) calm').mono (by rw [load_supplyBays]))

/-- The Power Path Controller's part where another SUPPLY reload waits (R90; log entry 53). -/
theorem Switching.resettles {r s : State} (h : Switching r true [] s) {rest : List Task}
    (light : load awaitWeight rest ≤ 200) : Leads (Settles r) 2000 (.supplyPower :: rest) s := by
  obtain ⟨upToDate, switching, attempt, moving, supplyDue⟩ := supplyPowerSwitch_state s
  have attempt := attempt.trans h.attempt
  have still : s.ppc.moving = false := by
    cases e : s.ppc.moving
    · rfl
    · exact absurd (h.moving e) (by simp)
  have phase : Choosing r (handle .supplyPower s).1 :=
    ⟨⟨h.tame.of_eq (by simp [handle]) (by simp [handle]) (by simp [handle]) (by simp [handle]), attempt,
      moving.trans still, switching, supplyDue.trans h.supplyDue⟩, upToDate⟩
  have news : (handle .supplyPower s).2 = [.trigger, .settled] := congrArg Prod.snd (supplyPowerSwitch_eq s)
  have chosen : Leads (SettlesOrEnds r) 760 (.trigger :: .settled :: rest) (handle .supplyPower s).1 := by
    by_cases opened : (handle .supplyPower s).1.uli.phase = .starting
    · exact .of_handle (handle_trigger_starting _ opened)
        ((phase.ends (ts := []) (by simp) (by omega)).mono (m := 759) (by simp; omega))
    · have again : load selectWeight (handle .supplyPower s).1.repeatTakeover ≤ 1 := by
        unfold State.repeatTakeover
        split
        · exact (load_tasksIf ..).trans (by simp [selectWeight])
        · simp
      have next := phase.ends (rest := rest) (ts := (handle .supplyPower s).1.repeatTakeover ++ [.alternates, .reselect])
        (by simp [selectWeight]; omega) (by omega)
      exact .of_handle (handle_trigger _ opened) (next.mono (by simp [selectWeight]; omega))
  refine .mono (.step ?_) (by omega : 760 + 1218 + 1 ≤ 2000)
  rw [news]
  refine chosen.then_ fun ts t reached => ?_
  rcases reached with turn | ended
  · exact turn.settles
  · exact .here (.inr ended)

/-- The tasks of a SOFT_RESET behind the Power Path Controller's part (R184). -/
def afterSupply : List Task := [.supplyClass, .brightReset, .motionSwitch] ++ allSegs.map Task.resetPort ++ [.resetDone]

theorem load_afterSupply : load awaitWeight afterSupply ≤ 90 := by
  simp [afterSupply, allSegs, awaitWeight, smallWeight]

/-- From the SUPPLY switch of a SOFT_RESET on (R184). -/
theorem Switching.resets {r s : State} {due : Bool} (h : Switching r due [.supplyBay .a, .supplyBay .b] s) :
    Leads (Settles r) 3300 (supplyParts ++ afterSupply.tail) s := by
  have light := load_afterSupply
  have calm_ : ∀ t ∈ afterSupply, calm t := fun t ht => .inl (by
    have := le_load awaitWeight ht
    unfold alien
    omega)
  have next : ∀ t, Switching r due [] t → Leads (Settles r) 2000 (.supplyPower :: afterSupply) t := fun t ended => by
    cases due
    · exact (ended.settles calm_).mono (by omega)
    · exact ended.resettles (by omega)
  exact (Switching.ends next h (by rw [load_supplyBays]; omega)).mono (by rw [load_supplyBays]; omega)

end Sys2Proof.Machine
end

section
/-!
SUPPORT. What no SUPPLY reload waits behind (R69, R77, R79, R82 to R86): the power path's work brings no SUPPLY table into
force, and a SOFT_RESET's work ends with the settings it loaded.
-/

namespace Sys2Proof.Machine

/-- No switch begins or waits, and what is started brings no SUPPLY table into force. -/
structure Peaceful (s : State) (a : Act) : Prop where
  switching : a.1.ppc.switching = s.ppc.switching
  supplyDue : a.1.ppc.supplyDue = false
  calm : ∀ t ∈ a.2, calm t

theorem calm_of_weight {t : Task} (h : awaitWeight t < 1000) : calm t := .inl (by unfold alien; omega)

theorem calm_of_load {ts : List Task} (h : load awaitWeight ts < 1000) : ∀ t ∈ ts, calm t := fun _ ht =>
  calm_of_weight ((le_load awaitWeight ht).trans_lt h)

theorem calm_append {ts us : List Task} (h : ∀ t ∈ ts, calm t) (k : ∀ t ∈ us, calm t) : ∀ t ∈ ts ++ us, calm t :=
  fun t ht => (List.mem_append.1 ht).elim (h t) (k t)

section
variable {s : State}

/-! ## The sources (R68, R79) -/

theorem commandOn_marks (x : Src) (s : State) : SameMarks s (commandOn x s).1 := by
  constructor <;> simp [State.setSwitch, State.setSource]

theorem commandOff_marks (x : Src) (sw : Switch) (s : State) : SameMarks s (commandOff x sw s).1 := by
  constructor <;> simp [State.leaveOn, State.setSource]

theorem commandOn_calm (x : Src) (s : State) : ∀ t ∈ (commandOn x s).2, calm t :=
  calm_of_load ((awaitWeight_weighs.commandOn x s).trans_lt (by omega))

theorem commandOff_calm (x : Src) (sw : Switch) (s : State) : ∀ t ∈ (commandOff x sw s).2, calm t :=
  calm_of_load ((awaitWeight_weighs.commandOff x sw s).trans_lt (by omega))

theorem told_calm : ∀ t ∈ ([.moved, .settled] : List Task), calm t := fun t ht => by
  rcases List.mem_pair.1 ht with rfl | rfl
  · exact .inr (.inl rfl)
  · exact calm_of_weight (by simp [awaitWeight, smallWeight])

/-! ## Attempts (R69, R79, R80, R82) -/

variable (due : s.ppc.supplyDue = false)
include due

theorem Peaceful.idle {ts : List Task} (light : load awaitWeight ts < 1000) : Peaceful s (s, ts) :=
  ⟨rfl, due, calm_of_load light⟩

theorem Peaceful.of_ppc {t : State} {ts : List Task} (switching : t.ppc.switching = s.ppc.switching)
    (supplyDue : t.ppc.supplyDue = s.ppc.supplyDue) (light : load awaitWeight ts < 1000) : Peaceful s (t, ts) :=
  ⟨switching, supplyDue.trans due, calm_of_load light⟩

theorem peaceful_beginAttempt (kind : WalkKind) (c : Src) (rest : List Src) : Peaceful s (beginAttempt kind c rest s) := by
  have marks := commandOn_marks c s
  refine ⟨marks.switching, marks.supplyDue.trans due, calm_append (calm_append (commandOn_calm c s) ?_) ?_⟩
  · exact calm_of_load ((load_tasksIf ..).trans_lt (by simp [awaitWeight, smallWeight]))
  · exact calm_of_load ((load_tasksIf ..).trans_lt (by simp [awaitWeight]))

theorem peaceful_endWalk (kind : WalkKind) : Peaceful s (endWalk kind s) := by
  unfold endWalk
  split
  · refine ⟨rfl, due, calm_append ?_ ?_⟩
    · exact calm_of_load ((load_tasksIf ..).trans_lt (by simp [awaitWeight]))
    · exact calm_of_load (by simp [awaitWeight, smallWeight])
  all_goals exact .idle due (by simp [awaitWeight, smallWeight])

theorem peaceful_walkOn (kind : WalkKind) (candidates : List Src) : Peaceful s (walkOn kind candidates s) := by
  unfold walkOn
  split
  · exact .idle due (by simp)
  · split
    · exact .of_ppc due rfl rfl (by simp [awaitWeight, smallWeight])
    · split
      · exact peaceful_endWalk due kind
      · split
        · exact peaceful_endWalk due kind
        · split
          · exact peaceful_beginAttempt due ..
          · exact .idle due (by simp [awaitWeight])

theorem peaceful_failAttempt (a : Attempt) (sw : Switch) (result : MoveResult) :
    Peaceful s (failAttempt a sw result s) := by
  have marks := commandOff_marks a.target sw s
  refine ⟨?_, ?_, commandOff_calm a.target sw s⟩
  · refine Eq.trans ?_ marks.switching
    unfold failAttempt State.bridgeStopFor
    dsimp only
    split <;> rfl
  · refine Eq.trans ?_ (marks.supplyDue.trans due)
    unfold failAttempt State.bridgeStopFor
    dsimp only
    split <;> rfl

theorem peaceful_completeAttempt (result : MoveResult) (severity : Severity) (lost : Bool) :
    Peaceful s (completeAttempt result severity lost s) := by
  unfold completeAttempt
  split
  · exact .idle due (by simp)
  · next a _ =>
    obtain ⟨switching, supplyDue⟩ := leaveOld_due a.old lost s
    refine ⟨switching, supplyDue.trans due, calm_append (calm_append (calm_append ?_ ?_) ?_) told_calm⟩
    · unfold leaveOld
      split
      · exact commandOff_calm _ _ _
      · simp
    · exact calm_of_load (by simp [awaitWeight, smallWeight])
    · unfold doneTasks
      split <;> exact calm_of_load (by simp [awaitWeight])

/-! ## Emergency takeovers (R82, R85, R86) -/

omit due in
theorem leaveForTakeover_marks (lost : Src) (s : State) : SameMarks s (leaveForTakeover lost s).1 := by
  have first := commandOff_marks lost .off s
  unfold leaveForTakeover restSource
  dsimp only
  (repeat' split) <;> first
    | exact first
    | exact first.trans (commandOff_marks ..)

omit due in
theorem leaveForTakeover_calm (lost : Src) (s : State) : ∀ t ∈ (leaveForTakeover lost s).2, calm t := by
  have first := commandOff_calm lost .off s
  unfold leaveForTakeover restSource
  dsimp only
  refine calm_append first ?_
  (repeat' split) <;> first
    | exact commandOff_calm _ _ _
    | simp

omit due in
theorem departed_calm (s : State) : ∀ t ∈ s.departed, calm t := by
  unfold State.departed
  (repeat' split) <;> exact calm_of_load (by simp [awaitWeight])

theorem peaceful_takeOver (lost c : Src) (urgent : Bool) : Peaceful s (takeOver lost c urgent s) := by
  have marks := (leaveForTakeover_marks lost s).trans (commandOn_marks c _)
  refine ⟨marks.switching, marks.supplyDue.trans due, calm_append (calm_append (calm_append (calm_append
    (calm_append (leaveForTakeover_calm lost s) (commandOn_calm _ _)) ?_) ?_) (departed_calm s)) told_calm⟩
  · exact calm_of_load (by simp [awaitWeight, smallWeight])
  · exact calm_of_load ((load_tasksIf ..).trans_lt (by simp [awaitWeight, smallWeight]))

theorem peaceful_onTakeover (lost : Src) (urgent : Bool) : Peaceful s (onTakeover lost urgent s) := by
  have told : Peaceful s (s, [.moved, .settled]) := ⟨rfl, due, told_calm⟩
  unfold onTakeover
  split
  · split
    · exact told
    · exact peaceful_takeOver due ..
  · split
    · split
      · exact told
      · exact peaceful_takeOver due ..
    · split
      · unfold noAlternate
        split
        · exact .idle due (by simp)
        · exact .of_ppc due rfl rfl (by simp)
      · refine ⟨rfl, due, calm_append ?_ told_calm⟩
        unfold State.strandedRelease
        (repeat' split) <;> exact calm_of_load (by simp [awaitWeight])

omit due in
theorem Peaceful.then_ {a b : Act} (h : Peaceful s a) (k : a.1.ppc.supplyDue = false → Peaceful a.1 b) {us : List Task}
    (extra : ∀ t ∈ us, Machine.calm t) : Peaceful s (b.1, a.2 ++ us ++ b.2) :=
  have k := k h.supplyDue
  ⟨k.switching.trans h.switching, k.supplyDue, calm_append (calm_append h.calm extra) k.calm⟩

omit due in
theorem trigger_calm (trigger : Bool) : ∀ t ∈ tasksIf trigger [.trigger], calm t :=
  calm_of_load ((load_tasksIf ..).trans_lt (by simp [awaitWeight, smallWeight]))

theorem peaceful_loseTarget (a : Attempt) (urgent trigger : Bool) : Peaceful s (loseTarget a urgent trigger s) := by
  have failed := peaceful_failAttempt due a .off .aborted
  have takeover := failed.then_ (fun due => peaceful_onTakeover due a.target urgent) (trigger_calm trigger)
  unfold loseTarget
  dsimp only
  split
  · refine ⟨failed.switching, rfl, calm_append (calm_append (calm_append failed.calm (trigger_calm trigger)) ?_) ?_⟩
    · simp [State.dueSupply, failed.supplyDue, tasksIf]
    · intro t ht
      exact .inr (.inr ⟨_, _, List.mem_singleton.1 ht⟩)
  · exact failed.then_ (b := (_, [.moved, .settled])) (fun due => ⟨rfl, due, told_calm⟩) (trigger_calm trigger)
  · exact takeover
  · exact takeover

theorem peaceful_onLoss (x : Src) (urgent trigger : Bool) : Peaceful s (onLoss x urgent trigger s) := by
  have unheard : Peaceful s (s, tasksIf trigger [.trigger]) := ⟨rfl, due, trigger_calm trigger⟩
  unfold onLoss
  split
  · split
    · exact peaceful_loseTarget due ..
    · split
      · exact peaceful_completeAttempt due ..
      · exact unheard
  · split
    · exact peaceful_onTakeover due ..
    · exact unheard

/-! ## Bays' news, triggers and what waited (R76, R77, R83, R84) -/

omit due in
theorem knowing_marks (s : State) (bay : Bay) : SameMarks s (s.knowing bay) := by
  obtain ⟨sources, release, known⟩ := knowing_eq s bay
  rw [known]
  exact ⟨rfl, rfl, rfl, rfl⟩

theorem peaceful_powerBay (bay : Bay) (old new : BayState) : Peaceful s (handle (.powerBay bay old new) s) := by
  obtain ⟨trigger, -, told⟩ := powerBay_cases bay old new s
  have marks := knowing_marks s bay
  have known := marks.supplyDue.trans due
  rw [told]
  split
  · have lost := peaceful_onLoss known (baySrc bay) true trigger
    exact ⟨lost.switching.trans marks.switching, lost.supplyDue, lost.calm⟩
  · split
    · refine ⟨marks.switching, known, ?_⟩
      dsimp only
      split <;> exact calm_of_load (by simp [awaitWeight, smallWeight])
    · have light := load_changeNews trigger old
      refine ⟨marks.switching, known, calm_of_load ?_⟩
      have same := awaitWeight_weighs.load (ts := changeNews trigger old) (by unfold alien; omega)
      exact same.trans_lt (by omega)

theorem peaceful_trigger : Peaceful s (onTrigger s) := by
  unfold onTrigger
  split
  · exact .idle due (by simp)
  · refine ⟨rfl, due, calm_append ?_ (calm_of_load (by simp [awaitWeight, smallWeight]))⟩
    unfold State.repeatTakeover
    split
    · exact calm_of_load ((load_tasksIf ..).trans_lt (by simp [awaitWeight]))
    · simp

theorem peaceful_reselect : Peaceful s (reselect s) := by
  unfold reselect startSelection
  split <;> exact .of_ppc due rfl rfl (by simp [awaitWeight])

theorem peaceful_alternates : Peaceful s (checkAlternates s) := by
  unfold checkAlternates
  split
  · exact .of_ppc due rfl rfl (by simp)
  · refine ⟨rfl, due, fun t ht => ?_⟩
    obtain ⟨bay, -, rfl⟩ := List.mem_map.1 ht
    exact calm_of_weight (by simp [awaitWeight])

theorem peaceful_releaseRequest (bay : Bay) (origin : Origin) : Peaceful s (onReleaseRequest bay origin s) := by
  unfold onReleaseRequest
  (repeat' split) <;> exact .of_ppc due rfl rfl (by simp [awaitWeight])

theorem peaceful_takeWaiting : Peaceful s (takeWaiting s) := by
  have waits : ∀ {a : Act}, Peaceful s a → Peaceful s (a.1, a.2 ++ [.settled]) := fun h =>
    ⟨h.switching, h.supplyDue, calm_append h.calm (calm_of_load (by simp [awaitWeight, smallWeight]))⟩
  unfold takeWaiting
  split
  · exact .idle due (by simp)
  · rw [if_neg (by simp [due])]
    split
    · exact .of_ppc due rfl rfl (by simp [awaitWeight, smallWeight])
    · exact .of_ppc due rfl rfl (by simp [awaitWeight, smallWeight])
    · split
      · exact waits (peaceful_alternates due)
      · split
        · exact .of_ppc due rfl rfl (by simp [awaitWeight, smallWeight])
        · split
          · split
            · exact .of_ppc due rfl rfl (by simp)
            · have begun := peaceful_beginAttempt (s := { s with ppc := { s.ppc with bridgeDue := false } }) due .bridge
                .br []
              exact ⟨begun.switching, begun.supplyDue, begun.calm⟩
          · exact .idle due (by simp)

end

end Sys2Proof.Machine
end

section
/-!
SUPPORT. The work that is left of a SOFT_RESET once no SUPPLY table waits (R90, R184): the settings stay those it loaded.
-/

namespace Sys2Proof.Machine

/-- No SUPPLY table waits or is being told. -/
structure Settled (r s : State) : Prop where
  tame : Tame r s
  supplyDue : s.ppc.supplyDue = false
  switching : s.ppc.switching = false

/-- A task that brings no SUPPLY table into force starts such tasks alone. -/
theorem handle_settled {r s : State} (h : Settled r s) {t : Task} (ht : calm t) :
    Settled r (handle t s).1 ∧ ∀ u ∈ (handle t s).2, calm u := by
  have small : ∀ {t : Task}, asksPath t = false → smallWeight t < alien →
      Settled r (handle t s).1 ∧ ∀ u ∈ (handle t s).2, calm u := fun asks less => by
    have step := handle_small h.tame (fun e => nomatch asks.symm.trans e) less
    have few := smallWeight_lt less
    exact ⟨⟨step.tame, step.path.supplyDue.trans h.supplyDue, step.path.switching.trans h.switching⟩,
      step.calm h.tame (by omega)⟩
  have peaceful : ∀ {a : Act}, a.1.ports = s.ports → a.1.polls = s.polls → a.1.sru = s.sru → a.1.smi = s.smi →
      Peaceful s a → Settled r a.1 ∧ ∀ u ∈ a.2, calm u := fun ports polls sru smi act =>
    ⟨⟨h.tame.of_eq ports polls sru smi, act.supplyDue, act.switching.trans h.switching⟩, act.calm⟩
  have bays : ∀ {a : Act}, a.1.ports = s.ports → a.1.polls = s.polls → a.1.sru = s.sru → a.1.smi = s.smi →
      a.1.ppc = s.ppc → load awaitWeight a.2 ≤ 18 → Settled r a.1 ∧ ∀ u ∈ a.2, calm u :=
    fun ports polls sru smi ppc light =>
      ⟨⟨h.tame.of_eq ports polls sru smi, by rw [ppc, h.supplyDue], by rw [ppc, h.switching]⟩,
        calm_of_load (light.trans_lt (by omega))⟩
  have due := h.supplyDue
  have w := awaitWeight_weighs
  cases t
  case moved => exact ⟨⟨h.tame.of_eq rfl rfl rfl rfl, due, h.switching⟩, calm_of_load (ts := []) (by simp)⟩
  case goOn kind rest =>
    simp only [handle, goOn]
    split
    · exact ⟨⟨h.tame.of_eq rfl rfl rfl rfl, due, h.switching⟩, calm_of_load (by simp [awaitWeight])⟩
    · exact ⟨h, calm_of_load (by simp [awaitWeight, smallWeight])⟩
  case powerBay bay old new =>
    exact peaceful (by simp [handle]) (by simp [handle]) (by simp [handle]) (by simp [handle])
      (peaceful_powerBay due bay old new)
  case walk kind candidates =>
    exact peaceful (by simp [handle]) (by simp [handle]) (by simp [handle]) (by simp [handle])
      (peaceful_walkOn due kind candidates)
  case takeover lost =>
    refine peaceful (by simp [handle]) (by simp [handle]) (by simp [handle]) (by simp [handle]) ?_
    simp only [handle, repeatedTakeover]
    split
    · exact peaceful_onTakeover due lost false
    · exact .idle due (by simp)
  case confirm =>
    refine peaceful (by simp [handle]) (by simp [handle]) (by simp [handle]) (by simp [handle]) ?_
    simp only [handle, confirmAttempt]
    split
    · exact peaceful_completeAttempt due ..
    · exact .idle due (by simp)
  case settled =>
    exact peaceful (by simp [handle]) (by simp [handle]) (by simp [handle]) (by simp [handle]) (peaceful_takeWaiting due)
  case trigger =>
    exact peaceful (by simp [handle]) (by simp [handle]) (by simp [handle]) (by simp [handle]) (peaceful_trigger due)
  case reselect =>
    exact peaceful (by simp [handle]) (by simp [handle]) (by simp [handle]) (by simp [handle]) (peaceful_reselect due)
  case alternates =>
    exact peaceful (by simp [handle]) (by simp [handle]) (by simp [handle]) (by simp [handle]) (peaceful_alternates due)
  case releaseRequest bay origin =>
    exact peaceful (by simp [handle]) (by simp [handle]) (by simp [handle]) (by simp [handle])
      (peaceful_releaseRequest due bay origin)
  case releaseDone bay =>
    refine bays (by simp [handle]) (by simp [handle]) (by simp [handle]) (by simp [handle]) (by simp [handle]) ?_
    simp only [handle, onReleaseDone]
    split
    · exact w.toReleased ..
    · simp
  case releaseBlocked bay =>
    refine bays (by simp [handle]) (by simp [handle]) (by simp [handle]) (by simp [handle]) (by simp [handle]) ?_
    simp only [handle, onReleaseBlocked]
    split
    · exact w.bayGoto (by decide) _ _ (by simp [w.bayNotice]) _
    · simp
  case alternate bay =>
    refine bays (by simp [handle]) (by simp [handle]) (by simp [handle]) (by simp [handle]) (by simp [handle]) ?_
    simp only [handle, onAlternate]
    split
    · exact w.bayGoto (by decide) _ _ (by simp) _
    · simp
  case flagBay bay =>
    refine bays (by simp [handle]) (by simp [handle]) (by simp [handle]) (by simp [handle]) (by simp [handle]) ?_
    simp only [handle, onFlagCleared]
    split
    · exact w.bayGoto (by decide) _ _ (by simp) _
    · simp
  case flagPower set =>
    cases set
    · exact ⟨h, calm_of_load (by simp [handle, powerOnFlag, awaitWeight, smallWeight])⟩
    · simp [calm, awaitWeight] at ht
  case flagChanged set =>
    cases set
    · exact ⟨h, calm_of_load (by simp [handle, flagNews, awaitWeight])⟩
    · simp [calm, awaitWeight] at ht
  case motionSwitch =>
    obtain ⟨force, mtu, ts, told, from_, news⟩ := takeMotionTable_cases s
    simp only [handle, told]
    refine ⟨⟨h.tame.of_settings rfl rfl rfl rfl rfl rfl rfl from_, due, h.switching⟩, calm_of_load ?_⟩
    rcases news with rfl | rfl <;> simp [awaitWeight]
  all_goals
    obtain less | e | ⟨_, _, e⟩ := ht
    · first
        | exact absurd rfl less.ne
        | exact small rfl less
    · exact nomatch e
    · exact nomatch e

theorem Settling.run {r s : State} {ts : List Task} (h : Settling r ts s) (fuel : Nat) :
    Settled r (run fuel ts s) :=
  run_keeps_class (Settled r) Machine.calm (fun _ _ k => ⟨k.tame.of_eq rfl rfl rfl rfl, k.supplyDue, k.switching⟩)
    (fun _ _ ht k => (handle_settled k ht).1) (fun _ _ ht k => (handle_settled k ht).2) fuel ts s h.calm
    ⟨h.tame, h.supplyDue, h.switching⟩

/-- The end of a handling that settles. -/
theorem Settles.run {r s : State} {ts : List Task} (h : Settles r ts s) (fuel : Nat) :
    Tame r (run fuel ts s) ∧ (run fuel ts s).ppc.switching = false := by
  rcases h with settling | ⟨rfl, tame, switching⟩
  · have settled := settling.run fuel
    exact ⟨settled.tame, settled.switching⟩
  · rw [run_nil]
    exact ⟨tame, switching⟩

end Sys2Proof.Machine
end

section
/-!
SUPPORT. The first tasks of a SOFT_RESET (R64, R184): the freshness limits switch and the slots' readers are told, who wait
while the power path is engaged, and the poll entries start afresh.
-/

namespace Sys2Proof.Machine

/-! ## The readers of the slots that lapse (R64, R66, R77, R84) -/

/-- What a task that a lapsed slot's readers start weighs. -/
def lapseWeight : Task → Nat
  | .slotLapsed _ => 5
  | .trigger => 3
  | .alternates => 1
  | .reselect => 1
  | .admissionCheck _ => 1
  | _ => alien

/-- The slots and the marks of the Power Path Controller alone have changed, and neither what it carries out nor its ON
source. -/
structure Relapsed (s t : State) : Prop where
  eq : t = { s with ppc := t.ppc, slots := t.slots }
  marks : SameMarks s t
  onSrc : t.ppc.onSrc = s.ppc.onSrc

namespace Relapsed

theorem refl (s : State) : Relapsed s s := ⟨rfl, .refl s, rfl⟩

theorem trans {s t u : State} (h : Relapsed s t) (k : Relapsed t u) : Relapsed s u :=
  ⟨by rw [k.eq, h.eq], h.marks.trans k.marks, k.onSrc.trans h.onSrc⟩

variable {s t : State} (h : Relapsed s t)
include h

theorem bay (i : Bay) : t.bay i = s.bay i := by rw [h.eq]; rfl

theorem engaged : t.ppc.engaged = s.ppc.engaged := by
  rw [Ppc.engaged, Ppc.engaged, h.marks.attempt, h.marks.moving, h.marks.switching]

end Relapsed

/-- The readers of slots that have become STALE, and what they start. -/
def lapseTasks (ts : List Task) (s : State) : Prop :=
  load lapseWeight ts < alien ∧ ∀ slot, .slotLapsed slot ∈ ts → (s.slot slot).state = .stale

/-- A reader waits for the end of what the power path carries out, and no bay controller admits. -/
theorem handle_lapse {s : State} {t : Task} {ts : List Task} (engaged : s.ppc.engaged = true)
    (none : ∀ bay, (s.bay bay).state ≠ .identifying) (h : lapseTasks (t :: ts) s) :
    Relapsed s (handle t s).1 ∧ lapseTasks ((handle t s).2 ++ ts) (handle t s).1 ∧
      load lapseWeight ((handle t s).2 ++ ts) < load lapseWeight (t :: ts) := by
  obtain ⟨weight, stale⟩ := h
  rw [load_cons] at weight ⊢
  have next : ∀ {t' : State} {new : List Task}, handle t s = (t', new) → Relapsed s t' → t'.slots = s.slots →
      load lapseWeight new < lapseWeight t → (∀ slot, .slotLapsed slot ∉ new) →
      Relapsed s (handle t s).1 ∧ lapseTasks ((handle t s).2 ++ ts) (handle t s).1 ∧
        load lapseWeight ((handle t s).2 ++ ts) < lapseWeight t + load lapseWeight ts :=
    fun {t' new} told same slots less fresh => by
      rw [told]
      have lowers : load lapseWeight (new ++ ts) < lapseWeight t + load lapseWeight ts := by
        rw [load_append]
        omega
      refine ⟨same, ⟨lowers.trans weight, fun slot member => ?_⟩, lowers⟩
      rw [State.slot, slots]
      exact stale slot (List.mem_cons_of_mem _ ((List.mem_append.1 member).resolve_left (fresh slot)))
  cases t
  case slotLapsed slot =>
    have old := stale slot (by simp)
    have power : ∃ ts, powerOnLapse slot s = ((powerOnLapse slot s).1, ts) ∧ Relapsed s (powerOnLapse slot s).1 ∧
        (powerOnLapse slot s).1.slots = s.slots ∧ (ts = [] ∨ ts = [.trigger]) := by
      unfold powerOnLapse afterInput
      split
      · exact ⟨_, rfl, .refl s, rfl, .inl rfl⟩
      · refine ⟨_, rfl, ⟨rfl, ⟨rfl, rfl, rfl, rfl⟩, rfl⟩, rfl, ?_⟩
        split
        · exact .inr rfl
        · exact .inl rfl
    have bays : bayOnLapse slot = [] ∨ ∃ bay, bayOnLapse slot = [.admissionCheck bay] := by
      unfold bayOnLapse
      split
      · exact .inl rfl
      · unfold tasksIf
        split
        · exact .inr ⟨_, rfl⟩
        · exact .inl rfl
    obtain ⟨new, e, same, slots, triggers⟩ := power
    have told : handle (.slotLapsed slot) s = ((powerOnLapse slot s).1, new ++ bayOnLapse slot) := by
      simp [handle, tellLapsed, old, tasksIf, congrArg Prod.snd e]
    refine next told same slots ?_ fun i member => ?_
    · rcases triggers with rfl | rfl <;> rcases bays with e | ⟨bay, e⟩ <;> simp [e, lapseWeight]
    · rcases triggers with rfl | rfl <;> rcases bays with e | ⟨bay, e⟩ <;> simp [e] at member
  case trigger =>
    have nothing := repeatTakeover_none (s := s) (.inr engaged)
    by_cases opened : s.uli.phase = .starting
    · exact next (handle_trigger_starting _ opened) (.refl s) rfl (by simp [lapseWeight]) (by simp)
    · exact next (handle_trigger _ opened) (.refl s) rfl (by simp [nothing, lapseWeight]) (by simp [nothing])
  case alternates =>
    exact next (handle_alternates_engaged _ engaged) ⟨rfl, ⟨rfl, rfl, rfl, rfl⟩, rfl⟩ rfl (by simp [lapseWeight])
      (by simp)
  case reselect =>
    exact next ((handle_reselect (s := s)).trans (if_pos (by simp [State.reselectionWaits, engaged])))
      ⟨rfl, ⟨rfl, rfl, rfl, rfl⟩, rfl⟩ rfl (by simp [lapseWeight]) (by simp)
  case admissionCheck bay =>
    have admits : s.admits bay = false := by simp [State.admits, none bay]
    exact next (t' := s) (new := []) (by simp [handle, checkAdmission, admits]) (.refl s) rfl (by simp [lapseWeight])
      (by simp)
  all_goals
    exact absurd weight (not_lt.2 (Nat.le_add_right alien _))

/-- The tasks of the readers end within their weight. -/
theorem leads_lapse {goal : List Task → State → Prop} {r : State} {rest : List Task} {m : Nat}
    (engaged : r.ppc.engaged = true) (none : ∀ bay, (r.bay bay).state ≠ .identifying)
    (next : ∀ s, Relapsed r s → Leads goal m rest s) {ts : List Task} {s : State} (same : Relapsed r s)
    (h : lapseTasks ts s) : Leads goal (load lapseWeight ts + m) (ts ++ rest) s :=
  Leads.of_measure (goal := goal) (fun ts s => Relapsed r s ∧ lapseTasks ts s) (fun ts _ => load lapseWeight ts)
    (fun t ts s ⟨same, h⟩ =>
      have step := handle_lapse (same.engaged.trans engaged) (fun bay => by rw [same.bay]; exact none bay) h
      .inl ⟨⟨same.trans step.1, step.2.1⟩, step.2.2⟩)
    (fun s h => next s h.1) _ ts s le_rfl ⟨same, h⟩

/-- Slots that become STALE in turn do so alone. -/
theorem foldl_makeStale (lapsed : List (Fin 32)) : ∀ s : State,
    Relapsed s (lapsed.foldl (fun s i => (makeStale i s).1) s) ∧
      ∀ i ∈ lapsed, ((lapsed.foldl (fun s i => (makeStale i s).1) s).slot i).state = .stale := by
  induction lapsed with
  | nil => exact fun s => ⟨.refl s, fun i hi => nomatch hi⟩
  | cons j rest ih =>
    intro s
    obtain ⟨same, stale⟩ := ih (makeStale j s).1
    have first : Relapsed s (makeStale j s).1 := ⟨rfl, ⟨rfl, rfl, rfl, rfl⟩, rfl⟩
    refine ⟨first.trans same, fun i hi => ?_⟩
    by_cases member : i ∈ rest
    · exact stale i member
    · obtain rfl := (List.mem_cons.1 hi).resolve_right member
      have kept := foldl_makeStale_slot rest member (makeStale i s).1
      rw [List.foldl_cons, kept]
      simp [makeStale]

/-- The freshness limits switch while the power path is engaged and no bay is being admitted (R64). -/
theorem leads_limitsSwitch {goal : List Task → State → Prop} {r : State} {rest : List Task} {m : Nat}
    (engaged : r.ppc.engaged = true) (none : ∀ bay, (r.bay bay).state ≠ .identifying)
    (next : ∀ s, Relapsed r s → Leads goal m rest s) : Leads goal (m + 161) (.limitsSwitch :: rest) r := by
  obtain ⟨same, stale⟩ := foldl_makeStale ((List.finRange 32).filter fun i => r.expired i) r
  have light : load lapseWeight (handle .limitsSwitch r).2 ≤ 160 := by
    have listed : load lapseWeight (handle .limitsSwitch r).2 ≤ _ * 5 := load_le lapseWeight fun t ht => by
      obtain ⟨i, -, rfl⟩ := List.mem_map.1 ht
      exact le_rfl
    have few : (handle .limitsSwitch r).2.length ≤ 32 :=
      (List.length_map _).le.trans ((List.length_filter_le ..).trans (by simp))
    omega
  refine .step ((leads_lapse engaged none next (ts := (handle .limitsSwitch r).2) same ⟨?_, fun i hi => ?_⟩).mono ?_)
  · unfold alien
    omega
  · obtain ⟨j, hj, e⟩ := List.mem_map.1 hi
    obtain rfl := Task.slotLapsed.inj e
    exact stale j hj
  · omega

/-! ## The polls start afresh (R45, R51, R52, R184) -/

theorem startPolls_poll (s : State) (place : Fin 24) : (startPolls s).1.poll place = startedPoll s.now (s.pollEntry place) := by
  rw [startPolls, State.mapPolls_poll]

theorem startPolls_port (s : State) (seg : Seg) : (startPolls s).1.port seg = (s.port seg).orphaned fun _ => true := by
  cases seg <;> rfl

/-- Every transaction of the polls is an orphan then. -/
theorem orphaned_detached (t : EngTxn) : (t.orphaned fun _ => true).detached = true := by
  unfold EngTxn.orphaned
  split
  · rfl
  · next issuer => simp [EngTxn.detached, issuer]
  · next issuer => simp [EngTxn.detached, issuer]

theorem startPolls_tame {r s : State} (lanes : ∀ seg, (s.port seg).queue = [] ∧ (s.port seg).lane = none)
    (supply : s.sru.supplyForce = s.sru.committed.supply) (sru : s.sru = r.sru) (smi : s.smi = r.smi) :
    Tame r (startPolls s).1 := by
  have same : (startPolls s).1.sru = r.sru := by rw [← sru]; simp [startPolls]
  refine ⟨fun seg => ?_, fun place => ?_, by rw [same], by rw [same], by rw [same], by rw [same, ← sru, supply],
    by rw [same]; exact id, by rw [← smi]; simp [startPolls]⟩
  · obtain ⟨queue, lane⟩ := lanes seg
    have empty : ((startPolls s).1.port seg).queue = [] := by simp [startPolls_port, Port.orphaned, queue]
    refine ⟨by rw [startPolls_port]; exact lane, fun t ht => ?_, by simp [empty], fun t time e => ?_⟩
    · rw [empty] at ht
      exact nomatch ht
    · rw [startPolls_port] at e
      obtain ⟨⟨txn, began⟩, -, e⟩ := Option.map_eq_some_iff.1 e
      dsimp only at e
      split at e
      · obtain ⟨rfl, -⟩ := by simpa using e
        exact orphaned_detached _
      · exact nomatch (congrArg Prod.fst e)
  · rw [startPolls_poll]
    unfold startedPoll
    (repeat' split) <;> rfl

/-- An admission is restarted in IDENTIFYING alone (R102). -/
theorem handle_admissionRestart {s : State} {bay : Bay} (h : (s.bay bay).state ≠ .identifying) :
    handle (.admissionRestart bay) s = (s, []) := if_neg h

/-- What the first tasks of a SOFT_RESET come to, while the power path is engaged and no bay is being admitted (R184). -/
theorem leads_reset {goal : List Task → State → Prop} {r : State} {rest : List Task} {m : Nat}
    (engaged : r.ppc.engaged = true) (none : ∀ bay, (r.bay bay).state ≠ .identifying)
    (next : ∀ s, Relapsed r s → Leads goal m rest (startPolls s).1) :
    Leads goal (m + 164) (.limitsSwitch :: .pollsStart :: .admissionRestart .a :: .admissionRestart .b :: rest) r :=
  leads_limitsSwitch (m := m + 3) engaged none fun s same => by
    have none : ∀ bay, ((startPolls s).1.bay bay).state ≠ .identifying := fun bay => by
      have kept : (startPolls s).1.bay bay = r.bay bay := same.bay bay
      rw [kept]
      exact none bay
    exact .of_handle rfl (.of_handle (handle_admissionRestart (none .a))
      (.of_handle (handle_admissionRestart (none .b)) (next s same)))

end Sys2Proof.Machine
end

section
/-!
SUPPORT. What a load brings (R191): the tables, the generation and the result in the readable words of the statements.
-/

namespace Sys2Proof.Machine

variable (s : State) (answered : Bool)

theorem header_number : u16 s.header 0 = s.loadNumber 0 ∧ u16 s.header 2 = s.loadNumber 2 ∧
    u16 s.header 4 = s.loadNumber 4 ∧ u16 s.header 6 = s.loadNumber 6 := ⟨rfl, rfl, rfl, rfl⟩

theorem storedImage_eq : s.storedImage = s.loadImage := by
  unfold State.storedImage State.loadImage readRun imageLength
  with_reducible rfl

theorem headerGood_iff : s.headerGood = true ↔ s.loadNumber 0 = 1 ∧ s.loadNumber 2 = 5034 := by
  obtain ⟨version, length, -, -⟩ := header_number s
  simp [State.headerGood, version, length, imageLength]

theorem crcGood_eq : s.crcGood = ((crc16 s.loadImage).toNat == s.loadNumber 6) := by
  obtain ⟨-, -, -, crc⟩ := header_number s
  rw [State.crcGood, storedImage_eq, crc]

theorem loadFault_eq : s.loadFault answered = s.loadCause answered := by
  have good := headerGood_iff s
  unfold State.loadFault State.loadCause
  rw [crcGood_eq]
  cases answered
  · simp only [Bool.not_false, if_true]
  · by_cases h : s.headerGood = true
    · obtain ⟨version, length⟩ := good.1 h
      simp [h, version, length]
    · have differs : s.loadNumber 0 ≠ 1 ∨ s.loadNumber 2 ≠ 5034 := not_and_or.1 (mt good.2 h)
      simp [h, differs]

theorem loadEnds_iff (start : Time) : s.loadEnds answered start = true ↔ s.loadWait answered ≤ age s.now start := by
  obtain ⟨version, length, -, -⟩ := header_number s
  cases answered
  · simp [State.loadEnds, State.loadWait]
  · simp only [State.loadEnds, State.loadWait, State.headerGood, version, length, imageLength, loadTime, headerTime]
    by_cases h : s.loadNumber 0 = 1 <;> by_cases k : s.loadNumber 2 = 5034 <;> simp [h, k]

theorem storedTables_eq (h : s.loadCause answered = none) : s.storedTables = s.loadTables answered := by
  have image := storedImage_eq s
  have length : s.loadImage.length = 5034 := by simp [State.loadImage]
  have routes : clearIndicatorBits (slice s.loadImage 0 392) = (List.range 392).map fun i =>
      if i < 384 ∧ i % 12 = 11 then byteAt s.loadImage i &&& 0xFC else byteAt s.loadImage i := by
    obtain ⟨same, bytes⟩ := clearIndicatorBits_bytes (routes := slice s.loadImage 0 392) (by simp [slice, length])
    refine List.ext_getElem (by rw [same]; simp [slice, length]) fun i hi hr => ?_
    have short : i < 392 := by simpa using hr
    have byte := bytes i
    have inside : byteAt (slice s.loadImage 0 392) i = byteAt s.loadImage i := by
      simp [byteAt, slice, short, List.getD_eq_getElem?_getD]
    rw [inside, byteAt, List.getD_eq_getElem _ _ hi] at byte
    rw [byte]
    simp
  simp only [State.storedTables, tablesOf, image, routes, State.loadTables, h, if_true]
  rfl

theorem loaded_eq : s.loaded answered = (s.loadTables answered, s.loadGeneration answered) := by
  obtain ⟨-, -, generation, -⟩ := header_number s
  unfold State.loaded
  rw [loadFault_eq]
  cases h : s.loadCause answered with
  | none => simp [storedTables_eq s answered h, State.loadGeneration, h, generation]
  | some cause => simp [State.loadTables, State.loadGeneration, h]

/-- The load in the settings and at the memory interface, its notice aside (R191). -/
theorem takeLoad_eq : ∃ ntq, s.takeLoad answered =
    { s with
      sru := { s.sru with
        committed := s.loadTables answered, staging := s.loadTables answered, generation := s.loadGeneration answered }
      smi := s.loadEnded answered, ntq := ntq } ∧
    (ntq = s.ntq ∨ ∃ p, ntq = s.ntq.post s.now p) := by
  unfold State.takeLoad
  rw [loaded_eq, loadFault_eq]
  cases h : s.loadCause answered with
  | none => exact ⟨_, by simp [State.loadEnded, h, State.setSru, State.setSmi], .inl rfl⟩
  | some cause => exact ⟨_, by simp [State.loadEnded, h, State.setSru, State.setSmi]; rfl, .inr ⟨_, rfl⟩⟩

end Sys2Proof.Machine
end

section
/-!
CLAIM. O37, where no confirm is awaited (R90, R184): the loaded SUPPLY is in force at the end of the handling.
-/

namespace Sys2Proof.Machine

/-- The settings as SOFT_RESET loads them, before any block is told (R184). -/
def State.reloaded (s : State) (answered : Bool) : State :=
  let s1 : State := { s with ntq := s.ntq.emptied, uli := { s.uli with ring := [] } }
  let s2 := s1.takeLoad answered
  (s2.setSru { s2.sru with snapshot := none }).forceMotion

theorem actReset_eq (s : State) (answered : Bool) : actReset answered s =
    ((s.reloaded answered).supplyReload.1, resetTasks (s.reloaded answered).supplyReload.2) := rfl

/-- The loaded settings, field by field. -/
theorem reloaded_eq (s : State) (answered : Bool) : ∃ ntq, s.reloaded answered =
    { s with
      sru := { s.sru with
        committed := s.loadTables answered, staging := s.loadTables answered, generation := s.loadGeneration answered
        snapshot := none
        motionForce := if s.mtu.openRec.isNone then (s.loadTables answered).motion else s.sru.motionForce }
      mtu := { s.mtu with motionDue := true }
      smi := s.loadEnded answered, ntq := ntq, uli := { s.uli with ring := [] } } ∧
    (ntq = s.ntq.emptied ∨ ∃ p, ntq = s.ntq.emptied.post s.now p) := by
  obtain ⟨ntq, loaded, posts⟩ := takeLoad_eq { s with ntq := s.ntq.emptied, uli := { s.uli with ring := [] } } answered
  refine ⟨ntq, ?_, posts⟩
  rw [State.reloaded]
  dsimp only
  rw [loaded]
  rfl

/-- The command while a SOFT_RESET waits for its load (R184, R191). -/
theorem exec_loadEnd {s : State} {start : Time} {answered : Bool} (agenda : s.agenda = [])
    (loading : s.smi.activity = .loading start) (pending : s.sru.resetPending = true)
    (due : s.loadWait answered ≤ age s.now start) : exec (.settingsLoadEnd answered) s =
      .next (run stepFuel (resetTasks (s.reloaded answered).supplyReload.2) (s.reloaded answered).supplyReload.1) := by
  have ends := (loadEnds_iff s answered start).2 due
  have told : onLoadEnd answered s = actReset answered s := by
    simp [onLoadEnd, loading, ends, pending]
  rw [exec_quiet (.settingsLoadEnd answered) nofun agenda]
  exact congrArg (fun a : Act => Host.Outcome.next (run stepFuel a.2 a.1)) (told.trans (actReset_eq s answered))

/-- The handling up to the end of the SUPPLY switches. -/
theorem leads_reload {r : State} (noAdmission : ∀ bay, (r.bay bay).state ≠ .identifying)
    (lanes : ∀ seg, (r.port seg).queue = [] ∧ (r.port seg).lane = none) (attempt : r.ppc.attempt = none)
    (moving : r.ppc.moving = false) (switching : r.ppc.switching = true)
    (supply : r.sru.supplyForce = r.sru.committed.supply) : Leads (Settles r) 3464 (resetTasks supplyParts) r := by
  refine leads_reset (rest := supplyParts ++ afterSupply.tail) (m := 3300) (by simp [Ppc.engaged, switching]) noAdmission
    fun s same => Switching.resets (due := r.ppc.supplyDue) ⟨?_, ?_, ?_, ?_, fun m => ?_⟩
  · refine startPolls_tame (fun seg => ?_) ?_ ?_ ?_
    · have kept : s.port seg = r.port seg := by rw [same.eq]; rfl
      rw [kept]
      exact lanes seg
    · rw [same.eq]
      exact supply
    · rw [same.eq]
    · rw [same.eq]
  · exact same.marks.attempt.trans attempt
  · exact same.marks.switching.trans switching
  · exact same.marks.supplyDue
  · exact absurd ((same.marks.moving.symm.trans m).symm.trans moving) (by decide)

/-- Where nothing is awaited and nothing is being told, the reloaded SUPPLY table is in force when the handling ends. -/
theorem reset_idle {s : State} {start : Time} {answered : Bool} (agenda : s.agenda = []) (attempt : s.ppc.attempt = none)
    (moving : s.ppc.moving = false) (switching : s.ppc.switching = false) (loading : s.smi.activity = .loading start)
    (pending : s.sru.resetPending = true) (due : s.loadWait answered ≤ age s.now start)
    (lanes : ∀ seg, (s.port seg).queue = [] ∧ (s.port seg).lane = none)
    (noAdmission : ∀ bay, (s.bay bay).state ≠ .identifying) :
    ∃ t, exec (.settingsLoadEnd answered) s = .next t ∧ t.smi = s.loadEnded answered ∧
      t.sru.generation = s.loadGeneration answered ∧ t.sru.committed = s.loadTables answered ∧
      t.sru.staging = s.loadTables answered ∧ t.sru.supplyForce = (s.loadTables answered).supply ∧
      t.ppc.switching = false ∧
      (s.mtu.openRec = none → t.sru.motionForce = (s.loadTables answered).motion) := by
  obtain ⟨ntq, loaded, -⟩ := reloaded_eq s answered
  have free : (s.reloaded answered).ppc.engaged = false := by
    rw [loaded]
    simp [Ppc.engaged, attempt, moving, switching]
  have taken : (s.reloaded answered).supplyReload = ((s.reloaded answered).forceSupply, supplyParts) := by
    simp [State.supplyReload, free, takeSupplyTable]
  rw [exec_loadEnd agenda loading pending due, taken]
  have leads : Leads (Settles (s.reloaded answered).forceSupply) 3464 (resetTasks supplyParts)
      (s.reloaded answered).forceSupply := by
    rw [loaded]
    exact leads_reload noAdmission lanes attempt moving rfl rfl
  obtain ⟨m, us, t, -, settles, e⟩ := leads.run_eq 632
  obtain ⟨tame, told⟩ := settles.run m
  refine ⟨_, rfl, ?_⟩
  rw [show stepFuel = 632 + 3464 from rfl, e]
  rw [loaded] at tame
  refine ⟨tame.smi, tame.generation, tame.committed, tame.staging, tame.supply, told, fun closed => ?_⟩
  exact tame.motion (by simp [State.forceSupply, closed])

end Sys2Proof.Machine
end

section
/-!
SUPPORT. The Brightness Controller, the Motion Unit and the bays are told of a SOFT_RESET while a confirm is awaited and a
driver write executes (R77, R83, R106, R144, R150, R172): what they start ends within a bound.
-/

namespace Sys2Proof.Machine

/-! ## The times of the records (R185, R187) -/

/-- Every record of the queue bears the present time. -/
def State.stamped (s : State) : Prop := ∀ n ∈ s.ntq.queue, n.time = s.now

theorem mem_changeFirst {test : Notice → Bool} {f : Notice → Notice} {queue : List Notice} {n : Notice}
    (h : n ∈ changeFirst test f queue) : n ∈ queue ∨ ∃ m, n = f m := by
  induction queue with
  | nil => exact nomatch h
  | cons m ms ih =>
    unfold changeFirst at h
    split at h
    · rcases List.mem_cons.1 h with rfl | h
      · exact .inr ⟨m, rfl⟩
      · exact .inl (List.mem_cons_of_mem _ h)
    · rcases List.mem_cons.1 h with rfl | h
      · exact .inl (by simp)
      · exact (ih h).imp_left (List.mem_cons_of_mem _)

theorem notify_stamped {s : State} (h : s.stamped) (p : Post) : (s.notify p).stamped := by
  have joined : ∀ {queue : List Notice}, (∀ n ∈ queue, n.time = s.now) →
      ∀ n ∈ queue ++ [noticeOf s.ntq.seq s.now p], n.time = s.now := fun old n hn => by
    rcases List.mem_append.1 hn with hn | hn
    · exact old n hn
    · rw [List.mem_singleton.1 hn]
      rfl
  have changed : ∀ {test : Notice → Bool} {f : Notice → Notice}, (∀ m, (f m).time = s.now) →
      ∀ n ∈ changeNewest test f s.ntq.queue, n.time = s.now := fun timed n hn => by
    rcases mem_changeFirst (List.mem_reverse.1 hn) with hn | ⟨m, rfl⟩
    · exact h n (List.mem_reverse.1 hn)
    · exact timed m
  have dropped : ∀ test, ∀ n ∈ dropOldest test s.ntq.queue, n.time = s.now := fun test n hn =>
    h n (List.mem_of_mem_eraseP hn)
  have full : ∀ n ∈ (postFull s.now s.ntq.seq p s.ntq.queue s.ntq.overflow).1, n.time = s.now := by
    unfold postFull
    (repeat' split) <;> first
      | exact h
      | exact joined (dropped _)
      | exact changed fun _ => rfl
  have posted : (s.notify p).ntq.queue = (if s.ntq.queue.length < noticeLimit then
      (s.ntq.queue ++ [noticeOf s.ntq.seq s.now p], s.ntq.overflow)
    else postFull s.now s.ntq.seq p s.ntq.queue s.ntq.overflow).1 := rfl
  intro n hn
  rw [posted] at hn
  split at hn
  · exact joined h n hn
  · exact full n hn

theorem stamped_of_eq {s t : State} (h : s.stamped) (ntq : t.ntq = s.ntq) (now : t.now = s.now) : t.stamped := by
  rw [State.stamped, ntq, now]
  exact h

theorem evaluateClass_stamped {s : State} (h : s.stamped) : (evaluateClass s).1.stamped := by
  unfold evaluateClass
  dsimp only
  split
  · exact stamped_of_eq h rfl rfl
  · exact notify_stamped (stamped_of_eq h rfl rfl) _

/-- The present time is on every record, and a driver write executes. -/
def State.stampedStep (code : Nat) (s : State) : Prop := s.stamped ∧ s.brc.write = .executing code

section
variable {s : State} {code : Nat} (h : s.stampedStep code)
include h

theorem alsNotice_stamped (was : Brc) (lux : Option Nat) : (alsNotice was lux s).stampedStep code := by
  unfold alsNotice
  split
  · exact ⟨notify_stamped h.1 _, h.2⟩
  · exact h

theorem limitNotice_stamped (was : Brc) (p : Light) : (limitNotice was p s).stampedStep code := by
  unfold limitNotice
  split
  · exact ⟨notify_stamped h.1 _, h.2⟩
  · exact h

theorem setBrc_stamped {b : Brc} (write : b.write = s.brc.write) : ({ s with brc := b } : State).stampedStep code :=
  ⟨stamped_of_eq h.1 rfl rfl, write.trans h.2⟩

theorem fullStep_stamped : (fullStep s).1.stamped := by
  unfold fullStep
  dsimp only
  have measured := alsNotice_stamped (setBrc_stamped h (b := Brc.measured { s.brc with awaitingLight := false } s.light
    s.ambientLux) (by cases s.ambientLux <;> rfl)) { s.brc with awaitingLight := false } s.ambientLux
  generalize alsNotice _ _ _ = s1 at measured ⊢
  have leveled := limitNotice_stamped (setBrc_stamped measured (b := s1.brc.leveled s.light) rfl)
    { s.brc with awaitingLight := false } s.light
  generalize limitNotice _ _ _ = s2 at leveled ⊢
  rw [writeOut_executing leveled.2]
  exact leveled.1

theorem brightnessStep_stamped : (brightnessStep s).1.stamped := by
  have timed := setBrc_stamped h (b := { s.brc with step := some (timerNow s s.light.period) }) rfl
  unfold brightnessStep
  dsimp only
  (repeat' split)
  · exact h.1
  · exact timed.1
  · exact fullStep_stamped timed

end

/-! ## What is left as it is -/

/-- The settings, the ports, the poll entries, the attempt and the brightness settings are as they were, and every notice
that came was stamped with the present time. -/
structure Aftermath (s t : State) : Prop where
  now : t.now = s.now
  uli : t.uli = s.uli
  ports : t.ports = s.ports
  polls : ∀ place, t.poll place = s.poll place
  sru : t.sru = s.sru
  smi : t.smi = s.smi
  mtu : t.mtu = s.mtu
  attempt : t.ppc.attempt = s.ppc.attempt
  supplyDue : t.ppc.supplyDue = s.ppc.supplyDue
  write : t.brc.write = s.brc.write
  mode : t.brc.mode = s.brc.mode
  bias : t.brc.bias = s.brc.bias
  manual : t.brc.manual = s.brc.manual
  hold : t.brc.hold = s.brc.hold
  stamped : s.stamped → t.stamped

theorem Aftermath.refl (s : State) : Aftermath s s := by constructor <;> first | rfl | exact fun _ => rfl | exact id

theorem Aftermath.trans {s t u : State} (h : Aftermath s t) (k : Aftermath t u) : Aftermath s u where
  now := k.now.trans h.now
  uli := k.uli.trans h.uli
  ports := k.ports.trans h.ports
  polls place := (k.polls place).trans (h.polls place)
  sru := k.sru.trans h.sru
  smi := k.smi.trans h.smi
  mtu := k.mtu.trans h.mtu
  attempt := k.attempt.trans h.attempt
  supplyDue := k.supplyDue.trans h.supplyDue
  write := k.write.trans h.write
  mode := k.mode.trans h.mode
  bias := k.bias.trans h.bias
  manual := k.manual.trans h.manual
  hold := k.hold.trans h.hold
  stamped hs := k.stamped (h.stamped hs)

theorem Aftermath.waiting {s t : State} (h : Aftermath s t) (hs : Waiting s) : Waiting t := by
  obtain ⟨awaits, code, executes⟩ := hs
  exact ⟨by rw [h.attempt]; exact awaits, code, h.write.trans executes⟩

theorem Waited.aftermath {s t : State} (h : Waited s t) (ppc : t.ppc = s.ppc) (stamped : s.stamped → t.stamped) :
    Aftermath s t :=
  ⟨h.now, h.uli, h.ports, fun place => by rw [State.poll, h.polls]; rfl, h.sru, h.smi, h.mtu, h.attempt, by rw [ppc],
    h.write, h.mode, h.bias, h.manual, h.hold, stamped⟩

/-- A change of the Power Path Controller's marks and sources, and of the bays. -/
theorem aftermath_of_ppc {s t : State} (eq : t = { s with ppc := t.ppc, bays := t.bays })
    (attempt : t.ppc.attempt = s.ppc.attempt) (supplyDue : t.ppc.supplyDue = s.ppc.supplyDue) : Aftermath s t := by
  rw [eq]
  constructor <;> first | rfl | assumption | exact fun _ => rfl | exact id

/-! ## The tasks (R77, R83, R106, R144) -/

/-- What such a task weighs: more than all it starts. -/
def afterWeight : Task → Nat
  | .settled => 1
  | .releaseRequest .. => 1
  | .brightStep => 1
  | .ceiling => 2
  | .energy => 3
  | .pollBay _ old new => if old = .suspect ∧ new = .releasing then 1 else alien
  | .powerBay _ old new => if old = .suspect ∧ new = .releasing then 2 else alien
  | .flagBay _ => 7
  | .flagPower set => if set = true then alien else 2
  | .flagChanged set => if set = true then alien else 17
  | _ => alien

/-- Tasks of this kind; the bays whose news are still to be told are in RELEASING. -/
def afterTasks (ts : List Task) (s : State) : Prop :=
  load afterWeight ts < alien ∧ ∀ bay old new, .powerBay bay old new ∈ ts → (s.bay bay).state = .releasing

theorem evaluateClass_after {s : State} : load afterWeight (evaluateClass s).2 < 3 := by
  unfold evaluateClass
  dsimp only
  split <;> simp [afterWeight]

theorem pollOnBay_releasing (bay : Bay) (s : State) : ∃ polls,
    handle (.pollBay bay .suspect .releasing) s = ({ s with polls := polls }, []) ∧
      Aftermath s { s with polls := polls } := by
  obtain ⟨polls, told⟩ := handle_pollBay_quiet (s := s) (old := .suspect) (new := .releasing) (.inr (.inl rfl)) bay
  have kept : ∀ place, ({ s with polls := polls } : State).poll place = s.poll place := fun place => by
    have same := congrArg (fun a : Act => a.1.poll place) told
    simpa [handle, pollOnBay, gateOpen] using same.symm
  exact ⟨polls, told, rfl, rfl, rfl, kept, rfl, rfl, rfl, rfl, rfl, rfl, rfl, rfl, rfl, rfl, (stamped_of_eq · rfl rfl)⟩

/-- A task of the kind leaves what it has no part in, and starts lighter ones. -/
theorem handle_after {s : State} {t : Task} {ts : List Task} (waiting : Waiting s) (h : afterTasks (t :: ts) s) :
    Aftermath s (handle t s).1 ∧ afterTasks ((handle t s).2 ++ ts) (handle t s).1 ∧
      load afterWeight ((handle t s).2 ++ ts) < load afterWeight (t :: ts) := by
  obtain ⟨weight, releasing⟩ := h
  obtain ⟨awaits, code, executes⟩ := waiting
  have engaged : s.ppc.engaged = true := by simp [Ppc.engaged, awaits]
  rw [load_cons] at weight ⊢
  have next : Aftermath s (handle t s).1 → (∀ bay, (s.bay bay).state = .releasing →
        ((handle t s).1.bay bay).state = .releasing) → load afterWeight (handle t s).2 < afterWeight t →
      (∀ bay old new, .powerBay bay old new ∈ (handle t s).2 → ((handle t s).1.bay bay).state = .releasing) →
      Aftermath s (handle t s).1 ∧ afterTasks ((handle t s).2 ++ ts) (handle t s).1 ∧
        load afterWeight ((handle t s).2 ++ ts) < afterWeight t + load afterWeight ts :=
    fun after bays less news => by
      have lowers : load afterWeight ((handle t s).2 ++ ts) < afterWeight t + load afterWeight ts := by
        rw [load_append]
        omega
      refine ⟨after, ⟨lowers.trans weight, fun bay old new member => ?_⟩, lowers⟩
      rcases List.mem_append.1 member with member | member
      · exact news bay old new member
      · exact bays bay (releasing bay old new (List.mem_cons_of_mem _ member))
  have idle : ∀ {new : List Task}, handle t s = (s, new) → load afterWeight new < afterWeight t →
      (∀ bay old to_, .powerBay bay old to_ ∉ new) →
      Aftermath s (handle t s).1 ∧ afterTasks ((handle t s).2 ++ ts) (handle t s).1 ∧
        load afterWeight ((handle t s).2 ++ ts) < afterWeight t + load afterWeight ts := fun told less none => by
    rw [told] at next ⊢
    exact next (.refl s) (fun _ h => h) less fun bay old to_ member => absurd member (none bay old to_)
  have classed : ∀ {s' : State}, handle t s = evaluateClass s' → Waited s s' → s'.ppc = s.ppc →
      (s.stamped → s'.stamped) → 3 ≤ afterWeight t → Aftermath s (handle t s).1 ∧
        afterTasks ((handle t s).2 ++ ts) (handle t s).1 ∧
        load afterWeight ((handle t s).2 ++ ts) < afterWeight t + load afterWeight ts :=
    fun {s'} told same ppc stamped light => by
      rw [told] at next ⊢
      have waited := same.trans (evaluateClass_waited s')
      refine next (waited.aftermath (by simp [ppc]) fun h => evaluateClass_stamped (stamped h)) (fun bay hb => ?_)
        (evaluateClass_after.trans_le light) fun bay old to_ member => ?_
      · rw [State.bay, waited.bays]
        exact hb
      · unfold evaluateClass at member
        dsimp only at member
        split at member <;> simp at member
  cases t
  case settled => exact idle (new := []) (by simp [handle, takeWaiting, engaged]) (by simp [afterWeight]) (by simp)
  case releaseRequest bay origin =>
    by_cases state : (s.bay bay).state = .releasing
    · have told := handle_release_waits state (origin := origin) (.inl engaged)
      rw [told] at next ⊢
      exact next (aftermath_of_ppc rfl rfl rfl) (fun _ h => h) (by simp [afterWeight]) (by simp)
    · exact idle (handle_release_gone state origin) (by simp [afterWeight]) (by simp)
  case brightStep =>
    obtain ⟨waited, none⟩ := brightnessStep_waited executes
    have told : handle .brightStep s = ((brightnessStep s).1, []) := by rw [← none]; rfl
    rw [told] at next ⊢
    refine next (waited.aftermath (by simp) fun h => brightnessStep_stamped ⟨h, executes⟩) (fun bay hb => ?_) (by simp [afterWeight])
      (by simp)
    rw [State.bay, waited.bays]
    exact hb
  case ceiling =>
    have told : (∃ b new, handle .ceiling s = ({ s with brc := b }, new) ∧ Aftermath s { s with brc := b } ∧
        (new = [] ∨ new = [.brightStep])) := by
      simp only [handle, recomputeCeiling]
      (repeat' split)
      · exact ⟨_, _, rfl, .refl s, .inl rfl⟩
      · exact ⟨_, _, rfl, .refl s, .inl rfl⟩
      · exact ⟨_, _, rfl, by constructor <;> first | rfl | exact fun _ => rfl | exact (stamped_of_eq · rfl rfl), .inr rfl⟩
    obtain ⟨b, new, told, after, news⟩ := told
    rw [told] at next ⊢
    refine next after (fun _ h => h) ?_ fun bay old to_ member => ?_
    · rcases news with rfl | rfl <;> simp [afterWeight]
    · rcases news with rfl | rfl <;> simp at member
  case energy => exact classed rfl (by constructor <;> rfl) rfl (fun h => stamped_of_eq h rfl rfl) le_rfl
  case pollBay bay old new =>
    by_cases ours : old = .suspect ∧ new = .releasing
    · obtain ⟨rfl, rfl⟩ := ours
      obtain ⟨polls, told, after⟩ := pollOnBay_releasing bay s
      rw [told] at next ⊢
      exact next after (fun _ h => h) (by simp [afterWeight]) (by simp)
    · rw [afterWeight, if_neg ours] at weight
      exact absurd weight (not_lt.2 (Nat.le_add_right alien _))
  case powerBay bay old new =>
    by_cases ours : old = .suspect ∧ new = .releasing
    · obtain ⟨rfl, rfl⟩ := ours
      have state := releasing bay _ _ (List.mem_cons_self ..)
      obtain ⟨sources, release, known⟩ := knowing_eq s bay
      have aside := knowing_aside s bay
      obtain ⟨trigger, -, told⟩ := powerBay_cases bay .suspect .releasing s
      rw [if_neg (by simp [BayRec.carries, state]), if_pos rfl] at told
      rw [told] at next ⊢
      refine next ?_ (fun i hi => by rw [aside.bay]; exact hi) ?_ fun i old to_ member => ?_
      · rw [known]
        exact aftermath_of_ppc rfl rfl rfl
      · dsimp only
        split <;> simp [afterWeight]
      · dsimp only at member
        split at member <;> simp at member
    · rw [afterWeight, if_neg ours] at weight
      exact absurd weight (not_lt.2 (Nat.le_add_right alien _))
  case flagBay bay =>
    by_cases free : (s.bay bay).state = .suspect ∧ (s.bay bay).latchClosed = false
    · have told : handle (.flagBay bay) s = _ := onFlagCleared_releases free.1 free.2
      rw [told] at next ⊢
      refine next (aftermath_of_ppc rfl rfl rfl) (fun i hi => ?_) (by simp [afterWeight]) fun i old to_ member => ?_
      · by_cases e : i = bay
        · subst e
          simp [BayRec.releasing]
        · rw [State.setBay_bay_ne _ _ e]
          exact hi
      · obtain ⟨rfl, -, -⟩ : i = bay ∧ _ ∧ _ := by simpa using member
        simp [BayRec.releasing]
    · have stays : (s.bay bay).state ≠ .suspect ∨ (s.bay bay).latchClosed = true := by
        simpa [Classical.or_iff_not_imp_left] using free
      exact idle (onFlagCleared_stays stays) (by simp [afterWeight]) (by simp)
  case flagPower set =>
    cases set
    · exact idle (new := [.settled]) (by simp [handle, powerOnFlag]) (by simp [afterWeight]) (by simp)
    · exact absurd weight (not_lt.2 (Nat.le_add_right alien _))
  case flagChanged set =>
    cases set
    · exact idle (new := flagNews false) rfl (by simp [afterWeight, flagNews]) (by simp [flagNews])
    · exact absurd weight (not_lt.2 (Nat.le_add_right alien _))
  all_goals
    exact absurd weight (not_lt.2 (Nat.le_add_right alien _))

/-- Such tasks end within their weight. -/
theorem leads_after {goal : List Task → State → Prop} {r : State} {rest : List Task} {m : Nat} (waiting : Waiting r)
    (next : ∀ s, Aftermath r s → Leads goal m rest s) {ts : List Task} (h : afterTasks ts r) :
    Leads goal (load afterWeight ts + m) (ts ++ rest) r :=
  Leads.of_measure (goal := goal) (fun ts s => Aftermath r s ∧ afterTasks ts s) (fun ts _ => load afterWeight ts)
    (fun _ _ _ ⟨same, h⟩ =>
      have step := handle_after (same.waiting waiting) h
      .inl ⟨⟨same.trans step.1, step.2.1⟩, step.2.2⟩)
    (fun s h => next s h.1) _ ts r le_rfl ⟨.refl r, h⟩

end Sys2Proof.Machine
end

section
/-!
SUPPORT. The tasks of a SOFT_RESET behind the polls' start while a confirm is awaited and a driver write executes (R44, R144,
R150, R172, R184).
-/

namespace Sys2Proof.Machine

section
variable {goal : List Task → State → Prop} {rest : List Task} {m : Nat} {u : State}

/-! ## The Brightness Controller (R150) -/

/-- The brightness settings a SOFT_RESET leaves. -/
def State.autoBrightness (s : State) : State :=
  { s with brc := { s.brc with mode := .auto, bias := 0, manual := none, hold := none } }

/-- The ceiling and the step that follow leave the bays as they are. -/
theorem leads_bright (waiting : Waiting u)
    (next : ∀ t, Aftermath u.autoBrightness t → t.bays = u.bays → Leads goal m rest t) :
    Leads goal (m + 4) (.brightReset :: rest) u := by
  have begun : Waiting u.autoBrightness := waiting
  have within : Leads goal (3 + m) ([.ceiling, .brightStep] ++ rest) u.autoBrightness :=
    Leads.of_measure (goal := goal) (m := m)
      (fun ts t => (Aftermath u.autoBrightness t ∧ Waited u.autoBrightness t) ∧ afterTasks ts t ∧
        ∀ x ∈ ts, waits x = true) (fun ts _ => load afterWeight ts)
      (fun t ts s ⟨⟨after, waited⟩, h, waits_⟩ => by
        have waiting := after.waiting begun
        obtain ⟨after', h', lowers⟩ := handle_after waiting h
        obtain ⟨waited', starts⟩ := handle_waited (waits_ t (by simp)) waiting
        refine .inl ⟨⟨⟨after.trans after', waited.trans waited'⟩, h', fun x hx => ?_⟩, lowers⟩
        rcases List.mem_append.1 hx with hx | hx
        · exact starts x hx
        · exact waits_ x (List.mem_cons_of_mem _ hx))
      (fun s ⟨⟨after, waited⟩, _⟩ => next s after waited.bays) _ _ _ (by simp [afterWeight])
      ⟨⟨.refl _, .refl _⟩, ⟨by simp [afterWeight, alien], by simp⟩, by simp [waits]⟩
  exact .mono (.step within) (by omega)

/-! ## The Motion Unit (R172) -/

/-- A MOTION table that waits while no record is open takes force. -/
theorem takeMotionTable_closed {s : State} (due : s.mtu.motionDue = true) (closed : s.mtu.openRec = none) : ∃ mtu ts,
    takeMotionTable s = ({ s with sru := { s.sru with motionForce := s.sru.committed.motion }, mtu := mtu }, ts) ∧
      mtu.motionDue = false ∧ (ts = [] ∨ ts = [.flagChanged false]) := by
  unfold takeMotionTable shockExpires parkExpires
  rw [if_pos (by simp [due, closed])]
  dsimp only
  (repeat' split) <;> first
    | exact ⟨_, _, rfl, rfl, flagTasks_cleared _⟩
    | exact ⟨_, _, rfl, rfl, .inl rfl⟩

/-- While a record is open the table waits. -/
theorem takeMotionTable_open {s : State} (open_ : s.mtu.openRec.isSome = true) : takeMotionTable s = (s, []) := by
  have closed : s.mtu.openRec.isNone = false := by simpa using open_
  exact if_neg (by simp [closed])

/-- The table takes force, and what a flag that clears starts ends within a bound (R106, R163). -/
theorem leads_motion (waiting : Waiting u) (due : u.mtu.motionDue = true)
    (opened : u.mtu.openRec.isSome = true → Leads goal m rest u)
    (closed : u.mtu.openRec = none → ∀ t mtu, mtu.motionDue = false →
      Aftermath { u with sru := { u.sru with motionForce := u.sru.committed.motion }, mtu := mtu } t →
      Leads goal m rest t) : Leads goal (m + 18) (.motionSwitch :: rest) u := by
  cases e : u.mtu.openRec with
  | some r =>
    have open_ : u.mtu.openRec.isSome = true := by rw [e]; rfl
    exact .mono (.of_handle (takeMotionTable_open open_) (opened open_)) (by omega)
  | none =>
    obtain ⟨mtu, ts, told, taken, news⟩ := takeMotionTable_closed due e
    have light : load afterWeight ts ≤ 17 := by rcases news with rfl | rfl <;> simp [afterWeight]
    have news : afterTasks ts { u with sru := { u.sru with motionForce := u.sru.committed.motion }, mtu := mtu } := by
      refine ⟨by unfold alien; omega, fun bay old new member => ?_⟩
      rcases news with rfl | rfl <;> simp at member
    exact .of_handle told ((leads_after (by exact waiting) (closed e · mtu taken) news).mono (by omega))

/-! ## The segment ports (R44) -/

theorem softReset_rests {p : Port} (lane : p.lane = none) (mark : p.mark = .none) :
    p.softReset.rests ∧ p.softReset.mark = .none := ⟨.inr ⟨rfl, lane⟩, mark⟩

/-- Ports at which nothing waits. -/
theorem leads_resetPorts {segs : List Seg} (once : segs.Nodup) : ∀ {u : State},
    (∀ seg, (u.port seg).queue = [] ∧ (u.port seg).lane = none ∧ (u.port seg).mark = .none) →
    (∀ t, t = { u with ports := t.ports } →
      (∀ seg, t.port seg = if seg ∈ segs then (u.port seg).softReset else u.port seg) → Leads goal m rest t) →
    Leads goal (m + 2 * segs.length) (segs.map Task.resetPort ++ rest) u := by
  induction segs with
  | nil => exact fun _ next => next _ rfl fun seg => by simp
  | cons seg segs ih =>
    intro u quiet next
    obtain ⟨queue, lane, mark⟩ := quiet seg
    obtain ⟨rests, mark'⟩ := softReset_rests lane mark
    obtain ⟨fresh, once⟩ := List.nodup_cons.1 once
    have later : Leads goal (m + 2 * segs.length) (segs.map Task.resetPort ++ rest)
        (u.setPort seg (u.port seg).softReset) := by
      refine ih once (fun i => ?_) fun t eq ports => next t (by rw [eq]; rfl) fun i => ?_
      · by_cases e : i = seg
        · subst e
          rw [State.setPort_port_self]
          exact ⟨rfl, lane, mark⟩
        · rw [State.setPort_port_ne _ _ e]
          exact quiet i
      · rw [ports i]
        by_cases e : i = seg
        · subst e
          simp [fresh]
        · simp [State.setPort_port_ne _ _ e, e]
    have told : handle (.resetPort seg) u =
        (u.setPort seg (u.port seg).softReset, boundaryIfIdle (u.port seg).softReset seg) := by
      simp [handle, resetPort, queue, absentTasks]
    have settles : Leads goal (m + 2 * segs.length + 1)
        (boundaryIfIdle (u.port seg).softReset seg ++ (segs.map Task.resetPort ++ rest))
        (u.setPort seg (u.port seg).softReset) := by
      unfold boundaryIfIdle
      split
      · exact .of_handle (boundary_rests seg _ (by rwa [State.setPort_port_self]) (by rwa [State.setPort_port_self])) later
      · exact later.mono (by omega)
    exact (Leads.of_handle told settles).mono (by rw [List.length_cons]; omega)

end

/-! ## The request's own record (R175, R184; log entry 15) -/

theorem writeEnd_record (code : Byte) (status : Status) (payload : List Byte) (s : State) :
    (s.writeEnd code status payload).sru =
      { s.sru with response := s.sru.response.map (endResponse code status payload) } := by
  unfold State.writeEnd
  dsimp only
  split
  · rfl
  · simp [State.setSru]

/-- A link that holds no response read stays as it is. -/
theorem writeEnd_uli {s : State} (free : s.heldService = false) (code : Byte) (status : Status) (payload : List Byte) :
    (s.writeEnd code status payload).uli = s.uli := by
  unfold State.writeEnd
  dsimp only
  split
  · rfl
  · have still : ∀ v : State, v.uli = s.uli → (releaseWaiting v).uli = s.uli := fun v same => by
      have none : v.heldService = false := by
        rw [State.heldService, same]
        exact free
      simp [releaseWaiting, none, same]
    exact still _ rfl

theorem heldService_free {s : State} (h : s.uli.phase = .held → ∀ x, s.uli.txn = some x → x.snap.isSome = true) :
    s.heldService = false := by
  unfold State.heldService
  cases phase : s.uli.phase == .held with
  | false => rfl
  | true =>
    cases txn : s.uli.txn with
    | none => rfl
    | some x =>
      have taken := h (by simpa using phase) x txn
      simp [taken]

/-- The record of the request is ended if it is current and the request's. -/
theorem onResetDone_sru (s : State) : (onResetDone s).sru = { s.sru with
    resetPending := false, gaveUp := false
    response := s.sru.response.map (endResponse 0x7F .done
      (Builtin.le2 s.sru.generation.toNat ++ [if s.sru.gaveUp then 1 else 0])) } :=
  writeEnd_record 0x7F .done _ (s.setSru { s.sru with resetPending := false, gaveUp := false })

theorem onResetDone_uli {s : State} (h : s.uli.phase = .held → ∀ x, s.uli.txn = some x → x.snap.isSome = true) :
    (onResetDone s).uli = s.uli :=
  writeEnd_uli (s := s.setSru { s.sru with resetPending := false, gaveUp := false }) (heldService_free h) 0x7F .done _

end Sys2Proof.Machine
end

section
/-!
CLAIM. O37, the read of a SOFT_RESET ends and the reset acts, with and without an awaited confirm (R44, R47, R90, R150, R172,
R175, R176, R184, R186, R191).
-/

namespace Sys2Proof.Machine

/-- The settings a SOFT_RESET leaves while a confirm is awaited: SUPPLY has still to take force. -/
def State.resetSettings (s : State) (answered : Bool) : Sru :=
  { s.sru with
    committed := s.loadTables answered, staging := s.loadTables answered, generation := s.loadGeneration answered
    snapshot := none
    motionForce := if s.mtu.openRec.isNone then (s.loadTables answered).motion else s.sru.motionForce }

/-- The settings are loaded, and the SUPPLY table waits for the attempt's end (R90). -/
def State.reloadedDue (s : State) (answered : Bool) : State :=
  { s.reloaded answered with ppc := { (s.reloaded answered).ppc with supplyDue := true } }

/-- What a SOFT_RESET has brought about while a confirm is awaited, before its ports are told. -/
structure ResetUnderway (s : State) (answered : Bool) (t : State) : Prop where
  now : t.now = s.now
  uli : t.uli = { s.uli with ring := [] }
  smi : t.smi = s.loadEnded answered
  sru : t.sru = s.resetSettings answered
  attempt : t.ppc.attempt = s.ppc.attempt
  supplyDue : t.ppc.supplyDue = true
  write : t.brc.write = s.brc.write
  stamped : t.stamped
  polls : ∀ place, t.poll place = t.pollStarts place
  ports : ∀ seg, t.port seg = (s.port seg).orphaned fun _ => true

/-- What the Brightness Controller and the Motion Unit come to. -/
structure ResetBlocks (s : State) (t : State) : Prop where
  auto : t.brc.mode = .auto ∧ t.brc.bias = 0 ∧ t.brc.manual = none ∧ t.brc.hold = none
  opened : s.mtu.openRec.isSome = true → t.mtu = { s.mtu with motionDue := true } ∧ t.bays = s.bays
  closed : s.mtu.openRec = none → t.mtu.motionDue = false

theorem startedPoll_eq (s : State) (place : Fin 24) : startedPoll s.now (s.pollEntry place) = s.pollStarts place := by
  unfold startedPoll State.pollStarts
  cases s.pollEntry place with
  | none => rfl
  | some e =>
    dsimp only
    cases e.kind <;> rfl

theorem pollStarts_congr {s t : State} (committed : t.sru.committed = s.sru.committed) (now : t.now = s.now)
    (place : Fin 24) : t.pollStarts place = s.pollStarts place := by
  simp only [State.pollStarts, State.pollEntry, committed, now]

theorem endResponse_eq (code : Byte) (status : Status) (payload : List Byte) :
    endResponse code status payload = fun r =>
      if r.current = true ∧ r.code = code then { r with status := status, current := false, payload := payload }
      else r := by
  funext r
  simp [endResponse]

namespace ResetUnderway

variable {s t u : State} {answered : Bool} (h : ResetUnderway s answered t)
include h

theorem of_after (k : Aftermath t u) : ResetUnderway s answered u where
  now := k.now.trans h.now
  uli := k.uli.trans h.uli
  smi := k.smi.trans h.smi
  sru := k.sru.trans h.sru
  attempt := k.attempt.trans h.attempt
  supplyDue := k.supplyDue.trans h.supplyDue
  write := k.write.trans h.write
  stamped := k.stamped h.stamped
  polls place := by rw [k.polls, h.polls, pollStarts_congr (by rw [k.sru]) k.now]
  ports seg := by rw [State.port, k.ports]; exact h.ports seg

theorem auto : ResetUnderway s answered t.autoBrightness :=
  ⟨h.now, h.uli, h.smi, h.sru, h.attempt, h.supplyDue, h.write, h.stamped, h.polls, h.ports⟩

/-- The MOTION table that takes force is the loaded one. -/
theorem motion (closed : s.mtu.openRec = none) (mtu : Mtu) : ResetUnderway s answered
    { t with sru := { t.sru with motionForce := t.sru.committed.motion }, mtu := mtu } := by
  have same : { t.sru with motionForce := t.sru.committed.motion } = t.sru := by
    rw [h.sru]
    simp [State.resetSettings, closed]
  exact ⟨h.now, h.uli, h.smi, same.trans h.sru, h.attempt, h.supplyDue, h.write, h.stamped,
    fun place => (h.polls place).trans (pollStarts_congr (s := t) rfl rfl place).symm, h.ports⟩

theorem waiting (awaits : Waiting s) : Waiting t := by
  obtain ⟨awaited, code, executes⟩ := awaits
  exact ⟨by rw [h.attempt]; exact awaited, code, h.write.trans executes⟩

theorem quiet (none : ∀ seg, (s.port seg).queue = [] ∧ (s.port seg).lane = .none ∧ (s.port seg).mark = .none) (seg : Seg) :
    (t.port seg).queue = [] ∧ (t.port seg).lane = .none ∧ (t.port seg).mark = .none := by
  obtain ⟨queue, lane, mark⟩ := none seg
  rw [h.ports]
  exact ⟨by simp [Port.orphaned, queue], lane, mark⟩

end ResetUnderway

/-- The reset has been told to every block but the request's own record. -/
def ResetActed (s : State) (answered : Bool) (ts : List Task) (t : State) : Prop :=
  ∃ u v, ResetUnderway s answered u ∧ ResetBlocks s u ∧ v = { u with ports := v.ports } ∧
    (∀ seg, v.port seg = ((s.port seg).orphaned fun _ => true).softReset) ∧ ts = [] ∧ t = onResetDone v

section
variable {s : State} {answered : Bool}

theorem emptied_stamped {s : State} (h : s.ntq.queue = []) : s.stamped := fun n hn => by
  rw [h] at hn
  exact nomatch hn

/-- The polls have started afresh. -/
theorem resetUnderway_start {l : State}
    (h : Relapsed (s.reloadedDue answered) l) :
    ResetUnderway s answered (startPolls l).1 ∧ (startPolls l).1.mtu = { s.mtu with motionDue := true } ∧
      (startPolls l).1.bays = s.bays := by
  obtain ⟨ntq, loaded, posts⟩ := reloaded_eq s answered
  have stamped : (s.reloaded answered).stamped := by
    have empty : ({ s with ntq := s.ntq.emptied } : State).stamped := emptied_stamped rfl
    rw [loaded]
    rcases posts with rfl | ⟨p, rfl⟩
    · exact stamped_of_eq empty rfl rfl
    · exact stamped_of_eq (notify_stamped empty p) rfl rfl
  have eq := h.eq
  rw [State.reloadedDue, loaded] at eq
  rw [loaded] at stamped
  have attempt := h.marks.attempt
  have due := h.marks.supplyDue
  rw [State.reloadedDue, loaded] at attempt due
  have started : (startPolls l).1.ppc = l.ppc ∧ (startPolls l).1.brc = l.brc ∧ (startPolls l).1.now = l.now ∧
      (startPolls l).1.sru = l.sru ∧ (startPolls l).1.ntq = l.ntq := by simp
  obtain ⟨ppc, brc, now, sru, queue⟩ := started
  refine ⟨⟨?_, ?_, ?_, ?_, ?_, ?_, ?_, ?_, fun place => ?_, fun seg => ?_⟩, ?_, ?_⟩
  · exact now.trans (by rw [eq])
  · exact Eq.trans (b := l.uli) (by simp) (by rw [eq])
  · exact Eq.trans (b := l.smi) (by simp) (by rw [eq])
  · exact sru.trans (by rw [eq]; rfl)
  · rw [ppc]
    exact attempt
  · rw [ppc]
    exact due
  · rw [brc]
    rw [eq]
  · exact stamped_of_eq stamped (queue.trans (by rw [eq])) (now.trans (by rw [eq]))
  · rw [startPolls_poll, startedPoll_eq]
    exact (pollStarts_congr (by rw [sru]) now place).symm
  · rw [startPolls_port]
    exact congrArg _ (by rw [eq]; rfl)
  · exact Eq.trans (b := l.mtu) (by simp) (by rw [eq])
  · exact Eq.trans (b := l.bays) (by simp) (by rw [eq])

/-- The handling up to its end, while a confirm is awaited and a driver write executes. -/
theorem leads_awaited (awaits : Waiting s)
    (quiet : ∀ seg, (s.port seg).queue = [] ∧ (s.port seg).lane = none ∧ (s.port seg).mark = .none)
    (noAdmission : ∀ bay, (s.bay bay).state ≠ .identifying) :
    Leads (ResetActed s answered) 195 (resetTasks [])
      (s.reloadedDue answered) := by
  obtain ⟨ntq, loaded, -⟩ := reloaded_eq s answered
  have engaged : (s.reloaded answered).ppc.engaged = true := by
    rw [loaded]
    simp [Ppc.engaged, awaits.1]
  refine leads_reset (r := s.reloadedDue answered) (m := 31)
    (rest := .brightReset :: .motionSwitch :: (allSegs.map Task.resetPort ++ [.resetDone]))
    (by exact engaged) (fun bay => ?_) fun l same => ?_
  · rw [State.reloadedDue, loaded]
    exact noAdmission bay
  obtain ⟨begun, mtu, bays⟩ := resetUnderway_start same
  refine leads_bright (m := 27) (begun.waiting awaits) fun t after kept => ?_
  have phase := begun.auto.of_after after
  have auto : t.brc.mode = .auto ∧ t.brc.bias = 0 ∧ t.brc.manual = none ∧ t.brc.hold = none :=
    ⟨after.mode, after.bias, after.manual, after.hold⟩
  have mtu : t.mtu = { s.mtu with motionDue := true } := after.mtu.trans mtu
  have ports : ∀ {u : State}, ResetUnderway s answered u → ResetBlocks s u →
      Leads (ResetActed s answered) 9 (allSegs.map Task.resetPort ++ [.resetDone]) u := fun {u} phase blocks =>
    leads_resetPorts (segs := allSegs) (m := 1) (by decide) (phase.quiet quiet) fun v eq reset =>
      .of_handle rfl (.here ⟨u, v, phase, blocks, eq, fun seg => by
        rw [reset seg, if_pos (by cases seg <;> decide), phase.ports], rfl, rfl⟩)
  refine leads_motion (m := 9) (phase.waiting awaits) (by rw [mtu]) (fun opened => ?_) fun closed v taken none after' => ?_
  · rw [mtu] at opened
    refine ports phase ⟨auto, fun _ => ⟨mtu, kept.trans bays⟩, fun closed => ?_⟩
    rw [closed] at opened
    exact nomatch opened
  · have closed : s.mtu.openRec = .none := by rwa [mtu] at closed
    refine ports ((phase.motion closed taken).of_after after') ⟨?_, fun opened => ?_, fun _ => ?_⟩
    · obtain ⟨mode, bias, manual, hold⟩ := auto
      exact ⟨after'.mode.trans mode, after'.bias.trans bias, after'.manual.trans manual, after'.hold.trans hold⟩
    · rw [closed] at opened
      exact nomatch opened
    · rw [after'.mtu]
      exact none

/-- The command then. -/
theorem exec_awaited (engaged : s.engaged) {start : Time} (loading : s.smi.activity = .loading start)
    (pending : s.sru.resetPending = true) (due : s.loadWait answered ≤ age s.now start)
    (quiet : ∀ seg, (s.port seg).queue = [] ∧ (s.port seg).lane = none ∧ (s.port seg).mark = .none)
    (noAdmission : ∀ bay, (s.bay bay).state ≠ .identifying) :
    ∃ t, exec (.settingsLoadEnd answered) s = .next t ∧ ResetActed s answered [] t := by
  obtain ⟨ntq, loaded, -⟩ := reloaded_eq s answered
  obtain ⟨agenda, awaits⟩ := engaged
  have awaited : (s.reloaded answered).ppc.engaged = true := by
    rw [loaded]
    simp [Ppc.engaged, awaits.1]
  have taken : (s.reloaded answered).supplyReload =
      (s.reloadedDue answered, []) := by
    simp [State.supplyReload, awaited, State.reloadedDue]
  rw [exec_loadEnd agenda loading pending due, taken]
  obtain ⟨m, us, t, -, acted, e⟩ := (leads_awaited (answered := answered) awaits quiet noAdmission).run_eq 3901
  obtain ⟨u, v, phase, blocks, eq, ports, rfl, rfl⟩ := acted
  refine ⟨_, congrArg _ (e.trans (run_nil ..)), u, v, phase, blocks, eq, ports, rfl, rfl⟩

end

/-- The request's own record alone is written, and the link answered, after the ports were told. -/
theorem onResetDone_told {u v : State} (eq : v = { u with ports := v.ports }) :
    (onResetDone v).smi = u.smi ∧ (onResetDone v).ppc = u.ppc ∧ (onResetDone v).mtu = u.mtu ∧
      (onResetDone v).bays = u.bays ∧ (onResetDone v).ntq = u.ntq ∧ (onResetDone v).polls = u.polls ∧
      (onResetDone v).brc = u.brc ∧ (onResetDone v).now = u.now := by
  rw [eq]
  simp

/-- Settles O37: a run that settles before its fuel ends where no confirm is awaited, and the run's every task where one
is. -/
theorem resetActs : Obligations.ResetActs := by
  refine ⟨fun s start answered agenda attempt moving switching loading pending due quiet noAdmission => ?_,
    fun s start answered engaged loading pending due quiet noAdmission => ?_⟩
  · exact reset_idle agenda attempt moving switching loading pending due
      (fun seg => have ⟨queue, lane, _⟩ := quiet seg; ⟨queue, lane⟩) noAdmission
  intro emptied payload
  obtain ⟨t, told, u, v, phase, blocks, eq, ports, -, rfl⟩ := exec_awaited engaged loading pending due quiet noAdmission
  have uli : v.uli = emptied.uli := by rw [eq]; exact phase.uli
  have sru : v.sru = s.resetSettings answered := by rw [eq]; exact phase.sru
  have now : v.now = s.now := by rw [eq]; exact phase.now
  have record := onResetDone_sru v
  have ended : Builtin.le2 v.sru.generation.toNat ++ [if v.sru.gaveUp then 1 else 0] = payload := by
    rw [sru]
    rfl
  rw [ended] at record
  obtain ⟨auto, opened, closed⟩ := blocks
  obtain ⟨mode, bias, manual, hold⟩ := auto
  obtain ⟨smi, ppc, mtu, bays, ntq, polls, brc, now'⟩ := onResetDone_told eq
  have sru' : (onResetDone v).sru = { s.resetSettings answered with
      resetPending := false, gaveUp := false, response := s.sru.response.map (endResponse 0x7F .done payload) } := by
    rw [record, sru]
    rfl
  have force : s.mtu.openRec.isSome = true → (onResetDone v).sru.motionForce = s.sru.motionForce := fun h => by
    have closed : s.mtu.openRec.isNone = false := by simpa using h
    rw [sru']
    simp [State.resetSettings, closed]
  refine ⟨_, told, fun free => ?_, fun r waits => ?_, smi.trans phase.smi, by rw [sru']; rfl, by rw [sru']; rfl,
    by rw [sru']; rfl, by rw [sru']; rfl, by rw [ppc]; exact phase.supplyDue, by rw [ppc]; exact phase.attempt,
    fun h => ?_, fun none => ⟨?_, by rw [mtu]; exact closed none⟩, by rw [sru']; rfl, by rw [sru'], by rw [sru'],
    by rw [sru']; rfl, ?_, fun n hn => ?_, fun place => ?_, fun seg => ?_, by rw [brc]; exact mode,
    by rw [brc]; exact bias, by rw [brc]; exact manual, by rw [brc]; exact hold, by rw [brc]; exact phase.write⟩
  · exact (onResetDone_uli (by rw [uli]; exact free)).trans uli
  · have waits : v.waitsFor r := by
      rw [State.waitsFor, uli, sru]
      exact waits
    obtain ⟨own, other⟩ := onResetDone_released waits
    refine ⟨fun code => ?_, fun code => ?_⟩
    · rw [own code, ended]
      simp only [State.released, State.answering, uli, now]
      rfl
    · rw [other code]
      exact uli
  · obtain ⟨motion, same⟩ := opened h
    exact ⟨force h, by rw [mtu]; exact congrArg Mtu.motionDue motion, mtu.trans motion, bays.trans same⟩
  · rw [sru']
    simp [State.resetSettings, none]
  · rw [sru', endResponse_eq]
  · rw [ntq] at hn
    exact (phase.stamped n hn).trans phase.now
  · have started := phase.polls place
    rw [State.poll, polls, pollStarts_congr (s := u) (by rw [sru', phase.sru]) now']
    exact started
  · have port : (onResetDone v).port seg = _ := Eq.trans (b := v.port seg) (by simp [State.port]) (ports seg)
    obtain ⟨queue, lane, mark⟩ := quiet seg
    rw [port]
    exact ⟨rfl, lane, mark, rfl, rfl, rfl, rfl, rfl⟩

end Sys2Proof.Machine
end
